-- ==== Sys2Proof/Word.lean ====
section
/-!
DEFINITION. The word types of the model: a byte, a 16-, 32- and 64-bit word, and a string of bytes.
-/
namespace Sys2Proof

/-- A byte. -/
abbrev Byte := BitVec 8
/-- A U16 of 02 R60. -/
abbrev U16 := BitVec 16
/-- A U32 of 02 R60. -/
abbrev U32 := BitVec 32
/-- A U64, a TIME64 or a POS of 02 R60, and the width of an x register (12 R393). -/
abbrev U64 := BitVec 64
/-- A string of bytes, offset 0 first (00 R13). -/
abbrev Bytes := List (BitVec 8)

end Sys2Proof
end

