-- ==== Sys2Proof/Config.lean ====
section
/-!
DEFINITION. What the spec leaves open: every constant here has no body, so no proof can see a value of it.
Each is named in the assumption log.
-/
namespace Sys2Proof.Config

/-- Whether tininess is detected before rounding: IEEE 754 leaves it open (11 R369, R375; log entry 9). -/
opaque tinyBeforeRounding : Bool

/-- Whether an ordered compare of a quiet NaN raises invalid: not stated (12 R410, R411; log entry 9). -/
opaque compareRaisesInvalid : Bool

/-- The value of a bounded function (by number) at an FP32 encoding (11 R373; log entry 9). -/
opaque estimate : Nat → Nat → Nat

/-- Which part of the selected half a conversion by more than a factor of two reads or fills: source type, destination
type, half (12 R412 states none; log entry 12). -/
opaque convertPart : Nat → Nat → Bool → Nat

/-- The count of a core's cycles at a read: it counts in a clock the model has none of (12 R396; log entry 5). -/
opaque cycles : Nat → Nat

/-- Whether a load that finds its line in the core's L1 is served from it, by free-value number (11 R385 leaves it open; log entry 2). -/
opaque l1Serves : Nat → Bool

/-- Where a placement goes among the legal ones, by free-value number: the near data address of a frame, the block of a
T0 home, the segment a stream opens, the sector of a spill record (03, 06, 07 name none; log entry 10). -/
opaque placement : Nat → Nat

/-- How long an engine works on a leaf, by free-value number, in ns: the spec bounds it (05 R180, R181; log entry 46). -/
opaque engineTime : Nat → Nat

/-- What a host's translation service answers for a page of an LD: free-value number, LD, page number of 4 KiB; none is a
refusal (06 R207; the host is outside the module; log entry 16). -/
opaque translation : Nat → Nat → Nat → Option Nat

/-- What the random generator draws, by free-value number: keys, nonces, span secrets (10 R325; log entry 5). -/
opaque drawn : Nat → Nat

/-- What a line of a tile in T3 or REMOTE reads when a job is loaded or started, by free-value number and DPA; none is poison
(13 R443; the host's memory and the span members are outside the module; log entry 21). -/
opaque outsideLine : Nat → Nat → Option Bytes

/-- RSA-OAEP under the module's identity key: the plaintext of a ciphertext, none when it does not open (02 R70, 10 R334;
log entry 8). -/
opaque oaepOpen : Bytes → Option Bytes

/-- RSA-OAEP to a member's identity key: free-value number, member, plaintext; 384 bytes (10 R334; log entry 8). -/
opaque oaepSeal : Nat → Nat → Bytes → Bytes

/-- Whether a signature under a key with a given hash verifies over a message digest (02 R70, 10 R343; log entry 8). -/
opaque pssVerify : Bytes → Bytes → Bytes → Bool

/-- The signature of the module's identity key over a message digest (10 R348; log entry 8). -/
opaque pssSign : Bytes → Bytes

/-- Whether a member's certificate chain leads to the Etfold root (10 R334; log entry 26). -/
opaque peerCertified : Nat → Bool

/-- The serial number of a member that no direct link has named (10 R334; log entry 26). -/
opaque memberSerial : Nat → Bytes

/-- Which lanes a stream port uses at a width below 8: free-value number, width (16 R538; log entry 26). -/
opaque laneMask : Nat → Nat → Nat

/-- The port number of the peer of a stream port, which INIT does not carry (16 R547, R565; log entry 26). -/
opaque peerPort : Nat → Nat

/-- The destination field of an INIT, sent before the peer's member number is known (16 R547; log entry 26). -/
opaque initDestination : Nat

/-- The routes of a member as the coordinator computes them where links join other members than itself: free-value number,
member; 16 bytes (16 R549; log entry 26). -/
opaque routes : Nat → Nat → Bytes

/-- The serial number, 16 characters in the fuses (02 R84; log entry 27). -/
opaque serialNumber : Bytes

/-- Whether the order code ends in X rather than C (02 R84; log entry 27). -/
opaque orderCodeX : Bool

/-- The steppings of CD, MD0, MD1 and XD (02 R649, 15 R518; log entry 27). -/
opaque stepping : Nat → Nat

/-- The SHA-256 of the identity public key, which HELLO answers (02 R70; log entry 27). -/
opaque identityHash : Bytes

/-- The bytes of the UEFI driver's image in the expansion ROM, by offset (15 R518; log entry 48). -/
opaque uefiDriver : Nat → Byte

/-- The interface identifier made from the serial number, 8 bytes (02 R85; log entry 27). -/
opaque interfaceId : Bytes

/-- The session identifier of an OPEN by free-value number (02 R70; log entry 8). -/
opaque sessionId : Nat → Nat

/-- What the comparator of the pattern generator counts in the 32 bytes of 0510:121 (14 R500), by free-value number (log
entry 31). -/
opaque comparator : Nat → Bytes

/-- What a span member's unit or another member's objects read, which its own module holds: free-value number, member,
object, member of the object (02 R56, R57, R59; log entry 26). -/
opaque memberValue : Nat → Nat → Nat → Nat → Nat

/-- How far the fused limit of 0500:120.01 lies above 2,048 (14 R501; log entry 27). -/
opaque disturbanceSlack : Nat

/-- Bit 3 of the reference status 0000:173: the input sense is connected (20 R635; log entry 27). -/
opaque senseConnected : Bool

/-- Whether a profile copy that has been written reads back with its CRC correct, by free-value number and attempt (02 R81), where
no command says it (log entry 7). -/
opaque flashReadsBack : Nat → Nat → Bool

/-- What the CDAT tables of the DOE mailbox answer, by LD and entry handle (15 R515; log entry 24). -/
opaque cdat : Nat → Nat → Bytes

/-- A measured voltage in millivolts, by free-value number and member (17 R583; log entry 31). -/
opaque voltage : Nat → Nat → Nat

/-- The fuse block of 10 R343: hashes of the signing keys 0 and 1, of the root certificate, and of the SVC key (log
entry 27). -/
opaque signingKey : Nat → Bytes
opaque rootHash : Bytes
opaque svcKeyHash : Bytes

/-- The SHA-256 of the boot ROM (10 R348 index 1; log entry 27). -/
opaque romDigest : Bytes

/-- The certificate chain of 0D00:186 (10 R347; log entry 27). -/
opaque certificates : Bytes

/-- The entries manufacture set in the caddy fuse map, by byte (14 R492; log entry 27). -/
opaque fuseMap : Nat → Byte

/-- The 16 B caddy line that an upset strikes at a time, if one does: a line is 2^18·cluster + offset / 16 (11 R365; log entry 47). -/
opaque caddyUpset : Nat → Option Nat

/-- Whether a hot reset came on leg 0 when both legs are up, by free-value number (15 R533). -/
opaque hotResetOnLeg0 : Nat → Bool

/-- The SHA-256 of the fuse block, whose layout is not stated, by the fused security version and the revocation of key 0
(10 R348 index 2; log entry 27). -/
opaque fuseDigest : Nat → Bool → Bytes

/-- The SHA-256 of the factory defaults carried in the firmware image (10 R348 index 5; log entry 27). -/
opaque factoryDigest : Bytes

/-- The timing exponent and the transfer sizes an SPDM CAPABILITIES response reports, 9 bytes (10 R348; log entry 29). -/
opaque spdmSizes : Bytes

/-- The FFDHE3072 share of a key exchange by free-value number, and the responder's verification data by that number and
the transcript digest (15 R515; log entry 29). -/
opaque dheShare : Nat → Bytes
opaque dheVerify : Nat → Bytes → Bytes

/-- What an IDE_KM QUERY answers about the IDE registers of an LD (15 R515; log entry 29). -/
opaque ideRegisters : Nat → Bytes

/-- Whether a stream port's peer port is in TEST and every host bound to the peer has consented (10 R340), by free-value
number and port (log entry 26). -/
opaque peerInTest : Nat → Nat → Bool

end Sys2Proof.Config
end

