-- ==== Sys2Proof/Machine/Bits.lean ====
section
/-!
DEFINITION. Byte order, bit fields and sparse tables: the helpers every other file of the machine uses.
-/
namespace Sys2Proof.Machine

/-- The little-endian value of a string of bytes (00 R13). -/
def leNat : Bytes → Nat
  | [] => 0
  | b :: r => b.toNat + 256 * leNat r

/-- The `n` little-endian bytes of a number (00 R13). -/
def leBytes : Nat → Nat → Bytes
  | 0, _ => []
  | n + 1, v => BitVec.ofNat 8 v :: leBytes n (v / 256)

/-- The big-endian value of a string of bytes, for the hash and cipher standards. -/
def beNat (b : Bytes) : Nat := b.foldl (fun a x => a * 256 + x.toNat) 0

/-- The `n` big-endian bytes of a number. -/
def beBytes (n v : Nat) : Bytes := (leBytes n v).reverse

/-- Bits [hi:lo] of a number (00 R12). -/
def bits (v hi lo : Nat) : Nat := (v >>> lo) % 2 ^ (hi - lo + 1)

/-- A truth value as the number 0 or 1. -/
def b2n (b : Bool) : Nat := if b then 1 else 0

/-- `v` with bit `i` set to `b`. -/
def setBit (v i : Nat) (b : Bool) : Nat :=
  if b then v ||| 2 ^ i else v - (if v.testBit i then 2 ^ i else 0)

/-- The signed value of the low `n` bits of `v`. -/
def sextNat (n v : Nat) : Int :=
  let w := v % 2 ^ n
  if w ≥ 2 ^ (n - 1) then (w : Int) - 2 ^ n else w

/-- An integer taken modulo `2^n`. -/
def wrapInt (n : Nat) (v : Int) : Nat := (v % (2 ^ n : Int)).toNat

/-- `n` zero bytes. -/
def zeros (n : Nat) : Bytes := List.replicate n 0

/-- `n` bytes of `b` from offset `off`, zeros past the end. -/
def slice (b : Bytes) (off n : Nat) : Bytes :=
  let c := (b.drop off).take n
  c ++ zeros (n - c.length)

/-- The little-endian field of `n` bytes at offset `off`. -/
def field (b : Bytes) (off n : Nat) : Nat := leNat (slice b off n)

/-- `b` with the bytes from offset `off` replaced by `d`. -/
def patch (b : Bytes) (off : Nat) (d : Bytes) : Bytes :=
  b.take off ++ d ++ b.drop (off + d.length)

/-- Byte by byte exclusive or. -/
def xorBytes (a b : Bytes) : Bytes := List.zipWith (· ^^^ ·) a b

/-- Whether every byte is 0. -/
def allZero (b : Bytes) : Bool := b.all (· == 0)

/-- ASCII text as bytes, padded with 0x00 to `n` bytes (02 R60, STR). -/
def strBytes (n : Nat) (t : String) : Bytes :=
  slice (t.toList.map (fun c => BitVec.ofNat 8 c.toNat)) 0 n

/-- A list cut into pieces of `k` elements; `fuel` bounds the pieces. -/
def chunks {α : Type} (k : Nat) : Nat → List α → List (List α)
  | 0, _ => []
  | f + 1, l => if l.isEmpty then [] else l.take k :: chunks k f (l.drop k)

/-- The pieces of `k` bytes of a string. -/
def pieces {α : Type} (k : Nat) (l : List α) : List (List α) := chunks k l.length l

/-- Element `i` of a list with a default. -/
def nth {α : Type} (l : List α) (i : Nat) (d : α) : α := l.getD i d

/-- The least element of `0 … n-1` for which `p` holds. -/
def firstBelow (n : Nat) (p : Nat → Bool) : Option Nat := (List.range n).find? p

/-- Ceiling division. -/
def ceilDiv (a b : Nat) : Nat := (a + b - 1) / b

/-! ## Sparse tables: a list of keys and values, keys strictly rising -/

/-- The value at key `k`. -/
def tabGet {α : Type} : List (Nat × α) → Nat → Option α
  | [], _ => none
  | (j, a) :: r, k => if j = k then some a else tabGet r k

/-- Put `a` at key `k`. -/
def tabSet {α : Type} : List (Nat × α) → Nat → α → List (Nat × α)
  | [], k, a => [(k, a)]
  | (j, b) :: r, k, a =>
    if k < j then (k, a) :: (j, b) :: r
    else if k = j then (k, a) :: r
    else (j, b) :: tabSet r k a

/-- Remove key `k`. -/
def tabDel {α : Type} : List (Nat × α) → Nat → List (Nat × α)
  | [], _ => []
  | (j, b) :: r, k => if j = k then tabDel r k else (j, b) :: tabDel r k

/-- Keys strictly rising: the canonical form of a sparse table. -/
def tabSorted {α : Type} : List (Nat × α) → Bool
  | [] => true
  | [_] => true
  | (j, _) :: (k, b) :: r => decide (j < k) && tabSorted ((k, b) :: r)

/-! ## Byte memories: sparse tables in which a byte not listed reads 0 -/

/-- The byte at an address; a byte nothing has written reads 0 (17 R568; log entry 6). -/
def memByte (m : List (Nat × Byte)) (a : Nat) : Byte := (tabGet m a).getD 0

/-- Write one byte; writing 0 removes the entry, so equal memories are equal lists. -/
def memPut (m : List (Nat × Byte)) (a : Nat) (b : Byte) : List (Nat × Byte) :=
  if b = 0 then tabDel m a else tabSet m a b

/-- The entries of a memory inside `[lo, hi)`. -/
def memWindow (m : List (Nat × Byte)) (lo hi : Nat) : List (Nat × Byte) :=
  m.filter (fun c => decide (lo ≤ c.1) && decide (c.1 < hi))

/-- The non-zero bytes of a string laid out from address `a`. -/
def memCells : Nat → Bytes → List (Nat × Byte)
  | _, [] => []
  | a, b :: r => if b = 0 then memCells (a + 1) r else (a, b) :: memCells (a + 1) r

/-- `n` bytes from address `a` of a memory whose entries all lie at `a` or above, in rising order. -/
def memFill : Nat → Nat → List (Nat × Byte) → Bytes
  | 0, _, _ => []
  | n + 1, _, [] => zeros (n + 1)
  | n + 1, a, (k, b) :: r =>
    if k = a then b :: memFill n (a + 1) r else 0 :: memFill n (a + 1) ((k, b) :: r)

/-- `n` bytes from address `a`. -/
def memRead (m : List (Nat × Byte)) (a n : Nat) : Bytes := memFill n a (memWindow m a (a + n))

/-- Write a string of bytes at address `a`. -/
def memWrite (m : List (Nat × Byte)) (a : Nat) (b : Bytes) : List (Nat × Byte) :=
  m.filter (fun c => decide (c.1 < a)) ++ memCells a b
    ++ m.filter (fun c => decide (a + b.length ≤ c.1))

/-- The canonical form of a byte memory: addresses strictly rising, no entry 0. -/
def memWf (m : List (Nat × Byte)) : Bool := tabSorted m && m.all (fun c => c.2 != 0)

end Sys2Proof.Machine
end

