-- ==== Sys2Proof/Machine/Float.lean ====
section
/-!
DEFINITION. The number formats of 11 R369 and their arithmetic: exact values, then one rounding (11 R370 to R375).
-/
namespace Sys2Proof.Machine

/-- A floating-point format (11 R369). -/
structure Fmt where
  /-- Exponent bits. -/
  eb : Nat
  /-- Fraction bits. -/
  mb : Nat
  /-- Whether the top exponent encodes finite values but for the all-ones fraction (E4M3). -/
  e4m3 : Bool
deriving DecidableEq, Repr

/-- FP32. -/
def fp32 : Fmt := ⟨8, 23, false⟩
/-- BF16. -/
def bf16 : Fmt := ⟨8, 7, false⟩
/-- FP16. -/
def fp16 : Fmt := ⟨5, 10, false⟩
/-- FP8 E5M2. -/
def e5m2 : Fmt := ⟨5, 2, false⟩
/-- FP8 E4M3. -/
def e4m3 : Fmt := ⟨4, 3, true⟩

/-- Bits of the format. -/
def Fmt.width (f : Fmt) : Nat := 1 + f.eb + f.mb
/-- The exponent bias. -/
def Fmt.bias (f : Fmt) : Int := 2 ^ (f.eb - 1) - 1
/-- The exponent of the least significant bit of the subnormals. -/
def Fmt.qmin (f : Fmt) : Int := 1 - f.bias - f.mb
/-- The magnitude bits of the largest finite value. -/
def Fmt.maxFinite (f : Fmt) : Nat := if f.e4m3 then 2 ^ (f.eb + f.mb) - 2 else (2 ^ f.eb - 1) * 2 ^ f.mb - 1
/-- The canonical NaN (11 R369, R370). -/
def Fmt.nan (f : Fmt) : Nat := if f.e4m3 then 2 ^ (f.eb + f.mb) - 1 else (2 ^ f.eb - 1) * 2 ^ f.mb + 2 ^ (f.mb - 1)
/-- The magnitude bits of infinity. -/
def Fmt.inf (f : Fmt) : Nat := (2 ^ f.eb - 1) * 2 ^ f.mb
/-- The bits of a signed magnitude. -/
def Fmt.pack (f : Fmt) (neg : Bool) (mag : Nat) : Nat := mag + (if neg then 2 ^ (f.eb + f.mb) else 0)

/-- An exact value: NaN (with whether it signals), an infinity, or ±m·2^e. -/
inductive FVal where
  | nan (signaling : Bool)
  | inf (neg : Bool)
  | fin (neg : Bool) (m : Nat) (e : Int)
deriving DecidableEq, Repr

/-- The exact value of an encoding. -/
def Fmt.decode (f : Fmt) (v : Nat) : FVal :=
  let neg := v.testBit (f.eb + f.mb)
  let mag := v % 2 ^ (f.eb + f.mb)
  let ex := mag / 2 ^ f.mb
  let fr := mag % 2 ^ f.mb
  if f.e4m3 && mag == f.nan then .nan false
  else if !f.e4m3 && ex == 2 ^ f.eb - 1 then
    if fr = 0 then .inf neg else .nan (!fr.testBit (f.mb - 1))
  else if ex = 0 then .fin neg fr f.qmin
  else .fin neg (2 ^ f.mb + fr) (f.qmin + (ex - 1 : Nat))

/-- Round to nearest even, or toward zero (12 R409). -/
inductive Rm where
  | rne
  | rtz
deriving DecidableEq, Repr

/-- The sticky flags an operation raises (11 R375, 12 R397). -/
structure Flags where
  nv : Bool := false
  dz : Bool := false
  ovf : Bool := false
  unf : Bool := false
deriving DecidableEq, Repr

/-- Flags of two events together. -/
def Flags.or (a b : Flags) : Flags := ⟨a.nv || b.nv, a.dz || b.dz, a.ovf || b.ovf, a.unf || b.unf⟩
/-- The flags as bits [3:0] of the status word (12 R397). -/
def Flags.toNat (a : Flags) : Nat := b2n a.nv + 2 * b2n a.dz + 4 * b2n a.ovf + 8 * b2n a.unf

/-- The number of bits of a number, 0 for 0. -/
def bitLen (n : Nat) : Nat := if n = 0 then 0 else n.log2 + 1

/-- The integer quotient of m·2^e by 2^q under a rounding, and whether it is inexact. With `sticky` the value lies
strictly between m and m + 1 units. -/
def roundAt (rm : Rm) (m : Nat) (e : Int) (sticky : Bool) (q : Int) : Nat × Bool :=
  if e ≥ q then (m <<< (e - q).toNat, sticky)
  else
    let s := (q - e).toNat
    let k := m >>> s
    let r := m % 2 ^ s
    let half := 2 ^ (s - 1)
    let up := match rm with
      | .rtz => false
      | .rne => decide (r > half) || (r == half && (sticky || k.testBit 0))
    (if up then k + 1 else k, sticky || r != 0)

/-- One rounding of ±m·2^e into a format (11 R371). Tininess is detected before or after rounding as the opaque
`Config.tinyBeforeRounding` says: IEEE 754 leaves that choice open, and so does the spec (log entry 9). -/
def Fmt.round (f : Fmt) (rm : Rm) (sat : Bool) (neg : Bool) (m : Nat) (e : Int) (sticky : Bool) : Nat × Flags :=
  if m = 0 && !sticky then (f.pack neg 0, {})
  else
    let lg : Int := (bitLen m : Int) - 1 + e
    let q0 := lg - f.mb
    let q := if q0 < f.qmin then f.qmin else q0
    let (k, ix) := roundAt rm m e sticky q
    let mag := (q - f.qmin).toNat * 2 ^ f.mb + k
    let tinyBefore := decide (q0 < f.qmin)
    let tinyAfter :=
      let (k', _) := roundAt rm m e sticky q0
      tinyBefore && decide (k' < 2 ^ (f.mb + 1) ∨ q0 + 1 < f.qmin)
    let unf := ix && (if Config.tinyBeforeRounding then tinyBefore else tinyAfter)
    if mag > f.maxFinite then
      let top := if f.e4m3 || sat || rm == .rtz then f.maxFinite else f.inf
      (f.pack neg top, { ovf := true })
    else (f.pack neg mag, { unf := unf })

/-- An exact value into a format, without arithmetic flags of its own but those of the rounding. -/
def Fmt.ofVal (f : Fmt) (rm : Rm) (sat : Bool) : FVal → Nat × Flags
  | .nan _ => (f.nan, {})
  | .inf neg => (f.pack neg (if f.e4m3 || sat then f.maxFinite else f.inf), {})
  | .fin neg m e => f.round rm sat neg m e false

/-- Whether a value is a NaN. -/
def FVal.isNan : FVal → Bool
  | .nan _ => true
  | _ => false
/-- Whether a value is a signaling NaN. -/
def FVal.signals : FVal → Bool
  | .nan s => s
  | _ => false
/-- Negation of an exact value. -/
def FVal.neg : FVal → FVal
  | .nan s => .nan s
  | .inf n => .inf (!n)
  | .fin n m e => .fin (!n) m e

/-- ±m·2^e as an integer multiple of 2^q, for q ≤ e. -/
def scaled (neg : Bool) (m : Nat) (e q : Int) : Int :=
  let v : Int := (m <<< (e - q).toNat : Nat)
  if neg then -v else v

/-- The exact sum of two finite values; an exact zero sum of unlike signs is +0. -/
def finAdd (n1 : Bool) (m1 : Nat) (e1 : Int) (n2 : Bool) (m2 : Nat) (e2 : Int) : FVal :=
  if m1 = 0 ∧ m2 = 0 then .fin (n1 && n2) 0 0
  else if m1 = 0 then .fin n2 m2 e2
  else if m2 = 0 then .fin n1 m1 e1
  else
    let q := if e1 < e2 then e1 else e2
    let t := scaled n1 m1 e1 q + scaled n2 m2 e2 q
    .fin (decide (t < 0)) t.natAbs q

/-- The exact sum, and whether it is an invalid operation (+Inf and −Inf). -/
def FVal.add (a b : FVal) : FVal × Bool :=
  match a, b with
  | .nan s, y => (.nan false, s || y.signals)
  | x, .nan s => (.nan false, s || x.signals)
  | .inf n1, .inf n2 => if n1 = n2 then (.inf n1, false) else (.nan false, true)
  | .inf n, .fin _ _ _ => (.inf n, false)
  | .fin _ _ _, .inf n => (.inf n, false)
  | .fin n1 m1 e1, .fin n2 m2 e2 => (finAdd n1 m1 e1 n2 m2 e2, false)

/-- The exact product, and whether it is an invalid operation (Inf × 0). -/
def FVal.mul (a b : FVal) : FVal × Bool :=
  match a, b with
  | .nan s, y => (.nan false, s || y.signals)
  | x, .nan s => (.nan false, s || x.signals)
  | .inf n1, .inf n2 => (.inf (n1 != n2), false)
  | .inf n1, .fin n2 m _ => if m = 0 then (.nan false, true) else (.inf (n1 != n2), false)
  | .fin n1 m _, .inf n2 => if m = 0 then (.nan false, true) else (.inf (n1 != n2), false)
  | .fin n1 m1 e1, .fin n2 m2 e2 => (.fin (n1 != n2) (m1 * m2) (e1 + e2), false)

/-- Order of two values that are not NaN: the sign of a − b; −0 counts as +0. -/
def FVal.cmp (a b : FVal) : Int :=
  match a, b with
  | .inf n1, .inf n2 => (if n1 then -1 else 1) - (if n2 then -1 else 1)
  | .inf n, _ => if n then -1 else 1
  | _, .inf n => if n then 1 else -1
  | .fin n1 m1 e1, .fin n2 m2 e2 =>
    let q := if e1 < e2 then e1 else e2
    scaled n1 m1 e1 q - scaled n2 m2 e2 q
  | _, _ => 0

/-- Whether the sign of a value is set. -/
def FVal.isNeg : FVal → Bool
  | .nan _ => false
  | .inf n => n
  | .fin n _ _ => n

/-- IEEE 754-2019 minimum (11 R372): a NaN operand gives NaN, −0 is below +0. -/
def FVal.min (a b : FVal) : FVal × Bool :=
  if a.isNan || b.isNan then (.nan false, a.signals || b.signals)
  else
    let c := a.cmp b
    (if c < 0 then a else if c > 0 then b else if a.isNeg then a else b, false)

/-- IEEE 754-2019 maximum (11 R372). -/
def FVal.max (a b : FVal) : FVal × Bool :=
  if a.isNan || b.isNan then (.nan false, a.signals || b.signals)
  else
    let c := a.cmp b
    (if c > 0 then a else if c < 0 then b else if a.isNeg then b else a, false)

/-- An exact result with its invalid mark, rounded once (11 R372). -/
def Fmt.finish (f : Fmt) (rm : Rm) (r : FVal × Bool) : Nat × Flags :=
  let (v, fl) := f.ofVal rm false r.1
  (v, { fl with nv := fl.nv || r.2 })

/-- Sum (11 R372). -/
def Fmt.add (f : Fmt) (rm : Rm) (a b : Nat) : Nat × Flags := f.finish rm ((f.decode a).add (f.decode b))
/-- Difference. -/
def Fmt.sub (f : Fmt) (rm : Rm) (a b : Nat) : Nat × Flags := f.finish rm ((f.decode a).add (f.decode b).neg)
/-- Product. -/
def Fmt.mul (f : Fmt) (rm : Rm) (a b : Nat) : Nat × Flags := f.finish rm ((f.decode a).mul (f.decode b))
/-- a·b + c with one rounding, or c − a·b with `negate`. -/
def Fmt.fma (f : Fmt) (rm : Rm) (negate : Bool) (a b c : Nat) : Nat × Flags :=
  let p := (f.decode a).mul (f.decode b)
  let s := (if negate then p.1.neg else p.1).add (f.decode c)
  f.finish rm (s.1, p.2 || s.2)

/-- Integer square root by digits: `n` digit pairs left. -/
def isqrtGo : Nat → Nat → Nat → Nat
  | 0, _, r => r
  | n + 1, v, r =>
    let t := r + 2 ^ n
    isqrtGo n v (if t * t ≤ v then t else r)

/-- The integer square root. -/
def isqrt (v : Nat) : Nat := isqrtGo (v.log2 / 2 + 1) v 0

/-- Correctly rounded quotient (11 R373). -/
def Fmt.div (f : Fmt) (rm : Rm) (a b : Nat) : Nat × Flags :=
  match f.decode a, f.decode b with
  | .nan s, y => (f.nan, { nv := s || y.signals })
  | x, .nan s => (f.nan, { nv := s || x.signals })
  | .inf _, .inf _ => (f.nan, { nv := true })
  | .inf n1, .fin n2 _ _ => (f.pack (n1 != n2) f.inf, {})
  | .fin n1 _ _, .inf n2 => (f.pack (n1 != n2) 0, {})
  | .fin n1 m1 e1, .fin n2 m2 e2 =>
    if m2 = 0 then
      if m1 = 0 then (f.nan, { nv := true }) else (f.pack (n1 != n2) f.inf, { dz := true })
    else
      let k := bitLen m2 + 64
      let v := m1 <<< k
      f.round rm false (n1 != n2) (v / m2) (e1 - e2 - k) (v % m2 != 0)

/-- Correctly rounded square root (11 R373). -/
def Fmt.sqrt (f : Fmt) (rm : Rm) (a : Nat) : Nat × Flags :=
  match f.decode a with
  | .nan s => (f.nan, { nv := s })
  | .inf n => if n then (f.nan, { nv := true }) else (f.inf, {})
  | .fin n m e =>
    if m = 0 then (f.pack n 0, {})
    else if n then (f.nan, { nv := true })
    else
      let k := 128 + (e % 2).toNat
      let v := m <<< k
      let r := isqrt v
      f.round rm false false r ((e - k) / 2) (r * r != v)

/-- A value rounded to an integer and clamped to `n` signed bits; NaN gives 0 (11 R371). -/
def FVal.toInt (rm : Rm) (n : Nat) (v : FVal) : Int × Flags :=
  let hi : Int := 2 ^ (n - 1) - 1
  let lo : Int := -(2 ^ (n - 1))
  match v with
  | .nan _ => (0, { nv := true })
  | .inf s => (if s then lo else hi, { nv := true })
  | .fin s m e =>
    let (k, _) := roundAt rm m e false 0
    let i : Int := if s then -(k : Int) else k
    if i > hi then (hi, { nv := true }) else if i < lo then (lo, { nv := true }) else (i, {})

/-- An integer into a format (11 R371). -/
def Fmt.ofInt (f : Fmt) (rm : Rm) (sat : Bool) (i : Int) : Nat × Flags :=
  f.round rm sat (decide (i < 0)) i.natAbs 0 false

/-- The exponent floor(log2|x|) of a finite non-zero value. -/
def FVal.exponent : FVal → Option Int
  | .fin _ m e => if m = 0 then none else some ((bitLen m : Int) - 1 + e)
  | _ => none

/-! ## The functions with an error bound (11 R373) -/

/-- Bits behind the point of the fixed-point reference computation. -/
def fxBits : Nat := 400

/-- Sum of a power series in fixed point: term, index, terms left. -/
def fxSeries (step : Nat → Int → Int) : Nat → Nat → Int → Int
  | 0, _, t => t
  | n + 1, i, t => t + fxSeries step n (i + 1) (step i t)

/-- e^x − 1 in fixed point for 0 ≤ x < 1, `x` scaled by 2^fxBits. -/
def fxExpm1 (x : Int) : Int :=
  fxSeries (fun i t => (t * x / 2 ^ fxBits) / (i + 2 : Nat)) 110 0 x

/-- atanh(x) in fixed point for |x| ≤ 1/2. -/
def fxAtanh (x : Int) : Int :=
  let x2 := x * x / 2 ^ fxBits
  (fxSeries2 x2 x 220 1)
where
  fxSeries2 (x2 : Int) (p : Int) : Nat → Nat → Int
    | 0, _ => 0
    | n + 1, k => p / (k : Int) + fxSeries2 x2 (p * x2 / 2 ^ fxBits) n (k + 2)

/-- ln 2 in fixed point: 2·atanh(1/3). -/
def fxLn2 : Int := 2 * fxAtanh (2 ^ fxBits / 3)

/-- π in fixed point, by 16·atan(1/5) − 4·atan(1/239). -/
def fxPi : Int := 16 * fxAtan 5 - 4 * fxAtan 239
where
  fxAtan (q : Nat) : Int := go q (2 ^ fxBits / (q : Int)) 180 1 1
  go (q : Nat) (p : Int) : Nat → Nat → Int → Int
    | 0, _, _ => 0
    | n + 1, k, sg => sg * (p / (k : Int)) + go q (p / ((q : Int) * q)) n (k + 2) (-sg)

/-- sin of an angle in [0, π/2], fixed point. -/
def fxSin (x : Int) : Int :=
  let x2 := x * x / 2 ^ fxBits
  fxSeries (fun i t => -(t * x2 / 2 ^ fxBits) / ((2 * i + 2) * (2 * i + 3) : Nat)) 60 0 x

/-- A reference value: ±m·2^e, exact or correct to about 200 bits. -/
structure FxRef where
  neg : Bool
  m : Nat
  e : Int
deriving DecidableEq, Repr

/-- m·2^e in fixed point. -/
def fxOf (m : Nat) (e : Int) : Int :=
  if e + fxBits ≥ 0 then ((m <<< (e + fxBits).toNat : Nat) : Int) else ((m >>> (-(e + fxBits)).toNat : Nat) : Int)

/-- 2^v for v = num·2^-fxBits. -/
def fxExp2 (v : Int) : FxRef :=
  let n := v / 2 ^ fxBits
  let fr := v - n * 2 ^ fxBits
  let r := 2 ^ fxBits + fxExpm1 (fr * fxLn2 / 2 ^ fxBits)
  ⟨false, r.toNat, n - fxBits⟩

/-- log2 of m·2^e, m > 0. -/
def fxLog2 (m : Nat) (e : Int) : FxRef :=
  let l : Int := (bitLen m : Int) - 1
  let one : Int := 2 ^ fxBits
  let mm := fxOf m (-l)
  -- mantissa in [1, 2): log2 = lg + 2·atanh((mm − 1)/(mm + 1)) / ln 2
  let ln := 2 * fxAtanh ((mm - one) * one / (mm + one))
  let t := (l + e) * one + ln * one / fxLn2
  ⟨decide (t < 0), t.natAbs, -fxBits⟩

/-- sin(π·x) of ±m·2^e with |x| ≤ 2^22; `quarter` adds 1/2 to x, which gives cos(π·x). -/
def fxSinPi (neg : Bool) (m : Nat) (e : Int) (quarter : Bool) : FxRef :=
  let one : Int := 2 ^ fxBits
  let x := (if neg then -(fxOf m e) else fxOf m e) + (if quarter then one / 2 else 0)
  let r := x % (2 * one)
  let (sg, a) := if r ≥ one then (true, r - one) else (false, r)
  let a := if 2 * a > one then one - a else a
  let v := fxSin (a * fxPi / one)
  ⟨sg, v.toNat, -fxBits⟩

/-- tanh of ±m·2^e. -/
def fxTanh (neg : Bool) (m : Nat) (e : Int) : FxRef :=
  let one : Int := 2 ^ fxBits
  if (bitLen m : Int) + e > 8 then ⟨neg, 1, 0⟩
  else if (bitLen m : Int) + e < 0 then
    let u := fxExpm1 (2 * fxOf m e)
    ⟨neg, (u * one / (u + 2 * one)).toNat, -fxBits⟩
  else
    let w := fxExp2 (-(2 * fxOf m e * one / fxLn2))
    let u := fxOf w.m w.e
    ⟨neg, ((one - u) * one / (one + u)).toNat, -fxBits⟩

/-- The ulp exponent of FP32 at a reference value. -/
def FxRef.ulpExp (r : FxRef) : Int :=
  let q := (bitLen r.m : Int) - 1 + r.e - 23
  if q < -149 then -149 else q

/-- Whether FP32 `v` lies within `k`·2^b (and a slack of 2^-60 of that) of a reference. -/
def FxRef.within (r : FxRef) (v : Nat) (k : Nat) (b : Int) : Bool :=
  match fp32.decode v with
  | .fin n m e =>
    let q : Int := -700
    let d := (scaled n m e q - scaled r.neg r.m r.e q).natAbs
    let lim := k <<< (b - q).toNat
    decide (d ≤ lim + lim / 2 ^ 60)
  | _ => false

/-- A bounded function's value: the opaque `Config.estimate` where it lies within the bound of 11 R373, and otherwise
the correctly rounded value (log entry 9). -/
def boundedValue (fn x : Nat) (r : FxRef) (k : Nat) (b : Int) : Nat × Flags :=
  let v := Config.estimate fn x % 2 ^ 32
  if r.within v k b then (v, {})
  else if r.m = 0 ∨ (bitLen r.m : Int) + r.e < -250 then (fp32.pack r.neg 0, {})
  else fp32.round .rne false r.neg r.m r.e true

/-- The functions of 12 R410 that 11 R373 bounds. -/
inductive EstFn where
  | rcp | rsqrt | exp2 | log2 | sinPi | cosPi | tanh
deriving DecidableEq, Repr

/-- The number of a bounded function in `Config.estimate`. -/
def EstFn.idx : EstFn → Nat
  | .rcp => 0 | .rsqrt => 1 | .exp2 => 2 | .log2 => 3 | .sinPi => 4 | .cosPi => 5 | .tanh => 6

/-- A value 11 R373 does not state, in the opaque form of log entry 9. -/
def estFree (f : EstFn) (x : Nat) : Nat := Config.estimate f.idx x % 2 ^ 32

/-- The value of a bounded function at an FP32 encoding, with the flags of IEEE 754 for a pole, a domain error, an
overflow and an underflow (11 R373, R375; log entry 9). -/
def EstFn.eval (f : EstFn) (x : Nat) : Nat × Flags :=
  let one : Int := 2 ^ fxBits
  match f, fp32.decode x with
  | _, .nan s => (fp32.nan, { nv := s })
  | .rcp, .inf n => (fp32.pack n 0, {})
  | .rcp, .fin n m e =>
    if m = 0 then (fp32.pack n fp32.inf, { dz := true })
    else
      let r : FxRef := ⟨n, (one / (m : Int)).toNat, -fxBits - e⟩
      let lg : Int := (bitLen r.m : Int) - 1 + r.e
      if lg ≥ 128 then (fp32.pack n fp32.inf, { ovf := true }) else boundedValue 0 x r 1 r.ulpExp
  | .rsqrt, .inf n => if n then (fp32.nan, { nv := true }) else boundedValue 1 x ⟨false, 0, 0⟩ 1 (-149)
  | .rsqrt, .fin n m e =>
    if m = 0 then (if n then estFree .rsqrt x else fp32.inf, { dz := true })
    else if n then (fp32.nan, { nv := true })
    else
      let k := (e % 2).toNat
      let s := isqrt ((m <<< k) <<< 600)
      let r : FxRef := ⟨false, 2 ^ 700 / s, -400 - (e - k) / 2⟩
      boundedValue 1 x r 1 r.ulpExp
  | .exp2, .inf n => if n then (0, {}) else (fp32.inf, { ovf := true })
  | .exp2, .fin n m e =>
    let big := decide ((bitLen m : Int) - 1 + e ≥ 8)
    if big && !n then (fp32.inf, { ovf := true })
    else if big && n then (0, { unf := true })
    else
      let r := fxExp2 (if n then -(fxOf m e) else fxOf m e)
      let lg : Int := (bitLen r.m : Int) - 1 + r.e
      if lg ≥ 128 then (fp32.inf, { ovf := true })
      else if lg < -149 then (0, { unf := true })
      else boundedValue 2 x r 1 r.ulpExp
  | .log2, .inf n => if n then (fp32.nan, { nv := true }) else (fp32.inf, {})
  | .log2, .fin n m e =>
    if m = 0 then (fp32.pack true fp32.inf, { dz := true })
    else if n then (fp32.nan, { nv := true })
    else
      let r := fxLog2 m e
      let lg : Int := (bitLen m : Int) - 1 + e
      let inside := decide (lg ≥ -1 ∧ (lg ≤ 0 ∨ (lg = 1 ∧ m = 2 ^ (bitLen m - 1))))
      if inside then boundedValue 3 x r 1 (-24) else boundedValue 3 x r 1 r.ulpExp
  | .sinPi, .inf _ => (fp32.nan, { nv := true })
  | .sinPi, .fin n m e =>
    let r := fxSinPi n m e false
    if decide ((bitLen m : Int) + e ≤ 22) || (m == 2 ^ (bitLen m - 1) && decide ((bitLen m : Int) + e = 23)) then
      boundedValue 4 x r 1 (-23)
    else (fp32.nan, { nv := true })
  | .cosPi, .inf _ => (fp32.nan, { nv := true })
  | .cosPi, .fin n m e =>
    let r := fxSinPi n m e true
    if decide ((bitLen m : Int) + e ≤ 22) || (m == 2 ^ (bitLen m - 1) && decide ((bitLen m : Int) + e = 23)) then
      boundedValue 5 x r 1 (-23)
    else (fp32.nan, { nv := true })
  | .tanh, .inf n => boundedValue 6 x ⟨n, 1, 0⟩ 2 (-23)
  | .tanh, .fin n m e =>
    let r := fxTanh n m e
    boundedValue 6 x r 2 r.ulpExp

end Sys2Proof.Machine
end

