-- ==== Sys2Proof/Machine/Crypto.lean ====
section
/-!
DEFINITION. The published algorithms the spec names: SHA-256 and HMAC (02 R69, R70), AES-256 and XTS (10 R323, R326).
-/
namespace Sys2Proof.Machine

/-! ## SHA-256 -/

/-- The 64 round constants, constant `i` in bits [32i+31:32i]. -/
def shaConsts : Nat :=
  0xc67178f2bef9a3f7a4506ceb90befffa8cc7020884c8781478a5636f748f82ee682e6ff35b9cca4f4ed8aa4a391c0cb334b0bcb52748774c1e376c0819a4c116106aa070f40e3585d6990624d192e819c76c51a3c24b8b70a81a664ba2bfe8a192722c8581c2c92e766a0abb650a735453380d134d2c6dfc2e1b213827b70a851429296706ca6351d5a79147c6e00bf3bf597fc7b00327c8a831c66d983e515276f988da5cb0a9dc4a7484aa2de92c6f240ca1cc0fc19dc6efbe4786e49b69c1c19bf1749bdc06a780deb1fe72be5d74550c7dc3243185be12835b01d807aa98ab1c5ed5923f82a459f111f13956c25be9b5dba5b5c0fbcf71374491428a2f98

/-- Rotate a 32-bit number right. -/
def rotr32 (v n : Nat) : Nat := ((v >>> n) ||| (v <<< (32 - n))) % 4294967296

/-- One round on the eight working words, with the round's constant plus schedule word. -/
def shaRound : List Nat → Nat → List Nat
  | [a, b, c, d, e, f, g, h], kw =>
    let s1 := rotr32 e 6 ^^^ rotr32 e 11 ^^^ rotr32 e 25
    let ch := (e &&& f) ^^^ ((4294967295 - e) &&& g)
    let t1 := h + s1 + ch + kw
    let s0 := rotr32 a 2 ^^^ rotr32 a 13 ^^^ rotr32 a 22
    let mj := (a &&& b) ^^^ (a &&& c) ^^^ (b &&& c)
    [(t1 + s0 + mj) % 4294967296, a, b, c, (d + t1) % 4294967296, e, f, g]
  | l, _ => l

/-- The schedule word that follows the last 16. -/
def shaNext (w : List Nat) : Nat :=
  let x := nth w 1 0
  let y := nth w 14 0
  let s0 := rotr32 x 7 ^^^ rotr32 x 18 ^^^ (x >>> 3)
  let s1 := rotr32 y 17 ^^^ rotr32 y 19 ^^^ (y >>> 10)
  (nth w 0 0 + s0 + nth w 9 0 + s1) % 4294967296

/-- The rounds of one block: `n` rounds left, the window of 16 schedule words, the working words. -/
def shaRounds : Nat → Nat → List Nat → List Nat → List Nat
  | 0, _, _, v => v
  | n + 1, i, w, v =>
    let kw := nth w 0 0 + (shaConsts >>> (32 * i)) % 4294967296
    shaRounds n (i + 1) (w.drop 1 ++ [shaNext w]) (shaRound v kw)

/-- One block of 64 bytes into the hash words. -/
def shaBlock (h : List Nat) (b : Bytes) : List Nat :=
  let v := shaRounds 64 0 ((pieces 4 b).map beNat) h
  List.zipWith (fun x y => (x + y) % 4294967296) h v

/-- The padding of a message of `n` bytes. -/
def shaPad (n : Nat) : Bytes := 0x80 :: (zeros ((119 - n % 64) % 64) ++ beBytes 8 (8 * n))

/-- SHA-256. -/
def sha256 (m : Bytes) : Bytes :=
  let h := (pieces 64 (m ++ shaPad m.length)).foldl shaBlock
    [1779033703, 3144134277, 1013904242, 2773480762, 1359893119, 2600822924, 528734635, 1541459225]
  h.flatMap (beBytes 4)

/-- HMAC-SHA-256 under a key of any length. -/
def hmac256 (key m : Bytes) : Bytes :=
  let k := slice (if key.length ≤ 64 then key else sha256 key) 0 64
  sha256 (k.map (· ^^^ 0x5C) ++ sha256 (k.map (· ^^^ 0x36) ++ m))

/-! ## AES-256 -/

/-- The S-box, entry `x` in bits [8x+7:8x]. -/
def aesSbox : Nat :=
  0x16bb54b00f2d99416842e6bf0d89a18cdf2855cee9871e9b948ed9691198f8e19e1dc186b95735610ef6034866b53e708a8bbd4b1f74dde8c6b4a61c2e2578ba08ae7a65eaf4566ca94ed58d6d37c8e779e4959162acd3c25c2406490a3a32e0db0b5ede14b8ee4688902a22dc4f816073195d643d7ea7c41744975fec130ccdd2f3ff1021dab6bcf5389d928f40a351a89f3c507f02f94585334d43fbaaefd0cf584c4a39becb6a5bb1fc20ed00d153842fe329b3d63b52a05a6e1b1a2c830975b227ebe28012079a059618c323c7041531d871f1e5a534ccf73f362693fdb7c072a49cafa2d4adf04759fa7dc982ca76abd7fe2b670130c56f6bf27b777c63

/-- The inverse S-box. -/
def aesInvSbox : Nat :=
  0x7d0c2155631469e126d677ba7e042b17619953833cbbebc8b0f52aae4d3be0a0ef9cc9939f7ae52d0d4ab519a97f51605fec8027591012b131c7078833a8dd1ff45acd78fec0db9a2079d2c64b3e56fc1bbe18aa0e62b76f89c5291d711af1476edf751ce837f9e28535ade72274ac9673e6b4f0cecff297eadc674f4111913a6b8a130103bdafc1020f3fca8f1e2cd00645b3b80558e4f70ad3bc8c00abd890849d8da75746155edab9edfd5048706c92b6655dcc5ca4d41698688664f6f87225d18b6d49a25b76b224d92866a12e084ec3fa420b954cee3d23c2a632947b54cbe9dec444438e3487ff2f9b8239e37cfbd7f3819ea340bf38a53630d56a0952

/-- One byte through a packed box. -/
def boxAt (t x : Nat) : Nat := (t >>> (8 * x)) % 256

/-- Multiply by x in the AES field. -/
def aesX (a : Nat) : Nat := if a ≥ 128 then (2 * a - 256) ^^^ 0x1B else 2 * a

/-- Multiply in the AES field by a constant below 16. -/
def aesMul (c a : Nat) : Nat :=
  let a2 := aesX a
  let a4 := aesX a2
  let a8 := aesX a4
  (if c.testBit 0 then a else 0) ^^^ (if c.testBit 1 then a2 else 0)
    ^^^ (if c.testBit 2 then a4 else 0) ^^^ (if c.testBit 3 then a8 else 0)

/-- Exclusive or of two lists of numbers. -/
def xorNats (a b : List Nat) : List Nat := List.zipWith (· ^^^ ·) a b

/-- The key schedule: `n` more words, word number `i`, the last 8 words, the round constant. -/
def aesExpand : Nat → Nat → List (List Nat) → Nat → List (List Nat)
  | 0, _, _, _ => []
  | n + 1, i, last, rc =>
    let t := nth last 7 []
    let t' :=
      if i % 8 = 0 then
        match t.map (boxAt aesSbox) with
        | [a, b, c, d] => [b ^^^ rc, c, d, a]
        | l => l
      else if i % 8 = 4 then t.map (boxAt aesSbox) else t
    let w := xorNats (nth last 0 []) t'
    w :: aesExpand n (i + 1) (last.drop 1 ++ [w]) (if i % 8 = 0 then aesX rc else rc)

/-- The 15 round keys of 16 bytes of a 32-byte key. -/
def aesKeys (key : Bytes) : List (List Nat) :=
  let k0 := pieces 4 (key.map (·.toNat))
  (pieces 4 (k0 ++ aesExpand 52 8 k0 1)).map List.flatten

/-- Byte `i` of the result of shifting the rows is byte `aesShift[i]` of the state. -/
def aesShift : List Nat := [0, 5, 10, 15, 4, 9, 14, 3, 8, 13, 2, 7, 12, 1, 6, 11]
/-- The inverse of `aesShift`. -/
def aesInvShift : List Nat := [0, 13, 10, 7, 4, 1, 14, 11, 8, 5, 2, 15, 12, 9, 6, 3]

/-- A column times the circulant matrix of first row `m`. -/
def aesColumn (m : List Nat) : List Nat → List Nat
  | [a, b, c, d] =>
    let f := fun p q r s => aesMul (nth m 0 0) p ^^^ aesMul (nth m 1 0) q ^^^ aesMul (nth m 2 0) r ^^^ aesMul (nth m 3 0) s
    [f a b c d, f b c d a, f c d a b, f d a b c]
  | l => l

/-- Mix the four columns. -/
def aesMix (m : List Nat) (s : List Nat) : List Nat := (pieces 4 s).flatMap (aesColumn m)

/-- AES-256 of one block under expanded keys. -/
def aesEnc (ks : List (List Nat)) (b : List Nat) : List Nat :=
  let sub := fun s => aesShift.map (fun i => boxAt aesSbox (nth s i 0))
  let s := ((ks.drop 1).take 13).foldl (fun s k => xorNats (aesMix [2, 3, 1, 1] (sub s)) k) (xorNats b (nth ks 0 []))
  xorNats (sub s) (nth ks 14 [])

/-- The inverse cipher. -/
def aesDec (ks : List (List Nat)) (b : List Nat) : List Nat :=
  let sub := fun s => aesInvShift.map (fun i => boxAt aesInvSbox (nth s i 0))
  let s := ((ks.drop 1).take 13).foldr (fun k s => aesMix [14, 11, 13, 9] (xorNats (sub s) k)) (xorNats b (nth ks 14 []))
  xorNats (sub s) (nth ks 0 [])

/-! ## XTS -/

/-- The next block's tweak: times α in GF(2^128), byte 0 least significant. -/
def xtsNext (t : Nat) : Nat :=
  let d := 2 * t
  if d ≥ 2 ^ 128 then (d - 2 ^ 128) ^^^ 0x87 else d

/-- One pass over the blocks of a unit whose length is a multiple of 16 bytes. -/
def xtsBlocks (f : List Nat → List Nat) : Nat → List Bytes → Bytes
  | _, [] => []
  | t, b :: r =>
    let tb := (leBytes 16 t).map (·.toNat)
    (xorNats (f (xorNats (b.map (·.toNat)) tb)) tb).map (BitVec.ofNat 8) ++ xtsBlocks f (xtsNext t) r

/-- The first tweak of a unit: the 16-byte tweak enciphered under the second key. -/
def xtsTweak (key : Bytes) (tweak : Bytes) : Nat :=
  leNat ((aesEnc (aesKeys (slice key 32 32)) (tweak.map (·.toNat))).map (BitVec.ofNat 8))

/-- XTS-AES-256 encipherment under a 64-byte key pair; units are multiples of 64 bytes (10 R326). -/
def xtsEncrypt (key tweak data : Bytes) : Bytes :=
  xtsBlocks (aesEnc (aesKeys (slice key 0 32))) (xtsTweak key tweak) (pieces 16 data)

/-- XTS-AES-256 decipherment. -/
def xtsDecrypt (key tweak data : Bytes) : Bytes :=
  xtsBlocks (aesDec (aesKeys (slice key 0 32))) (xtsTweak key tweak) (pieces 16 data)

end Sys2Proof.Machine
end

