-- ==== Sys2Proof/Machine/Schema.lean ====
section
/-!
DEFINITION. The object tables of the spec: type, rights, persistence, default, range and liveness of every object.
One definition for each table, named after its rule; the template of 02 R42 comes last, so that a subject chapter's
narrower row is found first.
-/
namespace Sys2Proof.Machine

/-- The type of a member (02 R60). -/
inductive ObTy where
  | bool
  | num (bytes : Nat)
  | signed (bytes : Nat)
  | bytes (n : Nat)
deriving DecidableEq, Repr

/-- Bytes of a member. -/
def ObTy.size : ObTy → Nat
  | .bool => 1
  | .num n => n
  | .signed n => n
  | .bytes n => n

/-- A role's entry in an object table (00 R20). -/
inductive Right where
  | no
  | ro
  | rw
deriving DecidableEq, Repr

/-- The Persist column (00 R20). -/
inductive Persist where
  | volatile
  | profile
  | fuse
deriving DecidableEq, Repr

/-- The values a plain object admits, as its Meaning column gives them. -/
inductive Chk where
  | any
  | range (lo hi : Nat)
  | upToOr (hi other : Nat)
  /-- Multiples of `k` up to `hi`. -/
  | steps (k hi : Nat)
  /-- 0 to 15, 0xFE or 0xFF. -/
  | owner
deriving DecidableEq, Repr

/-- Whether a value is admitted. -/
def Chk.ok : Chk → Nat → Bool
  | .any, _ => true
  | .range lo hi, v => decide (lo ≤ v ∧ v ≤ hi)
  | .upToOr hi o, v => decide (v ≤ hi ∨ v = o)
  | .steps k hi, v => decide (v ≤ hi ∧ v % k = 0)
  | .owner, v => decide (v ≤ 15 ∨ v = 0xFE ∨ v = 0xFF)

/-- A row of an object table: units, objects and members it covers, then its columns. -/
structure Row where
  uLo : Nat
  uHi : Nat
  oLo : Nat
  oHi : Nat
  mLo : Nat
  mHi : Nat
  ty : ObTy
  fm : Right
  own : Right
  obs : Right
  svc : Right
  persist : Persist
  dflt : Nat
  chk : Chk
  live : Bool
deriving DecidableEq, Repr

/-- The objects of rule R84. -/
def objectsR84 : List Row := [
  ⟨0x0, 0x0, 0x100, 0x100, 0x0, 0x0, .bytes 16, .ro, .ro, .ro, .ro, .fuse, 0, .any, false⟩,
  ⟨0x0, 0x0, 0x101, 0x101, 0x0, 0x0, .bytes 16, .ro, .ro, .ro, .ro, .fuse, 0, .any, false⟩,
  ⟨0x0, 0x0, 0x102, 0x102, 0x0, 0x0, .num 2, .ro, .ro, .ro, .ro, .fuse, 8043, .any, false⟩,
  ⟨0x0, 0x0, 0x103, 0x103, 0x0, 0x0, .num 2, .ro, .ro, .ro, .ro, .fuse, 51208, .any, false⟩,
  ⟨0x0, 0x0, 0x110, 0x110, 0x0, 0x0, .num 2, .ro, .ro, .ro, .ro, .fuse, 0, .any, false⟩,
  ⟨0x0, 0x0, 0x120, 0x120, 0x0, 0x0, .num 1, .rw, .no, .ro, .rw, .profile, 255, .upToOr 3 0xFF, false⟩,
  ⟨0x0, 0x0, 0x121, 0x121, 0x0, 0x0, .num 1, .ro, .ro, .ro, .ro, .volatile, 0, .any, false⟩,
  ⟨0x0, 0x0, 0x121, 0x121, 0x1, 0x1, .num 1, .ro, .ro, .ro, .ro, .volatile, 0, .any, false⟩,
  ⟨0x0, 0x0, 0x121, 0x121, 0x2, 0x2, .bool, .ro, .ro, .ro, .ro, .volatile, 0, .any, false⟩,
  ⟨0x0, 0x0, 0x121, 0x121, 0x3, 0x3, .num 8, .ro, .ro, .ro, .ro, .volatile, 0, .any, false⟩,
  ⟨0x0, 0x0, 0x122, 0x122, 0x0, 0x0, .num 4, .ro, .no, .ro, .ro, .profile, 0, .any, false⟩,
  ⟨0x0, 0x0, 0x122, 0x122, 0x1, 0x1, .num 4, .ro, .no, .ro, .ro, .volatile, 0, .any, false⟩,
  ⟨0x0, 0x0, 0x130, 0x130, 0x0, 0x0, .num 1, .rw, .ro, .ro, .ro, .profile, 0, .range 0 1, false⟩,
  ⟨0x0, 0x0, 0x140, 0x140, 0x0, 0x0, .num 8, .rw, .no, .ro, .ro, .profile, 2000000, .any, false⟩,
  ⟨0x0, 0x0, 0x141, 0x141, 0x0, 0x0, .bool, .rw, .no, .ro, .ro, .volatile, 0, .any, false⟩,
  ⟨0x0, 0x0, 0x141, 0x141, 0x1, 0x1, .bool, .ro, .ro, .ro, .ro, .volatile, 0, .any, false⟩,
  ⟨0x0, 0x0, 0x150, 0x150, 0x0, 0x0, .num 2, .ro, .ro, .ro, .ro, .volatile, 0, .any, false⟩,
  ⟨0x0, 0x0, 0x160, 0x160, 0x0, 0x0, .num 8, .ro, .ro, .ro, .ro, .volatile, 0, .any, false⟩]

/-- The objects of rule R85. -/
def objectsR85 : List Row := [
  ⟨0xE00, 0xE00, 0x100, 0x100, 0x0, 0x0, .num 1, .rw, .no, .ro, .ro, .profile, 0, .range 0 1, false⟩,
  ⟨0xE00, 0xE00, 0x101, 0x101, 0x0, 0x0, .num 1, .rw, .no, .ro, .ro, .profile, 0, .range 0 254, false⟩,
  ⟨0xE00, 0xE00, 0x102, 0x102, 0x0, 0x0, .num 1, .rw, .no, .ro, .ro, .profile, 8, .any, false⟩,
  ⟨0xE00, 0xE00, 0x103, 0x103, 0x0, 0x0, .num 1, .rw, .no, .ro, .ro, .profile, 0, .any, false⟩,
  ⟨0xE00, 0xE00, 0x110, 0x110, 0x0, 0x0, .num 2, .rw, .no, .ro, .ro, .profile, 47110, .any, false⟩,
  ⟨0xE00, 0xE00, 0x111, 0x111, 0x0, 0x0, .bytes 16, .ro, .no, .ro, .ro, .volatile, 0, .any, false⟩,
  ⟨0xE00, 0xE00, 0x120, 0x120, 0x0, 0x1, .bytes 32, .rw, .no, .ro, .ro, .profile, 0, .any, false⟩,
  ⟨0xE00, 0xE00, 0x121, 0x121, 0x0, 0x0, .bytes 32, .ro, .no, .ro, .ro, .fuse, 0, .any, false⟩,
  ⟨0xE00, 0xE00, 0x122, 0x122, 0x0, 0x7, .bytes 32, .rw, .no, .ro, .ro, .profile, 0, .any, false⟩,
  ⟨0xE00, 0xE00, 0x130, 0x130, 0x0, 0x0, .num 8, .rw, .no, .ro, .ro, .profile, 60000000000, .any, false⟩,
  ⟨0xE00, 0xE00, 0x131, 0x131, 0x0, 0x0, .num 1, .ro, .no, .ro, .ro, .volatile, 0, .any, false⟩,
  ⟨0xE00, 0xE00, 0x132, 0x132, 0x0, 0x0, .num 1, .rw, .no, .ro, .ro, .profile, 8, .range 1 8, false⟩,
  ⟨0xE00, 0xE00, 0x16, 0x16, 0x0, 0x0, .num 8, .ro, .no, .ro, .ro, .volatile, 0, .any, false⟩,
  ⟨0xE00, 0xE00, 0x17, 0x17, 0x0, 0x0, .num 8, .ro, .no, .ro, .ro, .volatile, 0, .any, false⟩]

/-- The objects of rule R120. -/
def objectsR120 : List Row := [
  ⟨0x200, 0x200, 0x16, 0x16, 0x0, 0x0, .num 8, .ro, .no, .ro, .ro, .volatile, 0, .any, false⟩,
  ⟨0x200, 0x200, 0x17, 0x17, 0x0, 0x0, .num 8, .ro, .no, .ro, .ro, .volatile, 0, .any, false⟩,
  ⟨0x200, 0x200, 0x18, 0x18, 0x0, 0x0, .num 8, .ro, .no, .ro, .ro, .volatile, 0, .any, false⟩,
  ⟨0x200, 0x200, 0x19, 0x19, 0x0, 0x0, .num 8, .ro, .no, .ro, .ro, .volatile, 0, .any, false⟩,
  ⟨0x200, 0x200, 0x1A, 0x1A, 0x0, 0x0, .num 8, .ro, .no, .ro, .ro, .volatile, 0, .any, false⟩,
  ⟨0x200, 0x200, 0x1B, 0x1B, 0x0, 0x0, .num 8, .ro, .no, .ro, .ro, .volatile, 0, .any, false⟩,
  ⟨0x200, 0x200, 0x100, 0x100, 0x0, 0x0, .num 4, .ro, .ro, .ro, .ro, .volatile, 0, .any, false⟩,
  ⟨0x200, 0x200, 0x100, 0x100, 0x1, 0x1, .num 4, .ro, .ro, .ro, .ro, .volatile, 16384, .any, false⟩,
  ⟨0x200, 0x200, 0x101, 0x101, 0x0, 0x0, .num 8, .ro, .no, .ro, .ro, .volatile, 163208757248, .any, false⟩,
  ⟨0x200, 0x200, 0x101, 0x101, 0x1, 0x1, .num 8, .ro, .no, .ro, .ro, .volatile, 0, .any, false⟩,
  ⟨0x200, 0x200, 0x140, 0x140, 0x0, 0x0, .bytes 72, .rw, .rw, .no, .no, .volatile, 0, .any, false⟩,
  ⟨0x200, 0x200, 0x150, 0x150, 0x0, 0x0, .bytes 262144, .ro, .ro, .ro, .ro, .volatile, 0, .any, false⟩,
  ⟨0x200, 0x200, 0x151, 0x151, 0x0, 0x0, .bytes 262144, .ro, .ro, .ro, .ro, .volatile, 0, .any, false⟩,
  ⟨0x200, 0x200, 0x160, 0x16F, 0x0, 0x0, .bytes 65536, .ro, .ro, .no, .ro, .volatile, 0, .any, false⟩,
  ⟨0x200, 0x200, 0x200, 0x20F, 0x0, 0x0, .num 8, .rw, .ro, .no, .ro, .volatile, 0, .any, false⟩,
  ⟨0x200, 0x200, 0x200, 0x20F, 0x1, 0x1, .num 8, .rw, .ro, .no, .ro, .volatile, 0, .any, false⟩,
  ⟨0x200, 0x200, 0x200, 0x20F, 0x2, 0x2, .num 2, .rw, .ro, .no, .ro, .profile, 256, .range 256 1024, false⟩,
  ⟨0x200, 0x200, 0x200, 0x20F, 0x3, 0x3, .num 8, .ro, .ro, .no, .ro, .volatile, 0, .any, false⟩,
  ⟨0x200, 0x200, 0x200, 0x20F, 0x4, 0x4, .num 8, .ro, .ro, .no, .ro, .volatile, 0, .any, false⟩,
  ⟨0x200, 0x200, 0x200, 0x20F, 0x5, 0x5, .num 8, .ro, .ro, .no, .ro, .volatile, 0, .any, false⟩,
  ⟨0x200, 0x200, 0x200, 0x20F, 0x6, 0x6, .num 8, .ro, .ro, .no, .ro, .volatile, 0, .any, false⟩,
  ⟨0x200, 0x200, 0x200, 0x20F, 0x7, 0x7, .num 8, .ro, .ro, .no, .ro, .volatile, 0, .any, false⟩,
  ⟨0x200, 0x200, 0x200, 0x20F, 0x8, 0x8, .num 8, .ro, .ro, .no, .ro, .volatile, 0, .any, false⟩,
  ⟨0x200, 0x200, 0x200, 0x20F, 0x9, 0x9, .num 8, .ro, .ro, .no, .ro, .volatile, 0, .any, false⟩,
  ⟨0x200, 0x200, 0x200, 0x20F, 0xA, 0xA, .num 8, .ro, .ro, .no, .ro, .volatile, 0, .any, false⟩]

/-- The objects of rule R158. -/
def objectsR158 : List Row := [
  ⟨0x300, 0x300, 0x16, 0x16, 0x0, 0x0, .num 8, .ro, .ro, .ro, .ro, .volatile, 0, .any, false⟩,
  ⟨0x300, 0x300, 0x17, 0x17, 0x0, 0x0, .num 8, .ro, .ro, .ro, .ro, .volatile, 0, .any, false⟩,
  ⟨0x300, 0x300, 0x18, 0x18, 0x0, 0x0, .num 8, .ro, .ro, .ro, .ro, .volatile, 0, .any, false⟩,
  ⟨0x300, 0x300, 0x19, 0x19, 0x0, 0x0, .num 8, .ro, .ro, .ro, .ro, .volatile, 0, .any, false⟩,
  ⟨0x300, 0x300, 0x1A, 0x1A, 0x0, 0x0, .num 8, .ro, .ro, .ro, .ro, .volatile, 0, .any, false⟩,
  ⟨0x300, 0x300, 0x1B, 0x1B, 0x0, 0x0, .num 8, .ro, .ro, .ro, .ro, .volatile, 0, .any, false⟩,
  ⟨0x300, 0x300, 0x1C, 0x1C, 0x0, 0x0, .num 8, .ro, .ro, .ro, .ro, .volatile, 0, .any, false⟩,
  ⟨0x300, 0x300, 0x110, 0x118, 0x0, 0x0, .bytes 528, .ro, .ro, .ro, .ro, .fuse, 0, .any, false⟩,
  ⟨0x300, 0x300, 0x140, 0x140, 0x0, 0x0, .bytes 8, .rw, .rw, .no, .no, .volatile, 0, .any, false⟩,
  ⟨0x300, 0x300, 0x141, 0x141, 0x0, 0x0, .bytes 256, .ro, .ro, .ro, .ro, .volatile, 0, .any, false⟩,
  ⟨0x300, 0x300, 0x200, 0x23F, 0x0, 0x0, .num 1, .rw, .ro, .ro, .ro, .volatile, 255, .owner, false⟩,
  ⟨0x300, 0x300, 0x200, 0x23F, 0x1, 0x1, .num 1, .ro, .ro, .ro, .ro, .volatile, 0, .any, false⟩,
  ⟨0x300, 0x300, 0x200, 0x23F, 0x2, 0x2, .num 2, .ro, .ro, .ro, .ro, .volatile, 0, .any, false⟩,
  ⟨0x300, 0x300, 0x200, 0x23F, 0x3, 0x3, .num 1, .ro, .ro, .ro, .ro, .volatile, 0, .any, false⟩,
  ⟨0x300, 0x300, 0x200, 0x23F, 0x4, 0x4, .signed 1, .ro, .ro, .ro, .ro, .volatile, 0, .any, false⟩,
  ⟨0x300, 0x300, 0x200, 0x23F, 0x5, 0x5, .num 2, .ro, .ro, .ro, .ro, .volatile, 0, .any, false⟩,
  ⟨0x300, 0x300, 0x200, 0x23F, 0x6, 0x6, .num 8, .ro, .ro, .ro, .ro, .volatile, 0, .any, false⟩,
  ⟨0x300, 0x300, 0x200, 0x23F, 0x7, 0x7, .num 4, .ro, .ro, .ro, .ro, .volatile, 0, .any, false⟩,
  ⟨0x300, 0x300, 0x200, 0x23F, 0x8, 0x8, .bytes 528, .rw, .rw, .no, .no, .volatile, 0, .any, false⟩,
  ⟨0x300, 0x300, 0x200, 0x23F, 0x9, 0x9, .num 1, .rw, .rw, .no, .no, .volatile, 0, .any, false⟩]

/-- The objects of rule R187. -/
def objectsR187 : List Row := [
  ⟨0x300, 0x300, 0x1D, 0x1D, 0x0, 0x0, .num 8, .ro, .ro, .ro, .ro, .volatile, 0, .any, false⟩,
  ⟨0x300, 0x300, 0x1E, 0x1E, 0x0, 0x0, .num 8, .ro, .ro, .ro, .ro, .volatile, 0, .any, false⟩,
  ⟨0x300, 0x300, 0x1F, 0x1F, 0x0, 0x0, .num 8, .ro, .ro, .ro, .ro, .volatile, 0, .any, false⟩,
  ⟨0x300, 0x300, 0x20, 0x20, 0x0, 0x0, .num 8, .ro, .ro, .ro, .ro, .volatile, 0, .any, false⟩,
  ⟨0x300, 0x300, 0x21, 0x21, 0x0, 0x0, .num 8, .ro, .ro, .ro, .ro, .volatile, 0, .any, false⟩,
  ⟨0x300, 0x300, 0x22, 0x22, 0x0, 0x0, .num 8, .ro, .ro, .ro, .ro, .volatile, 0, .any, false⟩,
  ⟨0x300, 0x300, 0x23, 0x23, 0x0, 0x0, .num 8, .ro, .ro, .ro, .ro, .volatile, 0, .any, false⟩,
  ⟨0x300, 0x300, 0x24, 0x24, 0x0, 0x0, .num 8, .ro, .ro, .ro, .ro, .volatile, 0, .any, false⟩,
  ⟨0x300, 0x300, 0x25, 0x25, 0x0, 0x0, .num 8, .ro, .ro, .ro, .ro, .volatile, 0, .any, false⟩,
  ⟨0x300, 0x300, 0x26, 0x26, 0x0, 0x0, .num 8, .ro, .ro, .ro, .ro, .volatile, 0, .any, false⟩,
  ⟨0x300, 0x300, 0x27, 0x27, 0x0, 0x0, .num 8, .ro, .ro, .ro, .ro, .volatile, 0, .any, false⟩,
  ⟨0x300, 0x300, 0x120, 0x120, 0x0, 0x0, .num 1, .rw, .ro, .ro, .ro, .profile, 14, .range 1 16, true⟩,
  ⟨0x300, 0x300, 0x121, 0x121, 0x0, 0x0, .num 1, .rw, .ro, .ro, .ro, .profile, 16, .range 1 24, true⟩,
  ⟨0x300, 0x300, 0x300, 0x33F, 0x0, 0x0, .num 1, .rw, .ro, .ro, .ro, .volatile, 255, .owner, false⟩,
  ⟨0x300, 0x300, 0x300, 0x33F, 0x1, 0x1, .num 1, .ro, .ro, .ro, .ro, .volatile, 0, .any, false⟩,
  ⟨0x300, 0x300, 0x300, 0x33F, 0x2, 0x2, .num 2, .ro, .ro, .ro, .ro, .volatile, 0, .any, false⟩,
  ⟨0x300, 0x300, 0x300, 0x33F, 0x3, 0x3, .num 1, .ro, .ro, .ro, .ro, .volatile, 0, .any, false⟩,
  ⟨0x300, 0x300, 0x300, 0x33F, 0x5, 0x5, .num 2, .ro, .ro, .ro, .ro, .volatile, 0, .any, false⟩,
  ⟨0x300, 0x300, 0x300, 0x33F, 0x6, 0x6, .num 8, .ro, .ro, .ro, .ro, .volatile, 0, .any, false⟩,
  ⟨0x300, 0x300, 0x300, 0x33F, 0x7, 0x7, .num 4, .ro, .ro, .ro, .ro, .volatile, 0, .any, false⟩,
  ⟨0x300, 0x300, 0x300, 0x33F, 0x8, 0x8, .bytes 2072, .rw, .rw, .no, .no, .volatile, 0, .any, false⟩,
  ⟨0x300, 0x300, 0x300, 0x33F, 0x9, 0x9, .num 1, .rw, .rw, .no, .no, .volatile, 0, .any, false⟩]

/-- The objects of rule R222. -/
def objectsR222 : List Row := [
  ⟨0x700, 0x700, 0x16, 0x16, 0x0, 0x0, .num 8, .ro, .ro, .ro, .ro, .volatile, 0, .any, false⟩,
  ⟨0x700, 0x700, 0x17, 0x17, 0x0, 0x0, .num 8, .ro, .ro, .ro, .ro, .volatile, 0, .any, false⟩,
  ⟨0x700, 0x700, 0x18, 0x18, 0x0, 0x0, .num 8, .ro, .ro, .ro, .ro, .volatile, 0, .any, false⟩,
  ⟨0x700, 0x700, 0x19, 0x19, 0x0, 0x0, .num 8, .ro, .ro, .ro, .ro, .volatile, 0, .any, false⟩,
  ⟨0x700, 0x700, 0x1A, 0x1A, 0x0, 0x0, .num 8, .ro, .ro, .ro, .ro, .volatile, 0, .any, false⟩,
  ⟨0x700, 0x700, 0x1B, 0x1B, 0x0, 0x0, .num 8, .ro, .ro, .ro, .ro, .volatile, 0, .any, false⟩,
  ⟨0x700, 0x700, 0x1C, 0x1C, 0x0, 0x0, .num 8, .ro, .ro, .ro, .ro, .volatile, 0, .any, false⟩,
  ⟨0x700, 0x700, 0x1D, 0x1D, 0x0, 0x0, .num 8, .ro, .ro, .ro, .ro, .volatile, 0, .any, false⟩,
  ⟨0x700, 0x700, 0x1E, 0x1E, 0x0, 0x0, .num 8, .ro, .ro, .ro, .ro, .volatile, 0, .any, false⟩,
  ⟨0x700, 0x700, 0x1F, 0x1F, 0x0, 0x0, .num 8, .ro, .ro, .ro, .ro, .volatile, 0, .any, false⟩,
  ⟨0x700, 0x700, 0x20, 0x20, 0x0, 0x0, .num 8, .ro, .ro, .ro, .ro, .volatile, 0, .any, false⟩,
  ⟨0x700, 0x700, 0x21, 0x21, 0x0, 0x0, .num 8, .ro, .ro, .ro, .ro, .volatile, 0, .any, false⟩,
  ⟨0x700, 0x700, 0x22, 0x22, 0x0, 0x0, .num 8, .ro, .ro, .ro, .ro, .volatile, 0, .any, false⟩,
  ⟨0x700, 0x700, 0x23, 0x23, 0x0, 0x0, .num 8, .ro, .ro, .ro, .ro, .volatile, 0, .any, false⟩,
  ⟨0x700, 0x700, 0x24, 0x24, 0x0, 0x0, .num 8, .ro, .ro, .ro, .ro, .volatile, 0, .any, false⟩,
  ⟨0x700, 0x700, 0x25, 0x25, 0x0, 0x0, .num 8, .ro, .ro, .ro, .ro, .volatile, 0, .any, false⟩,
  ⟨0x700, 0x700, 0x26, 0x26, 0x0, 0x0, .num 8, .ro, .ro, .ro, .ro, .volatile, 0, .any, false⟩,
  ⟨0x700, 0x700, 0x100, 0x100, 0x0, 0x0, .num 8, .rw, .ro, .ro, .ro, .profile, 100000000, .range 1000000 10000000000, true⟩,
  ⟨0x700, 0x700, 0x101, 0x101, 0x0, 0x0, .num 1, .ro, .ro, .ro, .ro, .volatile, 0, .any, false⟩,
  ⟨0x700, 0x700, 0x110, 0x110, 0x0, 0x0, .num 1, .rw, .ro, .ro, .ro, .profile, 2, .range 1 255, true⟩,
  ⟨0x700, 0x700, 0x111, 0x111, 0x0, 0x0, .num 1, .rw, .ro, .ro, .ro, .profile, 8, .range 1 255, true⟩,
  ⟨0x700, 0x700, 0x112, 0x112, 0x0, 0x0, .num 1, .rw, .ro, .ro, .ro, .profile, 97, .range 50 100, true⟩,
  ⟨0x700, 0x700, 0x113, 0x113, 0x0, 0x0, .num 1, .rw, .ro, .ro, .ro, .profile, 93, .range 50 100, true⟩,
  ⟨0x700, 0x700, 0x114, 0x114, 0x0, 0x0, .num 1, .rw, .ro, .ro, .ro, .profile, 98, .range 50 100, true⟩,
  ⟨0x700, 0x700, 0x115, 0x115, 0x0, 0x0, .num 1, .rw, .ro, .ro, .ro, .profile, 90, .range 50 100, true⟩,
  ⟨0x700, 0x700, 0x116, 0x116, 0x0, 0x0, .num 1, .rw, .ro, .ro, .ro, .profile, 2, .range 1 255, true⟩,
  ⟨0x700, 0x700, 0x117, 0x117, 0x0, 0x0, .num 1, .rw, .ro, .ro, .ro, .profile, 3, .range 1 255, true⟩,
  ⟨0x700, 0x700, 0x120, 0x120, 0x0, 0x0, .num 2, .ro, .ro, .ro, .ro, .volatile, 0, .any, false⟩,
  ⟨0x700, 0x700, 0x130, 0x13F, 0x0, 0x0, .num 1, .rw, .rw, .ro, .ro, .volatile, 0, .range 0 1, false⟩,
  ⟨0x700, 0x700, 0x130, 0x13F, 0x1, 0x1, .num 1, .rw, .ro, .ro, .ro, .volatile, 255, .upToOr 63 0xFF, false⟩,
  ⟨0x700, 0x700, 0x140, 0x14F, 0x0, 0x0, .num 1, .rw, .ro, .no, .ro, .profile, 15, .any, false⟩,
  ⟨0x700, 0x700, 0x150, 0x150, 0x0, 0x0, .num 1, .rw, .ro, .ro, .ro, .profile, 13, .any, false⟩,
  ⟨0x700, 0x700, 0x150, 0x150, 0x1, 0x1, .num 1, .rw, .no, .ro, .ro, .profile, 16, .any, false⟩,
  ⟨0x700, 0x700, 0x170, 0x170, 0x0, 0x0, .num 1, .ro, .ro, .ro, .ro, .volatile, 0, .any, false⟩,
  ⟨0x700, 0x700, 0x171, 0x171, 0x0, 0x0, .num 4, .ro, .ro, .ro, .ro, .volatile, 0, .any, false⟩,
  ⟨0x700, 0x700, 0x172, 0x172, 0x0, 0x0, .num 2, .rw, .no, .ro, .ro, .profile, 64, .any, false⟩,
  ⟨0x700, 0x700, 0x180, 0x18F, 0x0, 0x0, .bytes 1048576, .ro, .ro, .no, .ro, .volatile, 0, .any, false⟩,
  ⟨0x700, 0x700, 0x190, 0x190, 0x0, 0x0, .bytes 262144, .ro, .ro, .no, .ro, .volatile, 0, .any, false⟩]

/-- The objects of rule R249. -/
def objectsR249 : List Row := [
  ⟨0x600, 0x600, 0x16, 0x16, 0x0, 0x0, .num 8, .ro, .ro, .ro, .ro, .volatile, 0, .any, false⟩,
  ⟨0x600, 0x600, 0x17, 0x17, 0x0, 0x0, .num 8, .ro, .ro, .ro, .ro, .volatile, 0, .any, false⟩,
  ⟨0x600, 0x600, 0x18, 0x18, 0x0, 0x0, .num 8, .ro, .ro, .ro, .ro, .volatile, 0, .any, false⟩,
  ⟨0x600, 0x600, 0x19, 0x19, 0x0, 0x0, .num 8, .ro, .ro, .ro, .ro, .volatile, 0, .any, false⟩,
  ⟨0x600, 0x600, 0x1A, 0x1A, 0x0, 0x0, .num 8, .ro, .ro, .ro, .ro, .volatile, 0, .any, false⟩,
  ⟨0x600, 0x600, 0x1B, 0x1B, 0x0, 0x0, .num 8, .ro, .ro, .ro, .ro, .volatile, 0, .any, false⟩,
  ⟨0x600, 0x600, 0x1C, 0x1C, 0x0, 0x0, .num 8, .ro, .ro, .ro, .ro, .volatile, 0, .any, false⟩,
  ⟨0x600, 0x600, 0x1D, 0x1D, 0x0, 0x0, .num 8, .ro, .ro, .ro, .ro, .volatile, 0, .any, false⟩,
  ⟨0x600, 0x600, 0x1E, 0x1E, 0x0, 0x0, .num 8, .ro, .ro, .ro, .ro, .volatile, 0, .any, false⟩,
  ⟨0x600, 0x600, 0x100, 0x100, 0x0, 0x0, .num 8, .ro, .ro, .ro, .ro, .volatile, 0, .any, false⟩,
  ⟨0x600, 0x600, 0x101, 0x101, 0x0, 0x0, .num 8, .ro, .ro, .ro, .ro, .volatile, 0, .any, false⟩,
  ⟨0x600, 0x600, 0x102, 0x102, 0x0, 0x0, .num 8, .ro, .ro, .ro, .ro, .volatile, 0, .any, false⟩,
  ⟨0x600, 0x600, 0x103, 0x103, 0x0, 0x0, .num 4, .ro, .ro, .ro, .ro, .volatile, 0, .any, false⟩,
  ⟨0x600, 0x600, 0x104, 0x104, 0x0, 0x0, .num 4, .ro, .ro, .ro, .ro, .volatile, 0, .any, false⟩,
  ⟨0x600, 0x600, 0x105, 0x105, 0x0, 0x0, .num 8, .ro, .ro, .ro, .ro, .volatile, 0, .any, false⟩,
  ⟨0x600, 0x600, 0x120, 0x120, 0x0, 0x0, .num 8, .rw, .ro, .ro, .ro, .profile, 2000, .range 500 100000, true⟩,
  ⟨0x600, 0x600, 0x130, 0x130, 0x0, 0x0, .num 1, .rw, .ro, .ro, .ro, .profile, 8, .range 4 64, true⟩,
  ⟨0x600, 0x600, 0x131, 0x131, 0x0, 0x0, .num 1, .rw, .ro, .ro, .ro, .profile, 12, .any, true⟩,
  ⟨0x600, 0x600, 0x132, 0x132, 0x0, 0x0, .num 1, .rw, .ro, .ro, .ro, .profile, 4, .any, true⟩,
  ⟨0x600, 0x600, 0x133, 0x133, 0x0, 0x0, .num 1, .rw, .ro, .ro, .ro, .profile, 32, .range 1 255, true⟩,
  ⟨0x600, 0x600, 0x134, 0x134, 0x0, 0x0, .num 1, .rw, .ro, .ro, .ro, .profile, 1, .any, true⟩,
  ⟨0x600, 0x600, 0x150, 0x150, 0x0, 0x0, .bytes 8388608, .ro, .ro, .ro, .ro, .volatile, 0, .any, false⟩]

/-- The objects of rule R250. -/
def objectsR250 : List Row := [
  ⟨0x610, 0x617, 0x30, 0x30, 0x0, 0x0, .num 8, .ro, .ro, .ro, .ro, .volatile, 0, .any, false⟩,
  ⟨0x610, 0x617, 0x31, 0x31, 0x0, 0x0, .num 8, .ro, .ro, .ro, .ro, .volatile, 0, .any, false⟩,
  ⟨0x610, 0x617, 0x32, 0x32, 0x0, 0x0, .num 8, .ro, .ro, .ro, .ro, .volatile, 0, .any, false⟩,
  ⟨0x610, 0x617, 0x33, 0x33, 0x0, 0x0, .num 8, .ro, .ro, .ro, .ro, .volatile, 0, .any, false⟩,
  ⟨0x610, 0x617, 0x34, 0x34, 0x0, 0x0, .num 8, .ro, .ro, .ro, .ro, .volatile, 0, .any, false⟩,
  ⟨0x610, 0x617, 0x35, 0x35, 0x0, 0x0, .num 8, .ro, .ro, .ro, .ro, .volatile, 0, .any, false⟩,
  ⟨0x610, 0x617, 0x100, 0x100, 0x0, 0x0, .num 1, .ro, .ro, .ro, .ro, .volatile, 0, .any, false⟩,
  ⟨0x610, 0x617, 0x101, 0x101, 0x0, 0x0, .num 1, .ro, .ro, .ro, .ro, .volatile, 0, .any, false⟩,
  ⟨0x610, 0x617, 0x102, 0x102, 0x0, 0x0, .num 8, .ro, .ro, .ro, .ro, .volatile, 0, .any, false⟩,
  ⟨0x610, 0x617, 0x103, 0x103, 0x0, 0x0, .num 4, .ro, .ro, .ro, .ro, .volatile, 0, .any, false⟩,
  ⟨0x610, 0x617, 0x104, 0x104, 0x0, 0x0, .num 4, .ro, .ro, .ro, .ro, .volatile, 0, .any, false⟩,
  ⟨0x610, 0x617, 0x105, 0x105, 0x0, 0x0, .bytes 8, .ro, .ro, .ro, .ro, .volatile, 0, .any, false⟩,
  ⟨0x610, 0x617, 0x110, 0x110, 0x0, 0x0, .num 8, .rw, .ro, .ro, .ro, .profile, 200000, .range 50000 10000000, true⟩]

/-- The objects of rule R279. -/
def objectsR279 : List Row := [
  ⟨0x800, 0x800, 0x120, 0x120, 0x0, 0x2, .num 1, .rw, .ro, .ro, .ro, .profile, 128, .any, true⟩,
  ⟨0x800, 0x800, 0x121, 0x121, 0x0, 0x0, .num 8, .rw, .ro, .ro, .ro, .profile, 3000, .range 500 100000, true⟩,
  ⟨0x800, 0x800, 0x122, 0x122, 0x0, 0x0, .num 1, .rw, .ro, .ro, .ro, .profile, 32, .any, true⟩,
  ⟨0x800, 0x800, 0x140, 0x140, 0x0, 0x0, .bytes 524288, .rw, .rw, .no, .ro, .volatile, 0, .any, false⟩,
  ⟨0x800, 0x800, 0x150, 0x150, 0x0, 0x0, .bytes 524288, .ro, .ro, .no, .ro, .volatile, 0, .any, false⟩,
  ⟨0x800, 0x800, 0x160, 0x160, 0x0, 0x0, .bytes 65536, .rw, .rw, .no, .ro, .volatile, 0, .any, false⟩,
  ⟨0x800, 0x800, 0x170, 0x170, 0x0, 0x0, .bytes 786432, .ro, .ro, .no, .ro, .volatile, 0, .any, false⟩]

/-- The objects of rule R280. -/
def objectsR280 : List Row := [
  ⟨0x810, 0x84F, 0x13, 0x13, 0x0, 0x0, .num 8, .ro, .ro, .ro, .ro, .volatile, 0, .any, false⟩,
  ⟨0x810, 0x84F, 0x16, 0x16, 0x0, 0x0, .num 8, .ro, .ro, .ro, .ro, .volatile, 0, .any, false⟩,
  ⟨0x810, 0x84F, 0x17, 0x17, 0x0, 0x0, .num 8, .ro, .ro, .ro, .ro, .volatile, 0, .any, false⟩,
  ⟨0x810, 0x84F, 0x18, 0x18, 0x0, 0x0, .num 8, .ro, .ro, .ro, .ro, .volatile, 0, .any, false⟩,
  ⟨0x810, 0x84F, 0x19, 0x19, 0x0, 0x0, .num 8, .ro, .ro, .ro, .ro, .volatile, 0, .any, false⟩,
  ⟨0x810, 0x84F, 0x1A, 0x1A, 0x0, 0x0, .num 8, .ro, .ro, .ro, .ro, .volatile, 0, .any, false⟩,
  ⟨0x810, 0x84F, 0x1B, 0x1B, 0x0, 0x0, .num 8, .ro, .ro, .ro, .ro, .volatile, 0, .any, false⟩,
  ⟨0x810, 0x84F, 0x100, 0x100, 0x0, 0x0, .num 8, .ro, .ro, .ro, .ro, .volatile, 0, .any, false⟩,
  ⟨0x810, 0x84F, 0x101, 0x101, 0x0, 0x0, .num 1, .rw, .rw, .ro, .ro, .volatile, 0, .any, false⟩,
  ⟨0x810, 0x84F, 0x102, 0x102, 0x0, 0x0, .num 2, .rw, .ro, .ro, .ro, .volatile, 65535, .any, false⟩,
  ⟨0x810, 0x84F, 0x110, 0x110, 0x0, 0x0, .num 2, .rw, .rw, .ro, .ro, .volatile, 0, .any, false⟩,
  ⟨0x810, 0x84F, 0x111, 0x111, 0x0, 0x0, .bytes 64, .rw, .rw, .ro, .ro, .volatile, 0, .any, false⟩,
  ⟨0x810, 0x84F, 0x112, 0x112, 0x0, 0x7, .num 8, .ro, .ro, .ro, .ro, .profile, 0, .any, false⟩,
  ⟨0x810, 0x84F, 0x113, 0x113, 0x0, 0x0, .num 1, .rw, .rw, .ro, .ro, .profile, 16, .range 1 255, false⟩,
  ⟨0x810, 0x84F, 0x114, 0x114, 0x0, 0x0, .num 8, .rw, .rw, .ro, .ro, .profile, 2000000, .any, false⟩]

/-- The objects of rule R316. -/
def objectsR316 : List Row := [
  ⟨0x900, 0x900, 0x16, 0x16, 0x0, 0x0, .num 8, .ro, .ro, .ro, .ro, .volatile, 0, .any, false⟩,
  ⟨0x900, 0x900, 0x17, 0x17, 0x0, 0x0, .num 8, .ro, .ro, .ro, .ro, .volatile, 0, .any, false⟩,
  ⟨0x900, 0x900, 0x18, 0x18, 0x0, 0x0, .num 8, .ro, .ro, .ro, .ro, .volatile, 0, .any, false⟩,
  ⟨0x900, 0x900, 0x19, 0x19, 0x0, 0x0, .num 8, .ro, .ro, .ro, .ro, .volatile, 0, .any, false⟩,
  ⟨0x900, 0x900, 0x1A, 0x1A, 0x0, 0x0, .num 8, .ro, .ro, .ro, .ro, .volatile, 0, .any, false⟩,
  ⟨0x900, 0x900, 0x1B, 0x1B, 0x0, 0x0, .num 8, .ro, .ro, .ro, .ro, .volatile, 0, .any, false⟩,
  ⟨0x900, 0x900, 0x1C, 0x1C, 0x0, 0x0, .num 8, .ro, .ro, .ro, .ro, .volatile, 0, .any, false⟩,
  ⟨0x900, 0x900, 0x1D, 0x1D, 0x0, 0x0, .num 8, .ro, .ro, .ro, .ro, .volatile, 0, .any, false⟩,
  ⟨0x900, 0x900, 0x1E, 0x1E, 0x0, 0x0, .num 8, .ro, .ro, .ro, .ro, .volatile, 0, .any, false⟩,
  ⟨0x900, 0x900, 0x1F, 0x1F, 0x0, 0x0, .num 8, .ro, .ro, .ro, .ro, .volatile, 0, .any, false⟩,
  ⟨0x900, 0x900, 0x20, 0x20, 0x0, 0x0, .num 8, .ro, .ro, .ro, .ro, .volatile, 0, .any, false⟩,
  ⟨0x900, 0x900, 0x100, 0x100, 0x0, 0x0, .num 4, .ro, .ro, .ro, .ro, .volatile, 0, .any, false⟩,
  ⟨0x900, 0x900, 0x100, 0x100, 0x1, 0x1, .num 4, .ro, .ro, .ro, .ro, .fuse, 8388608, .any, false⟩,
  ⟨0x900, 0x900, 0x110, 0x110, 0x0, 0x0, .num 8, .rw, .ro, .ro, .ro, .profile, 600000000000, .any, true⟩,
  ⟨0x900, 0x900, 0x140, 0x140, 0x0, 0x0, .bytes 32, .rw, .rw, .no, .no, .volatile, 0, .any, false⟩,
  ⟨0x900, 0x900, 0x150, 0x150, 0x0, 0x0, .bytes 262144, .rw, .ro, .ro, .ro, .volatile, 0, .any, false⟩,
  ⟨0x900, 0x900, 0x151, 0x151, 0x0, 0x0, .bytes 131072, .ro, .ro, .ro, .ro, .volatile, 0, .any, false⟩,
  ⟨0x900, 0x900, 0x152, 0x152, 0x0, 0x0, .bytes 131072, .ro, .ro, .ro, .ro, .volatile, 0, .any, false⟩,
  ⟨0x900, 0x900, 0x160, 0x16F, 0x0, 0x0, .bytes 32, .ro, .ro, .no, .ro, .volatile, 0, .any, false⟩,
  ⟨0x900, 0x900, 0x170, 0x17F, 0x0, 0x0, .bytes 65536, .ro, .ro, .no, .ro, .volatile, 0, .any, false⟩]

/-- The objects of rule R354. -/
def objectsR354 : List Row := [
  ⟨0x400, 0x400, 0x16, 0x16, 0x0, 0x0, .num 8, .ro, .no, .ro, .ro, .volatile, 0, .any, false⟩,
  ⟨0x400, 0x400, 0x17, 0x17, 0x0, 0x0, .num 8, .ro, .no, .ro, .ro, .volatile, 0, .any, false⟩,
  ⟨0x400, 0x400, 0x18, 0x18, 0x0, 0x0, .num 8, .ro, .no, .ro, .ro, .volatile, 0, .any, false⟩,
  ⟨0x400, 0x400, 0x100, 0x100, 0x0, 0x0, .num 8, .ro, .no, .ro, .ro, .volatile, 0, .any, false⟩,
  ⟨0x400, 0x400, 0x140, 0x140, 0x0, 0x0, .bytes 16, .rw, .rw, .no, .no, .volatile, 0, .any, false⟩,
  ⟨0x400, 0x400, 0x141, 0x141, 0x0, 0x0, .num 8, .ro, .no, .no, .ro, .volatile, 0, .any, false⟩,
  ⟨0x400, 0x400, 0x150, 0x150, 0x0, 0x0, .bytes 131072, .ro, .ro, .no, .ro, .volatile, 0, .any, false⟩]

/-- The objects of rule R356. -/
def objectsR356 : List Row := [
  ⟨0xD00, 0xD00, 0x180, 0x180, 0x0, 0x0, .num 1, .ro, .ro, .ro, .ro, .volatile, 0, .any, false⟩,
  ⟨0xD00, 0xD00, 0x180, 0x180, 0x1, 0x1, .num 1, .ro, .ro, .ro, .ro, .volatile, 0, .any, false⟩,
  ⟨0xD00, 0xD00, 0x180, 0x180, 0x2, 0x2, .bool, .ro, .ro, .ro, .ro, .volatile, 0, .any, false⟩,
  ⟨0xD00, 0xD00, 0x181, 0x181, 0x0, 0x1, .num 4, .ro, .ro, .ro, .ro, .volatile, 0, .any, false⟩,
  ⟨0xD00, 0xD00, 0x182, 0x182, 0x0, 0x0, .bytes 16777216, .rw, .no, .no, .rw, .volatile, 0, .any, false⟩,
  ⟨0xD00, 0xD00, 0x183, 0x183, 0x0, 0x0, .num 1, .rw, .no, .no, .rw, .volatile, 0, .any, false⟩,
  ⟨0xD00, 0xD00, 0x184, 0x184, 0x0, 0x0, .bytes 16, .ro, .no, .ro, .ro, .volatile, 0, .any, false⟩,
  ⟨0xD00, 0xD00, 0x185, 0x185, 0x0, 0x0, .bytes 192, .ro, .ro, .ro, .ro, .volatile, 0, .any, false⟩,
  ⟨0xD00, 0xD00, 0x186, 0x186, 0x0, 0x0, .bytes 8192, .ro, .ro, .ro, .ro, .fuse, 0, .any, false⟩,
  ⟨0xD00, 0xD00, 0x187, 0x187, 0x0, 0x0, .num 1, .ro, .ro, .ro, .ro, .fuse, 0, .any, false⟩]

/-- The objects of rule R391. -/
def objectsR391 : List Row := [
  ⟨0xA40, 0xA7F, 0x16, 0x16, 0x0, 0x0, .num 8, .ro, .ro, .ro, .ro, .volatile, 0, .any, false⟩,
  ⟨0xA40, 0xA7F, 0x17, 0x17, 0x0, 0x0, .num 8, .ro, .ro, .ro, .ro, .volatile, 0, .any, false⟩,
  ⟨0xA40, 0xA7F, 0x18, 0x18, 0x0, 0x0, .num 8, .ro, .ro, .ro, .ro, .volatile, 0, .any, false⟩,
  ⟨0xA40, 0xA7F, 0x19, 0x19, 0x0, 0x0, .num 8, .ro, .ro, .ro, .ro, .volatile, 0, .any, false⟩,
  ⟨0xA40, 0xA7F, 0x1A, 0x1A, 0x0, 0x0, .num 8, .ro, .ro, .ro, .ro, .volatile, 0, .any, false⟩,
  ⟨0xA40, 0xA7F, 0x1B, 0x1B, 0x0, 0x0, .num 8, .ro, .ro, .ro, .ro, .volatile, 0, .any, false⟩,
  ⟨0xA40, 0xA7F, 0x1C, 0x1C, 0x0, 0x0, .num 8, .ro, .ro, .ro, .ro, .volatile, 0, .any, false⟩,
  ⟨0xA40, 0xA7F, 0x1D, 0x1D, 0x0, 0x0, .num 8, .ro, .ro, .ro, .ro, .volatile, 0, .any, false⟩,
  ⟨0xA40, 0xA7F, 0x100, 0x100, 0x0, 0x0, .num 1, .rw, .ro, .ro, .ro, .profile, 255, .upToOr 15 0xFF, false⟩,
  ⟨0xA40, 0xA7F, 0x101, 0x101, 0x0, 0x0, .num 2, .rw, .ro, .ro, .ro, .profile, 2048, .steps 64 3072, false⟩,
  ⟨0xA40, 0xA7F, 0x102, 0x102, 0x0, 0x0, .num 1, .ro, .ro, .ro, .ro, .volatile, 255, .any, false⟩,
  ⟨0xA40, 0xA7F, 0x103, 0x103, 0x0, 0x0, .num 2, .ro, .ro, .ro, .ro, .volatile, 0, .any, false⟩,
  ⟨0xA40, 0xA7F, 0x104, 0x104, 0x0, 0x0, .num 1, .ro, .ro, .ro, .ro, .volatile, 255, .any, false⟩,
  ⟨0xA40, 0xA7F, 0x104, 0x104, 0x1, 0x1, .num 2, .ro, .ro, .ro, .ro, .volatile, 0, .any, false⟩,
  ⟨0xA40, 0xA7F, 0x105, 0x105, 0x0, 0x0, .bool, .ro, .rw, .ro, .ro, .volatile, 0, .any, false⟩]

/-- The objects of rule R392. -/
def objectsR392 : List Row := [
  ⟨0xB00, 0xB00, 0x16, 0x16, 0x0, 0x0, .num 8, .ro, .no, .ro, .ro, .volatile, 0, .any, false⟩,
  ⟨0xB00, 0xB00, 0x17, 0x17, 0x0, 0x0, .num 8, .ro, .no, .ro, .ro, .volatile, 0, .any, false⟩,
  ⟨0xB00, 0xB00, 0x100, 0x10F, 0x0, 0x0, .num 8, .ro, .ro, .no, .ro, .volatile, 0, .any, false⟩,
  ⟨0xB00, 0xB00, 0x110, 0x11F, 0x0, 0x0, .num 8, .ro, .ro, .no, .ro, .volatile, 0, .any, false⟩]

/-- The objects of rule R456. -/
def objectsR456 : List Row := [
  ⟨0xA00, 0xA00, 0x1E, 0x1E, 0x0, 0x0, .num 8, .ro, .ro, .ro, .ro, .volatile, 0, .any, false⟩,
  ⟨0xA00, 0xA00, 0x1F, 0x1F, 0x0, 0x0, .num 8, .ro, .ro, .ro, .ro, .volatile, 0, .any, false⟩,
  ⟨0xA00, 0xA00, 0x20, 0x20, 0x0, 0x0, .num 8, .ro, .ro, .ro, .ro, .volatile, 0, .any, false⟩,
  ⟨0xA00, 0xA00, 0x21, 0x21, 0x0, 0x0, .num 8, .ro, .ro, .ro, .ro, .volatile, 0, .any, false⟩,
  ⟨0xA00, 0xA00, 0x22, 0x22, 0x0, 0x0, .num 8, .ro, .ro, .ro, .ro, .volatile, 0, .any, false⟩,
  ⟨0xA00, 0xA00, 0x140, 0x140, 0x0, 0x0, .bytes 72, .rw, .rw, .no, .no, .volatile, 0, .any, false⟩,
  ⟨0xA00, 0xA00, 0x150, 0x150, 0x0, 0x0, .bytes 65536, .ro, .ro, .no, .ro, .volatile, 0, .any, false⟩,
  ⟨0xA00, 0xA00, 0x151, 0x151, 0x0, 0x0, .bytes 32768, .ro, .ro, .no, .ro, .volatile, 0, .any, false⟩,
  ⟨0xA00, 0xA00, 0x152, 0x152, 0x0, 0x0, .bytes 32768, .ro, .ro, .no, .ro, .volatile, 0, .any, false⟩]

/-- The objects of rule R501. -/
def objectsR501 : List Row := [
  ⟨0x500, 0x500, 0x100, 0x100, 0x0, 0x0, .num 1, .rw, .no, .ro, .ro, .profile, 0, .range 0 1, false⟩,
  ⟨0x500, 0x500, 0x100, 0x100, 0x1, 0x1, .num 1, .ro, .no, .ro, .ro, .volatile, 0, .any, false⟩,
  ⟨0x500, 0x500, 0x101, 0x101, 0x0, 0x0, .num 1, .rw, .no, .ro, .ro, .profile, 4, .range 2 4, true⟩,
  ⟨0x500, 0x500, 0x102, 0x102, 0x0, 0x0, .num 1, .rw, .no, .ro, .ro, .profile, 8, .range 2 64, true⟩,
  ⟨0x500, 0x500, 0x103, 0x103, 0x0, 0x0, .signed 1, .rw, .no, .ro, .ro, .profile, 85, .range 70 95, true⟩,
  ⟨0x500, 0x500, 0x110, 0x110, 0x0, 0x0, .bytes 8, .ro, .no, .ro, .ro, .volatile, 0, .any, false⟩,
  ⟨0x500, 0x500, 0x120, 0x120, 0x0, 0x0, .num 2, .rw, .no, .ro, .ro, .profile, 2048, .any, true⟩,
  ⟨0x500, 0x500, 0x120, 0x120, 0x1, 0x1, .num 2, .ro, .no, .ro, .ro, .fuse, 0, .any, false⟩,
  ⟨0x500, 0x500, 0x121, 0x121, 0x0, 0x0, .num 8, .rw, .no, .ro, .ro, .profile, 400, .range 100 10000, true⟩,
  ⟨0x500, 0x500, 0x130, 0x130, 0x0, 0x1, .num 1, .rw, .no, .ro, .ro, .profile, 12, .range 1 16, true⟩,
  ⟨0x500, 0x500, 0x131, 0x131, 0x0, 0x0, .num 8, .rw, .no, .ro, .ro, .profile, 4000, .range 1000 100000, true⟩,
  ⟨0x500, 0x500, 0x140, 0x140, 0x0, 0x0, .num 1, .rw, .no, .ro, .ro, .profile, 16, .range 1 255, true⟩,
  ⟨0x500, 0x500, 0x150, 0x150, 0x0, 0x0, .num 8, .rw, .no, .ro, .ro, .profile, 86400000000000, .any, true⟩]

/-- The objects of rule R502. -/
def objectsR502 : List Row := [
  ⟨0x510, 0x52F, 0x16, 0x16, 0x0, 0x0, .num 8, .ro, .no, .ro, .ro, .volatile, 0, .any, false⟩,
  ⟨0x510, 0x52F, 0x17, 0x17, 0x0, 0x0, .num 8, .ro, .no, .ro, .ro, .volatile, 0, .any, false⟩,
  ⟨0x510, 0x52F, 0x18, 0x18, 0x0, 0x0, .num 8, .ro, .no, .ro, .ro, .volatile, 0, .any, false⟩,
  ⟨0x510, 0x52F, 0x19, 0x19, 0x0, 0x0, .num 8, .ro, .no, .ro, .ro, .volatile, 0, .any, false⟩,
  ⟨0x510, 0x52F, 0x1A, 0x1A, 0x0, 0x0, .num 8, .ro, .no, .ro, .ro, .volatile, 0, .any, false⟩,
  ⟨0x510, 0x52F, 0x1B, 0x1B, 0x0, 0x0, .num 8, .ro, .no, .ro, .ro, .volatile, 0, .any, false⟩,
  ⟨0x510, 0x52F, 0x1C, 0x1C, 0x0, 0x0, .num 8, .ro, .no, .ro, .ro, .volatile, 0, .any, false⟩,
  ⟨0x510, 0x52F, 0x1D, 0x1D, 0x0, 0x0, .num 8, .ro, .no, .ro, .ro, .volatile, 0, .any, false⟩,
  ⟨0x510, 0x52F, 0x1E, 0x1E, 0x0, 0x0, .num 8, .ro, .no, .ro, .ro, .volatile, 0, .any, false⟩,
  ⟨0x510, 0x52F, 0x1F, 0x1F, 0x0, 0x0, .num 8, .ro, .no, .ro, .ro, .volatile, 0, .any, false⟩,
  ⟨0x510, 0x52F, 0x20, 0x20, 0x0, 0x0, .num 8, .ro, .no, .ro, .ro, .volatile, 0, .any, false⟩,
  ⟨0x510, 0x52F, 0x21, 0x21, 0x0, 0x0, .num 8, .ro, .no, .ro, .ro, .volatile, 0, .any, false⟩,
  ⟨0x510, 0x52F, 0x22, 0x22, 0x0, 0x0, .num 8, .ro, .no, .ro, .ro, .volatile, 0, .any, false⟩,
  ⟨0x510, 0x52F, 0x23, 0x23, 0x0, 0x0, .num 8, .ro, .no, .ro, .ro, .volatile, 0, .any, false⟩,
  ⟨0x510, 0x52F, 0x24, 0x24, 0x0, 0x0, .num 8, .ro, .no, .ro, .ro, .volatile, 0, .any, false⟩,
  ⟨0x510, 0x52F, 0x25, 0x25, 0x0, 0x0, .num 8, .ro, .no, .ro, .ro, .volatile, 0, .any, false⟩,
  ⟨0x510, 0x52F, 0x26, 0x26, 0x0, 0x0, .num 8, .ro, .no, .ro, .ro, .volatile, 0, .any, false⟩,
  ⟨0x510, 0x52F, 0x100, 0x100, 0x0, 0x0, .signed 1, .ro, .no, .ro, .ro, .volatile, 0, .any, false⟩,
  ⟨0x510, 0x52F, 0x101, 0x101, 0x0, 0x0, .num 2, .ro, .no, .ro, .ro, .volatile, 0, .any, false⟩,
  ⟨0x510, 0x52F, 0x102, 0x102, 0x0, 0x0, .bytes 8192, .ro, .no, .ro, .ro, .volatile, 0, .any, false⟩,
  ⟨0x510, 0x52F, 0x103, 0x103, 0x0, 0x0, .num 8, .ro, .no, .ro, .ro, .volatile, 3900, .any, false⟩,
  ⟨0x510, 0x52F, 0x104, 0x104, 0x0, 0x0, .bytes 64, .ro, .no, .ro, .ro, .volatile, 0, .any, false⟩,
  ⟨0x510, 0x52F, 0x110, 0x110, 0x0, 0x0, .num 1, .rw, .no, .ro, .ro, .profile, 16, .range 1 255, true⟩,
  ⟨0x510, 0x52F, 0x120, 0x120, 0x0, 0x0, .bytes 16416, .no, .no, .no, .rw, .volatile, 0, .any, false⟩,
  ⟨0x510, 0x52F, 0x121, 0x121, 0x0, 0x0, .bytes 136, .no, .no, .no, .ro, .volatile, 0, .any, false⟩]

/-- The objects of rule R535. -/
def objectsR535 : List Row := [
  ⟨0x100, 0x100, 0x16, 0x16, 0x0, 0x0, .num 8, .ro, .no, .ro, .ro, .volatile, 0, .any, false⟩,
  ⟨0x100, 0x100, 0x17, 0x17, 0x0, 0x0, .num 8, .ro, .no, .ro, .ro, .volatile, 0, .any, false⟩,
  ⟨0x100, 0x100, 0x100, 0x100, 0x0, 0x0, .num 1, .rw, .no, .ro, .ro, .profile, 0, .any, false⟩,
  ⟨0x100, 0x100, 0x100, 0x100, 0x1, 0x1, .num 1, .ro, .ro, .ro, .ro, .volatile, 0, .any, false⟩]

/-- The objects of rule R536. -/
def objectsR536 : List Row := [
  ⟨0x101, 0x102, 0x30, 0x30, 0x0, 0x0, .num 8, .ro, .no, .ro, .ro, .volatile, 0, .any, false⟩,
  ⟨0x101, 0x102, 0x31, 0x31, 0x0, 0x0, .num 8, .ro, .no, .ro, .ro, .volatile, 0, .any, false⟩,
  ⟨0x101, 0x102, 0x32, 0x32, 0x0, 0x0, .num 8, .ro, .no, .ro, .ro, .volatile, 0, .any, false⟩,
  ⟨0x101, 0x102, 0x33, 0x33, 0x0, 0x0, .num 8, .ro, .no, .ro, .ro, .volatile, 0, .any, false⟩,
  ⟨0x101, 0x102, 0x34, 0x34, 0x0, 0x0, .num 8, .ro, .no, .ro, .ro, .volatile, 0, .any, false⟩,
  ⟨0x101, 0x102, 0x100, 0x100, 0x0, 0x0, .num 1, .ro, .ro, .ro, .ro, .volatile, 0, .any, false⟩,
  ⟨0x101, 0x102, 0x101, 0x101, 0x0, 0x0, .num 1, .ro, .ro, .ro, .ro, .volatile, 0, .any, false⟩,
  ⟨0x101, 0x102, 0x102, 0x102, 0x0, 0x0, .num 1, .ro, .no, .ro, .ro, .volatile, 0, .any, false⟩]

/-- The objects of rule R537. -/
def objectsR537 : List Row := [
  ⟨0x110, 0x11F, 0x16, 0x16, 0x0, 0x0, .num 8, .ro, .ro, .no, .ro, .volatile, 0, .any, false⟩,
  ⟨0x110, 0x11F, 0x17, 0x17, 0x0, 0x0, .num 8, .ro, .ro, .no, .ro, .volatile, 0, .any, false⟩,
  ⟨0x110, 0x11F, 0x18, 0x18, 0x0, 0x0, .num 8, .ro, .ro, .no, .ro, .volatile, 0, .any, false⟩,
  ⟨0x110, 0x11F, 0x19, 0x19, 0x0, 0x0, .num 8, .ro, .ro, .no, .ro, .volatile, 0, .any, false⟩,
  ⟨0x110, 0x11F, 0x1A, 0x1A, 0x0, 0x0, .num 8, .ro, .ro, .no, .ro, .volatile, 0, .any, false⟩,
  ⟨0x110, 0x11F, 0x1B, 0x1B, 0x0, 0x0, .num 8, .ro, .ro, .no, .ro, .volatile, 0, .any, false⟩,
  ⟨0x110, 0x11F, 0x1C, 0x1C, 0x0, 0x0, .num 8, .ro, .ro, .no, .ro, .volatile, 0, .any, false⟩,
  ⟨0x110, 0x11F, 0x1D, 0x1D, 0x0, 0x0, .num 8, .ro, .ro, .no, .ro, .volatile, 0, .any, false⟩,
  ⟨0x110, 0x11F, 0x1E, 0x1E, 0x0, 0x0, .num 8, .ro, .ro, .no, .ro, .volatile, 0, .any, false⟩,
  ⟨0x110, 0x11F, 0x100, 0x100, 0x0, 0x0, .num 1, .ro, .ro, .no, .ro, .volatile, 0, .any, false⟩,
  ⟨0x110, 0x11F, 0x101, 0x101, 0x0, 0x0, .num 1, .rw, .ro, .no, .ro, .volatile, 0, .any, false⟩,
  ⟨0x110, 0x11F, 0x102, 0x102, 0x0, 0x0, .bool, .ro, .ro, .ro, .ro, .volatile, 0, .any, false⟩,
  ⟨0x110, 0x11F, 0x103, 0x103, 0x0, 0x0, .bool, .ro, .ro, .no, .ro, .volatile, 0, .any, false⟩]

/-- The objects of rule R564. -/
def objectsR564 : List Row := [
  ⟨0xC00, 0xC00, 0x16, 0x16, 0x0, 0x0, .num 8, .ro, .no, .ro, .ro, .volatile, 0, .any, false⟩,
  ⟨0xC00, 0xC00, 0x17, 0x17, 0x0, 0x0, .num 8, .ro, .no, .ro, .ro, .volatile, 0, .any, false⟩,
  ⟨0xC00, 0xC00, 0x18, 0x18, 0x0, 0x0, .num 8, .ro, .no, .ro, .ro, .volatile, 0, .any, false⟩,
  ⟨0xC00, 0xC00, 0x19, 0x19, 0x0, 0x0, .num 8, .ro, .no, .ro, .ro, .volatile, 0, .any, false⟩,
  ⟨0xC00, 0xC00, 0x1A, 0x1A, 0x0, 0x0, .num 8, .ro, .no, .ro, .ro, .volatile, 0, .any, false⟩,
  ⟨0xC00, 0xC00, 0x1B, 0x1B, 0x0, 0x0, .num 8, .ro, .no, .ro, .ro, .volatile, 0, .any, false⟩,
  ⟨0xC00, 0xC00, 0x100, 0x100, 0x0, 0x0, .num 8, .rw, .no, .ro, .ro, .profile, 0, .any, false⟩,
  ⟨0xC00, 0xC00, 0x101, 0x101, 0x0, 0x0, .num 1, .rw, .no, .ro, .ro, .profile, 0, .range 0 7, false⟩,
  ⟨0xC00, 0xC00, 0x102, 0x102, 0x0, 0x0, .num 1, .rw, .no, .ro, .ro, .profile, 0, .any, false⟩,
  ⟨0xC00, 0xC00, 0x103, 0x103, 0x0, 0x0, .num 1, .ro, .ro, .ro, .ro, .volatile, 0, .any, false⟩,
  ⟨0xC00, 0xC00, 0x104, 0x104, 0x0, 0x0, .num 1, .ro, .ro, .ro, .ro, .volatile, 0, .any, false⟩,
  ⟨0xC00, 0xC00, 0x105, 0x105, 0x0, 0x0, .bytes 16, .ro, .no, .ro, .ro, .volatile, 0, .any, false⟩,
  ⟨0xC00, 0xC00, 0x110, 0x110, 0x0, 0x0, .bytes 64, .ro, .ro, .ro, .ro, .volatile, 0, .any, false⟩,
  ⟨0xC00, 0xC00, 0x111, 0x111, 0x0, 0x0, .num 8, .ro, .ro, .ro, .ro, .volatile, 0, .any, false⟩,
  ⟨0xC00, 0xC00, 0x112, 0x112, 0x0, 0x0, .num 8, .ro, .ro, .ro, .ro, .volatile, 0, .any, false⟩,
  ⟨0xC00, 0xC00, 0x113, 0x113, 0x0, 0x0, .num 1, .rw, .no, .no, .rw, .volatile, 0, .any, false⟩,
  ⟨0xC00, 0xC00, 0x121, 0x121, 0x0, 0x0, .num 8, .rw, .no, .ro, .ro, .profile, 200000, .range 50000 10000000, true⟩,
  ⟨0xC00, 0xC00, 0x130, 0x130, 0x0, 0x1, .num 8, .rw, .no, .ro, .ro, .volatile, 0, .any, false⟩,
  ⟨0xC00, 0xC00, 0x140, 0x140, 0x0, 0x0, .bytes 16, .rw, .no, .no, .no, .volatile, 0, .any, false⟩,
  ⟨0xC00, 0xC00, 0x141, 0x141, 0x0, 0x0, .bytes 64, .ro, .no, .ro, .ro, .volatile, 0, .any, false⟩]

/-- The objects of rule R565. -/
def objectsR565 : List Row := [
  ⟨0xC10, 0xC13, 0x30, 0x30, 0x0, 0x0, .num 8, .ro, .no, .ro, .ro, .volatile, 0, .any, false⟩,
  ⟨0xC10, 0xC13, 0x31, 0x31, 0x0, 0x0, .num 8, .ro, .no, .ro, .ro, .volatile, 0, .any, false⟩,
  ⟨0xC10, 0xC13, 0x32, 0x32, 0x0, 0x0, .num 8, .ro, .no, .ro, .ro, .volatile, 0, .any, false⟩,
  ⟨0xC10, 0xC13, 0x33, 0x33, 0x0, 0x0, .num 8, .ro, .no, .ro, .ro, .volatile, 0, .any, false⟩,
  ⟨0xC10, 0xC13, 0x34, 0x34, 0x0, 0x0, .num 8, .ro, .no, .ro, .ro, .volatile, 0, .any, false⟩,
  ⟨0xC10, 0xC13, 0x35, 0x35, 0x0, 0x0, .num 8, .ro, .no, .ro, .ro, .volatile, 0, .any, false⟩,
  ⟨0xC10, 0xC13, 0x36, 0x36, 0x0, 0x0, .num 8, .ro, .no, .ro, .ro, .volatile, 0, .any, false⟩,
  ⟨0xC10, 0xC13, 0x37, 0x37, 0x0, 0x0, .num 8, .ro, .no, .ro, .ro, .volatile, 0, .any, false⟩,
  ⟨0xC10, 0xC13, 0x100, 0x100, 0x0, 0x0, .num 1, .ro, .ro, .ro, .ro, .volatile, 0, .any, false⟩,
  ⟨0xC10, 0xC13, 0x101, 0x101, 0x0, 0x0, .num 1, .ro, .no, .ro, .ro, .volatile, 0, .any, false⟩,
  ⟨0xC10, 0xC13, 0x102, 0x102, 0x0, 0x0, .num 2, .ro, .ro, .ro, .ro, .volatile, 65535, .any, false⟩]

/-- The objects of rule R583. -/
def objectsR583 : List Row := [
  ⟨0xD20, 0xD20, 0x16, 0x16, 0x0, 0x0, .num 8, .ro, .ro, .ro, .ro, .volatile, 0, .any, false⟩,
  ⟨0xD20, 0xD20, 0x17, 0x17, 0x0, 0x0, .num 8, .ro, .ro, .ro, .ro, .volatile, 0, .any, false⟩,
  ⟨0xD20, 0xD20, 0x18, 0x18, 0x0, 0x0, .num 8, .ro, .ro, .ro, .ro, .volatile, 0, .any, false⟩,
  ⟨0xD20, 0xD20, 0x19, 0x19, 0x0, 0x0, .num 8, .ro, .ro, .ro, .ro, .volatile, 0, .any, false⟩,
  ⟨0xD20, 0xD20, 0x1A, 0x1A, 0x0, 0x0, .num 8, .ro, .ro, .ro, .ro, .volatile, 0, .any, false⟩,
  ⟨0xD20, 0xD20, 0x1B, 0x1B, 0x0, 0x0, .num 8, .ro, .ro, .ro, .ro, .volatile, 0, .any, false⟩,
  ⟨0xD20, 0xD20, 0x1C, 0x1C, 0x0, 0x0, .num 8, .ro, .ro, .ro, .ro, .volatile, 0, .any, false⟩,
  ⟨0xD20, 0xD20, 0x100, 0x100, 0x0, 0x0, .num 1, .ro, .ro, .ro, .ro, .volatile, 7, .any, false⟩,
  ⟨0xD20, 0xD20, 0x101, 0x101, 0x0, 0x0, .num 1, .rw, .ro, .ro, .ro, .profile, 7, .range 0 7, true⟩,
  ⟨0xD20, 0xD20, 0x110, 0x110, 0x0, 0x3, .num 1, .rw, .no, .ro, .ro, .profile, 0, .range 0 10, true⟩,
  ⟨0xD20, 0xD20, 0x140, 0x140, 0x0, 0x0, .num 2, .rw, .ro, .ro, .ro, .profile, 350, .any, true⟩,
  ⟨0xD20, 0xD20, 0x140, 0x140, 0x1, 0x1, .num 4, .ro, .ro, .ro, .ro, .volatile, 0, .any, false⟩,
  ⟨0xD20, 0xD20, 0x140, 0x140, 0x2, 0x2, .num 4, .ro, .ro, .ro, .ro, .volatile, 0, .any, false⟩,
  ⟨0xD20, 0xD20, 0x140, 0x140, 0x3, 0x3, .num 4, .ro, .ro, .ro, .ro, .volatile, 0, .any, false⟩,
  ⟨0xD20, 0xD20, 0x150, 0x150, 0x0, 0x0, .bool, .rw, .no, .ro, .ro, .profile, 0, .any, true⟩,
  ⟨0xD20, 0xD20, 0x150, 0x150, 0x1, 0x1, .num 8, .rw, .no, .ro, .ro, .profile, 10000000000, .range 1000000 3600000000000, true⟩,
  ⟨0xD20, 0xD20, 0x150, 0x150, 0x2, 0x2, .num 4, .rw, .no, .ro, .ro, .profile, 4096, .any, true⟩,
  ⟨0xD20, 0xD20, 0x150, 0x150, 0x3, 0x3, .num 8, .rw, .no, .ro, .ro, .profile, 100000, .range 10000 100000000, true⟩,
  ⟨0xD20, 0xD20, 0x151, 0x151, 0x0, 0x0, .num 1, .ro, .ro, .ro, .ro, .volatile, 0, .any, false⟩,
  ⟨0xD20, 0xD20, 0x160, 0x160, 0x0, 0x3, .signed 1, .ro, .ro, .ro, .ro, .volatile, 0, .any, false⟩,
  ⟨0xD20, 0xD20, 0x161, 0x161, 0x0, 0x0, .signed 1, .rw, .no, .ro, .ro, .profile, 100, .range 85 105, true⟩,
  ⟨0xD20, 0xD20, 0x161, 0x161, 0x1, 0x1, .signed 1, .rw, .no, .ro, .ro, .profile, 110, .range 86 115, true⟩]

/-- The objects of rule R601. -/
def objectsR601 : List Row := [
  ⟨0x101, 0x102, 0x60, 0x60, 0x0, 0x0, .num 1, .rw, .no, .no, .ro, .volatile, 0, .range 0 3, false⟩,
  ⟨0x610, 0x617, 0x60, 0x60, 0x0, 0x0, .num 1, .rw, .no, .no, .ro, .volatile, 0, .range 0 3, false⟩,
  ⟨0xC10, 0xC13, 0x60, 0x60, 0x0, 0x0, .num 1, .rw, .no, .no, .ro, .volatile, 0, .range 0 3, false⟩,
  ⟨0xE00, 0xE00, 0x60, 0x60, 0x0, 0x0, .num 1, .rw, .no, .no, .ro, .volatile, 0, .range 0 3, false⟩,
  ⟨0x101, 0x102, 0x61, 0x61, 0x0, 0x0, .num 1, .rw, .no, .no, .ro, .volatile, 0, .range 0 1, false⟩,
  ⟨0x610, 0x617, 0x61, 0x61, 0x0, 0x0, .num 1, .rw, .no, .no, .ro, .volatile, 0, .range 0 1, false⟩,
  ⟨0xC10, 0xC13, 0x61, 0x61, 0x0, 0x0, .num 1, .rw, .no, .no, .ro, .volatile, 0, .range 0 1, false⟩,
  ⟨0xE00, 0xE00, 0x61, 0x61, 0x0, 0x0, .num 1, .rw, .no, .no, .ro, .volatile, 0, .range 0 1, false⟩,
  ⟨0x101, 0x102, 0x62, 0x62, 0x0, 0x0, .num 4, .rw, .no, .no, .ro, .volatile, 0, .any, false⟩,
  ⟨0x610, 0x617, 0x62, 0x62, 0x0, 0x0, .num 4, .rw, .no, .no, .ro, .volatile, 0, .any, false⟩,
  ⟨0xC10, 0xC13, 0x62, 0x62, 0x0, 0x0, .num 4, .rw, .no, .no, .ro, .volatile, 0, .any, false⟩,
  ⟨0xE00, 0xE00, 0x62, 0x62, 0x0, 0x0, .num 4, .rw, .no, .no, .ro, .volatile, 0, .any, false⟩,
  ⟨0x101, 0x102, 0x63, 0x63, 0x0, 0x0, .num 4, .rw, .no, .no, .ro, .volatile, 0, .any, false⟩,
  ⟨0x610, 0x617, 0x63, 0x63, 0x0, 0x0, .num 4, .rw, .no, .no, .ro, .volatile, 0, .any, false⟩,
  ⟨0xC10, 0xC13, 0x63, 0x63, 0x0, 0x0, .num 4, .rw, .no, .no, .ro, .volatile, 0, .any, false⟩,
  ⟨0xE00, 0xE00, 0x63, 0x63, 0x0, 0x0, .num 4, .rw, .no, .no, .ro, .volatile, 0, .any, false⟩,
  ⟨0x101, 0x102, 0x64, 0x64, 0x0, 0x0, .bytes 8, .rw, .no, .no, .ro, .volatile, 0, .any, false⟩,
  ⟨0x610, 0x617, 0x64, 0x64, 0x0, 0x0, .bytes 8, .rw, .no, .no, .ro, .volatile, 0, .any, false⟩,
  ⟨0xC10, 0xC13, 0x64, 0x64, 0x0, 0x0, .bytes 8, .rw, .no, .no, .ro, .volatile, 0, .any, false⟩,
  ⟨0xE00, 0xE00, 0x64, 0x64, 0x0, 0x0, .bytes 8, .rw, .no, .no, .ro, .volatile, 0, .any, false⟩,
  ⟨0x101, 0x102, 0x65, 0x65, 0x0, 0x0, .num 1, .rw, .no, .no, .ro, .volatile, 255, .any, false⟩,
  ⟨0x610, 0x617, 0x65, 0x65, 0x0, 0x0, .num 1, .rw, .no, .no, .ro, .volatile, 255, .any, false⟩,
  ⟨0xC10, 0xC13, 0x65, 0x65, 0x0, 0x0, .num 1, .rw, .no, .no, .ro, .volatile, 255, .any, false⟩,
  ⟨0xE00, 0xE00, 0x65, 0x65, 0x0, 0x0, .num 1, .rw, .no, .no, .ro, .volatile, 255, .any, false⟩,
  ⟨0x101, 0x102, 0x66, 0x66, 0x0, 0x0, .num 1, .rw, .no, .no, .ro, .volatile, 2, .range 2 16, false⟩,
  ⟨0x610, 0x617, 0x66, 0x66, 0x0, 0x0, .num 1, .rw, .no, .no, .ro, .volatile, 2, .range 2 16, false⟩,
  ⟨0xC10, 0xC13, 0x66, 0x66, 0x0, 0x0, .num 1, .rw, .no, .no, .ro, .volatile, 2, .range 2 16, false⟩,
  ⟨0xE00, 0xE00, 0x66, 0x66, 0x0, 0x0, .num 1, .rw, .no, .no, .ro, .volatile, 2, .range 2 16, false⟩,
  ⟨0x101, 0x102, 0x67, 0x67, 0x0, 0x0, .num 2, .rw, .no, .no, .ro, .volatile, 1, .any, false⟩,
  ⟨0x610, 0x617, 0x67, 0x67, 0x0, 0x0, .num 2, .rw, .no, .no, .ro, .volatile, 1, .any, false⟩,
  ⟨0xC10, 0xC13, 0x67, 0x67, 0x0, 0x0, .num 2, .rw, .no, .no, .ro, .volatile, 1, .any, false⟩,
  ⟨0xE00, 0xE00, 0x67, 0x67, 0x0, 0x0, .num 2, .rw, .no, .no, .ro, .volatile, 1, .any, false⟩,
  ⟨0x101, 0x102, 0x68, 0x68, 0x0, 0x0, .bool, .rw, .no, .no, .ro, .volatile, 0, .any, false⟩,
  ⟨0x610, 0x617, 0x68, 0x68, 0x0, 0x0, .bool, .rw, .no, .no, .ro, .volatile, 0, .any, false⟩,
  ⟨0xC10, 0xC13, 0x68, 0x68, 0x0, 0x0, .bool, .rw, .no, .no, .ro, .volatile, 0, .any, false⟩,
  ⟨0xE00, 0xE00, 0x68, 0x68, 0x0, 0x0, .bool, .rw, .no, .no, .ro, .volatile, 0, .any, false⟩,
  ⟨0x101, 0x102, 0x69, 0x69, 0x0, 0x0, .num 8, .ro, .no, .no, .ro, .volatile, 0, .any, false⟩,
  ⟨0x610, 0x617, 0x69, 0x69, 0x0, 0x0, .num 8, .ro, .no, .no, .ro, .volatile, 0, .any, false⟩,
  ⟨0xC10, 0xC13, 0x69, 0x69, 0x0, 0x0, .num 8, .ro, .no, .no, .ro, .volatile, 0, .any, false⟩,
  ⟨0xE00, 0xE00, 0x69, 0x69, 0x0, 0x0, .num 8, .ro, .no, .no, .ro, .volatile, 0, .any, false⟩,
  ⟨0x101, 0x102, 0x6A, 0x6A, 0x0, 0x0, .num 8, .ro, .no, .no, .ro, .volatile, 0, .any, false⟩,
  ⟨0x610, 0x617, 0x6A, 0x6A, 0x0, 0x0, .num 8, .ro, .no, .no, .ro, .volatile, 0, .any, false⟩,
  ⟨0xC10, 0xC13, 0x6A, 0x6A, 0x0, 0x0, .num 8, .ro, .no, .no, .ro, .volatile, 0, .any, false⟩,
  ⟨0xE00, 0xE00, 0x6A, 0x6A, 0x0, 0x0, .num 8, .ro, .no, .no, .ro, .volatile, 0, .any, false⟩,
  ⟨0x101, 0x102, 0x6B, 0x6B, 0x0, 0x0, .num 1, .ro, .no, .no, .ro, .volatile, 0, .any, false⟩,
  ⟨0x610, 0x617, 0x6B, 0x6B, 0x0, 0x0, .num 1, .ro, .no, .no, .ro, .volatile, 0, .any, false⟩,
  ⟨0xC10, 0xC13, 0x6B, 0x6B, 0x0, 0x0, .num 1, .ro, .no, .no, .ro, .volatile, 0, .any, false⟩,
  ⟨0xE00, 0xE00, 0x6B, 0x6B, 0x0, 0x0, .num 1, .ro, .no, .no, .ro, .volatile, 0, .any, false⟩]

/-- The objects of rule R604. -/
def objectsR604 : List Row := [
  ⟨0xF80, 0xF80, 0x16, 0x16, 0x0, 0x0, .num 8, .ro, .ro, .ro, .ro, .volatile, 0, .any, false⟩,
  ⟨0xF80, 0xF80, 0x17, 0x17, 0x0, 0x0, .num 8, .ro, .ro, .ro, .ro, .volatile, 0, .any, false⟩,
  ⟨0xF80, 0xF80, 0x18, 0x18, 0x0, 0x0, .num 8, .ro, .ro, .ro, .ro, .volatile, 0, .any, false⟩,
  ⟨0xF80, 0xF80, 0x19, 0x19, 0x0, 0x0, .num 8, .ro, .ro, .ro, .ro, .volatile, 0, .any, false⟩,
  ⟨0xF80, 0xF80, 0x1A, 0x1A, 0x0, 0x0, .num 8, .ro, .ro, .ro, .ro, .volatile, 0, .any, false⟩,
  ⟨0xF80, 0xF80, 0x1B, 0x1B, 0x0, 0x0, .num 8, .ro, .ro, .ro, .ro, .volatile, 0, .any, false⟩,
  ⟨0xF80, 0xF80, 0x1C, 0x1C, 0x0, 0x0, .num 8, .ro, .ro, .ro, .ro, .volatile, 0, .any, false⟩,
  ⟨0xF80, 0xF80, 0x100, 0x100, 0x0, 0x0, .num 4, .ro, .ro, .ro, .ro, .volatile, 0, .any, false⟩,
  ⟨0xF80, 0xF80, 0x101, 0x101, 0x0, 0x0, .num 1, .ro, .ro, .ro, .ro, .volatile, 0, .any, false⟩,
  ⟨0xF80, 0xF80, 0x140, 0x140, 0x0, 0x0, .bytes 262144, .ro, .ro, .ro, .ro, .volatile, 0, .any, false⟩,
  ⟨0xF80, 0xF80, 0x141, 0x141, 0x0, 0x0, .num 4, .ro, .ro, .ro, .ro, .volatile, 0, .any, false⟩,
  ⟨0xF80, 0xF80, 0x150, 0x150, 0x0, 0x0, .bytes 9437184, .ro, .ro, .ro, .ro, .volatile, 0, .any, false⟩,
  ⟨0xF80, 0xF80, 0x160, 0x160, 0x0, 0x0, .bytes 622608, .ro, .no, .ro, .ro, .fuse, 0, .any, false⟩,
  ⟨0xF80, 0xF80, 0x161, 0x161, 0x0, 0x0, .bytes 16384, .ro, .ro, .ro, .ro, .fuse, 0, .any, false⟩,
  ⟨0xF80, 0xF80, 0x170, 0x170, 0x0, 0x0, .num 1, .no, .no, .no, .rw, .volatile, 0, .any, false⟩]

/-- The objects of rule R605. -/
def objectsR605 : List Row := [
  ⟨0xD10, 0xD17, 0x30, 0x30, 0, 0, .num 8, .ro, .ro, .ro, .ro, .volatile, 0, .any, false⟩,
  ⟨0xD10, 0xD17, 0x100, 0x100, 0, 0, .num 8, .rw, .no, .ro, .ro, .profile, 200000, .range 100000 250000, true⟩,
  ⟨0xD10, 0xD17, 0x120, 0x123, 0, 0, .num 8, .no, .no, .no, .rw, .volatile, 0, .any, false⟩,
  ⟨0xD10, 0xD17, 0x124, 0x124, 0, 0, .num 1, .no, .no, .no, .rw, .volatile, 0, .any, false⟩,
  ⟨0xD10, 0xD17, 0x125, 0x125, 0, 0, .num 1, .no, .no, .no, .rw, .volatile, 0, .any, false⟩]

/-- The objects of rule R623. -/
def objectsR623 : List Row := [
  ⟨0xF00, 0xF00, 0x16, 0x16, 0x0, 0x0, .num 8, .ro, .ro, .ro, .ro, .volatile, 0, .any, false⟩,
  ⟨0xF00, 0xF00, 0x17, 0x17, 0x0, 0x0, .num 8, .ro, .ro, .ro, .ro, .volatile, 0, .any, false⟩,
  ⟨0xF00, 0xF00, 0x19, 0x19, 0x0, 0x0, .num 8, .ro, .ro, .ro, .ro, .volatile, 0, .any, false⟩,
  ⟨0xF00, 0xF00, 0x1A, 0x1A, 0x0, 0x0, .num 8, .ro, .ro, .ro, .ro, .volatile, 0, .any, false⟩,
  ⟨0xF00, 0xF00, 0x1B, 0x1B, 0x0, 0x0, .num 8, .ro, .ro, .ro, .ro, .volatile, 0, .any, false⟩,
  ⟨0xF00, 0xF00, 0x1C, 0x1C, 0x0, 0x0, .num 8, .ro, .ro, .ro, .ro, .volatile, 0, .any, false⟩,
  ⟨0xF00, 0xF00, 0x1D, 0x1D, 0x0, 0x0, .num 8, .ro, .ro, .ro, .ro, .volatile, 0, .any, false⟩,
  ⟨0xF00, 0xF00, 0x110, 0x110, 0x0, 0x0, .num 1, .ro, .ro, .ro, .ro, .volatile, 0, .any, false⟩,
  ⟨0xF00, 0xF00, 0x110, 0x110, 0x1, 0x1, .num 8, .ro, .ro, .ro, .ro, .volatile, 0, .any, false⟩,
  ⟨0xF00, 0xF00, 0x110, 0x110, 0x2, 0x2, .num 1, .ro, .ro, .ro, .ro, .volatile, 0, .any, false⟩,
  ⟨0xF00, 0xF00, 0x111, 0x111, 0x0, 0x0, .num 1, .rw, .no, .no, .rw, .volatile, 0, .any, false⟩,
  ⟨0xF00, 0xF00, 0x112, 0x112, 0x0, 0x0, .num 1, .rw, .no, .ro, .ro, .profile, 15, .range 0 15, true⟩,
  ⟨0xF00, 0xF00, 0x113, 0x113, 0x0, 0x0, .num 8, .rw, .no, .ro, .ro, .profile, 20000, .range 5000 1000000, true⟩,
  ⟨0xF00, 0xF00, 0x120, 0x120, 0x0, 0x0, .num 1, .rw, .no, .no, .rw, .volatile, 0, .any, false⟩,
  ⟨0xF00, 0xF00, 0x121, 0x121, 0x0, 0x0, .num 1, .ro, .no, .ro, .ro, .volatile, 0, .any, false⟩,
  ⟨0xF00, 0xF00, 0x122, 0x122, 0x0, 0x0, .num 1, .rw, .no, .ro, .ro, .profile, 7, .range 0 7, true⟩,
  ⟨0xF00, 0xF00, 0x140, 0x140, 0x0, 0x0, .bytes 131072, .ro, .ro, .ro, .ro, .volatile, 0, .any, false⟩,
  ⟨0xF00, 0xF00, 0x141, 0x141, 0x0, 0x0, .num 4, .ro, .ro, .ro, .ro, .volatile, 0, .any, false⟩,
  ⟨0xF00, 0xF00, 0x160, 0x160, 0x0, 0x0, .bytes 524288, .ro, .no, .no, .ro, .volatile, 0, .any, false⟩,
  ⟨0xF00, 0xF00, 0x170, 0x170, 0x0, 0x0, .bytes 4456448, .ro, .ro, .no, .ro, .volatile, 0, .any, false⟩,
  ⟨0xF00, 0xF00, 0x180, 0x180, 0x0, 0x0, .bytes 4096, .ro, .rw, .no, .ro, .volatile, 0, .any, false⟩,
  ⟨0xF00, 0xF00, 0x181, 0x181, 0x0, 0x0, .bytes 2048, .ro, .ro, .no, .ro, .volatile, 0, .any, false⟩]

/-- The objects of rule R624. -/
def objectsR624 : List Row := [
  ⟨0x0, 0xFFFF, 0x80, 0x80, 0x0, 0x0, .num 2, .rw, .rw, .no, .rw, .volatile, 0, .any, false⟩,
  ⟨0x0, 0xFFFF, 0x81, 0x81, 0x0, 0x0, .num 8, .rw, .rw, .no, .rw, .volatile, 1000, .range 100 10000000, false⟩,
  ⟨0x0, 0xFFFF, 0x82, 0x82, 0x0, 0x0, .num 8, .ro, .ro, .no, .ro, .volatile, 0, .any, false⟩,
  ⟨0x0, 0xFFFF, 0x83, 0x83, 0x0, 0x0, .num 8, .ro, .ro, .no, .ro, .volatile, 0, .any, false⟩,
  ⟨0x0, 0xFFFF, 0x88, 0x88, 0x0, 0x0, .bytes 384, .ro, .ro, .no, .ro, .volatile, 0, .any, false⟩]

/-- The objects of rule R644. -/
def objectsR644 : List Row := [
  ⟨0x0, 0x0, 0x170, 0x170, 0x0, 0x0, .num 1, .rw, .no, .ro, .rw, .profile, 0, .range 0 3, true⟩,
  ⟨0x0, 0x0, 0x170, 0x170, 0x1, 0x1, .num 1, .rw, .no, .ro, .rw, .profile, 0, .range 0 3, true⟩,
  ⟨0x0, 0x0, 0x170, 0x170, 0x2, 0x2, .num 1, .rw, .no, .ro, .rw, .profile, 0, .range 0 3, true⟩,
  ⟨0x0, 0x0, 0x172, 0x172, 0x0, 0x0, .num 1, .ro, .ro, .ro, .ro, .volatile, 0, .any, false⟩,
  ⟨0x0, 0x0, 0x173, 0x173, 0x0, 0x0, .num 1, .ro, .ro, .ro, .ro, .volatile, 0, .any, false⟩,
  ⟨0xE00, 0xE00, 0x140, 0x140, 0x0, 0x0, .bool, .rw, .no, .ro, .rw, .profile, 0, .any, true⟩]

/-- The objects of rule R355. -/
def objectsR355 : List Row := [
  ⟨0, 0, 0x131, 0x131, 0, 0, .num 1, .ro, .ro, .ro, .ro, .volatile, 0, .any, false⟩,
  ⟨0, 0, 0x132, 0x132, 0, 0, .bytes 256, .ro, .no, .ro, .ro, .volatile, 0, .any, false⟩,
  ⟨0x110, 0x11F, 0x180, 0x180, 0, 0, .bool, .ro, .rw, .no, .ro, .volatile, 0, .any, false⟩,
  ⟨0xB00, 0xB00, 0x120, 0x120, 0, 0, .bytes 24576, .ro, .no, .ro, .ro, .fuse, 0, .any, false⟩]

/-- The objects of rule R42. -/
def objectsR42 : List Row := [
  ⟨0x0, 0xFFFF, 0x0, 0x0, 0x0, 0x0, .num 2, .ro, .ro, .ro, .ro, .fuse, 0, .any, false⟩,
  ⟨0x0, 0xFFFF, 0x0, 0x0, 0x1, 0x1, .num 2, .ro, .ro, .ro, .ro, .fuse, 0, .any, false⟩,
  ⟨0x0, 0xFFFF, 0x0, 0x0, 0x2, 0x2, .bytes 16, .ro, .ro, .ro, .ro, .fuse, 0, .any, false⟩,
  ⟨0x0, 0xFFFF, 0x0, 0x0, 0x3, 0x3, .num 2, .ro, .ro, .ro, .ro, .fuse, 0, .any, false⟩,
  ⟨0x0, 0xFFFF, 0x0, 0x0, 0x4, 0x4, .num 4, .ro, .ro, .ro, .ro, .volatile, 0, .any, false⟩,
  ⟨0x0, 0xFFFF, 0x1, 0x1, 0x0, 0x0, .num 1, .rw, .rw, .ro, .ro, .profile, 1, .range 1 3, false⟩,
  ⟨0x0, 0xFFFF, 0x3, 0x3, 0x0, 0x0, .num 4, .ro, .ro, .ro, .ro, .volatile, 0, .any, false⟩,
  ⟨0x0, 0xFFFF, 0x4, 0x4, 0x0, 0x0, .num 8, .rw, .rw, .ro, .ro, .profile, 5000000, .any, false⟩,
  ⟨0x0, 0xFFFF, 0x5, 0x5, 0x0, 0x0, .num 1, .rw, .ro, .ro, .ro, .volatile, 255, .owner, false⟩,
  ⟨0x0, 0xFFFF, 0x6, 0x6, 0x0, 0x0, .num 2, .rw, .ro, .ro, .ro, .profile, 0, .any, false⟩,
  ⟨0x0, 0xFFFF, 0x10, 0x10, 0x0, 0x0, .num 8, .ro, .ro, .ro, .ro, .volatile, 0, .any, false⟩,
  ⟨0x0, 0xFFFF, 0x11, 0x11, 0x0, 0x0, .num 8, .ro, .ro, .ro, .ro, .volatile, 0, .any, false⟩,
  ⟨0x0, 0xFFFF, 0x12, 0x12, 0x0, 0x0, .num 8, .ro, .ro, .ro, .ro, .volatile, 0, .any, false⟩,
  ⟨0x0, 0xFFFF, 0x13, 0x13, 0x0, 0x0, .num 8, .ro, .ro, .ro, .ro, .volatile, 0, .any, false⟩,
  ⟨0x0, 0xFFFF, 0x14, 0x14, 0x0, 0x0, .num 8, .ro, .ro, .ro, .ro, .volatile, 0, .any, false⟩,
  ⟨0x0, 0xFFFF, 0x15, 0x15, 0x0, 0x0, .num 8, .ro, .ro, .ro, .ro, .volatile, 0, .any, false⟩,
  ⟨0x0, 0xFFFF, 0x16, 0x3F, 0x0, 0x0, .num 8, .ro, .ro, .ro, .ro, .volatile, 0, .any, false⟩,
  ⟨0x0, 0xFFFF, 0x40, 0x40, 0x0, 0x0, .num 2, .ro, .ro, .ro, .ro, .volatile, 0, .any, false⟩,
  ⟨0x0, 0xFFFF, 0x40, 0x40, 0x1, 0xFF, .num 2, .ro, .ro, .ro, .ro, .volatile, 0, .any, false⟩,
  ⟨0x0, 0xFFFF, 0x41, 0x41, 0x0, 0x0, .num 2, .ro, .ro, .ro, .ro, .fuse, 0, .any, false⟩,
  ⟨0x0, 0xFFFF, 0x2, 0x2, 0x0, 0x0, .num 1, .ro, .ro, .ro, .ro, .volatile, 0, .any, false⟩,
  ⟨0x0, 0xFFFF, 0x2, 0x2, 0x1, 0x1, .num 1, .ro, .ro, .ro, .ro, .volatile, 0, .any, false⟩,
  ⟨0x0, 0xFFFF, 0x2, 0x2, 0x2, 0x2, .num 2, .ro, .ro, .ro, .ro, .volatile, 0, .any, false⟩,
  ⟨0x0, 0xFFFF, 0x2, 0x2, 0x3, 0x3, .num 8, .ro, .ro, .ro, .ro, .volatile, 0, .any, false⟩,
  ⟨0x0, 0xFFFF, 0x2, 0x2, 0x4, 0x4, .num 1, .ro, .ro, .ro, .ro, .volatile, 0, .any, false⟩,
  ⟨0x0, 0xFFFF, 0x2, 0x2, 0x5, 0x5, .num 1, .ro, .ro, .ro, .ro, .volatile, 0, .any, false⟩,
  ⟨0x0, 0xFFFF, 0x2, 0x2, 0x6, 0x6, .num 4, .ro, .ro, .ro, .ro, .volatile, 0, .any, false⟩,
  ⟨0x0, 0xFFFF, 0x8, 0x8, 0x0, 0x0, .num 2, .ro, .ro, .ro, .ro, .volatile, 0, .any, false⟩,
  ⟨0x0, 0xFFFF, 0x8, 0x8, 0x1, 0x1, .num 8, .ro, .ro, .ro, .ro, .volatile, 0, .any, false⟩,
  ⟨0x0, 0xFFFF, 0x8, 0x8, 0x2, 0x2, .num 4, .ro, .ro, .ro, .ro, .volatile, 0, .any, false⟩,
  ⟨0x0, 0xFFFF, 0x8, 0x8, 0x3, 0x3, .num 4, .ro, .ro, .ro, .ro, .volatile, 0, .any, false⟩]

/-- Every object table, the template last. -/
def objectTables : List Row :=
  objectsR84 ++ objectsR85 ++ objectsR120 ++ objectsR158 ++ objectsR187 ++ objectsR222 ++ objectsR249 ++ objectsR250 ++ objectsR279 ++ objectsR280 ++ objectsR316 ++ objectsR354 ++ objectsR356 ++ objectsR391 ++ objectsR392 ++ objectsR456 ++ objectsR501 ++ objectsR502 ++ objectsR535 ++ objectsR536 ++ objectsR537 ++ objectsR564 ++ objectsR565 ++ objectsR583 ++ objectsR601 ++ objectsR604 ++ objectsR605 ++ objectsR623 ++ objectsR624 ++ objectsR644 ++ objectsR355 ++ objectsR42

/-- The row of a member of an object of a unit. -/
def rowOf (unit obj mem : Nat) : Option Row :=
  objectTables.find? (fun r => decide (r.uLo ≤ unit ∧ unit ≤ r.uHi ∧ r.oLo ≤ obj ∧ obj ≤ r.oHi ∧ r.mLo ≤ mem ∧ mem ≤ r.mHi))

/-- Whether a unit implements an object at all. -/
def hasObject (unit obj : Nat) : Bool :=
  objectTables.any (fun r => decide (r.uLo ≤ unit ∧ unit ≤ r.uHi ∧ r.oLo ≤ obj ∧ obj ≤ r.oHi))

end Sys2Proof.Machine
end

