-- ==== Sys2Proof/Syntax.lean ====
section
/-!
DEFINITION. The commands the block takes: who sends them, their operands, and one constructor for each row of the table.
-/
namespace Sys2Proof

/-- A thread of the compute complex: cluster, core within it, slot within the core (11 R357, 12 R396). -/
structure ThreadId where
  cluster : Fin 64
  core : Fin 4
  slot : Fin 16
deriving DecidableEq, Repr

/-- The path an Aqfort request comes by (02 R62, R68, R69). -/
inductive Path where
  /-- The management port: session identifier, sequence, and the 32-byte tag. -/
  | mgmt (session seq : U32) (tag : Bytes)
  /-- The CXL mailbox of an LD. -/
  | mailbox (ld : Fin 16)
  /-- The FM-owned LD, tunnelled by the fabric manager API. -/
  | fmLd
  /-- A span member that passes a request on: its number and the tag of its packet (R40). No command of the outside comes
  this way. -/
  | member (m : Fin 8) (tag : U32)
deriving DecidableEq, Repr

/-- What every Aqfort request carries beside its body: its path, the span member it names, and the expected state
generation when it comes as a WRITE_IF (02 R52, R62, R69). -/
structure Req where
  path : Path
  member : Byte
  gen : Option U32
deriving DecidableEq, Repr

/-- An extent of an Initiate Dynamic Capacity Add: its DPA extent number, and the tag of a shared extent (03 R90). -/
structure OfferExtent where
  dpa : Nat
  tag : Option Nat
deriving DecidableEq, Repr

/-- What a move requester asks of the mover: the tile's map index, the kind of R189, the destination tier and, for a
steep or a relocation, nothing more (06 R189, R191). -/
structure MoveAsk where
  mapIndex : Nat
  kind : Nat
  tier : Nat
deriving DecidableEq, Repr

/-- A bad byte of a granule as it is read: its index 0 to 71 and the bits it differs in. -/
structure ByteErr where
  index : Nat
  bits : Byte
deriving DecidableEq, Repr

/-- How a far sector comes back bad: it returns poison, or arrives with other bytes (07 R238). -/
structure FarBad where
  port : Fin 8
  chunk : Nat
  sector : Nat
  poison : Bool
  bits : Byte
deriving DecidableEq, Repr

/-- What enumeration reads of a far module (07 R223, R225, R250); `failed` names the row of R223 it fails, if any. -/
structure FarModuleInfo where
  capacity : Nat
  width : Nat
  rate : Nat
  vendor : U16
  device : U16
  serial : Bytes
  failed : Option Nat
deriving DecidableEq, Repr

/-- What the power manager measures in one control loop iteration (17 R576). -/
structure LoopSample where
  milliwatts : Nat
  /-- Temperatures in degrees of CD, MD0, MD1, XD and the hottest GDDR7 device. -/
  temps : List Int
deriving DecidableEq, Repr

/-- How a CXL.mem request comes: the LD it names and the leg that carries it (15 R505, R509). -/
structure HostPath where
  ld : Fin 16
  leg : Fin 2
deriving DecidableEq, Repr

/-- The levels of the four stream ports' read buffers, in sixteenths (14 R468). -/
structure StreamLevels where
  p0 : Fin 17
  p1 : Fin 17
  p2 : Fin 17
  p3 : Fin 17
deriving DecidableEq, Repr

/-- What a configuration request addresses: the configuration space, the window of BAR0, or the window of the expansion ROM
(15 R510, R516, R518). -/
inductive ReqSpace where
  | config
  | bar0
  | rom
deriving DecidableEq, Repr

/-- What asks for a freeze or a snapshot: a command, or one of the triggers of 19 R610 and R612 by its bit. -/
inductive TriggerCause where
  | command (r : Req)
  | trigger (bit : Nat)
deriving DecidableEq, Repr

/-- The commands of spec/opcode_table.json, one constructor for each row, the instructions of a thread first; each names the rule the table gives. -/
inductive Instr where
  /-- ADD, R401. -/
  | gAdd (t : ThreadId) (rd rs1 rs2 : BitVec 5)
  /-- SUB, R401. -/
  | gSub (t : ThreadId) (rd rs1 rs2 : BitVec 5)
  /-- AND, R401. -/
  | gAnd (t : ThreadId) (rd rs1 rs2 : BitVec 5)
  /-- OR, R401. -/
  | gOr (t : ThreadId) (rd rs1 rs2 : BitVec 5)
  /-- XOR, R401. -/
  | gXor (t : ThreadId) (rd rs1 rs2 : BitVec 5)
  /-- SLL, R401. -/
  | gSll (t : ThreadId) (rd rs1 rs2 : BitVec 5)
  /-- SRL, R401. -/
  | gSrl (t : ThreadId) (rd rs1 rs2 : BitVec 5)
  /-- SRA, R401. -/
  | gSra (t : ThreadId) (rd rs1 rs2 : BitVec 5)
  /-- SLT, R401. -/
  | gSlt (t : ThreadId) (rd rs1 rs2 : BitVec 5)
  /-- SLTU, R401. -/
  | gSltu (t : ThreadId) (rd rs1 rs2 : BitVec 5)
  /-- MIN, R401. -/
  | gMin (t : ThreadId) (rd rs1 rs2 : BitVec 5)
  /-- MAX, R401. -/
  | gMax (t : ThreadId) (rd rs1 rs2 : BitVec 5)
  /-- MINU, R401. -/
  | gMinu (t : ThreadId) (rd rs1 rs2 : BitVec 5)
  /-- MAXU, R401. -/
  | gMaxu (t : ThreadId) (rd rs1 rs2 : BitVec 5)
  /-- MUL, R401. -/
  | gMul (t : ThreadId) (rd rs1 rs2 : BitVec 5)
  /-- MULH, R401. -/
  | gMulh (t : ThreadId) (rd rs1 rs2 : BitVec 5)
  /-- MULHU, R401. -/
  | gMulhu (t : ThreadId) (rd rs1 rs2 : BitVec 5)
  /-- DIV, R402. -/
  | gDiv (t : ThreadId) (rd rs1 rs2 : BitVec 5)
  /-- DIVU, R402. -/
  | gDivu (t : ThreadId) (rd rs1 rs2 : BitVec 5)
  /-- REM, R402. -/
  | gRem (t : ThreadId) (rd rs1 rs2 : BitVec 5)
  /-- REMU, R402. -/
  | gRemu (t : ThreadId) (rd rs1 rs2 : BitVec 5)
  /-- CLZ, R401. -/
  | gClz (t : ThreadId) (rd rs1 rs2 : BitVec 5)
  /-- CTZ, R401. -/
  | gCtz (t : ThreadId) (rd rs1 rs2 : BitVec 5)
  /-- POPC, R401. -/
  | gPopc (t : ThreadId) (rd rs1 rs2 : BitVec 5)
  /-- ADDI, R403. -/
  | gAddi (t : ThreadId) (rd rs1 : BitVec 5) (imm : BitVec 12)
  /-- ANDI, R403. -/
  | gAndi (t : ThreadId) (rd rs1 : BitVec 5) (imm : BitVec 12)
  /-- ORI, R403. -/
  | gOri (t : ThreadId) (rd rs1 : BitVec 5) (imm : BitVec 12)
  /-- XORI, R403. -/
  | gXori (t : ThreadId) (rd rs1 : BitVec 5) (imm : BitVec 12)
  /-- SLLI, R403. -/
  | gSlli (t : ThreadId) (rd rs1 : BitVec 5) (imm : BitVec 12)
  /-- SRLI, R403. -/
  | gSrli (t : ThreadId) (rd rs1 : BitVec 5) (imm : BitVec 12)
  /-- SRAI, R403. -/
  | gSrai (t : ThreadId) (rd rs1 : BitVec 5) (imm : BitVec 12)
  /-- SLTI, R403. -/
  | gSlti (t : ThreadId) (rd rs1 : BitVec 5) (imm : BitVec 12)
  /-- LUI, R403. -/
  | gLui (t : ThreadId) (rd : BitVec 5) (imm : BitVec 20)
  /-- LB, R404. -/
  | gLb (t : ThreadId) (rd rs1 : BitVec 5) (imm : BitVec 12)
  /-- LH, R404. -/
  | gLh (t : ThreadId) (rd rs1 : BitVec 5) (imm : BitVec 12)
  /-- LW, R404. -/
  | gLw (t : ThreadId) (rd rs1 : BitVec 5) (imm : BitVec 12)
  /-- LD, R404. -/
  | gLd (t : ThreadId) (rd rs1 : BitVec 5) (imm : BitVec 12)
  /-- LBU, R404. -/
  | gLbu (t : ThreadId) (rd rs1 : BitVec 5) (imm : BitVec 12)
  /-- LHU, R404. -/
  | gLhu (t : ThreadId) (rd rs1 : BitVec 5) (imm : BitVec 12)
  /-- LWU, R404. -/
  | gLwu (t : ThreadId) (rd rs1 : BitVec 5) (imm : BitVec 12)
  /-- SB, R404. -/
  | gSb (t : ThreadId) (rd rs1 : BitVec 5) (imm : BitVec 12)
  /-- SH, R404. -/
  | gSh (t : ThreadId) (rd rs1 : BitVec 5) (imm : BitVec 12)
  /-- SW, R404. -/
  | gSw (t : ThreadId) (rd rs1 : BitVec 5) (imm : BitVec 12)
  /-- SD, R404. -/
  | gSd (t : ThreadId) (rd rs1 : BitVec 5) (imm : BitVec 12)
  /-- VLD, R404. -/
  | gVld (t : ThreadId) (vd : BitVec 4) (rs1 : BitVec 5) (pm : BitVec 3) (imm : BitVec 11)
  /-- VLDNT, R404. -/
  | gVldnt (t : ThreadId) (vd : BitVec 4) (rs1 : BitVec 5) (pm : BitVec 3) (imm : BitVec 11)
  /-- VST, R405. -/
  | gVst (t : ThreadId) (vd : BitVec 4) (rs1 : BitVec 5) (pm : BitVec 3) (imm : BitVec 11)
  /-- AADD, R406. -/
  | gAadd (t : ThreadId) (rd rs1 rs2 : BitVec 5) (order size : BitVec 2)
  /-- AAND, R406. -/
  | gAand (t : ThreadId) (rd rs1 rs2 : BitVec 5) (order size : BitVec 2)
  /-- AOR, R406. -/
  | gAor (t : ThreadId) (rd rs1 rs2 : BitVec 5) (order size : BitVec 2)
  /-- AXOR, R406. -/
  | gAxor (t : ThreadId) (rd rs1 rs2 : BitVec 5) (order size : BitVec 2)
  /-- AMIN, R406. -/
  | gAmin (t : ThreadId) (rd rs1 rs2 : BitVec 5) (order size : BitVec 2)
  /-- AMAX, R406. -/
  | gAmax (t : ThreadId) (rd rs1 rs2 : BitVec 5) (order size : BitVec 2)
  /-- AMINU, R406. -/
  | gAminu (t : ThreadId) (rd rs1 rs2 : BitVec 5) (order size : BitVec 2)
  /-- AMAXU, R406. -/
  | gAmaxu (t : ThreadId) (rd rs1 rs2 : BitVec 5) (order size : BitVec 2)
  /-- ASWAP, R406. -/
  | gAswap (t : ThreadId) (rd rs1 rs2 : BitVec 5) (order size : BitVec 2)
  /-- ACAS, R406. -/
  | gAcas (t : ThreadId) (rd rs1 rs2 : BitVec 5) (order size : BitVec 2)
  /-- AFADD, R406. -/
  | gAfadd (t : ThreadId) (rd rs1 rs2 : BitVec 5) (order size : BitVec 2)
  /-- FENCE, R408. -/
  | gFence (t : ThreadId) (scope kind : BitVec 2)
  /-- VADD, R410. -/
  | gVadd (t : ThreadId) (vd vs1 vs2 : BitVec 4) (pm ty : BitVec 3) (rm : Bool)
  /-- VSUB, R410. -/
  | gVsub (t : ThreadId) (vd vs1 vs2 : BitVec 4) (pm ty : BitVec 3) (rm : Bool)
  /-- VMUL, R410. -/
  | gVmul (t : ThreadId) (vd vs1 vs2 : BitVec 4) (pm ty : BitVec 3) (rm : Bool)
  /-- VFMA, R410. -/
  | gVfma (t : ThreadId) (vd vs1 vs2 : BitVec 4) (pm ty : BitVec 3) (rm : Bool)
  /-- VFNMA, R410. -/
  | gVfnma (t : ThreadId) (vd vs1 vs2 : BitVec 4) (pm ty : BitVec 3) (rm : Bool)
  /-- VMIN, R410. -/
  | gVmin (t : ThreadId) (vd vs1 vs2 : BitVec 4) (pm ty : BitVec 3) (rm : Bool)
  /-- VMAX, R410. -/
  | gVmax (t : ThreadId) (vd vs1 vs2 : BitVec 4) (pm ty : BitVec 3) (rm : Bool)
  /-- VDIV, R410. -/
  | gVdiv (t : ThreadId) (vd vs1 vs2 : BitVec 4) (pm ty : BitVec 3) (rm : Bool)
  /-- VSQRT, R410. -/
  | gVsqrt (t : ThreadId) (vd vs1 vs2 : BitVec 4) (pm ty : BitVec 3) (rm : Bool)
  /-- VRCP, R410. -/
  | gVrcp (t : ThreadId) (vd vs1 vs2 : BitVec 4) (pm ty : BitVec 3) (rm : Bool)
  /-- VRSQRT, R410. -/
  | gVrsqrt (t : ThreadId) (vd vs1 vs2 : BitVec 4) (pm ty : BitVec 3) (rm : Bool)
  /-- VEXP2, R410. -/
  | gVexp2 (t : ThreadId) (vd vs1 vs2 : BitVec 4) (pm ty : BitVec 3) (rm : Bool)
  /-- VLOG2, R410. -/
  | gVlog2 (t : ThreadId) (vd vs1 vs2 : BitVec 4) (pm ty : BitVec 3) (rm : Bool)
  /-- VSINPI, R410. -/
  | gVsinpi (t : ThreadId) (vd vs1 vs2 : BitVec 4) (pm ty : BitVec 3) (rm : Bool)
  /-- VCOSPI, R410. -/
  | gVcospi (t : ThreadId) (vd vs1 vs2 : BitVec 4) (pm ty : BitVec 3) (rm : Bool)
  /-- VTANH, R410. -/
  | gVtanh (t : ThreadId) (vd vs1 vs2 : BitVec 4) (pm ty : BitVec 3) (rm : Bool)
  /-- VCVT, R412. -/
  | gVcvt (t : ThreadId) (vd vs1 vs2 : BitVec 4) (pm ty : BitVec 3) (rm : Bool)
  /-- VSEL, R410. -/
  | gVsel (t : ThreadId) (vd vs1 vs2 : BitVec 4) (pm ty : BitVec 3) (rm : Bool)
  /-- VPERM, R410. -/
  | gVperm (t : ThreadId) (vd vs1 vs2 : BitVec 4) (pm ty : BitVec 3) (rm : Bool)
  /-- VREDADD, R411. -/
  | gVredadd (t : ThreadId) (vd vs1 vs2 : BitVec 4) (pm ty : BitVec 3) (rm : Bool)
  /-- VREDMAX, R411. -/
  | gVredmax (t : ThreadId) (vd vs1 vs2 : BitVec 4) (pm ty : BitVec 3) (rm : Bool)
  /-- VREDMIN, R411. -/
  | gVredmin (t : ThreadId) (vd vs1 vs2 : BitVec 4) (pm ty : BitVec 3) (rm : Bool)
  /-- VAND, R410. -/
  | gVand (t : ThreadId) (vd vs1 vs2 : BitVec 4) (pm ty : BitVec 3) (rm : Bool)
  /-- VOR, R410. -/
  | gVor (t : ThreadId) (vd vs1 vs2 : BitVec 4) (pm ty : BitVec 3) (rm : Bool)
  /-- VXOR, R410. -/
  | gVxor (t : ThreadId) (vd vs1 vs2 : BitVec 4) (pm ty : BitVec 3) (rm : Bool)
  /-- VSLL, R410. -/
  | gVsll (t : ThreadId) (vd vs1 vs2 : BitVec 4) (pm ty : BitVec 3) (rm : Bool)
  /-- VSRL, R410. -/
  | gVsrl (t : ThreadId) (vd vs1 vs2 : BitVec 4) (pm ty : BitVec 3) (rm : Bool)
  /-- VSRA, R410. -/
  | gVsra (t : ThreadId) (vd vs1 vs2 : BitVec 4) (pm ty : BitVec 3) (rm : Bool)
  /-- VSADD, R410. -/
  | gVsadd (t : ThreadId) (vd vs1 vs2 : BitVec 4) (pm ty : BitVec 3) (rm : Bool)
  /-- VSSUB, R410. -/
  | gVssub (t : ThreadId) (vd vs1 vs2 : BitVec 4) (pm ty : BitVec 3) (rm : Bool)
  /-- VCMPEQ, R411. -/
  | gVcmpeq (t : ThreadId) (vd vs1 vs2 : BitVec 4) (pm ty : BitVec 3) (rm : Bool)
  /-- VCMPLT, R411. -/
  | gVcmplt (t : ThreadId) (vd vs1 vs2 : BitVec 4) (pm ty : BitVec 3) (rm : Bool)
  /-- VCMPLE, R411. -/
  | gVcmple (t : ThreadId) (vd vs1 vs2 : BitVec 4) (pm ty : BitVec 3) (rm : Bool)
  /-- VCMPUN, R411. -/
  | gVcmpun (t : ThreadId) (vd vs1 vs2 : BitVec 4) (pm ty : BitVec 3) (rm : Bool)
  /-- VCMPLTU, R411. -/
  | gVcmpltu (t : ThreadId) (vd vs1 vs2 : BitVec 4) (pm ty : BitVec 3) (rm : Bool)
  /-- VABS, R410. -/
  | gVabs (t : ThreadId) (vd vs1 vs2 : BitVec 4) (pm ty : BitVec 3) (rm : Bool)
  /-- VNEG, R410. -/
  | gVneg (t : ThreadId) (vd vs1 vs2 : BitVec 4) (pm ty : BitVec 3) (rm : Bool)
  /-- VADDX, R413. -/
  | gVaddx (t : ThreadId) (vd vs1 : BitVec 4) (rs2 : BitVec 5) (pm ty : BitVec 3)
  /-- VSUBX, R413. -/
  | gVsubx (t : ThreadId) (vd vs1 : BitVec 4) (rs2 : BitVec 5) (pm ty : BitVec 3)
  /-- VMULX, R413. -/
  | gVmulx (t : ThreadId) (vd vs1 : BitVec 4) (rs2 : BitVec 5) (pm ty : BitVec 3)
  /-- VFMAX, R413. -/
  | gVfmax (t : ThreadId) (vd vs1 : BitVec 4) (rs2 : BitVec 5) (pm ty : BitVec 3)
  /-- VBCAST, R413. -/
  | gVbcast (t : ThreadId) (vd vs1 : BitVec 4) (rs2 : BitVec 5) (pm ty : BitVec 3)
  /-- VINS, R413. -/
  | gVins (t : ThreadId) (vd vs1 : BitVec 4) (rs2 : BitVec 5) (pm ty : BitVec 3)
  /-- VEXT, R413. -/
  | gVext (t : ThreadId) (vd vs1 : BitVec 4) (rs2 : BitVec 5) (pm ty : BitVec 3)
  /-- VSLDN, R413. -/
  | gVsldn (t : ThreadId) (vd vs1 : BitVec 4) (rs2 : BitVec 5) (pm ty : BitVec 3)
  /-- VSLUP, R413. -/
  | gVslup (t : ThreadId) (vd vs1 : BitVec 4) (rs2 : BitVec 5) (pm ty : BitVec 3)
  /-- VIOTA, R413. -/
  | gViota (t : ThreadId) (vd vs1 : BitVec 4) (rs2 : BitVec 5) (pm ty : BitVec 3)
  /-- PAND, R414. -/
  | gPand (t : ThreadId) (pd ps1 ps2 : BitVec 3) (rs : BitVec 5)
  /-- POR, R414. -/
  | gPor (t : ThreadId) (pd ps1 ps2 : BitVec 3) (rs : BitVec 5)
  /-- PXOR, R414. -/
  | gPxor (t : ThreadId) (pd ps1 ps2 : BitVec 3) (rs : BitVec 5)
  /-- PANDN, R414. -/
  | gPandn (t : ThreadId) (pd ps1 ps2 : BitVec 3) (rs : BitVec 5)
  /-- PFROMX, R414. -/
  | gPfromx (t : ThreadId) (pd ps1 ps2 : BitVec 3) (rs : BitVec 5)
  /-- PTOX, R414. -/
  | gPtox (t : ThreadId) (pd ps1 ps2 : BitVec 3) (rs : BitVec 5)
  /-- AMMA, R421. -/
  | gAmma (t : ThreadId) (acc : BitVec 3) (rs1 rs2 : BitVec 5) (bank : Bool) (mode : BitVec 3) (flags : BitVec 4)
  /-- AZERO, R421. -/
  | gAzero (t : ThreadId) (acc : BitVec 3) (rs1 rs2 : BitVec 5) (bank : Bool) (mode : BitVec 3) (flags : BitVec 4)
  /-- AREAD, R421. -/
  | gAread (t : ThreadId) (acc : BitVec 3) (rs1 rs2 : BitVec 5) (bank : Bool) (mode : BitVec 3) (flags : BitVec 4)
  /-- AWAIT, R421. -/
  | gAwait (t : ThreadId) (acc : BitVec 3) (rs1 rs2 : BitVec 5) (bank : Bool) (mode : BitVec 3) (flags : BitVec 4)
  /-- ALUT, R423. -/
  | gAlut (t : ThreadId) (acc : BitVec 3) (rs1 rs2 : BitVec 5) (bank : Bool) (mode : BitVec 3) (flags : BitVec 4)
  /-- TFRAW, R424. -/
  | gTfraw (t : ThreadId) (rs1 rs2 : BitVec 5) (bank : Bool)
  /-- TFFR, R425. -/
  | gTffr (t : ThreadId) (rs1 rs2 : BitVec 5) (bank : Bool)
  /-- BAR, R427. -/
  | gBar (t : ThreadId) (rd rs1 rs2 : BitVec 5) (imm : BitVec 6)
  /-- POSWAIT, R426. -/
  | gPoswait (t : ThreadId) (rd rs1 rs2 : BitVec 5) (imm : BitVec 6)
  /-- POSADV, R428. -/
  | gPosadv (t : ThreadId) (rd rs1 rs2 : BitVec 5) (imm : BitVec 6)
  /-- MVREQ, R429. -/
  | gMvreq (t : ThreadId) (rd rs1 rs2 : BitVec 5) (imm : BitVec 6)
  /-- MVWAIT, R426. -/
  | gMvwait (t : ThreadId) (rd rs1 rs2 : BitVec 5) (imm : BitVec 6)
  /-- WAITNE, R426. -/
  | gWaitne (t : ThreadId) (rd rs1 rs2 : BitVec 5) (imm : BitVec 6)
  /-- BEQ, R431. -/
  | gBeq (t : ThreadId) (rs1 rs2 : BitVec 5) (off : BitVec 12)
  /-- BNE, R431. -/
  | gBne (t : ThreadId) (rs1 rs2 : BitVec 5) (off : BitVec 12)
  /-- BLT, R431. -/
  | gBlt (t : ThreadId) (rs1 rs2 : BitVec 5) (off : BitVec 12)
  /-- BGE, R431. -/
  | gBge (t : ThreadId) (rs1 rs2 : BitVec 5) (off : BitVec 12)
  /-- BLTU, R431. -/
  | gBltu (t : ThreadId) (rs1 rs2 : BitVec 5) (off : BitVec 12)
  /-- BGEU, R431. -/
  | gBgeu (t : ThreadId) (rs1 rs2 : BitVec 5) (off : BitVec 12)
  /-- JAL, R431. -/
  | gJal (t : ThreadId) (rd : BitVec 5) (imm : BitVec 20)
  /-- JALR, R431. -/
  | gJalr (t : ThreadId) (rd rs1 : BitVec 5) (imm : BitVec 12)
  /-- SRR, R396. -/
  | gSrr (t : ThreadId) (rd rs1 : BitVec 5) (imm : BitVec 12)
  /-- SRW, R396. -/
  | gSrw (t : ThreadId) (rd rs1 : BitVec 5) (imm : BitVec 12)
  /-- EXIT, R431. -/
  | gExit (t : ThreadId) (rd rs1 : BitVec 5) (imm : BitVec 12)
  /-- NOP, R431. -/
  | gNop (t : ThreadId) (rd rs1 : BitVec 5) (imm : BitVec 12)
  /-- STOP, R431. -/
  | gStop (t : ThreadId) (rd rs1 : BitVec 5) (imm : BitVec 12)
  /-- IFLUSH, R432. -/
  | gIflush (t : ThreadId) (rd rs1 : BitVec 5) (imm : BitVec 12)
  /-- HELLO, R70. -/
  | hello (r : Req)
  /-- OPEN, R70. -/
  | openReq (r : Req) (role : Byte) (reserved cipher sig : Bytes)
  /-- CLOSE, R69. -/
  | closeReq (r : Req)
  /-- READ, R69. -/
  | read (r : Req) (unit obj : U16) (mem : Byte) (off : U32) (len : U16)
  /-- WRITE, R61. -/
  | write (r : Req) (unit obj : U16) (mem : Byte) (off : U32) (len : U16) (data : Bytes)
  /-- WRITE_IF, R52. -/
  | writeIf (r : Req) (unit obj : U16) (mem : Byte) (off : U32) (len : U16) (gen : U32) (data : Bytes)
  /-- PROFILE_STORE, R81. -/
  | profileStore (r : Req) (profile : Byte) (readBack1 readBack2 : Bool)
  /-- PROFILE_APPLY, R82. -/
  | profileApply (r : Req) (profile : Byte)
  /-- SESSION_IDLE_TIMEOUT, R71. -/
  | sessionIdleTimeout (session : U32)
  /-- REQUESTED_STATE_WRITE, R50. -/
  | requestedStateWrite (r : Req) (unit : U16) (value : Byte)
  /-- DRAIN_COMPLETE, R50. -/
  | drainComplete (unit : U16)
  /-- DIVERGENCE_LIMIT_REACHED, R54. -/
  | divergenceLimitReached (unit : U16)
  /-- INITIATE_DYNAMIC_CAPACITY_ADD, R90. -/
  | initiateDynamicCapacityAdd (ld : Fin 16) (extents : List OfferExtent)
  /-- ADD_DYNAMIC_CAPACITY_RESPONSE, R92. -/
  | addDynamicCapacityResponse (ld : Fin 16) (accepted : List Nat)
  /-- RELEASE_DYNAMIC_CAPACITY, R93. -/
  | releaseDynamicCapacity (ld : Fin 16) (extents : List Nat)
  /-- FORCED_RELEASE, R651. -/
  | forcedRelease (ld : Fin 16) (extents : List Nat)
  /-- EXTENT_RELEASE_COMPLETE, R94. -/
  | extentReleaseComplete (ld : Fin 16) (extent : Nat)
  /-- CREATE, R100. -/
  | regionCreate (r : Req) (cmd : Bytes)
  /-- MODIFY, R100. -/
  | regionModify (r : Req) (cmd : Bytes)
  /-- DELETE, R102. -/
  | regionDelete (r : Req) (cmd : Bytes)
  /-- DISCARD, R102. -/
  | regionDiscard (r : Req) (cmd : Bytes)
  /-- DISCARDED_HOME_FREE, R102. -/
  | discardedHomeFree (index : Nat)
  /-- HOST_READ, R188. -/
  | hostRead (path : HostPath) (hpa : U64) (tag : U16)
  /-- HOST_WRITE, R28. -/
  | hostWrite (path : HostPath) (hpa : U64) (mask : U64) (data : Bytes) (tag : U16)
  /-- FR_WRITE_MERGE, R466. -/
  | frWriteMerge (ch : Fin 32)
  /-- HELD_WRITE_RELEASE, R114. -/
  | heldWriteRelease (ld : Fin 16)
  /-- AGING_EPOCH_TICK, R200. -/
  | agingEpochTick
  /-- AGING_SCAN, R202. -/
  | agingScan (mapIndex : Nat)
  /-- FR_TABLE_COMMIT, R146. -/
  | frTableCommit (r : Req) (slot : Fin 64)
  /-- FR_DEFAULT_TABLE_LOAD, R146. -/
  | frDefaultTableLoad (r : Req) (slot : Fin 64) (value : Byte)
  /-- FR_SLOT_OWNER_WRITE, R150. -/
  | frSlotOwnerWrite (r : Req) (slot : Fin 64) (value : Byte)
  /-- LL_TABLE_COMMIT, R177. -/
  | llTableCommit (r : Req) (slot : Fin 64) (value : Byte)
  /-- LL_SLOT_OWNER_WRITE, R177. -/
  | llSlotOwnerWrite (r : Req) (slot : Fin 64) (value : Byte)
  /-- RECODE_START, R155. -/
  | recodeStart (r : Req) (region : U16) (rest : Bytes)
  /-- RECODE_CANCEL, R155. -/
  | recodeCancel (r : Req) (region : U16) (rest : Bytes)
  /-- LL_RECODE_START, R179. -/
  | llRecodeStart (r : Req) (region : U16) (rest : Bytes)
  /-- LL_RECODE_CANCEL, R179. -/
  | llRecodeCancel (r : Req) (region : U16) (rest : Bytes)
  /-- ALLOC, R191. -/
  | moveAlloc (ask : MoveAsk)
  /-- COPY, R191. -/
  | moveCopy (record : Nat)
  /-- CONFIRM, R192. -/
  | moveConfirm (record : Nat)
  /-- T3_READ_RETRY, R208. -/
  | t3ReadRetry (ld : Fin 16) (page : Nat) (ok : Bool)
  /-- T3_REACHABLE_AGAIN, R209. -/
  | t3ReachableAgain (ld : Fin 16)
  /-- EVACUATION_COMPLETE, R212. -/
  | evacuationComplete
  /-- POLICY_MODE_WRITE, R214. -/
  | policyModeWrite (r : Req) (ld : Fin 16) (value : Byte)
  /-- MOVE, R215. -/
  | mvMove (j : Nat) (q : Bytes)
  /-- COUNT, R215. -/
  | mvCount (j : Nat) (q : Bytes)
  /-- ENCODE, R215. -/
  | mvEncode (j : Nat) (q : Bytes)
  /-- DECODE, R215. -/
  | mvDecode (j : Nat) (q : Bytes)
  /-- ENCIPHER, R215. -/
  | mvEncipher (j : Nat) (q : Bytes)
  /-- COMPARE, R215. -/
  | mvCompare (j : Nat) (q : Bytes)
  /-- MOVER_COMPLETION, R216. -/
  | moverCompletion (index : Nat)
  /-- FAR_PRESENCE_STABLE, R632. -/
  | farPresenceStable (port : Fin 8)
  /-- FAR_LINK_TRAINING_TIMEOUT, R225. -/
  | farLinkTrainingTimeout (port : Fin 8)
  /-- FAR_MEMORY_ACTIVE, R225. -/
  | farMemoryActive (port : Fin 8) (m : FarModuleInfo)
  /-- FAR_MODULE_REMOVED, R632. -/
  | farModuleRemoved (port : Fin 8)
  /-- FLUSH_TIMEOUT, R234. -/
  | flushTimeout (stream : Fin 18)
  /-- STRIPE_WRITE_ACK, R235. -/
  | stripeWriteAck (stripe : Nat)
  /-- SEGMENT_SEAL, R235. -/
  | segmentSeal (segment : Nat)
  /-- CHUNK_WRITE_FAILURE, R236. -/
  | chunkWriteFailure (stripe : Nat) (port : Fin 8)
  /-- FAR_SECTOR_READ_COMPLETE, R237. -/
  | farSectorReadComplete (access : Nat) (bad : List FarBad)
  /-- FAR_LINK_DOWN, R239. -/
  | farLinkDown (port : Fin 8)
  /-- FAR_COMPLETION_TIMEOUT, R239. -/
  | farCompletionTimeout (port : Fin 8)
  /-- CLEANING_COPY, R242. -/
  | cleaningCopy
  /-- CLEANING_FLIP, R243. -/
  | cleaningFlip (index : Nat)
  /-- SEGMENT_FREE, R244. -/
  | segmentFree (segment : Nat)
  /-- POSITION_ADVANCE, R254. -/
  | positionAdvance (ld : Fin 16) (cadence : Fin 64) (pos : U64)
  /-- REWIND, R256. -/
  | rewind (ld : Fin 16) (cadence : Fin 64) (pos : U64)
  /-- CADENCE_MODE_WRITE, R253. -/
  | cadenceModeWrite (r : Req) (cadence : Fin 64) (value : Byte)
  /-- SCHEDULE_ENTRY_ARM, R265. -/
  | scheduleEntryArm (r : Req) (entry : Nat) (bytes : Bytes)
  /-- SCHEDULE_ENTRY_DISARM, R265. -/
  | scheduleEntryDisarm (r : Req) (entry : Nat) (bytes : Bytes)
  /-- ATTACH, R288. -/
  | instarAttach (r : Req) (cmd : Bytes)
  /-- DETACH, R293. -/
  | instarDetach (r : Req) (cmd : Bytes)
  /-- ADVANCE, R292. -/
  | instarAdvance (r : Req) (cmd : Bytes)
  /-- PUBLISH, R296. -/
  | instarPublish (r : Req) (cmd : Bytes)
  /-- REVERT, R292. -/
  | instarRevert (r : Req) (cmd : Bytes)
  /-- LIST_CONFLICTS, R298. -/
  | listConflicts (r : Req) (cmd : Bytes)
  /-- SALVAGE_REATTACH, R310. -/
  | salvageReattach (r : Req) (cmd : Bytes)
  /-- SALVAGE_DISCARD, R309. -/
  | salvageDiscard (r : Req) (cmd : Bytes)
  /-- FORCE_DETACH, R313. -/
  | forceDetach (r : Req) (cmd : Bytes)
  /-- SALVAGE_EXPIRY, R309. -/
  | salvageExpiry (attachment : Nat)
  /-- VERSION_SPACE_FREED, R306. -/
  | versionSpaceFreed (region : Nat)
  /-- SHARED_REGION_ENTRY_WRITE, R311. -/
  | sharedRegionEntryWrite (r : Req) (off : U32) (data : Bytes)
  /-- CREATE_REGION_KEY, R329. -/
  | createRegionKey (r : Req) (cmd : Bytes)
  /-- ERASE, R330. -/
  | keyErase (r : Req) (cmd : Bytes)
  /-- SET_USE_MASK, R329. -/
  | setUseMask (r : Req) (cmd : Bytes)
  /-- DESTROY, R329. -/
  | keyDestroy (r : Req) (cmd : Bytes)
  /-- SHADOW_ZEROISE, R330. -/
  | shadowZeroise (slot : Nat)
  /-- ERASE_SWEEP_STEP, R331. -/
  | eraseSweepStep (slot : Nat)
  /-- ENTROPY_HEALTH_FAILURE, R325. -/
  | entropyHealthFailure
  /-- QOS_MODE_WRITE, R338. -/
  | qosModeWrite (r : Req) (value : Byte)
  /-- QOS_MODE_IN_FORCE, R338. -/
  | qosModeInForce
  /-- INJECTION_ARMING, R340. -/
  | injectionArming (r : Req) (unit : U16) (value : Byte)
  /-- TRIAL_BOOT_TIMEOUT, R346. -/
  | trialBootTimeout
  /-- STAGING_WRITE, R349. -/
  | stagingWrite (r : Req) (mem : Byte) (off : U32) (data : Bytes)
  /-- VERIFY, R349. -/
  | verify (r : Req)
  /-- VERIFY_COMPLETE, R349. -/
  | verifyComplete
  /-- ACTIVATE_AT_RESET, R350. -/
  | activateAtReset (r : Req)
  /-- ACTIVATE_LIVE, R352. -/
  | activateLive (r : Req)
  /-- COMMIT_SECURITY_VERSION, R353. -/
  | commitSecurityVersion (r : Req)
  /-- CANCEL, R351. -/
  | updateCancel (r : Req)
  /-- REVOKE_KEY_0, R353. -/
  | revokeKey0 (r : Req)
  /-- GET_VERSION, R348. -/
  | getVersion (ld : Fin 16) (req : Bytes)
  /-- GET_CAPABILITIES, R348. -/
  | getCapabilities (ld : Fin 16) (req : Bytes)
  /-- NEGOTIATE_ALGORITHMS, R348. -/
  | negotiateAlgorithms (ld : Fin 16) (req : Bytes)
  /-- GET_DIGESTS, R348. -/
  | getDigests (ld : Fin 16) (req : Bytes)
  /-- GET_CERTIFICATE, R348. -/
  | getCertificate (ld : Fin 16) (req : Bytes)
  /-- CHALLENGE, R348. -/
  | challenge (ld : Fin 16) (req : Bytes)
  /-- GET_MEASUREMENTS, R348. -/
  | getMeasurements (ld : Fin 16) (req : Bytes)
  /-- KEY_EXCHANGE, R515. -/
  | keyExchange (ld : Fin 16) (req : Bytes)
  /-- IDE_KM, R515. -/
  | ideKm (ld : Fin 16) (req : Bytes)
  /-- CLUSTER_ASSIGNMENT_WRITE, R367. -/
  | clusterAssignmentWrite (r : Req) (cluster : Fin 64) (value : Byte)
  /-- HOME_BLOCKS_WRITE, R367. -/
  | homeBlocksWrite (r : Req) (cluster : Fin 64) (value : U16)
  /-- SCRUB_COMPLETE, R368. -/
  | scrubComplete (cluster : Fin 64)
  /-- CLUSTER_CLOCK_STOP, R575. -/
  | clusterClockStop (cluster : Fin 64)
  /-- THREAD_LOAD_COMPLETE, R362. -/
  | threadLoadComplete (load : Nat) (data : Option Bytes)
  /-- ARRAY_QUEUE_ENTRY_START, R415. -/
  | arrayQueueEntryStart (cluster : Fin 64) (entry : Nat)
  /-- ARRAY_QUEUE_ENTRY_COMPLETE, R415. -/
  | arrayQueueEntryComplete (cluster : Fin 64) (entry : Nat)
  /-- LOAD, R442. -/
  | jobLoad (r : Req) (cmd : Bytes)
  /-- UNLOAD, R442. -/
  | jobUnload (r : Req) (cmd : Bytes)
  /-- JOB_STOP, R442. -/
  | jobStop (r : Req) (cmd : Bytes)
  /-- JOB_PLACEMENT, R445. -/
  | jobPlacement (j : Fin 1024)
  /-- JOB_THREADS_START, R443. -/
  | jobThreadsStart (j : Fin 1024)
  /-- JOB_TIME_LIMIT, R447. -/
  | jobTimeLimit (j : Fin 1024)
  /-- JOB_WAIT_LIMIT, R447. -/
  | jobWaitLimit (j : Fin 1024)
  /-- REFRESH, R471. -/
  | refresh (ch : Fin 32)
  /-- COMMAND_ISSUE, R462. -/
  | commandIssue (ch : Fin 32) (host : Fin 17) (streams : StreamLevels)
  /-- REQUEST_AGING, R469. -/
  | requestAging (ch : Fin 32)
  /-- GRANULE_READ_COMPLETE, R479. -/
  | granuleReadComplete (ch : Fin 32) (err1 err2 : List ByteErr)
  /-- PATROL_READ, R481. -/
  | patrolRead (ch : Fin 32) (block : Nat) (granule : Fin 16)
  /-- CA_PARITY_ALERT, R485. -/
  | caParityAlert (ch : Fin 32)
  /-- READ_CRC_FAILURE, R486. -/
  | readCrcFailure (ch : Fin 32)
  /-- WRITE_CRC_FAILURE, R486. -/
  | writeCrcFailure (ch : Fin 32)
  /-- RETRAINING_COMPLETE, R487. -/
  | retrainingComplete (ch : Fin 32) (ok : Bool)
  /-- ROW_REMAP, R490. -/
  | rowRemap (ch : Fin 32)
  /-- DEVICE_TEMPERATURE_CHANGE, R473. -/
  | deviceTemperatureChange (ch : Fin 32) (celsius : Int)
  /-- TIMING_RECENTRE, R499. -/
  | timingRecentre (ch : Fin 32) (large : Bool)
  /-- SEGMENT_FILL_COMPLETE, R496. -/
  | segmentFillComplete (segment : Fin 8)
  /-- TRAINING_COMPLETE, R497. -/
  | trainingComplete (ok : U32) (margins : Bytes)
  /-- PATTERN_GENERATOR_WRITE, R500. -/
  | patternGeneratorWrite (r : Req) (ch : Fin 32) (off : U32) (data : Bytes)
  /-- LEG_LOSS, R507. -/
  | legLoss (leg : Fin 2)
  /-- CONFIGURATION_REQUEST, R510. -/
  | configurationRequest (ld : Fin 17) (leg : Fin 2) (space : ReqSpace) (addr : Nat) (size : Nat) (data : Option Bytes)
  /-- BUS_MASTER_ENABLE_CLEAR, R531. -/
  | busMasterEnableClear (ld : Fin 16)
  /-- BUS_MASTER_ENABLE_SET, R523. -/
  | busMasterEnableSet (ld : Fin 16)
  /-- D3HOT_ENTRY, R531. -/
  | d3hotEntry (ld : Fin 16)
  /-- INTERRUPT_CAUSE_CLEAR, R524. -/
  | interruptCauseClear (ld : Fin 16) (value : U32)
  /-- VECTOR_UNMASK, R523. -/
  | vectorUnmask (ld : Fin 16) (vector : Nat)
  /-- FUNCTION_LEVEL_RESET, R532. -/
  | functionLevelReset (ld : Fin 16)
  /-- FLR_COMPLETE, R532. -/
  | flrComplete (ld : Fin 16)
  /-- HOT_RESET, R533. -/
  | hotReset
  /-- DMA_COMPLETION, R532. -/
  | dmaCompletion (dma : Nat) (gen : Bool) (data : Option Bytes)
  /-- DMA_COMPLETION_TIMEOUT, R527. -/
  | dmaCompletionTimeout (dma : Nat)
  /-- INVALIDATE_REQUEST, R527. -/
  | invalidateRequest (ld : Fin 16) (itag : Nat) (addr size : U64)
  /-- INVALIDATION_COMPLETION, R527. -/
  | invalidationCompletion (ld : Fin 16) (itag : Nat)
  /-- IDENTIFY, R528. -/
  | identify (ld : Fin 16) (payload : Bytes)
  /-- BACKGROUND_OPERATION_STATUS, R528. -/
  | backgroundOperationStatus (ld : Fin 16) (payload : Bytes)
  /-- GET_RESPONSE_MESSAGE_LIMIT, R528. -/
  | getResponseMessageLimit (ld : Fin 16) (payload : Bytes)
  /-- SET_RESPONSE_MESSAGE_LIMIT, R528. -/
  | setResponseMessageLimit (ld : Fin 16) (payload : Bytes)
  /-- GET_EVENT_RECORDS, R525. -/
  | getEventRecords (ld : Fin 16) (payload : Bytes)
  /-- CLEAR_EVENT_RECORDS, R525. -/
  | clearEventRecords (ld : Fin 16) (payload : Bytes)
  /-- GET_EVENT_INTERRUPT_POLICY, R522. -/
  | getEventInterruptPolicy (ld : Fin 16) (payload : Bytes)
  /-- SET_EVENT_INTERRUPT_POLICY, R522. -/
  | setEventInterruptPolicy (ld : Fin 16) (payload : Bytes)
  /-- GET_TIMESTAMP, R528. -/
  | getTimestamp (ld : Fin 16) (payload : Bytes)
  /-- SET_TIMESTAMP, R528. -/
  | setTimestamp (ld : Fin 16) (payload : Bytes)
  /-- GET_SUPPORTED_LOGS, R528. -/
  | getSupportedLogs (ld : Fin 16) (payload : Bytes)
  /-- GET_LOG, R528. -/
  | getLog (ld : Fin 16) (payload : Bytes)
  /-- IDENTIFY_MEMORY_DEVICE, R528. -/
  | identifyMemoryDevice (ld : Fin 16) (payload : Bytes)
  /-- GET_HEALTH_INFO, R528. -/
  | getHealthInfo (ld : Fin 16) (payload : Bytes)
  /-- GET_POISON_LIST, R528. -/
  | getPoisonList (ld : Fin 16) (payload : Bytes)
  /-- GET_DC_CONFIGURATION, R521. -/
  | getDcConfiguration (ld : Fin 16) (payload : Bytes)
  /-- GET_DC_EXTENT_LIST, R528. -/
  | getDcExtentList (ld : Fin 16) (payload : Bytes)
  /-- AQFORT_MESSAGE, R68. -/
  | aqfortMessage (ld : Fin 16) (payload : Bytes)
  /-- GRANT_HOST_TIER_PAGES, R529. -/
  | grantHostTierPages (ld : Fin 16) (payload : Bytes)
  /-- WITHDRAW_HOST_TIER_PAGES, R530. -/
  | withdrawHostTierPages (ld : Fin 16) (payload : Bytes)
  /-- WITHDRAWAL_COMPLETE, R530. -/
  | withdrawalComplete (ld : Fin 16)
  /-- HOST_BIND, R341. -/
  | hostBind (ld : Fin 16)
  /-- HOST_UNBIND, R308. -/
  | hostUnbind (ld : Fin 16)
  /-- STREAM_TRAINING_COMPLETE, R541. -/
  | streamTrainingComplete (port : Fin 4) (width : Nat)
  /-- FLIT_RECEIVE, R542. -/
  | flitReceive (port : Fin 4) (flit : Bytes)
  /-- REPLAY_TIMEOUT, R542. -/
  | replayTimeout (port : Fin 4)
  /-- LANE_LOCK_LOSS, R543. -/
  | laneLockLoss (port : Fin 4)
  /-- STREAM_RETRAIN_COMPLETE, R543. -/
  | streamRetrainComplete (port : Fin 4) (width : Nat)
  /-- INIT, R547. -/
  | pktInit (port : Fin 4) (body : Bytes)
  /-- ROUTES, R549. -/
  | pktRoutes (source : Fin 8) (body : Bytes)
  /-- TIME_PROBE, R557. -/
  | pktTimeProbe (source : Fin 8) (arrival : U64) (body : Bytes)
  /-- TIME_REPLY, R557. -/
  | pktTimeReply (source : Fin 8) (arrival : U64) (body : Bytes)
  /-- ADVANCE_PACKET, R559. -/
  | pktAdvance (source : Fin 8) (body : Bytes)
  /-- AQFORT, R40. -/
  | pktAqfort (source : Fin 8) (body : Bytes)
  /-- KEY, R335. -/
  | pktKey (source : Fin 8) (body : Bytes)
  /-- RESERVE, R554. -/
  | pktReserve (source : Fin 8) (body : Bytes)
  /-- LINE_READ, R555. -/
  | pktLineRead (source : Fin 8) (body : Bytes)
  /-- LINE_WRITE, R555. -/
  | pktLineWrite (source : Fin 8) (body : Bytes)
  /-- LINE_DATA, R555. -/
  | pktLineData (source : Fin 8) (body : Bytes)
  /-- DONE, R555. -/
  | pktDone (source : Fin 8) (body : Bytes)
  /-- MOVE_OPEN, R547. -/
  | pktMoveOpen (source : Fin 8) (body : Bytes)
  /-- MOVE_DATA, R547. -/
  | pktMoveData (source : Fin 8) (body : Bytes)
  /-- MOVE_CLOSE, R562. -/
  | pktMoveClose (source : Fin 8) (body : Bytes)
  /-- SPAN_FORMATION, R550. -/
  | spanFormation (spanId : U32) (members : Byte)
  /-- MEMBER_REQUEST_TIMEOUT, R552. -/
  | memberRequestTimeout (member : Fin 8)
  /-- MEASURE, R557. -/
  | measure (r : Req) (value : Byte)
  /-- CHRYSALIS_TIMEOUT, R560. -/
  | chrysalisTimeout
  /-- CHRYSALIS_ORDER, R560. -/
  | chrysalisOrder (r : Req) (value : Byte)
  /-- EVACUATE, R562. -/
  | evacuate (r : Req) (cmd : Bytes)
  /-- RECALL, R562. -/
  | recall (r : Req) (cmd : Bytes)
  /-- EVACUATION_CANCEL, R562. -/
  | evacuationCancel (r : Req) (cmd : Bytes)
  /-- PWRGD_RISE, R566. -/
  | pwrgdRise
  /-- PWRGD_FALL, R570. -/
  | pwrgdFall
  /-- PERST_N_DEASSERT, R567. -/
  | perstDeassert (profSel : Fin 4) (nodeId : Fin 16)
  /-- PERST_N_ASSERT, R570. -/
  | perstAssert
  /-- FILL_COMPLETE, R568. -/
  | fillComplete
  /-- CONTROL_LOOP_ITERATION, R576. -/
  | controlLoopIteration (m : LoopSample)
  /-- POWER_CAP_WRITE, R577. -/
  | powerCapWrite (r : Req) (watts : U16)
  /-- DROOP_EVENT, R574. -/
  | droopEvent (domain : Nat) (ns : Nat)
  /-- IDLE_TIMEOUT, R581. -/
  | idleTimeout
  /-- CHANNEL_IDLE_TIMEOUT, R582. -/
  | channelIdleTimeout (ch : Fin 32)
  /-- HREFCLK_LOSS, R630. -/
  | hrefclkLoss
  /-- WATCHDOG_EXPIRY, R595. -/
  | watchdogExpiry (core : Fin 8)
  /-- RESTART_COMPLETE, R595. -/
  | restartComplete (core : Fin 8)
  /-- CONTROL_STATE_PARITY_ERROR, R597. -/
  | controlStateParityError
  /-- POISON_RECORD_FREED, R589. -/
  | poisonRecordFreed
  /-- CLEAR_REPAIR_MAP, R600. -/
  | clearRepairMap (r : Req)
  /-- CLEAR_ERROR_HISTORY, R604. -/
  | clearErrorHistory (r : Req)
  /-- FREEZE, R610. -/
  | freeze (c : TriggerCause)
  /-- FREEZE_RELEASE, R610. -/
  | freezeRelease (r : Req)
  /-- FREEZE_LATCH, R609. -/
  | freezeLatch
  /-- SNAPSHOT_TAKE, R612. -/
  | snapshotTake (c : TriggerCause)
  /-- SNAPSHOT_RELEASE, R614. -/
  | snapshotRelease (r : Req)
  /-- SNAPSHOT_COMPLETE, R614. -/
  | snapshotComplete
  /-- DUMP_COMPLETE, R620. -/
  | dumpComplete (entry : Nat) (ok : Bool)
  /-- HALT, R622. -/
  | halt (core : Fin 8) (c : Option Req)
  /-- RESUME, R622. -/
  | resume (core : Fin 8) (r : Req)
  /-- STEP_ONE_INSTRUCTION, R621. -/
  | stepOneInstruction (core : Fin 8) (r : Req)
  /-- CORE_HALTED, R622. -/
  | coreHalted (core : Fin 8)
  /-- LEG_TRAINED, R631. -/
  | legTrained (leg : Fin 2) (width rate : Nat)
  /-- HREFCLK_RETURN, R630. -/
  | hrefclkReturn
  /-- FAR_LINK_RETRAINED, R630. -/
  | farLinkRetrained (port : Fin 8)
  /-- ILLEGAL_INSTRUCTION, R399. -/
  | illegalInstruction (t : ThreadId) (word : U32)
  /-- UNSUPPORTED_MAILBOX_COMMAND, R528. -/
  | unsupportedMailboxCommand (ld : Fin 16) (opcode : U16) (payload : Bytes)
  /-- UNKNOWN_AQFORT_TYPE, R648. -/
  | unknownAqfortType (frame : Bytes)
deriving DecidableEq, Repr

end Sys2Proof
end

