-- ==== Sys2Proof/Machine/State.lean ====
section
/-!
DEFINITION. The state of the module as plain data, the reasons a step can stop, and the state at reset.
Every structure names the rule of spec/ that gives it; INVENTORY.md lists every field.
-/
namespace Sys2Proof.Machine

/-! ## Power-up and units -/

/-- Where the power-up sequence stands (17 R566 to R570). -/
inductive Stage where
  /-- PWRGD is low. -/
  | off
  /-- PWRGD is high and PERST_N is asserted. -/
  | inReset
  /-- PERST_N has deasserted; firmware runs, the near tier trains. -/
  | starting
  /-- The near tier is trained and the fill runs. -/
  | filling
  /-- The fill is complete: CXL.mem is enabled and the clusters run. -/
  | running
  /-- Training failed with FAULT_N asserted (14 R498). -/
  | trainingFailed
deriving DecidableEq, Repr

/-- The actual-state object of a unit and its divergence clock (02 R48 to R55). -/
structure UnitSt where
  /-- Own state 002.04, codes of 02 R45. -/
  own : Nat := 1
  /-- The aggregate 002.00 as last shown. -/
  shown : Nat := 1
  reason : Nat := 0
  time : Nat := 0
  target : Nat := 1
  taken : Nat := 0
  diverged : Bool := false
  /-- When the divergence clock started; none while it stands at zero. -/
  clock : Option Nat := none
  /-- Whether the clock has fired in this stretch of disagreement. -/
  fired : Bool := false
deriving DecidableEq, Repr

/-! ## Management -/

/-- An open management session (02 R70 to R72). -/
structure Session where
  id : Nat
  /-- 1 FM, 2 OBS, 3 SVC. -/
  role : Nat
  key : Bytes
  /-- The highest sequence executed. -/
  high : Nat := 0
  /-- Sequences of the window that have been executed, with the response message each got. -/
  done : List (Nat × Bytes) := []
  heard : Nat := 0
  /-- The number of the first event sent to it: EVENT messages count their own sequence from 1 (02 R69; log entry 44). -/
  firstEvent : Nat := 1
deriving DecidableEq, Repr

/-- A nonce handed out by HELLO (02 R70). -/
structure Nonce where
  value : Bytes
  expires : Nat
deriving DecidableEq, Repr

/-- One value of a profile copy: unit, object, member, bytes (02 R77 ff.). -/
structure ProfEntry where
  unit : Nat
  obj : Nat
  mem : Nat
  value : Bytes
deriving DecidableEq, Repr

/-- A copy of a profile slot in the boot flash (02 R77 to R81). -/
structure ProfCopy where
  /-- Magic, profile number and CRC-32 are correct. -/
  valid : Bool
  seq : Nat
  firmware : Nat
  name : Bytes
  entries : List ProfEntry
deriving DecidableEq, Repr

/-! ## Address model -/

/-- An extent table entry (03 R89). -/
structure ExtEntry where
  /-- 1 OFFERED, 2 GRANTED, 3 RELEASING. -/
  state : Nat
  dla : Nat
  block : Nat
  shared : Bool
deriving DecidableEq, Repr

/-- A region descriptor (03 R98). -/
structure Region where
  base : Nat
  length : Nat
  owner : Nat
  codec : Nat
  elem : Nat
  flags : Nat
  frSlot : Nat
  llSlot : Nat
  residual : Nat
  keyBinding : Nat
  keyGen : Nat
  keyKind : Nat
  layout : Nat
  stripe : Nat
  tierMask : Nat
  steep : Nat
deriving DecidableEq, Repr

/-- A tile map entry (03 R104); an entry the table does not list is UNWRITTEN. -/
structure TileEntry where
  home : Nat := 0
  /-- 0 UNWRITTEN, 1 VALID, 2 MOVING, 3 POISONED, 4 REMOTE. -/
  state : Nat := 0
  elem : Nat := 0
  frWidth : Nat := 0
  llPresent : Bool := false
  frSlot : Nat := 0
  frGen : Nat := 0
  llSlot : Nat := 0
  llBuiltin : Bool := false
  keySlot : Nat := 0
  keyGen : Nat := 0
  inst : Nat := 0
  region : Nat := 0
  recency : Nat := 0
  frequency : Nat := 0
  moveTag : Nat := 0
  location : Nat := 0
  length : Nat := 0
deriving DecidableEq, Repr

/-- A home left by DISCARD, DELETE or a release, not yet freed (03 R102). -/
structure OldHome where
  mapIndex : Nat
  entry : TileEntry
  /-- The LD or shared region the charge falls on: 0 to 15 an LD, 16 + region otherwise. -/
  payer : Nat
  /-- Bytes charged for it until it is freed. -/
  charge : Nat
deriving DecidableEq, Repr

/-- A version of a tile of a shared region (09 R287): a published one, or one of an overlay. -/
structure Version where
  region : Nat
  /-- Tile index within the region. -/
  tile : Nat
  /-- The instar that published it; 0 for a version of an overlay. -/
  inst : Nat
  /-- The attachment whose overlay holds it; none when published. -/
  owner : Option Nat
  entry : TileEntry
  /-- The last instar it is visible in; none while it is current. -/
  lastIn : Option Nat := none
  /-- When and by whom it was changed last, for conflicts (09 R298). -/
  touched : Nat := 0
deriving DecidableEq, Repr

/-! ## Near tier -/

/-- A granule read waiting in a bank queue, in the crossbar or issued (14 R461). -/
structure RdReq where
  /-- The host access it serves. -/
  access : Nat
  /-- 16 × near data address + granule. -/
  gran : Nat
  requester : Nat
  panic : Bool := false
  since : Nat := 0
  /-- Page hits its bank's open row served while it waited for another row. -/
  bypassed : Nat := 0
  /-- Its row was opened for it. -/
  opened : Bool := false
  /-- The check bytes of its slice have been read (14 R461). -/
  check : Bool := false
  /-- A patrol read (14 R481). -/
  patrol : Bool := false
  /-- Since when only a throttle makes it wait (14 R476). -/
  waited : Option Nat := none
deriving DecidableEq, Repr

/-- A coded entry of the write queue (04 R134). -/
structure FrEntry where
  mapIndex : Nat
  /-- Near data address of the tile's frame. -/
  loc : Nat
  tile : Nat
  line : Nat
  ty : Nat
  width : Nat
  coded : Bytes
  scale : Nat
  flag : Bool
  slot : Nat
  gen : Nat
  keySlot : Nat
  inst : Nat
deriving DecidableEq, Repr

/-- What a write queue entry holds (14 R465, R466). -/
inductive WqBody where
  | raw (gran : Nat) (granule : Bytes)
  | coded (e : FrEntry)
deriving DecidableEq, Repr

/-- An entry of a channel's write queue. -/
structure WqEntry where
  body : WqBody
  requester : Nat
  since : Nat
  /-- How far its write is: 0 not begun, 1 its slice's check bytes are known, 2 its data burst is written (14 R464). -/
  stage : Nat := 0
  /-- Its slice is written whole (14 R464). -/
  whole : Bool := false
  /-- As for a read. -/
  bypassed : Nat := 0
  opened : Bool := false
  waited : Option Nat := none
deriving DecidableEq, Repr

/-- A command on a device's command bus (14 R485). -/
inductive NtCmd where
  | precharge (bank : Nat)
  | activate (bank row requester : Nat)
  /-- A read of a burst of a granule: its data, or its slice's check bytes. -/
  | read (gran requester : Nat) (check : Bool)
  /-- A write of such a burst. -/
  | write (gran requester : Nat) (check : Bool)
  | refreshAll
deriving DecidableEq, Repr

/-- An entry of a bank's row-disturbance tracker (14 R474). -/
structure TrackRow where
  row : Nat
  count : Nat
  /-- Activates by requester, the four most recent, newest first. -/
  subs : List (Nat × Nat)
deriving DecidableEq, Repr

/-- A throttled requester of a bank (14 R476). -/
structure Throttle where
  bank : Nat
  requester : Nat
  nextAt : Nat
deriving DecidableEq, Repr

/-- A row that a neighbour refresh has yet to refresh in a slot of the requester it is due to (14 R475). -/
structure Neighbour where
  bank : Nat
  row : Nat
  requester : Nat
  /-- The last row of its neighbour refresh. -/
  last : Bool
deriving DecidableEq, Repr

/-- One near-tier channel (14 R461 to R500). -/
structure Chan where
  reads : List RdReq := []
  xbar : List RdReq := []
  wq : List WqEntry := []
  drain : Bool := false
  /-- Open row of each bank that has one. -/
  openRows : List (Nat × Nat) := []
  pointer : Nat := 0
  trackers : List (Nat × List TrackRow) := []
  throttles : List Throttle := []
  refreshes : Nat := 0
  nextRefresh : Nat := 0
  /-- When the stall of its last refresh ends (14 R472). -/
  stallUntil : Nat := 0
  /-- Rows of neighbour refreshes that wait for their slots, and the last slot that took one, counted from 1 (14 R475). -/
  neighbours : List Neighbour := []
  neighbourSlot : Nat := 0
  /-- Banks whose spare rows ran out (14 R490). -/
  spent : List Nat := []
  retry : List NtCmd := []
  /-- Replaced row by 65536 × bank + row, the spare it goes to (14 R490). -/
  remap : List (Nat × Nat) := []
  candidates : List (Nat × Nat) := []
  corrected : List (Nat × Nat) := []
  /-- When the patrol period these counts belong to began (14 R489). -/
  correctedSince : Nat := 0
  inflight : List RdReq := []
  selfRefresh : Bool := false
  /-- Times and banks of uncorrectable granules (14 R484). -/
  uncorrectable : List (Nat × Nat) := []
  replayTimes : List Nat := []
  crcRun : Nat := 0
  retraining : Bool := false
  /-- When the first of the panic requests now queued came (14 R469). -/
  panicSince : Option Nat := none
  /-- It drains its write queue to be taken out (02 R646). -/
  leaving : Bool := false
  /-- Taken out under 02 R646, or not yet rewritten after it. -/
  takenOut : Bool := false
  hot : Bool := false
  temperature : Int := 25
  margins : Bytes := []
  lastUse : Nat := 0
  /-- The slot of its last command in partitioned mode, in units of 16 ns (10 R336). -/
  slot : Nat := 0
  /-- The number of the last pattern written to the generator of R500. -/
  patternRun : Option Nat := none
deriving DecidableEq, Repr

/-! ## Far store -/

/-- A far port and its module (07 R223 to R225, 20 R632). -/
structure FarPort where
  present : Bool := false
  /-- FpPERST_N released. -/
  released : Bool := false
  releasedAt : Nat := 0
  capacity : Nat := 0
  width : Nat := 0
  rate : Nat := 0
  ids : Nat := 0
  serial : Bytes := []
  refused : Bool := false
  /-- Memory_Active has been seen since the last release, and the module is not lost. -/
  active : Bool := false
  /-- In recovery after a reference switch (20 R630), its completion timeouts suspended. -/
  recovering : Bool := false
deriving DecidableEq, Repr

/-- A segment of the far store that is not FREE (07 R229, R231, R248). -/
structure Seg where
  /-- 1 OPEN, 2 SEALED, 3 CLEANING. -/
  state : Nat
  stream : Nat
  mask : Nat
  seqNo : Nat
  /-- Payload sectors filled so far, padding included. -/
  filled : Nat := 0
  /-- CRC-32C of each filled payload sector, by payload index. -/
  crcs : List (Nat × Nat) := []
  /-- Data sectors gathered and not yet written. -/
  gather : Bytes := []
  gatherSince : Nat := 0
  /-- Stripe writes issued and not yet acknowledged: stripe within the segment and its data sectors. -/
  issued : List (Nat × Bytes) := []
  /-- Stripes every member has acknowledged. -/
  acked : List Nat := []
  /-- No further record is placed in it. -/
  closed : Bool := false
  /-- Its summary stripe has been written. -/
  summarised : Bool := false
  /-- Members whose chunks are lost, their module having failed since they were written (07 R239, R652). -/
  lost : Nat := 0
  sealedAt : Nat := 0
deriving DecidableEq, Repr

/-- What a far-store record is written for. -/
inductive RecFor where
  | move (record : Nat)
  | cleaning (index : Nat)
  /-- A record that has come from a span member: the source, the logical tile number, the map index (16 R562). -/
  | arrival (source tile mapIndex : Nat)
deriving DecidableEq, Repr

/-- A record being written to the far store, until it is durable (07 R235, R236). -/
structure FarRec where
  sector : Nat
  count : Nat
  for_ : RecFor
  data : Bytes
deriving DecidableEq, Repr

/-- A cleaning copy (07 R243). -/
structure CleanCopy where
  /-- The stored tile: a map index, or 2^28 + version record. -/
  key : Nat
  old : Nat
  new : Nat
  length : Nat
  durable : Bool := false
deriving DecidableEq, Repr

/-! ## Mover -/

/-- Who asked for a move. -/
inductive MoveBy where
  | policy
  | hostWrite
  | demandRead
  | schedule (entry : Nat)
  | job (j : Nat) (request : Nat)
  | evacuation
  | sweep (index : Nat)
  | compaction
  | remote
deriving DecidableEq, Repr

/-- A stored tile's move that waits for a record, or for a free segment of the far store (06 R219, 07 R245). -/
structure MoveWait where
  key : Nat
  segment : Bool
  by_ : MoveBy
  /-- When the wait began, and the position it is attributed to (19 R615, R616). -/
  since : Nat
  pos : Option Nat
deriving DecidableEq, Repr

/-- A move record (06 R190, R191, R222). -/
structure Move where
  tag : Nat
  kind : Nat
  /-- 1 ALLOC, 2 COPY, 3 CONFIRM. -/
  state : Nat
  cls : Nat
  /-- The stored tile: a map index, or 2^28 + version record. -/
  key : Nat
  tile : Nat
  ld : Nat
  srcTier : Nat
  dstTier : Nat
  /-- The new entry the flip installs. -/
  dst : TileEntry
  by_ : MoveBy
  start : Nat
  /-- The destination is durable (06 R192). -/
  ready : Bool := false
  /-- Plaintext bytes of LL-coded leaves in the record it writes (08 R271). -/
  coded : Nat := 0
  /-- The residuals a recode rewrites when it flips: address, element type, old and new decoded values of the line (04 R153). -/
  recode : List (Nat × Nat × Bytes × Bytes) := []
deriving DecidableEq, Repr

/-- A recode sweep, an entry of 0300:141 (04 R155, 05 R179). -/
structure Sweep where
  region : Nat
  /-- 1 running, 2 done, 3 cancelled. -/
  state : Nat
  ll : Bool
  /-- The stored tiles still to recode. -/
  left : List Nat
  recoded : Nat
deriving DecidableEq, Repr

/-- Tiles remaining. -/
def Sweep.remaining (x : Sweep) : Nat := x.left.length

/-- Why a write is held. -/
inductive HoldFor where
  /-- Near-share or destination space (03 R114). -/
  | space
  /-- The flip of its tile's move (06 R195). -/
  | flip
  /-- The tile's T3 home is unreachable (06 R209). -/
  | unreachable
  /-- Version space (09 R306). -/
  | versions
  /-- A poison record (18 R589). -/
  | poison
  /-- A remote tile's acknowledgement (16 R555). -/
  | remote
  /-- A place in a write queue (14 R461). -/
  | crossbar
deriving DecidableEq, Repr

/-- Who wrote: a host with its tag, or a thread. -/
inductive Writer where
  /-- A host, by the leg its request came on and its tag; leg 2 stands for a leg that has been lost since (15 R507). -/
  | host (leg tag : Nat)
  | thread (t : ThreadId)
  /-- A span member whose tile this module holds: its request's tag, and the stored tile (16 R555). -/
  | peer (member tag key : Nat)
  /-- The mover, for the residuals of a recode (04 R153). -/
  | mover
deriving DecidableEq, Repr

/-- What the tile mapper saw when it looked up a write that is held since (03 R110). -/
structure Saw where
  /-- Map index of the tile, and its region. -/
  index : Nat
  region : Nat
  /-- The attachment whose overlay it writes; none for the tile itself. -/
  overlay : Option Nat
  /-- The instar that overlay has been published as since (09 R295); 0 while it has not; and the base it was made at. -/
  published : Nat := 0
  base : Nat := 0
  /-- The tile was written, under the key generation in force. -/
  keyed : Bool := false
  /-- The version number its overlay had (09 R286). -/
  version : Nat := 0
deriving DecidableEq, Repr

/-- A write neither applied nor completed (03 R114, 06 R195 and others). -/
structure HeldWrite where
  why : HoldFor
  ld : Nat
  dpa : Nat
  /-- Byte enables, bit k for byte k of the line. -/
  mask : Nat
  data : Bytes
  by_ : Writer
  since : Nat
  /-- The job whose accesses these are, for a thread's store (09 R294). -/
  job : Option Nat := none
  /-- The number its requests to a span member carry (16 R555). -/
  remote : Option Nat := none
  /-- The job's position when it was held first (19 R616). -/
  pos : Nat := 0
  /-- What its lookup saw; none before it (03 R110). -/
  saw : Option Saw := none
  /-- A residual that a recode computes from the one it replaces: element type, old and new decoded values of its line (04 R153). -/
  recode : Option (Nat × Bytes × Bytes) := none
deriving DecidableEq, Repr

/-- A host-tier page table entry (06 R206). -/
structure HtPage where
  translate : Bool
  unusable : Bool
  addr : Nat
  /-- Closed to allocation by a withdrawal (15 R530). -/
  closing : Bool := false
deriving DecidableEq, Repr

/-- What a host access in flight waits for. -/
inductive AccWait where
  | near
  | far
  | dma
  | remote
  /-- A load waits for the caddy valid bits of a move into T0 (05 R184). -/
  | valid
deriving DecidableEq, Repr

/-- A host's read or a thread's load that is under way (01 R27 ff., 06 R188, 11 R362, 16 R555). -/
structure Access where
  id : Nat
  ld : Nat
  dpa : Nat
  tag : Nat
  wait : AccWait
  /-- The stored tile: a map index, or 2^28 + version record. -/
  key : Nat
  line : Nat
  /-- The entry the tile mapper saw (03 R110). -/
  entry : TileEntry
  /-- Frame lines delivered so far: granule, and its ciphertext or none for poison. -/
  parts : List (Nat × Option Bytes)
  /-- Frame lines it needs. -/
  needs : List Nat
  /-- The near-tier requester (14 R467). -/
  req : Nat
  /-- The thread's load the data goes to; none for a host's read. -/
  load : Option Nat
  /-- A tile fetch takes the coded line as it is (12 R424). -/
  coded : Bool := false
  /-- What the granules of an FR line stood for when its read began: frame line and stored bytes (04 R138). -/
  snap : List (Nat × Bytes) := []
  /-- The leg of a host's read (15 R506); 2 once that leg has been lost. -/
  leg : Nat := 0
  /-- When it began to wait. -/
  since : Nat := 0
deriving DecidableEq, Repr

/-! ## Cadence -/

/-- A cadence (08 R252 to R262). -/
structure Cad where
  pos : Nat := 0
  /-- When the position changed last. -/
  lastAdvance : Nat := 0
  /-- When an advance brought the position into its layer; none after a rewind. -/
  layerSince : Option Nat := none
  /-- An entry of the cadence was late in the layer. -/
  lateSeen : Bool := false
deriving DecidableEq, Repr

/-- A stored tile an entry has steeped, pinned until its cadence reaches a position (08 R267). -/
structure Pin where
  key : Nat
  entry : Nat
  cad : Nat
  until_ : Nat
deriving DecidableEq, Repr

/-- A schedule entry: its 32 bytes and its state (08 R264 to R276). -/
structure Sched where
  bytes : Bytes
  /-- Status of R276: state, lead, cause, lead capped, late count, issue position, last lateness, correction, last late
  position. -/
  status : Nat := 0
  lead : Nat := 0
  cause : Nat := 0
  capped : Bool := false
  lateCount : Nat := 0
  issuePos : Nat := 0
  lastLate : Nat := 0
  delta : Nat := 0
  latePos : Nat := 0
  /-- The lead computed last in this arming, and whether it was capped (08 R270). -/
  lam : Option (Nat × Bool) := none
  /-- It has fired in this arming. -/
  issued : Bool := false
  /-- It is done and does not re-arm. -/
  done : Bool := false
  /-- Stored tiles whose move has not started. -/
  waiting : List Nat := []
  /-- When the cadence reached the target. -/
  reachedAt : Option Nat := none
  late : Bool := false
  /-- What held its moves up (08 R275): no space, source unreachable, control restart. -/
  noSpace : Bool := false
  unreachable : Bool := false
  restart : Bool := false
  /-- What its moves have waited for, in ns: LL engines, and data from another tier (05 R185). -/
  decodeWait : Nat := 0
  transferWait : Nat := 0
deriving DecidableEq, Repr

/-! ## Shared regions -/

/-- The sharing entry of a region (09 R315). -/
structure Shared where
  mode : Nat
  readMask : Nat
  writeMask : Nat
  nearReserve : Nat
  farReserve : Nat
  head : Nat
  /-- The next version number (09 R286). -/
  counter : Nat := 1
  /-- When event 0x0152 was raised last (09 R306). -/
  holdEvent : Option Nat := none
deriving DecidableEq, Repr

/-- A retained instar (09 R303, R315). -/
structure Inst where
  region : Nat
  number : Nat
  publisher : Nat
  /-- Tiles it changed. -/
  changed : Nat
  stamp : Nat
  time : Nat
deriving DecidableEq, Repr

/-- An attachment, in salvage or not (09 R288, R307, R315). -/
structure Attach where
  region : Nat
  /-- LD 0 to 15. -/
  ld : Nat
  /-- 1 read, 2 read-write, 3 in salvage, 4 output of a job. -/
  kind : Nat
  base : Nat
  /-- Version number of a read-write attachment (09 R286). -/
  ver : Nat := 0
  keyGen : Nat
  since : Nat
  job : Nat := 0
deriving DecidableEq, Repr

/-! ## Keys, firmware, SPDM -/

/-- A key slot that is not FREE (10 R323 to R331). -/
structure KeySlot where
  /-- 1 ACTIVE, 2 ERASING. -/
  state : Nat
  kind : Nat
  gen : Nat
  binding : Nat
  useMask : Nat
  key : Bytes
  shadow : Option Bytes := none
  /-- The span member whose binding this is a copy of (10 R335). -/
  origin : Option Nat := none
  /-- A copy whose member has rejoined the span and has not sent the binding since (10 R335). -/
  unsure : Bool := false
  /-- The erase sweep of R331 has not passed every entry and record. -/
  sweeping : Bool := false
  created : Nat := 0
deriving DecidableEq, Repr

/-- A firmware image (10 R343 to R345). -/
structure FwImage where
  version : Nat
  security : Nat
  digest : Bytes
  dataPath : Bytes
  key : Nat
  valid : Bool
deriving DecidableEq, Repr

/-- Boot flash, fuses and the update engine (10 R343 to R353). -/
structure Firmware where
  /-- The images of the two flash slots whose checks have been made or that manufacture has placed. -/
  slots : List (Nat × FwImage) := []
  /-- The flash directory: the active slot and the trial flag. -/
  active : Nat := 0
  trial : Bool := false
  running : Nat := 0
  bootReason : Nat := 0
  /-- The running firmware is on trial: it was booted from a slot whose trial flag was set (10 R346). -/
  onTrial : Bool := false
  /-- No slot passed its checks: the ROM serves SVC only (10 R346). -/
  recovery : Bool := false
  /-- CXL.mem was enabled since the boot. -/
  confirmed : Bool := false
  /-- Bytes written to the slots, by 2^24 × slot + offset. -/
  staging : List (Nat × Byte) := []
  /-- Update status of 0D00:184: 0 empty, 1 written, 2 verified, 3 failed, 4 pending reset; and the failure. -/
  staged : Nat := 0
  failure : Nat := 0
  /-- An image has been activated at reset, and no fundamental reset has followed (10 R351). -/
  pending : Bool := false
  verifying : Bool := false
  /-- The control core that restarts into firmware activated live (10 R352). -/
  rolling : Option Nat := none
  /-- A CANCEL waits for VERIFY to end. -/
  cancelling : Bool := false
  securityFuse : Nat := 0
  key0Revoked : Bool := false
  /-- The profile copy loaded at the fundamental reset; none for the factory defaults (10 R348 index 5). -/
  loaded : Option (Nat × ProfCopy) := none
deriving DecidableEq, Repr

/-- The image manufacture placed in slot 0 (log entry 7): without one no boot passes. -/
def factoryImage : FwImage :=
  { version := 1, security := 0, digest := List.replicate 32 0, dataPath := List.replicate 32 0, key := 0, valid := true }

/-- SPDM and IDE of an LD (10 R348, 15 R515): how far the connection has come, its transcripts, its secured session. -/
structure Spdm where
  version : Bool := false
  capabilities : Bool := false
  algorithms : Bool := false
  /-- Messages of the negotiation, of the certificate reads, and of the measurements since the last signature. -/
  vca : Bytes := []
  certs : Bytes := []
  measured : Bytes := []
  session : Option Nat := none
  ide : Bool := false
deriving DecidableEq, Repr

/-! ## Compute complex -/

/-- How an operand bank was filled (12 R418, R425). -/
inductive BankKind where
  | raw
  | fr (slot gen width : Nat)
deriving DecidableEq, Repr

/-- An operand bank and its side store (11 R376, 12 R418). -/
structure Bank where
  kind : BankKind := .raw
  bytes : List (Nat × Byte) := []
  scales : List (Nat × Nat) := []
  flags : List (Nat × Bool) := []
deriving DecidableEq, Repr

/-- The array lookup (11 R378). -/
structure Lookup where
  slot : Nat
  gen : Nat
  width : Nat
  nan : Bool
  entries : List Nat
deriving DecidableEq, Repr

/-- An entry of a cluster's array queue (11 R358, 12 R415). -/
structure QEntry where
  id : Nat
  thread : ThreadId
  pc : Nat
  word : Nat
  /-- x[rs1] and x[rs2] at issue. -/
  a : Nat
  b : Nat
  running : Bool := false
  started : Nat := 0
  /-- An exception that a tile fetch raises once its lines are placed: code and address (12 R425). -/
  fault : Option (Nat × Nat) := none
deriving DecidableEq, Repr

/-- A barrier in use (12 R427): its count and who has arrived, in order. -/
structure Barrier where
  count : Nat
  arrived : List ThreadId
deriving DecidableEq, Repr

/-- A cluster (11 R363 to R383). -/
structure Cluster where
  context : Nat := 0xFF
  /-- LD whose data the scrub makes room for; the scrub is running. -/
  scrubbing : Bool := false
  scrubStart : Nat := 0
  scrubTo : Nat := 0xFF
  /-- Whether the running scrub zeroes the home area too. -/
  scrubHome : Bool := false
  /-- The change of assignment or home area waiting for demotions. -/
  draining : Bool := false
  job : Option Nat := none
  accs : List (Nat × List Nat) := []
  accInt : List Nat := []
  bank0 : Bank := {}
  bank1 : Bank := {}
  lookup : Option Lookup := none
  queue : List QEntry := []
  nextEntry : Nat := 0
  barriers : List (Nat × Barrier) := []
  /-- Lines in the L1 data caches: core, line address, bytes (11 R385). -/
  l1 : List (Nat × Nat × Bytes) := []
  /-- Translations of pages of the job's host window (11 R368). -/
  pages : List (Nat × Nat) := []
  clockOn : Bool := true
  /-- When the clock stopped (17 R575). -/
  clockStop : Nat := 0
  lastQueue : Nat := 0
deriving DecidableEq, Repr

/-- What a thread waits for (12 R426, R430). -/
inductive TWait where
  | none
  | barrier (number : Nat) (job : Bool)
  | position (pos : Nat)
  | mover (addr : Nat)
  | notEqual (addr value : Nat)
  | array
deriving DecidableEq, Repr

/-- A thread (12 R393). -/
structure Thread where
  job : Nat
  /-- Thread index in the job. -/
  index : Nat
  x : List U64
  v : List (BitVec 512)
  p : List U64
  pc : U64
  status : Nat := 0
  wait : TWait := .none
  waitSince : Nat := 0
  /-- The launch cadence's position when the wait began (19 R616). -/
  waitPos : Nat := 0
  ended : Bool := false
deriving DecidableEq, Repr

/-- What an outstanding load does with its data. -/
inductive LoadKind where
  | scalar (rd size : Nat) (signed : Bool)
  | vector (vd pm : Nat) (place : Bool)
  | atomic (rd op size : Nat) (x cmp : Nat)
  /-- Line `line` of a tile fetch, an entry of the cluster's array queue. -/
  | fetch (entry line : Nat)
deriving DecidableEq, Repr

/-- An outstanding load of a thread from DPA or the host window (11 R362, 06 R195). -/
structure Load where
  id : Nat
  thread : ThreadId
  kind : LoadKind
  addr : Nat
  pc : Nat
  word : Nat
  /-- Its DMA read has ended: with data, or none for a failure. -/
  arrived : Bool := false
  data : Option Bytes := none
  since : Nat := 0
  /-- For the wait trace: the launch cadence's position at the start, the unit waited on for tile data, and the tile. -/
  pos : Nat := 0
  waitedOn : Option Nat := none
  tile : Nat := 0
  /-- Its line is placed in the core's L1 when it comes (11 R385, 12 R404). -/
  keep : Bool := true
  /-- A pending atomic with acquire order (11 R388). -/
  acquires : Bool := false
deriving DecidableEq, Repr

/-- A mover request of a policy job under way (06 R215, R216). -/
structure MvReq where
  id : Nat
  job : Nat
  thread : ThreadId
  op : Nat
  completion : Nat
  /-- The 32 bytes of the request. -/
  bytes : Bytes := []
  /-- When it was queued. -/
  since : Nat := 0
  /-- The mover has taken it. -/
  started : Bool := false
  /-- The tile map entry of the record in T3 it reads. -/
  reads : Option TileEntry := none
  /-- The record of its tile in T3, once it has come. -/
  data : Option Bytes := none
  /-- The result once it has ended: status and result. -/
  done : Option (Nat × Nat) := none
  record : Nat := 0
deriving DecidableEq, Repr

/-- A job slot that is not EMPTY (13 R437 to R455). -/
structure Job where
  /-- 1 LOADED, 2 WAITING, 3 RUNNING, 4 STOPPING. -/
  state : Nat
  desc : Bytes
  status : Nat := 0
  clusters : List Nat := []
  placedCount : Nat := 0
  runs : Nat := 0
  launchPos : Nat := 0
  launchCad : Nat := 0
  endPos : Nat := 0
  inst : Nat := 0
  runTime : Nat := 0
  started : Nat := 0
  /-- Its place in the order of firing (13 R445). -/
  turn : Nat := 0
  firedAt : Nat := 0
  record : Bytes := []
  barriers : List (Nat × Barrier) := []
  /-- The instar each shared input was fixed at: region and number (09 R294). -/
  inputs : List (Nat × Nat) := []
  exits : Nat := 0
  lastExit : Nat := 0
  /-- The instar the result header written last names; 0 when none has been written (13 R451). -/
  header : Nat := 0
  /-- Window addresses at which a completion record has been written since the last request that names it (12 R426). -/
  records : List Nat := []
deriving DecidableEq, Repr

/-! ## Host port -/

/-- A function's configuration state and what hangs on it (15 R510 to R531). -/
structure Ld where
  /-- Writable bytes of the configuration space by offset. -/
  cfg : List (Nat × Byte) := []
  /-- Bytes of BAR0 that are plain storage, by offset. -/
  bar : List (Nat × Byte) := []
  /-- Command register bits (15 R511): memory space, bus master, interrupt disable. -/
  memSpace : Bool := false
  busMaster : Bool := false
  intxDisable : Bool := false
  /-- MSI control (15 R513): enable, allocated messages, mask and pending bits. -/
  msiEnable : Bool := false
  msiAllocated : Nat := 1
  msiMask : Nat := 0
  msiPending : Nat := 0
  /-- MSI-X control: enable, function mask, masked vectors and pending vectors. -/
  msixEnable : Bool := false
  msixFunctionMask : Bool := false
  msixMasked : List Nat := List.range 64
  msixPending : List Nat := []
  atsEnable : Bool := false
  /-- The interrupt cause register of BAR0 (15 R522). -/
  cause : Nat := 0
  /-- Assert_INTA has been sent and not yet withdrawn. -/
  intx : Bool := false
  /-- Vectors whose message waits for Bus master enable (15 R523). -/
  waitingVec : List Nat := []
  msixTable : List (Nat × Byte) := []
  flr : Bool := false
  flrStart : Nat := 0
  tagGen : Bool := false
  d3hot : Bool := false
  logs : List (Nat × List (Nat × Bytes)) := []
  logOverflow : List (Nat × Nat) := []
  logHandle : Nat := 1
  tsOffset : Int := 0
  tsSet : Bool := false
  respLimit : Nat := 4096
  policy : List Nat := []
  background : Option (Nat × Nat) := none
  backgroundDone : Option (Nat × Nat × Nat) := none
  withdrawing : List Nat := []
  atc : List (Nat × Nat) := []
  invalidations : List (Nat × Nat × Nat) := []
  decoders : List (Nat × Bytes) := []
  pages : List (Nat × HtPage) := []
  /-- Changes of the list of GRANTED extents (15 R528). -/
  extGen : Nat := 0
  /-- What the DOE mailbox has taken in, and what it has left to give (15 R515). -/
  doeIn : Bytes := []
  doeOut : Bytes := []
deriving DecidableEq, Repr

/-- Why a DMA request was sent. -/
inductive DmaFor where
  | access (id : Nat)
  | load (id : Nat)
  /-- The source of a move in T3. -/
  | move (record : Nat)
  /-- The read of the last sector a move wrote to T3 (06 R192). -/
  | readBack (record : Nat)
  /-- A tile in T3 that a policy job's mover request reads (06 R215). -/
  | request (id : Nat)
deriving DecidableEq, Repr

/-- An outstanding DMA read (15 R531, R532). -/
structure Dma where
  id : Nat
  ld : Nat
  gen : Bool
  for_ : DmaFor
  addr : Nat
  len : Nat
  leg : Nat
  /-- The 4 KiB pages of host virtual addresses whose translations it uses (15 R527). -/
  vas : List Nat := []
  /-- The spill page whose failed read this one retries (06 R208). -/
  retry : Option Nat := none
deriving DecidableEq, Repr

/-- An upstream leg (15 R505 to R508, R536). -/
structure Leg where
  up : Bool := false
  width : Nat := 0
  rate : Nat := 0
  ltssm : Nat := 0
  disabled : Bool := false
deriving DecidableEq, Repr

/-! ## Stream ports and span -/

/-- A stream port (16 R538 to R545). -/
structure SPort where
  up : Bool := false
  width : Nat := 0
  /-- Usable lanes. -/
  lanes : Nat := 0
  retraining : Bool := false
  /-- Sequence of the next flit to send, of the last accepted, and the last one acknowledged. -/
  txSeq : Nat := 0
  rxSeq : Nat := 4095
  acked : Nat := 4095
  /-- Flits sent and not acknowledged: sequence and payload. -/
  replay : List (Nat × Bytes) := []
  nakSent : Bool := false
  /-- Replays in a row without the ack advancing. -/
  replays : Nat := 0
  /-- Units granted by the peer, per VL: its buffer and what it has freed; used so far; its last credit total. -/
  credits : List (Nat × Nat) := []
  used : List (Nat × Nat) := []
  totals : List (Nat × Nat) := []
  /-- Units freed here since link up, per VL. -/
  freed : List (Nat × Nat) := []
  /-- INIT has been accepted: the peer's member number, port and serial number. -/
  inited : Bool := false
  peerMember : Nat := 0xFF
  peerPort : Nat := 0xFF
  peerSerial : Nat := 0
  /-- Packets that wait for credit or for room in the replay buffer, with the times since when they wait. -/
  waiting : List (Nat × Bytes) := []
deriving DecidableEq, Repr

/-- An outstanding request to a span member (16 R551 to R562). -/
structure RemoteReq where
  id : Nat
  member : Nat
  /-- Packet type of the request. -/
  kind : Nat
  access : Option Nat := none
  held : Option Nat := none
  /-- The move tag of a remote move, or the map index of a tile that is read back. -/
  move : Option Nat := none
  /-- Frame line asked for or written. -/
  line : Nat := 0
  sent : Nat := 0
  /-- The DLA extent a RESERVE asks for. -/
  reserve : Option Nat := none
  /-- Who an Aqfort request that was sent on is for, and its type (02 R40). -/
  path : Option (Path × Nat) := none
deriving DecidableEq, Repr

/-- A CREATE of a striped region, or an EVACUATE, whose answer waits for the stripe members (16 R554, R562). -/
structure WaitCreate where
  /-- Who is answered, and the message type; none while the write itself runs. -/
  path : Option (Path × Nat)
  region : Nat
  desc : Region
  /-- Reservations asked for and not yet answered: member and DLA extent. -/
  waiting : List (Nat × Nat)
  /-- Reservations made. -/
  made : List (Nat × Nat)
  /-- The target of an EVACUATE; none for a CREATE. -/
  target : Option Nat := none
deriving DecidableEq, Repr

/-- An entry of 0C00:141: a region evacuated to, or recalled from, a span member (16 R562, R564). -/
structure SpanEvac where
  region : Nat
  /-- 1 EVACUATE, 2 RECALL. -/
  cmd : Nat
  /-- 1 running, 2 done, 3 cancelled. -/
  state : Nat
  member : Nat
  remaining : Nat := 0
  moved : Nat := 0
  /-- The target refused a tile; the next is tried later. -/
  blocked : Bool := false
deriving DecidableEq, Repr

/-- A tile that arrives by a remote move (16 R547): its frame lines, or the sectors of its record with their checks. -/
structure MoveIn where
  source : Nat
  party : Nat
  tile : Nat
  length : Nat
  entry : Bytes
  /-- Pieces by byte offset in the stored form. -/
  pieces : List (Nat × Bytes) := []
  /-- A record on its way into the far store: the MOVE CLOSE's tag, the map index and the entry it takes when it is durable. -/
  placed : Option (Nat × Nat × TileEntry) := none
deriving DecidableEq, Repr

/-- Capacity held for a peer, or by a peer for this module (16 R554 to R556). -/
structure Reservation where
  member : Nat
  dla : Nat
  block : Nat
  guest : Bool
deriving DecidableEq, Repr

/-- The span as this member sees it (16 R549 to R562). -/
structure Span where
  id : Nat := 0
  member : Nat := 0
  /-- Reachable members. -/
  mask : Nat := 0
  /-- First port and hop count by member. -/
  routes : List (Nat × Nat × Nat) := []
  coordinator : Nat := 0
  unreachable : List Nat := []
  /-- Offsets by member, and when they were measured (16 R557). -/
  offsets : List (Nat × Int) := []
  offsetTime : Nat := 0
  /-- Exchanges of the running measurements: member, offset and round trip. -/
  exchange : List (Nat × Int × Int) := []
  /-- Members being measured: probes sent and when the next goes out. -/
  measuring : List (Nat × Nat × Nat) := []
  requests : List RemoteReq := []
  /-- Tag of the next request sent. -/
  nextTag : Nat := 0
  reservations : List Reservation := []
  creates : List WaitCreate := []
  evacs : List (Nat × SpanEvac) := []
  /-- Tiles being read back, by map index (16 R562 RECALL). -/
  recalls : List Nat := []
  transferKeys : List (Nat × Bytes) := []
  /-- Frame lines that have come for a held write, or for a tile read back: 0 or 1, the write or the tile, line, data. -/
  lines : List (Nat × Nat × Nat × Option Bytes) := []
  movesIn : List MoveIn := []
  /-- The free-value number the counters of an unreachable member stand at (02 R57). -/
  lastValues : List (Nat × Nat) := []
deriving DecidableEq, Repr

/-! ## Power, RAS, telemetry -/

/-- The power manager (17 R572 to R582). -/
structure Power where
  capPoint : Nat := 7
  thermalPoint : Nat := 7
  /-- Issue rate of array and vector operations, in sixteenths. -/
  issueRate : Nat := 16
  /-- Slots of every round held idle in partitioned mode (17 R573). -/
  reserve : Nat := 0
  /-- Iterations in a row below 0.93 of the cap, and with every die 5 °C below the threshold. -/
  under : Nat := 0
  cool : Nat := 0
  /-- Power state of 0D20:151, and when deep idle was entered. -/
  deep : Nat := 0
  deepSince : Nat := 0
  /-- Host lines of the last 1 ms, newest first, outside ACTIVE (17 R582). -/
  lines : List Nat := []
  /-- Die temperatures and power of the last iteration, and the powers of the last second since a cap write, newest first. -/
  temps : List Int := []
  milliwatts : Nat := 0
  window : List Nat := []
deriving DecidableEq, Repr

/-- A poison record (18 R586): the tile it belongs to, or a version, and its line set. -/
structure PoisonRec where
  /-- Map index, or 2^28 + version number. -/
  key : Nat
  lines : Nat
deriving DecidableEq, Repr

/-- An error log entry (18 R593). -/
structure ErrEntry where
  cls : Nat
  detail : Nat
  unit : Nat
  first : Nat
  last : Nat
  tile : Nat
  region : Nat
  ld : Nat
  home : Nat
  affected : Nat
  lines : Nat
  flags : Nat
  requester : Nat
  location : Nat
  position : Nat
  source : Nat
  /-- The poison key of a tile that is still POISONED. -/
  live : Option Nat
  /-- Its sequence number. -/
  seqNo : Nat := 0
deriving DecidableEq, Repr

/-- A repair map entry (18 R600). -/
structure RepairEntry where
  kind : Nat
  unit : Nat
  bank : Nat
  row : Nat
  spare : Nat
deriving DecidableEq, Repr

/-- An event as recorded (19 R607). -/
structure EventRec where
  seqNo : Nat
  time : Nat
  unit : Nat
  code : Nat
  gen : Nat
  detail : Nat
  /-- LDs it was delivered to, bit n for LDn (19 R608). -/
  toLds : Nat := 0
deriving DecidableEq, Repr

/-- A tensor dump: its status (19 R620), and what its header names. -/
structure Dump where
  /-- 1 dumping, 2 done, 3 failed, 4 skipped. -/
  state : Nat
  reason : Nat := 0
  written : Nat := 0
  pos : Nat := 0
  end_ : Nat := 0
  started : Nat := 0
  /-- Lines are still to be read or written. -/
  running : Bool := false
  /-- The watch entry as it was when the dump started. -/
  watch : Bytes := []
deriving DecidableEq, Repr

/-- A line a dump reads (19 R619); its data has arrived, or it is poisoned. -/
structure DumpLine where
  id : Nat
  watch : Nat
  line : Nat
  arrived : Bool := false
  data : Option Bytes := none
deriving DecidableEq, Repr

/-- Freeze, snapshot, trace and watch state (19 R607 to R624). -/
structure Telem where
  events : List EventRec := []
  nextEvent : Nat := 1
  /-- 0 idle, 1 pending, 2 frozen. -/
  freeze : Nat := 0
  freezeAt : Nat := 0
  freezeCause : Nat := 0
  frozen : List (Nat × Nat) := []
  /-- 0 empty, 1 taking, 2 held. -/
  snap : Nat := 0
  snapAt : Nat := 0
  snapBytes : Bytes := []
  /-- Trace records by 8,192 × slice + place, and how many each slice has had (19 R615). -/
  traces : List (Nat × Bytes) := []
  traceNext : List (Nat × Nat) := []
  /-- Watch table bytes (19 R618) by offset. -/
  watches : List (Nat × Byte) := []
  /-- Dumps started, by watch (19 R619, R620). -/
  dumps : List (Nat × Dump) := []
  dumpLines : List DumpLine := []
deriving DecidableEq, Repr

/-- A control core (18 R595, 19 R621, R622). -/
structure CtlCore where
  restarting : Bool := false
  restartTimes : List Nat := []
  /-- Halt state of 125.00: 0 running, 1 draining, 2 halted. -/
  halt : Nat := 0
deriving DecidableEq, Repr

/-- The error injection state of a link unit (18 R601, R602). -/
structure Inject where
  armed : Bool := false
  /-- The xorshift generator (18 R602). -/
  gen : Nat := 0
  /-- Units affected since arming. -/
  seen : Nat := 0
deriving DecidableEq, Repr

/-! ## What leaves the module -/

/-- A message that leaves the module (the model's own record of it, log entry 4). -/
inductive Out where
  /-- An Aqfort response: path, status, body after status, and the whole message as it leaves (02 R69). -/
  | aqfort (path : Path) (status : Nat) (body msg : Bytes)
  /-- An EVENT message to a session, and the whole message (02 R69, R77). -/
  | event (session unit code time gen detail : Nat) (msg : Bytes)
  /-- The data response of a CXL.mem read, on the leg that carried it (15 R506); none is poison. -/
  | memData (ld leg tag : Nat) (data : Option Bytes)
  /-- The completion of a CXL.mem write, on the leg that carried it. -/
  | memDone (ld leg tag : Nat)
  /-- A mailbox completion: return code and output payload (15 R528). -/
  | mailbox (ld code : Nat) (payload : Bytes)
  /-- A configuration or BAR0 completion (15 R510), on the leg that carried the request. -/
  | config (ld leg status : Nat) (data : Bytes)
  /-- An MSI or MSI-X message (15 R523). -/
  | msi (ld vector : Nat)
  /-- Assert_INTA or Deassert_INTA (15 R524). -/
  | intx (ld : Nat) (on : Bool)
  /-- A DMA read or write of the LD (15 R531). -/
  | dmaRead (ld id addr len : Nat) (gen : Bool)
  | dmaWrite (ld addr : Nat) (data : Bytes)
  /-- A DMA write of a poisoned line, with EP set (19 R619). -/
  | dmaPoison (ld addr : Nat)
  /-- An ATS translation request or Invalidation Completion (15 R526, R527). -/
  | atsRequest (ld addr : Nat)
  | invalDone (ld itag : Nat)
  /-- A packet to a span member (16 R547). -/
  | packet (member kind : Nat) (body : Bytes)
  /-- A flit's acknowledgement or NAK, or a replay from a sequence (16 R542). -/
  | ack (port seqNo : Nat)
  | nak (port seqNo : Nat)
  | resend (port seqNo : Nat)
  /-- A fabric manager API return code (03 R90 to R93). -/
  | fmApi (code : Nat)
  /-- A dynamic capacity event to the LD's host (15 R521). -/
  | dcEvent (ld kind extent : Nat)
  /-- An SPDM response (10 R348). -/
  | spdm (ld : Nat) (msg : Bytes)
deriving DecidableEq, Repr

/-! ## The state -/

/-- The module. -/
structure State where
  /-- Commands that wait, first in first out (the model's own). -/
  pending : List Instr
  /-- Messages that have left, oldest first (the model's own, log entry 4). -/
  outbox : List Out
  /-- Counter of free values (the model's own, log entry 5). -/
  fresh : Nat
  /-- The always-on timebase in ns (01 R37, 17 R566). -/
  now : Nat
  stage : Stage
  /-- Sampled straps PROF_SEL and NODEID (17 R567). -/
  profSel : Nat
  nodeId : Nat
  /-- HREFCLK present (20 R630), and the references' source. -/
  hrefclk : Bool
  /-- STREFCLK is present (20 R629); no command changes it (log entry 27). -/
  strefclk : Bool
  farRefInternal : Bool
  units : List (Nat × UnitSt)
  /-- Scalar dictionary objects that differ from their defaults, by 2^20·unit + 2^8·object + member. -/
  objs : List (Nat × Nat)
  /-- Bytes of BYTES and STR members that writes fill, by 2^20·(that key) + offset. -/
  blobs : List (Nat × Byte)
  sessions : List Session
  nonces : List Nonce
  heldMsgs : List Bytes
  profiles : List (Nat × ProfCopy)
  extents : List (Nat × ExtEntry)
  /-- Tags bound to DLA extents (03 R90). -/
  tags : List (Nat × List Nat)
  regions : List (Nat × Region)
  tileMap : List (Nat × TileEntry)
  oldHomes : List OldHome
  versions : List (Nat × Version)
  nextVersion : Nat
  /-- Map cache sets: die·16384 + set, lines most recent first (03 R108). -/
  mapCache : List (Nat × List Nat)
  /-- Bytes of the near-tier devices, by 2^33·channel + 64·burst + byte. -/
  near : List Host.Cell
  channels : List (Nat × Chan)
  /-- Segment states of 0500:110, listed when not open (14 R493). -/
  segStates : List (Nat × Nat)
  trainedAt : Nat
  /-- Bytes of the caddies, by 2^22·cluster + offset. -/
  caddy : List Host.Cell
  /-- Caddy lines of 16 B whose check fails until they are written, and those that have failed it once, by 2^18·cluster + offset / 16
  (11 R365, 18 R600). -/
  caddyBad : List Nat
  caddyFailed : List Nat
  /-- The soft entries of the fuse map in force since power-up (14 R492). -/
  caddySoft : List RepairEntry
  farPorts : List (Nat × FarPort)
  /-- Bytes of the far modules, by 2^41·port + address. -/
  farMem : List Host.Cell
  segs : List (Nat × Seg)
  segSeq : Nat
  farRecs : List FarRec
  /-- CRC-32C of each sector written to a spill area, by 2^40 × LD + sector: the module's own record of the sector
  checks of 05 R172 in T3, which the spec places nowhere (log entry 13). -/
  t3crcs : List (Nat × Nat)
  cleanCopies : List (Nat × CleanCopy)
  nextCopy : Nat
  /-- Accesses each segment waits for before it is FREE are in `accesses`. -/
  accesses : List Access
  nextAccess : Nat
  sweeps : List (Nat × Sweep)
  /-- Tables loaded in FR and LL slots: the image as committed (04 R146, 05 R177). -/
  frTables : List (Nat × Bytes)
  llTables : List (Nat × Bytes)
  moves : List (Nat × Move)
  /-- PERST_N is asserted (17 R567). -/
  perst : Bool
  /-- Moves that wait for a record or for a free segment of the far store (06 R219, 07 R245). -/
  moveWaits : List MoveWait
  /-- Moves each record has carried (06 R190). -/
  moveUses : List (Nat × Nat)
  /-- Shares of the rounds before a write, with its time, newest first (10 R337). -/
  shareLog : List (Nat × List Nat)
  /-- Aborts by writes in a row, and the epoch count a hold of R196 ends at. -/
  writeAborts : List (Nat × (Nat × Nat))
  epochs : Nat
  /-- Payers whose T1 tiles the built-in policy demotes: the charge reached 0700:112 and has not fallen to 0700:113 (06 R203). -/
  demoting : List Nat
  /-- Payers with writes held and no tile that can be demoted, whose event has been raised (06 R205). -/
  stuck : List Nat
  held : List HeldWrite
  cads : List (Nat × Cad)
  sched : List (Nat × Sched)
  /-- Marker table bytes (08 R259), by offset. -/
  markers : List (Nat × Byte)
  pins : List Pin
  /-- Plaintext bytes of LL-coded leaves in a stored tile's record (08 R271). -/
  tallies : List (Nat × Nat)
  shareds : List (Nat × Shared)
  insts : List Inst
  /-- The instar that published the head version of each written tile, by map index (09 R285, R296). -/
  headInst : List (Nat × Nat)
  attaches : List (Nat × Attach)
  results : List (Nat × Bytes)
  /-- Conflict lists by LD: tile indices (09 R298). -/
  conflicts : List (Nat × List Nat)
  keys : List (Nat × KeySlot)
  nextBinding : Nat
  drbgFailed : Bool
  /-- Requests the DRBG has served since it was last seeded (10 R325). -/
  drbgUses : Nat
  injects : List (Nat × Inject)
  fw : Firmware
  spdm : List (Nat × Spdm)
  clusters : List (Nat × Cluster)
  threads : List (Nat × Thread)
  loads : List Load
  nextLoad : Nat
  mvReqs : List MvReq
  jobs : List (Nat × Job)
  lds : List (Nat × Ld)
  dmas : List Dma
  nextDma : Nat
  legs : List (Nat × Leg)
  sports : List (Nat × SPort)
  span : Span
  /-- When every upstream leg went down; chrysalis (16 R560). -/
  allDown : Option Nat
  chrysalis : Bool
  power : Power
  poisons : List PoisonRec
  errLog : List (Nat × ErrEntry)
  errSeq : Nat
  errFull : Bool
  errHistory : List Bytes
  repairMap : List RepairEntry
  repairSeq : Nat
  contained : Bool
  /-- Causes of FAULT_N, the bits of 0F80:101.00 (18 R598). -/
  faults : Nat
  /-- When events limited to one per 100 ms were raised last, by unit·2^16 + code (09 R306, 18 R589). -/
  lastRaised : List (Nat × Nat)
  telem : Telem
  cores : List (Nat × CtlCore)
deriving DecidableEq, Repr

/-- Why the machine stops. -/
inductive Fault where
  /-- Raised by the near-tier commands whose granule lies outside the space 14 R460 lays out; safe: no such granule
  exists. -/
  | addressOutside
deriving DecidableEq, Repr

/-- Why a command has no meaning. -/
inductive Refusal where
  /-- Raised by the dispatch for a command that has no meaning yet; safe. -/
  | notModelled (mnemonic : String)
deriving DecidableEq, Repr

/-- The default region of an LD (03 R96): class LL, untyped, the LD's host key, local, tier mask 0x0F. -/
def defaultRegion (n : Nat) : Region :=
  { base := 0, length := 17592186044416, owner := n, codec := 0, elem := 0, flags := 0, frSlot := 0xFF, llSlot := 0xFF
    residual := 0xFFFF, keyBinding := n, keyGen := 0, keyKind := 0, layout := 0, stripe := 0, tierMask := 0x0F, steep := 0 }

/-- The module right after a fundamental reset with PWRGD high and PERST_N asserted (17 R566, R570; log entry 7). -/
def State.reset : State :=
  { pending := [], outbox := [], fresh := 0, now := 0, stage := .inReset, profSel := 0, nodeId := 0
    hrefclk := true, strefclk := true, farRefInternal := false
    units := [], objs := [], blobs := [], sessions := [], nonces := [], heldMsgs := []
    profiles := []
    extents := [], tags := [], regions := (List.range 16).map (fun n => (n, defaultRegion n))
    tileMap := [], oldHomes := [], versions := [], nextVersion := 0, mapCache := []
    near := [], channels := [], segStates := [], trainedAt := 0, caddy := [], caddyBad := [], caddyFailed := [], caddySoft := []
    farPorts := [], farMem := [], segs := [], segSeq := 0, farRecs := [], t3crcs := [], cleanCopies := [], nextCopy := 0
    accesses := [], nextAccess := 0, sweeps := [], frTables := [], llTables := [], moves := [], perst := true, moveWaits := [], moveUses := [], shareLog := [], writeAborts := [], epochs := 0, demoting := [], stuck := []
    held := [], cads := [], sched := [], markers := [], pins := [], tallies := []
    shareds := [], insts := [], headInst := [], attaches := [], results := [], conflicts := []
    keys := [], nextBinding := 0x100, drbgFailed := false, drbgUses := 0, injects := []
    fw := { slots := [(0, factoryImage)] }, spdm := []
    clusters := [], threads := [], loads := [], nextLoad := 0, mvReqs := [], jobs := []
    lds := [], dmas := [], nextDma := 0, legs := [], sports := [], span := {}
    allDown := none, chrysalis := false, power := {}
    poisons := [], errLog := [], errSeq := 0, errFull := false, errHistory := [], repairMap := [], repairSeq := 0
    contained := false, faults := 0, lastRaised := [], telem := {}, cores := [] }

end Sys2Proof.Machine
end

