-- ==== Sys2Proof/Machine/Ops.lean ====
section
/-!
DEFINITION. The named operations every command uses: units, dictionary scalars, counters, unit states, events,
interrupts, free values and messages that leave.
-/
namespace Sys2Proof.Machine

/-! ## Units (02 R39) -/

/-- Whether the module implements a unit number (02 R39). -/
def unitExists (u : Nat) : Bool :=
  [0x0001, 0x0000, 0x0100, 0x0200, 0x0300, 0x0400, 0x0500, 0x0501, 0x0502, 0x0600, 0x0700, 0x0800, 0x0900, 0x0A00,
    0x0B00, 0x0C00, 0x0D00, 0x0D20, 0x0E00, 0x0F00, 0x0F80, 0x0101, 0x0102].contains u
  || decide (0x110 ≤ u ∧ u ≤ 0x11F) || decide (0x310 ≤ u ∧ u ≤ 0x35F) || decide (0x510 ≤ u ∧ u ≤ 0x52F)
  || decide (0x610 ≤ u ∧ u ≤ 0x617) || decide (0x810 ≤ u ∧ u ≤ 0x84F) || decide (0xA40 ≤ u ∧ u ≤ 0xA7F)
  || decide (0x1000 ≤ u ∧ u ≤ 0x10FF) || decide (0xC10 ≤ u ∧ u ≤ 0xC13) || decide (0xD10 ≤ u ∧ u ≤ 0xD17)

/-- `n` unit numbers from `b`. -/
def unitRun (b n : Nat) : List Nat := (List.range n).map (b + ·)

/-- The children of a unit, in ascending order (02 R39); the span unit's children are members, not units. -/
def childUnits (u : Nat) : List Nat :=
  if u = 0x0000 then [0x0100, 0x0200, 0x0300, 0x0400, 0x0500, 0x0600, 0x0700, 0x0800, 0x0900, 0x0A00, 0x0B00, 0x0C00,
    0x0D00, 0x0E00, 0x0F00, 0x0F80]
  else if u = 0x0100 then [0x0101, 0x0102] ++ unitRun 0x110 16
  else if u = 0x0300 then unitRun 0x310 80
  else if u = 0x0500 then [0x0501, 0x0502]
  else if u = 0x0501 then unitRun 0x510 16
  else if u = 0x0502 then unitRun 0x520 16
  else if u = 0x0600 then unitRun 0x610 8
  else if u = 0x0800 then unitRun 0x810 64
  else if u = 0x0A00 then unitRun 0xA40 64
  else if 0xA40 ≤ u ∧ u ≤ 0xA7F then unitRun (0x1000 + 4 * (u - 0xA40)) 4
  else if u = 0x0C00 then unitRun 0xC10 4
  else if u = 0x0D00 then unitRun 0xD10 8 ++ [0xD20]
  else []

/-- The parent of a unit; 0xFFFF for the span unit (02 R42). -/
def parentUnit (u : Nat) : Nat :=
  if u = 0x0001 then 0xFFFF
  else if u = 0x0000 then 0x0001
  else if 0x101 ≤ u ∧ u ≤ 0x11F then 0x0100
  else if 0x310 ≤ u ∧ u ≤ 0x35F then 0x0300
  else if u = 0x0501 ∨ u = 0x0502 then 0x0500
  else if 0x510 ≤ u ∧ u ≤ 0x51F then 0x0501
  else if 0x520 ≤ u ∧ u ≤ 0x52F then 0x0502
  else if 0x610 ≤ u ∧ u ≤ 0x617 then 0x0600
  else if 0x810 ≤ u ∧ u ≤ 0x84F then 0x0800
  else if 0xA40 ≤ u ∧ u ≤ 0xA7F then 0x0A00
  else if 0x1000 ≤ u ∧ u ≤ 0x10FF then 0xA40 + (u - 0x1000) / 4
  else if 0xC10 ≤ u ∧ u ≤ 0xC13 then 0x0C00
  else if (0xD10 ≤ u ∧ u ≤ 0xD17) ∨ u = 0xD20 then 0x0D00
  else 0x0000

/-- The ancestors of a unit, nearest first, the span unit among them. -/
def ancestors (u : Nat) : List Nat := go 6 u
where
  go : Nat → Nat → List Nat
    | 0, _ => []
    | n + 1, u => if parentUnit u = 0xFFFF then [] else parentUnit u :: go n (parentUnit u)

/-- A unit and every descendant of it (02 R58). -/
def subtree (u : Nat) : List Nat := go 5 u
where
  go : Nat → Nat → List Nat
    | 0, u => [u]
    | n + 1, u => u :: (if u = 0x0001 then [0x0000] else childUnits u).flatMap (go n)

/-- Whether a unit is a group unit (01 R30). -/
def isGroup (u : Nat) : Bool := u == 0x0001 || !(childUnits u).isEmpty

/-- The unit class 000.00: the number with the instance bits cleared (02 R42). -/
def unitClass (u : Nat) : Nat :=
  if u = 0x102 then 0x101 else if 0x110 ≤ u ∧ u ≤ 0x11F then 0x110
  else if 0x310 ≤ u ∧ u ≤ 0x32F then 0x310 else if 0x330 ≤ u ∧ u ≤ 0x35F then 0x330
  else if u = 0x502 then 0x501 else if 0x510 ≤ u ∧ u ≤ 0x52F then 0x510
  else if 0x610 ≤ u ∧ u ≤ 0x617 then 0x610 else if 0x810 ≤ u ∧ u ≤ 0x84F then 0x810
  else if 0xA40 ≤ u ∧ u ≤ 0xA7F then 0xA40 else if 0x1000 ≤ u ∧ u ≤ 0x10FF then 0x1000
  else if 0xC10 ≤ u ∧ u ≤ 0xC13 then 0xC10 else if 0xD10 ≤ u ∧ u ≤ 0xD17 then 0xD10
  else u

/-- The serial number 0000:101.00 (02 R84): 16 characters of 0 to 9 and A to Z, which the fuses hold. -/
def serialText : Bytes :=
  ((Config.serialNumber ++ zeros 16).take 16).map (fun b =>
    let v := b.toNat % 36
    BitVec.ofNat 8 (if v < 10 then 0x30 + v else 0x37 + v))

/-- The order code 0000:100.00 (02 R84). -/
def orderText : Bytes := strBytes 16 (if Config.orderCodeX then "CQ8-M192-X" else "CQ8-M192-C")

/-- Digits of a number in decimal. -/
def decimal (n : Nat) : String := toString n

/-- The name 000.02 (02 R649). -/
def unitName (u : Nat) : String :=
  if u = 1 then "span" else if u = 0 then "module" else if u = 0x100 then "hostport"
  else if u = 0x101 ∨ u = 0x102 then "leg" ++ decimal (u - 0x101)
  else if 0x110 ≤ u ∧ u ≤ 0x11F then "ld" ++ decimal (u - 0x110)
  else if u = 0x200 then "tilemapper" else if u = 0x300 then "codecs"
  else if 0x310 ≤ u ∧ u ≤ 0x32F then "fr" ++ decimal (u - 0x310)
  else if 0x330 ≤ u ∧ u ≤ 0x35F then "ll" ++ decimal (u - 0x330)
  else if u = 0x400 then "cipher" else if u = 0x500 then "neartier"
  else if u = 0x501 ∨ u = 0x502 then "md" ++ decimal (u - 0x501)
  else if 0x510 ≤ u ∧ u ≤ 0x52F then "chan" ++ decimal (u - 0x510)
  else if u = 0x600 then "fartier" else if 0x610 ≤ u ∧ u ≤ 0x617 then "farport" ++ decimal (u - 0x610)
  else if u = 0x700 then "mover" else if u = 0x800 then "cadunit"
  else if 0x810 ≤ u ∧ u ≤ 0x84F then "cadence" ++ decimal (u - 0x810)
  else if u = 0x900 then "instars" else if u = 0xA00 then "compute"
  else if 0xA40 ≤ u ∧ u ≤ 0xA7F then "cluster" ++ decimal (u - 0xA40)
  else if 0x1000 ≤ u ∧ u ≤ 0x10FF then "core" ++ decimal (u - 0x1000)
  else if u = 0xB00 then "caddy" else if u = 0xC00 then "streamports"
  else if 0xC10 ≤ u ∧ u ≤ 0xC13 then "streamport" ++ decimal (u - 0xC10)
  else if u = 0xD00 then "control" else if 0xD10 ≤ u ∧ u ≤ 0xD17 then "ctlcore" ++ decimal (u - 0xD10)
  else if u = 0xD20 then "power" else if u = 0xE00 then "mgmtport" else if u = 0xF00 then "telemetry" else "ras"

/-- Every implemented unit number, ascending. -/
def allUnits : List Nat := (List.range 0x1100).filter unitExists

/-! ## Dictionary scalars -/

/-- The key of a member in `State.objs`. -/
def okey (u o m : Nat) : Nat := u * 1048576 + o * 256 + m

/-- The factory default of a member (00 R21). -/
def objDefault (u o m : Nat) : Nat := ((rowOf u o m).map (·.dflt)).getD 0

/-- The stored value of a scalar member. -/
def State.obj (s : State) (u o m : Nat) : Nat := (tabGet s.objs (okey u o m)).getD (objDefault u o m)

/-- Store a scalar member; a member at its default is not listed. -/
def State.setObj (s : State) (u o m v : Nat) : State :=
  { s with objs := if v = objDefault u o m then tabDel s.objs (okey u o m) else tabSet s.objs (okey u o m) v }

/-- A counter: an object of members that default to 0, wrapping modulo 2^64 (02 R43). -/
def State.count (s : State) (u o : Nat) : Nat := (tabGet s.objs (okey u o 0)).getD 0

/-- Add to a counter (02 R43). -/
def State.bump (s : State) (u o n : Nat) : State :=
  let v := (s.count u o + n) % 2 ^ 64
  { s with objs := if v = 0 then tabDel s.objs (okey u o 0) else tabSet s.objs (okey u o 0) v }

/-- Bytes of a BYTES or STR member. -/
def State.blob (s : State) (u o m off n : Nat) : Bytes := memRead s.blobs (okey u o m * 2 ^ 30 + off) n

/-- Write bytes of a BYTES or STR member. -/
def State.setBlob (s : State) (u o m off : Nat) (b : Bytes) : State :=
  { s with blobs := memWrite s.blobs (okey u o m * 2 ^ 30 + off) b }

/-- A message leaves the module. -/
def State.emit (s : State) (o : Out) : State := { s with outbox := s.outbox ++ [o] }

/-- The next number of a free value (log entry 5). -/
def State.tick (s : State) : Nat × State := (s.fresh, { s with fresh := s.fresh + 1 })

/-! ## LDs and interrupts (15 R522 to R524) -/

/-- The state of an LD. -/
def State.ld (s : State) (n : Nat) : Ld := (tabGet s.lds n).getD {}
/-- Replace the state of an LD. -/
def State.setLd (s : State) (n : Nat) (l : Ld) : State := { s with lds := tabSet s.lds n l }

/-- INTx follows the cause bits under rule 3 of 15 R523 (15 R524). -/
def State.intxUpdate (s : State) (n : Nat) : State :=
  let l := s.ld n
  let want := l.cause != 0 && !l.intxDisable && !l.msiEnable && !l.msixEnable
  if want = l.intx then s else (s.setLd n { l with intx := want }).emit (.intx n want)

/-- Send the message of a vector by the mechanism in force (15 R523). -/
def State.sendVector (s : State) (n k : Nat) : State :=
  let l := s.ld n
  if l.msixEnable then
    if l.msixFunctionMask || l.msixMasked.contains k then
      s.setLd n { l with msixPending := if l.msixPending.contains k then l.msixPending else l.msixPending ++ [k] }
    else if l.busMaster then s.emit (.msi n k)
    else s.setLd n { l with waitingVec := if l.waitingVec.contains k then l.waitingVec else l.waitingVec ++ [k] }
  else if l.msiEnable then
    let m := Nat.min k (l.msiAllocated - 1)
    if l.msiMask.testBit m then s.setLd n { l with msiPending := setBit l.msiPending m true }
    else if l.busMaster then s.emit (.msi n m)
    else s.setLd n { l with waitingVec := if l.waitingVec.contains k then l.waitingVec else l.waitingVec ++ [k] }
  else s.intxUpdate n

/-- An LD signals vector `k`: the cause bit, then the message (15 R522, R523). -/
def State.signal (s : State) (n k : Nat) : State :=
  let l := s.ld n
  (s.setLd n { l with cause := setBit l.cause k true }).sendVector n k

/-- Put a record into an event log of an LD, which holds 256 records, and signal the log's vector; 255 in the policy is no
vector (15 R522, R525). -/
def State.logRecord (s : State) (n log : Nat) (body : Bytes) : State :=
  let l := s.ld n
  let recs := (tabGet l.logs log).getD []
  let l' := if recs.length ≥ 256 then
      { l with logOverflow := tabSet l.logOverflow log ((tabGet l.logOverflow log).getD 0 + 1) }
    else
      { l with logs := tabSet l.logs log (recs ++ [(l.logHandle, body)])
               logHandle := if l.logHandle ≥ 0xFFFF then 1 else l.logHandle + 1 }
  let v := nth l.policy log (log + 1)
  if v < 6 then (s.setLd n l').signal n v else s.setLd n l' 

/-! ## Events (02 R77, 15 R525, 19 R607) -/

/-- The codes that go to the Failure log (18 R599). -/
def failureCode (code detail : Nat) : Bool :=
  (code == 0x0001 && detail % 256 == 6)
  || [0x0130, 0x0131, 0x0194, 0x01A1, 0x01A2, 0x01B4, 0x01C0, 0x01C3, 0x01C4, 0x01C5].contains code

/-- The vendor data of an event record, from offset 48 (15 R525). -/
def eventVendor (unit code gen detail time : Nat) : Bytes :=
  leBytes 2 unit ++ leBytes 2 code ++ leBytes 4 gen ++ leBytes 4 detail ++ zeros 4 ++ leBytes 8 time ++ zeros 56

/-- The owner 005 of a unit: fixed for a cadence (02 R44, 08 R251), and n for an LD while a host is bound (15 R537). -/
def State.unitOwner (s : State) (u : Nat) : Nat :=
  if 0x810 ≤ u ∧ u ≤ 0x84F then (u - 0x810) / 4
  else if 0x110 ≤ u ∧ u ≤ 0x11F ∧ (tabGet s.units u).any (·.own != 0) then u - 0x110
  else s.obj u 5 0

/-- An Aqfort message (02 R69): its header and body, tagged where there is a session key. -/
def aqfortBytes (ty session seqNo flags : Nat) (key : Option Bytes) (body : Bytes) : Bytes :=
  let m := leBytes 2 0xAF0D ++ leBytes 1 1 ++ leBytes 1 ty ++ leBytes 4 session ++ leBytes 4 seqNo ++ leBytes 1 0xFF
    ++ leBytes 1 flags ++ leBytes 2 body.length ++ body
  m ++ (key.map (fun k => hmac256 k m)).getD []

/-- The EVENT message of event number `n` to a session. -/
def Session.eventMessage (z : Session) (n unit code time gen detail : Nat) : Bytes :=
  aqfortBytes 0x20 z.id (n + 1 - z.firstEvent) 0 (some z.key)
    (leBytes 2 unit ++ leBytes 2 code ++ leBytes 8 time ++ leBytes 4 gen ++ leBytes 4 detail)

/-- A unit raises an event; `lds` are the LDs that own the object it names (02 R77, 15 R525, 19 R607). -/
def State.raiseFor (s : State) (lds : List Nat) (unit code detail : Nat) : State :=
  let gen := s.obj unit 3 0
  let s := (((s.setObj unit 8 0 code).setObj unit 8 1 s.now).setObj unit 8 2 gen).setObj unit 8 3 detail
  let s := s.sessions.foldl (fun s z => s.emit (.event z.id unit code s.now gen detail
    (z.eventMessage s.telem.nextEvent unit code s.now gen detail))) s
  let owner := s.unitOwner unit
  let toLds := (List.range 16).filter (fun n => n == owner || lds.contains n)
  let log := if failureCode code detail then 2 else 0
  let s := toLds.foldl (fun s n => s.logRecord n log (eventVendor unit code gen detail s.now)) s
  let r : EventRec := {
    seqNo := s.telem.nextEvent, time := s.now, unit := unit, code := code, gen := gen, detail := detail, toLds := toLds.foldl (fun (a n : Nat) => a + 2 ^ n) 0 }
  { s with telem := { s.telem with
      events := (s.telem.events.drop (s.telem.events.length - 4095)) ++ [r], nextEvent := s.telem.nextEvent + 1 } }

/-- A unit raises an event that names no owned object. -/
def State.raise (s : State) (unit code detail : Nat) : State := s.raiseFor [] unit code detail

/-- Raise an event at most once per 100 ms for a key (09 R306, 18 R589). -/
def State.raiseLimited (s : State) (key unit code detail : Nat) : State :=
  let due := match tabGet s.lastRaised key with
    | none => true
    | some t => decide (s.now ≥ t + 100000000)
  if due then { s.raise unit code detail with lastRaised := tabSet s.lastRaised key s.now } else s

/-! ## Unit states (02 R45 to R58) -/

/-- The own state a unit has before anything has happened to it (02 R41, R45). -/
def defaultOwn (u : Nat) : Nat :=
  if (0x110 ≤ u ∧ u ≤ 0x11F) ∨ (0x610 ≤ u ∧ u ≤ 0x617) ∨ (0xC10 ≤ u ∧ u ≤ 0xC13) then 0 else 1

/-- The actual-state record of a unit. -/
def State.unit (s : State) (u : Nat) : UnitSt :=
  (tabGet s.units u).getD { own := defaultOwn u, shown := defaultOwn u }

/-- Replace the actual-state record of a unit. -/
def State.setUnit (s : State) (u : Nat) (x : UnitSt) : State := { s with units := tabSet s.units u x }

/-- The requested state 001.00 of a unit itself. -/
def State.requested (s : State) (u : Nat) : Nat := s.obj u 1 0

/-- The order that defines worst (02 R45). -/
def stateOrder (v : Nat) : Nat := if v = 0 then 0 else v

/-- The worse of two counted states. -/
def worse (a b : Nat) : Nat := if stateOrder a ≥ stateOrder b then a else b

/-- The state 002.00 of a unit: the worst of its own and its counted children's (02 R56); an unreachable span member counts
as FAILED (02 R57). -/
def State.actual (s : State) (u : Nat) : Nat := go s 5 u
where
  go (s : State) : Nat → Nat → Nat
    | 0, u => (s.unit u).own
    | n + 1, u =>
      ((if u = 0x0001 then [0x0000] else childUnits u).foldl (fun w c =>
        let a := go s n c
        if a = 0 ∨ (a = 3 ∧ s.requested c = 3) then w else worse w a)
        (if u = 0x0001 ∧ !s.span.unreachable.isEmpty then 6 else (s.unit u).own))

/-- Whether requested and own state agree (02 R46). -/
def agrees (requested own : Nat) : Bool := requested == own && decide (1 ≤ own ∧ own ≤ 3)

/-- Whether a cluster takes new work: neither it nor a core of it is on its way to OFFLINE (02 R646). -/
def State.clusterServes (s : State) (c : Nat) : Bool :=
  ((0xA40 + c) :: unitRun (0x1000 + 4 * c) 4).all (fun u => (s.unit u).own == 1 || (s.unit u).own == 2)

/-- Whether a codec engine takes work (02 R646). -/
def State.engineServes (s : State) (u : Nat) : Bool := let o := (s.unit u).own; o == 1 || o == 2 || o == 5

/-- The engine of a pool that takes the `n`-th piece of the work a command does at once: the serving engines in order, as each
takes the first free one (04 R157, 05 R183; log entry 14). -/
def State.poolEngine (s : State) (first count n : Nat) : Nat :=
  let es := (unitRun first count).filter s.engineServes
  (es[n % es.length]?).getD first

/-- The FR engine of a die's pool for piece `n` of some work (04 R157). -/
def State.frEngine (s : State) (die n : Nat) : Nat := s.poolEngine (0x310 + 16 * die) 16 n

/-- The LL engine of a die's pool for piece `n` of some work (05 R183). -/
def State.llEngine (s : State) (die n : Nat) : Nat := s.poolEngine (0x330 + 24 * die) 24 n

/-- The divergence clock after a change, and the end of a divergence (02 R53, R55). -/
def State.clockUpdate (s : State) (u : Nat) (restart : Bool) : State :=
  let x := s.unit u
  if x.own = 0 ∨ (u = 0x700 ∧ x.own = 4 ∧ x.reason = 0x100) then s.setUnit u { x with clock := none }
  else if agrees (s.requested u) x.own then
    let s := s.setUnit u { x with clock := none, fired := false, diverged := false }
    if x.diverged then s.raise u 0x0003 0 else s
  else if restart then s.setUnit u { x with clock := some s.now, fired := false }
  else if x.clock.isNone && !x.fired then s.setUnit u { x with clock := some s.now }
  else s

/-- The link units that fault injection serves (18 R601). -/
def linkUnits : List Nat := [0x101, 0x102] ++ unitRun 0x610 8 ++ unitRun 0xC10 4 ++ [0xE00]

/-- Disarm injection on a link unit for a cause of 10 R341 by its place in the list. -/
def State.disarm (s : State) (cause u : Nat) : State :=
  match tabGet s.injects u with
  | some i =>
    if i.armed then
      ((({ s with injects := tabSet s.injects u { i with armed := false } }.setObj u 0x68 0 0).setObj u 0x6B 0 0).raise u 0x0162 cause)
    else s
  | none => s

/-- A consent became false: the links that need consents are disarmed (10 R340, R341). -/
def State.consentGone (s : State) : State := (linkUnits.filter (· != 0xE00)).foldl (fun s u => s.disarm 1 u) s

/-- Show a changed 002.00 of a unit and raise event 0x0001 (02 R48, R77). -/
def State.showUnit (s : State) (u : Nat) : State :=
  let x := s.unit u
  let a := s.actual u
  if a = x.shown then s
  else
    let s := (s.setUnit u { x with shown := a, time := s.now }).bump u 0x15 1
    let s := if x.shown = 2 then s.disarm 0 u else s
    s.raise u 0x0001 (a + 256 * x.shown + 65536 * x.reason)

/-- The data path sets a unit's own state with a reason, and the aggregates above it follow (02 R48, R56). -/
def State.setOwn (s : State) (u own reason : Nat) : State :=
  let s := s.setUnit u { s.unit u with own := own, reason := reason }
  ((u :: ancestors u).foldl State.showUnit s).clockUpdate u false

/-- The members that the span unit counts have changed: its aggregate follows (02 R57). -/
def State.spanShow (s : State) : State :=
  let x := s.unit 1
  (s.setUnit 1 { x with reason := if s.span.unreachable.isEmpty then 0 else 5 }).showUnit 1

/-! ## Packets (16 R546) -/

/-- A packet: its 32-byte header and its data in whole 16 B units. -/
def packetBytes (kind vl src dst party status tag a b : Nat) (data : Bytes) : Bytes :=
  leBytes 1 kind ++ leBytes 1 vl ++ leBytes 1 src ++ leBytes 1 dst ++ leBytes 1 party ++ leBytes 1 status
    ++ leBytes 2 data.length ++ leBytes 4 tag ++ zeros 4 ++ leBytes 8 a ++ leBytes 8 b ++ data

/-- The members a packet can reach now, this one apart. -/
def State.peers (s : State) : List Nat :=
  (List.range 8).filter (fun m => s.span.mask.testBit m && m != s.span.member && !s.span.unreachable.contains m)

/-- The members of the span, reachable or not; a module that has joined none is its one member (01 R31). -/
def State.spanMembers (s : State) : List Nat :=
  if s.span.mask = 0 then [s.obj 0xC00 0x101 0]
  else (List.range 8).filter (fun m => s.span.mask.testBit m || s.span.unreachable.contains m)

/-- A stream port. -/
def State.sport (s : State) (k : Nat) : SPort := (tabGet s.sports k).getD {}
/-- Replace a stream port. -/
def State.setSport (s : State) (k : Nat) (x : SPort) : State := { s with sports := tabSet s.sports k x }

/-- The virtual lane of a packet. -/
def packetVl (b : Bytes) : Nat := (nth b 1 0).toNat % 4

/-- Whether a port has credit for a packet of a VL and a length, room in the 512-flit replay buffer, and nothing of that VL that waits (16
R542, R545). -/
def SPort.takes (x : SPort) (vl len : Nat) : Bool :=
  !x.waiting.any (fun w => packetVl w.2 == vl) && decide ((tabGet x.used vl).getD 0 + ceilDiv len 16 ≤ (tabGet x.credits vl).getD 0)
    && decide (x.replay.length + ceilDiv len 624 ≤ 512)

/-- A time probe or reply of another member, as it comes to a forwarding member: the time is taken off its residence total (16 R549). -/
def State.arriving (s : State) (b : Bytes) : Bytes :=
  let at_ := if field b 0 1 = 3 then 32 else 40
  if field b 0 1 = 3 ∨ field b 0 1 = 4 then patch b at_ (leBytes 8 (field b at_ 8 + 2 ^ 64 - s.now % 2 ^ 64)) else b

/-- A packet as it leaves: a member's own time reply is stamped with t3, and the time is added to the residence total of another's time probe
or reply (16 R549, R557). -/
def State.leaving (s : State) (b : Bytes) : Bytes :=
  let own : Bool := field b 2 1 == s.span.member
  if field b 0 1 = 4 ∧ own then patch b 24 (leBytes 8 s.now)
  else if field b 0 1 = 3 ∧ !own then patch b 32 (leBytes 8 (field b 32 8 + s.now))
  else if field b 0 1 = 4 then patch b 40 (leBytes 8 (field b 40 8 + s.now))
  else b

/-- Send a packet by a port: with credit for all of it and room in the 512-flit replay buffer it leaves as sequenced flits,
and else it waits (16 R542, R545). -/
def State.portSend (s : State) (p : Nat) (b : Bytes) : State :=
  let x := s.sport p
  let vl := packetVl b
  let units := ceilDiv b.length 16
  let n := ceilDiv b.length 624
  let used := (tabGet x.used vl).getD 0
  if x.takes vl b.length = false then s.setSport p { x with waiting := x.waiting ++ [(s.now, b)] }
  else
    let b := s.leaving b
    let flits := (List.range n).map (fun i => ((x.txSeq + i) % 4096, slice b (624 * i) 624))
    let s := s.setSport p { x with used := tabSet x.used vl (used + units), txSeq := (x.txSeq + n) % 4096, replay := x.replay ++ flits }
    (s.emit (.packet (nth b 3 0).toNat (nth b 0 0).toNat b)).bump (0xC10 + p) 0x30 n

/-- Send whole packets on their way to the member they name; without a route nothing leaves. -/
def State.route (s : State) (m : Nat) (b : Bytes) : State :=
  match tabGet s.span.routes m with
  | some r => s.portSend r.1 b
  | none => s

/-- Send a packet to a member. -/
def State.sendPacket (s : State) (m kind vl party status tag a b : Nat) (data : Bytes) : State :=
  s.route m (packetBytes kind vl s.span.member m party status tag a b data)

/-! ## FAULT_N, freeze and snapshot triggers (18 R598, 19 R610, R612) -/

/-- The data of the AQFORT packet that carries a freeze (1) or snapshot (2) time (19 R611, R613): the spec gives it no
layout (log entry 17). -/
def timePacket (what at_ : Nat) : Bytes := leBytes 8 what ++ leBytes 8 at_

/-- A freeze trigger by its source bit: when enabled and nothing is frozen, the latch is due 100 ns later; a further
trigger is ignored and counted (19 R609, R610). -/
def State.freezeTrigger (s : State) (source : Nat) : State :=
  if !(s.obj 0xF00 0x112 0).testBit source then s
  else if s.telem.freeze = 2 then s.bump 0xF00 0x1A 1
  else if s.telem.freeze = 1 then { s with telem := { s.telem with freezeCause := setBit s.telem.freezeCause source true } }
  else
    let t := s.now + 100
    let solo := s.span.mask = 0 ∨ source = 3
    let at_ := if solo then t else t + s.obj 0xF00 0x113 0
    let s := { s with telem := { s.telem with freeze := 1, freezeAt := at_, freezeCause := 2 ^ source } }
    if solo then s
    else s.peers.foldl (fun s m => s.sendPacket m 6 0 0x10 0 0 0 0 (timePacket 1 at_)) s

/-- A snapshot trigger by its source bit, which a span passes on as it does a freeze (19 R612 to R614). -/
def State.snapTrigger (s : State) (source : Nat) : State :=
  if !((s.obj 0xF00 0x122 0).testBit source && s.telem.snap == 0) then s
  else
    let solo := s.span.mask = 0
    let at_ := if solo then s.now else s.now + 100 + s.obj 0xF00 0x113 0
    let s := { s with telem := { s.telem with snap := 1, snapAt := at_ } }
    if solo then s
    else s.peers.foldl (fun s m => s.sendPacket m 6 0 0x10 0 0 0 0 (timePacket 2 at_)) s

/-- Assert FAULT_N for a cause bit of 18 R598. -/
def State.assertFault (s : State) (cause : Nat) : State :=
  let before := s.faults
  let s := { s with faults := setBit s.faults cause true }
  if before = 0 then (s.freezeTrigger 1).snapTrigger 1 else s

/-! ## Wait trace (19 R615 to R617) -/

/-- A trace record of a unit for a wait of `len` ns. -/
structure Wait where
  kind : Nat
  party : Nat
  waiter : Nat
  on_ : Nat
  /-- The position it is attributed to; none reads layer 0xFFFF and op 0xFF. -/
  pos : Option Nat
  /-- Bit 0 ended by job stop, bits [7:4] thread slot. -/
  flags : Nat
  cause : Nat
  object : Nat
  start : Nat
  len : Nat
deriving DecidableEq, Repr

/-- The 32 bytes of a trace record. -/
def Wait.bytes (w : Wait) : Bytes :=
  leBytes 1 w.kind ++ leBytes 1 w.party ++ leBytes 2 w.waiter ++ leBytes 2 w.on_
    ++ leBytes 2 (match w.pos with | some p => bits p 23 8 | none => 0xFFFF)
    ++ leBytes 1 (match w.pos with | some p => bits p 7 0 | none => 0xFF)
    ++ leBytes 1 w.flags ++ leBytes 2 w.cause ++ leBytes 4 w.object ++ leBytes 8 w.start ++ leBytes 8 w.len

/-- Put a record into the waiting party's slice of the trace rings. -/
def State.tracePut (s : State) (unit : Nat) (w : Wait) : State :=
  let n := (tabGet s.telem.traceNext w.party).getD 0
  let s := (s.bump unit 0x82 1).bump 0xF00 0x17 1
  let s := if n ≥ 8192 then s.bump unit 0x83 1 else s
  { s with telem := { s.telem with
      traces := tabSet s.telem.traces (8192 * w.party + n % 8192) w.bytes, traceNext := tabSet s.telem.traceNext w.party (n + 1) } }

/-- A wait of kind k that ends is recorded when the unit traces it and it lasted at least the minimum (19 R615). -/
def State.traceWait (s : State) (unit : Nat) (w : Wait) : State :=
  if (s.obj unit 0x80 0).testBit w.kind ∧ w.len ≥ s.obj unit 0x81 0 then s.tracePut unit w else s

/-- The unit of a core (02 R39). -/
def coreUnit (t : ThreadId) : Nat := 0x1000 + 4 * t.cluster.val + t.core.val

/-! ## The end of a command -/

/-- What every command answers: it takes no time (log entry 1) and leaves the queue as it is. -/
def finish (s t : State) : Host.Outcome State Fault Refusal := .next { t with pending := s.pending, now := s.now }

/-! ## Small readers -/

/-- The far ports have a reference clock: HREFCLK or, once it was lost, the internal source (20 R629, R630). -/
def State.farRef (s : State) : Bool := s.hrefclk || s.farRefInternal

/-- Whether every upstream leg is down (06 R209, 15 R508). -/
def State.allLegsDown (s : State) : Bool := (List.range 2).all (fun i => !((tabGet s.legs i).getD {}).up)

/-- A channel. -/
def State.chan (s : State) (c : Nat) : Chan := (tabGet s.channels c).getD {}
/-- Replace a channel. -/
def State.setChan (s : State) (c : Nat) (x : Chan) : State := { s with channels := tabSet s.channels c x }
/-- A cluster. -/
def State.cluster (s : State) (c : Nat) : Cluster := (tabGet s.clusters c).getD {}
/-- Replace a cluster. -/
def State.setCluster (s : State) (c : Nat) (x : Cluster) : State := { s with clusters := tabSet s.clusters c x }
/-- A far port. -/
def State.farPort (s : State) (p : Nat) : FarPort := (tabGet s.farPorts p).getD {}
/-- A cadence. -/
def State.cad (s : State) (c : Nat) : Cad := (tabGet s.cads c).getD {}
/-- A control core. -/
def State.ctl (s : State) (k : Nat) : CtlCore := (tabGet s.cores k).getD {}
/-- A leg. -/
def State.leg (s : State) (k : Nat) : Leg := (tabGet s.legs k).getD {}

end Sys2Proof.Machine
end

