-- ==== Sys2Proof/Machine/Flags.lean ====
section
/-!
DEFINITION. The flag computations: the sticky floating-point flags of a thread's status word (11 R375, 12 R397).
-/
namespace Sys2Proof.Machine

/-- The flags of a list of lane results together. -/
def flagsOf (l : List (Nat × Flags)) : Flags := l.foldl (fun a r => a.or r.2) {}

/-- The status word keeps every flag that is set: bits [3:0] are NV, DZ, OF and UF (12 R397). -/
def Thread.accrue (t : Thread) (f : Flags) : Thread := { t with status := t.status ||| f.toNat }

/-- What SRW writes to the status word: the reserved bits stay 0 (12 R397). -/
def statusWritten (v : U64) : Nat := v.toNat % 16

/-- Flags of an ordered compare of two values (12 R411): a signaling NaN is invalid; whether a quiet NaN is, when the
compare orders, is open (log entry 9). -/
def compareFlags (ordered : Bool) (a b : FVal) : Flags :=
  { nv := a.signals || b.signals || (ordered && (a.isNan || b.isNan) && Config.compareRaisesInvalid) }

end Sys2Proof.Machine
end

