-- ==== Sys2Proof/Machine/Operands.lean ====
section
/-!
DEFINITION. Gaisk operand forms: the words of the thirteen formats (12 R398), which words are illegal (12 R399 to R431),
the registers of a thread (12 R393), and vector elements (12 R395, R409).
-/
namespace Sys2Proof.Machine

/-! ## Words (12 R398) -/

/-- Format S3. -/
def wordS3 (major func : Nat) (rd rs1 rs2 : BitVec 5) : Nat :=
  major + rd.toNat * 2 ^ 7 + rs1.toNat * 2 ^ 12 + rs2.toNat * 2 ^ 17 + func * 2 ^ 22
/-- Formats SI and M. -/
def wordSI (major func : Nat) (rd rs1 : BitVec 5) (imm : BitVec 12) : Nat :=
  major + rd.toNat * 2 ^ 7 + rs1.toNat * 2 ^ 12 + func * 2 ^ 17 + imm.toNat * 2 ^ 20
/-- Formats SU and J. -/
def wordSU (major : Nat) (rd : BitVec 5) (imm : BitVec 20) : Nat := major + rd.toNat * 2 ^ 7 + imm.toNat * 2 ^ 12
/-- Format VM. -/
def wordVM (major func : Nat) (vd : BitVec 4) (rs1 : BitVec 5) (pm : BitVec 3) (imm : BitVec 11) : Nat :=
  major + vd.toNat * 2 ^ 7 + rs1.toNat * 2 ^ 11 + pm.toNat * 2 ^ 16 + func * 2 ^ 19 + imm.toNat * 2 ^ 21
/-- Format AT. -/
def wordAT (func : Nat) (rd rs1 rs2 : BitVec 5) (order size : BitVec 2) : Nat :=
  0x14 + rd.toNat * 2 ^ 7 + rs1.toNat * 2 ^ 12 + rs2.toNat * 2 ^ 17 + func * 2 ^ 22 + order.toNat * 2 ^ 26
    + size.toNat * 2 ^ 28
/-- Format FN. -/
def wordFN (scope kind : BitVec 2) : Nat := 0x15 + scope.toNat * 2 ^ 7 + kind.toNat * 2 ^ 9
/-- Format V. -/
def wordV (func : Nat) (vd vs1 vs2 : BitVec 4) (pm ty : BitVec 3) (rm : Bool) : Nat :=
  0x20 + vd.toNat * 2 ^ 7 + vs1.toNat * 2 ^ 11 + vs2.toNat * 2 ^ 15 + pm.toNat * 2 ^ 19 + ty.toNat * 2 ^ 22
    + b2n rm * 2 ^ 25 + func * 2 ^ 26
/-- Format VX. -/
def wordVX (func : Nat) (vd vs1 : BitVec 4) (rs2 : BitVec 5) (pm ty : BitVec 3) : Nat :=
  0x21 + vd.toNat * 2 ^ 7 + vs1.toNat * 2 ^ 11 + rs2.toNat * 2 ^ 15 + pm.toNat * 2 ^ 20 + ty.toNat * 2 ^ 23
    + func * 2 ^ 26
/-- Format P. -/
def wordP (func : Nat) (pd ps1 ps2 : BitVec 3) (rs : BitVec 5) : Nat :=
  0x22 + pd.toNat * 2 ^ 7 + ps1.toNat * 2 ^ 10 + ps2.toNat * 2 ^ 13 + rs.toNat * 2 ^ 16 + func * 2 ^ 21
/-- Format A. -/
def wordA (func : Nat) (acc : BitVec 3) (rs1 rs2 : BitVec 5) (bank : Bool) (mode : BitVec 3) (flags : BitVec 4) : Nat :=
  0x30 + acc.toNat * 2 ^ 7 + rs1.toNat * 2 ^ 10 + rs2.toNat * 2 ^ 15 + b2n bank * 2 ^ 20 + mode.toNat * 2 ^ 21
    + func * 2 ^ 24 + flags.toNat * 2 ^ 28
/-- Format TF. -/
def wordTF (func : Nat) (rs1 rs2 : BitVec 5) (bank : Bool) : Nat :=
  0x40 + rs1.toNat * 2 ^ 7 + rs2.toNat * 2 ^ 12 + b2n bank * 2 ^ 17 + func * 2 ^ 18
/-- Format SY. -/
def wordSY (func : Nat) (rd rs1 rs2 : BitVec 5) (imm : BitVec 6) : Nat :=
  0x50 + rd.toNat * 2 ^ 7 + rs1.toNat * 2 ^ 12 + rs2.toNat * 2 ^ 17 + func * 2 ^ 22 + imm.toNat * 2 ^ 26
/-- Format B. -/
def wordB (cond : Nat) (rs1 rs2 : BitVec 5) (off : BitVec 12) : Nat :=
  0x60 + rs1.toNat * 2 ^ 7 + rs2.toNat * 2 ^ 12 + cond * 2 ^ 17 + off.toNat * 2 ^ 20

/-! ## Illegal words (12 R399) -/

/-- The special registers SRR reaches (12 R396). -/
def specialListed (n : Nat) : Bool :=
  decide (n ≤ 6) || decide (0x10 ≤ n ∧ n ≤ 0x14) || decide (0x20 ≤ n ∧ n ≤ 0x23)

/-- The element types VOP accepts for a function code (12 R409, R410); FP16 is accepted only by VCVT. -/
def vopTypes (func : Nat) : List Nat :=
  if func ∈ [0x00, 0x01, 0x02, 0x05, 0x06, 0x11, 0x13, 0x14, 0x15, 0x20, 0x21, 0x22, 0x25, 0x26] then [0, 1, 3, 4, 5, 6]
  else if func ∈ [0x03, 0x04, 0x23] then [0, 1]
  else if 0x07 ≤ func ∧ func ≤ 0x0F then [0]
  else if func = 0x10 then [0, 1, 2, 3, 4, 5, 6, 7]
  else if func ∈ [0x12, 0x18, 0x19, 0x1A, 0x1B, 0x1C, 0x1D, 0x1E, 0x1F, 0x24] then [3, 4, 5, 6]
  else []

/-- The VOP functions that use vs1 only. -/
def vopUnary (func : Nat) : Bool :=
  decide (0x08 ≤ func ∧ func ≤ 0x0F) || decide (0x13 ≤ func ∧ func ≤ 0x15) || func == 0x25 || func == 0x26

/-- The element types VOPX accepts for a function code (12 R413). -/
def vopxTypes (func : Nat) : List Nat :=
  if func ∈ [0x00, 0x01, 0x02, 0x08, 0x09, 0x0A, 0x0B, 0x0C] then [0, 1, 3, 4, 5, 6]
  else if func = 0x03 then [0, 1] else if func = 0x10 then [3, 4, 5, 6] else []

/-- Whether an unused field is 0. -/
def unused (w hi lo : Nat) : Bool := bits w hi lo == 0

/-- Whether a word is legal (12 R399): its opcode and function code are listed, its unused fields are 0 and its type is
accepted. -/
def wordLegal (w : Nat) : Bool :=
  let major := bits w 6 0
  if major = 0x01 then
    let f := bits w 31 22
    (decide (f ≤ 0x0D) || decide (0x10 ≤ f ∧ f ≤ 0x12) || decide (0x14 ≤ f ∧ f ≤ 0x17)
      || (decide (0x18 ≤ f ∧ f ≤ 0x1A) && unused w 21 17))
  else if major = 0x02 then
    let f := bits w 19 17
    !decide (4 ≤ f ∧ f ≤ 6) || unused w 31 26
  else if major = 0x03 then true
  else if major = 0x10 then decide (bits w 19 17 ≤ 6)
  else if major = 0x11 then decide (bits w 19 17 ≤ 3)
  else if major = 0x12 then decide (bits w 20 19 ≤ 1)
  else if major = 0x13 then bits w 20 19 == 0
  else if major = 0x14 then
    let f := bits w 25 22
    let sz := bits w 29 28
    unused w 31 30 && ((decide (f ≤ 9) && (sz == 1 || sz == 2)) || (f == 0xA && decide (sz ≤ 1)))
  else if major = 0x15 then bits w 8 7 != 3 && bits w 10 9 != 0 && unused w 31 11
  else if major = 0x20 then
    let f := bits w 31 26
    (vopTypes f).contains (bits w 24 22) && (!vopUnary f || unused w 18 15)
      && (!decide (0x20 ≤ f ∧ f ≤ 0x24) || unused w 10 10)
      && (f != 0x10 || bits w 17 15 != 7)
  else if major = 0x21 then
    let f := bits w 31 26
    (vopxTypes f).contains (bits w 25 23)
      && (!(f == 0x08 || f == 0x09 || f == 0x10) || unused w 14 11)
      && (f != 0x10 || unused w 19 15) && (f != 0x0A || (unused w 10 7 && unused w 22 20))
  else if major = 0x22 then
    let f := bits w 23 21
    decide (f ≤ 5) && unused w 31 24
      && (if f ≤ 3 then unused w 20 16 else unused w 12 10 && unused w 15 13)
  else if major = 0x30 then
    let f := bits w 27 24
    unused w 31 31 &&
      (if f = 0 then decide (bits w 23 21 ≤ 5) && (bits w 23 21 == 2 || unused w 29 28)
          && (decide (3 ≤ bits w 23 21 ∧ bits w 23 21 ≤ 4) || unused w 30 30)
       else if f = 1 then decide (bits w 23 21 ≤ 5) && unused w 20 10 && unused w 30 28
       else if f = 2 then unused w 23 20 && unused w 30 28
       else if f = 3 then unused w 23 7 && unused w 30 28
       else if f = 4 then unused w 9 7 && unused w 23 15 && unused w 30 28
       else false)
  else if major = 0x40 then decide (bits w 20 18 ≤ 1) && unused w 31 21
  else if major = 0x50 then
    let f := bits w 25 22
    if f = 0 then unused w 21 17 && unused w 31 31
    else if f = 1 ∨ f = 4 then unused w 11 7 && unused w 21 17 && unused w 31 26
    else if f = 2 then unused w 11 7 && unused w 21 17 && unused w 31 28
    else if f = 3 then unused w 21 17 && unused w 31 26
    else if f = 5 then unused w 11 7 && unused w 31 26
    else false
  else if major = 0x60 then decide (bits w 19 17 ≤ 5)
  else if major = 0x61 then true
  else if major = 0x62 then bits w 19 17 == 0
  else if major = 0x63 then
    let f := bits w 19 17
    if f = 0 then unused w 16 12 && specialListed (bits w 31 20)
    else if f = 1 then unused w 11 7 && bits w 31 20 == 0x010
    else if f = 2 ∨ f = 3 ∨ f = 5 then unused w 16 7 && unused w 31 20
    else if f = 4 then unused w 16 7
    else false
  else false

/-! ## Registers (12 R393) -/

/-- The key of a thread in `State.threads`: 64 × cluster + 16 × core + slot. -/
def ThreadKey (t : ThreadId) : Nat := 64 * t.cluster.val + 16 * t.core.val + t.slot.val

/-- Read x register `r`; x0 reads 0. -/
def Thread.rx (t : Thread) (r : BitVec 5) : U64 := if r = 0 then 0 else nth t.x r.toNat 0
/-- Write x register `r`; a write to x0 is ignored. -/
def Thread.wx (t : Thread) (r : BitVec 5) (v : U64) : Thread :=
  if r = 0 then t else { t with x := t.x.set r.toNat v }
/-- Read v register `r`. -/
def Thread.rv (t : Thread) (r : BitVec 4) : BitVec 512 := nth t.v r.toNat 0
/-- Write v register `r`. -/
def Thread.wv (t : Thread) (r : BitVec 4) (v : BitVec 512) : Thread := { t with v := t.v.set r.toNat v }
/-- Read predicate `r`; p0 reads all ones. -/
def Thread.rp (t : Thread) (r : BitVec 3) : U64 := if r = 0 then BitVec.allOnes 64 else nth t.p r.toNat 0
/-- Write predicate `r`; a write to p0 is ignored. -/
def Thread.wp (t : Thread) (r : BitVec 3) (v : U64) : Thread :=
  if r = 0 then t else { t with p := t.p.set r.toNat v }

/-- A thread's registers at the start of a job: zero but for p0 (12 R393). -/
def Thread.fresh (job index : Nat) (pc : U64) : Thread :=
  { job := job, index := index, x := List.replicate 32 0, v := List.replicate 16 0, p := List.replicate 8 0, pc := pc }

/-! ## Vector elements (12 R395, R409) -/

/-- An element type: its bytes, and its format when it is floating-point. -/
structure VTy where
  bytes : Nat
  fmt : Option Fmt
deriving DecidableEq, Repr

/-- The type field of V and VX (12 R409). -/
def vty (n : BitVec 3) : VTy :=
  match n.toNat with
  | 0 => ⟨4, some fp32⟩
  | 1 => ⟨2, some bf16⟩
  | 2 => ⟨2, some fp16⟩
  | 3 => ⟨4, none⟩
  | 4 => ⟨2, none⟩
  | 5 => ⟨1, none⟩
  | _ => ⟨8, none⟩

/-- The destination type of VCVT: 5 is E4M3 and 7 is E5M2 (12 R412). -/
def vcvtTy (n : BitVec 3) : VTy :=
  match n.toNat with
  | 5 => ⟨1, some e4m3⟩
  | 7 => ⟨1, some e5m2⟩
  | _ => vty n

/-- Lanes of a vector register for a type. -/
def VTy.lanes (y : VTy) : Nat := 64 / y.bytes
/-- Bits of an element. -/
def VTy.bits (y : VTy) : Nat := 8 * y.bytes

/-- The elements of a vector register, lane 0 first. -/
def laneList (y : VTy) (v : BitVec 512) : List Nat :=
  (List.range y.lanes).map (fun i => (v.toNat >>> (y.bits * i)) % 2 ^ y.bits)

/-- A vector register from its elements. -/
def ofLanes (y : VTy) (l : List Nat) : BitVec 512 :=
  BitVec.ofNat 512 (l.foldr (fun e a => e % 2 ^ y.bits + 2 ^ y.bits * a) 0)

/-- Whether lane `i` of a type is on under a predicate (12 R395). -/
def laneOn (y : VTy) (p : U64) (i : Nat) : Bool := p.toNat.testBit (y.bytes * i)

/-- A predicate from the results of the lanes: all bits of a lane take its result (12 R395). -/
def ofLaneBits (y : VTy) (l : List Bool) : U64 :=
  BitVec.ofNat 64 (l.foldr (fun b a => (if b then 2 ^ y.bytes - 1 else 0) + 2 ^ y.bytes * a) 0)

/-- The 64 bytes of a vector register. -/
def vecBytes (v : BitVec 512) : Bytes := leBytes 64 v.toNat
/-- A vector register from 64 bytes. -/
def ofVecBytes (b : Bytes) : BitVec 512 := BitVec.ofNat 512 (leNat b)

end Sys2Proof.Machine
end

