-- ==== Sys2Proof/Decode.lean ====
section
/-!
DEFINITION. The commands a table word spells: no row of spec/opcode_table.json gives its command any bits. And the instruction a Gaisk
word spells (12 R398 to R431), with the word of an instruction: a thread's command carries its instruction, and these say which 32 bits
that instruction is in memory.
-/
namespace Sys2Proof
open Machine

/-- The command the word `w` of `nbits` bits spells: none, since no row of the table has bits. -/
def decodeTableWord (_nbits _w : Nat) : Option Instr := none

/-! ## The function codes of the major opcodes -/

/-- The operations of SOP by func10 (12 R401). -/
def sopOf (t : ThreadId) : Nat → Option (BitVec 5 → BitVec 5 → BitVec 5 → Instr)
  | 0x000 => some (.gAdd t)
  | 0x001 => some (.gSub t)
  | 0x002 => some (.gAnd t)
  | 0x003 => some (.gOr t)
  | 0x004 => some (.gXor t)
  | 0x005 => some (.gSll t)
  | 0x006 => some (.gSrl t)
  | 0x007 => some (.gSra t)
  | 0x008 => some (.gSlt t)
  | 0x009 => some (.gSltu t)
  | 0x00A => some (.gMin t)
  | 0x00B => some (.gMax t)
  | 0x00C => some (.gMinu t)
  | 0x00D => some (.gMaxu t)
  | 0x010 => some (.gMul t)
  | 0x011 => some (.gMulh t)
  | 0x012 => some (.gMulhu t)
  | 0x014 => some (.gDiv t)
  | 0x015 => some (.gDivu t)
  | 0x016 => some (.gRem t)
  | 0x017 => some (.gRemu t)
  | 0x018 => some (.gClz t)
  | 0x019 => some (.gCtz t)
  | 0x01A => some (.gPopc t)
  | _ => none

/-- The operations of SOPI by func3 (12 R403). -/
def sopiOf (t : ThreadId) : Nat → Option (BitVec 5 → BitVec 5 → BitVec 12 → Instr)
  | 0 => some (.gAddi t)
  | 1 => some (.gAndi t)
  | 2 => some (.gOri t)
  | 3 => some (.gXori t)
  | 4 => some (.gSlli t)
  | 5 => some (.gSrli t)
  | 6 => some (.gSrai t)
  | 7 => some (.gSlti t)
  | _ => none

/-- The loads by func3 (12 R404). -/
def loadOf (t : ThreadId) : Nat → Option (BitVec 5 → BitVec 5 → BitVec 12 → Instr)
  | 0 => some (.gLb t)
  | 1 => some (.gLh t)
  | 2 => some (.gLw t)
  | 3 => some (.gLd t)
  | 4 => some (.gLbu t)
  | 5 => some (.gLhu t)
  | 6 => some (.gLwu t)
  | _ => none

/-- The stores by func3 (12 R404). -/
def storeOf (t : ThreadId) : Nat → Option (BitVec 5 → BitVec 5 → BitVec 12 → Instr)
  | 0 => some (.gSb t)
  | 1 => some (.gSh t)
  | 2 => some (.gSw t)
  | 3 => some (.gSd t)
  | _ => none

/-- The vector loads by func2 (12 R404). -/
def vloadOf (t : ThreadId) : Nat → Option (BitVec 4 → BitVec 5 → BitVec 3 → BitVec 11 → Instr)
  | 0 => some (.gVld t)
  | 1 => some (.gVldnt t)
  | _ => none

/-- The atomics by func4 (12 R406). -/
def atomicOf (t : ThreadId) : Nat → Option (BitVec 5 → BitVec 5 → BitVec 5 → BitVec 2 → BitVec 2 → Instr)
  | 0x0 => some (.gAadd t)
  | 0x1 => some (.gAand t)
  | 0x2 => some (.gAor t)
  | 0x3 => some (.gAxor t)
  | 0x4 => some (.gAmin t)
  | 0x5 => some (.gAmax t)
  | 0x6 => some (.gAminu t)
  | 0x7 => some (.gAmaxu t)
  | 0x8 => some (.gAswap t)
  | 0x9 => some (.gAcas t)
  | 0xA => some (.gAfadd t)
  | _ => none

/-- The operations of VOP by func6 (12 R410). -/
def vopOf (t : ThreadId) : Nat → Option (BitVec 4 → BitVec 4 → BitVec 4 → BitVec 3 → BitVec 3 → Bool → Instr)
  | 0x00 => some (.gVadd t)
  | 0x01 => some (.gVsub t)
  | 0x02 => some (.gVmul t)
  | 0x03 => some (.gVfma t)
  | 0x04 => some (.gVfnma t)
  | 0x05 => some (.gVmin t)
  | 0x06 => some (.gVmax t)
  | 0x07 => some (.gVdiv t)
  | 0x08 => some (.gVsqrt t)
  | 0x09 => some (.gVrcp t)
  | 0x0A => some (.gVrsqrt t)
  | 0x0B => some (.gVexp2 t)
  | 0x0C => some (.gVlog2 t)
  | 0x0D => some (.gVsinpi t)
  | 0x0E => some (.gVcospi t)
  | 0x0F => some (.gVtanh t)
  | 0x10 => some (.gVcvt t)
  | 0x11 => some (.gVsel t)
  | 0x12 => some (.gVperm t)
  | 0x13 => some (.gVredadd t)
  | 0x14 => some (.gVredmax t)
  | 0x15 => some (.gVredmin t)
  | 0x18 => some (.gVand t)
  | 0x19 => some (.gVor t)
  | 0x1A => some (.gVxor t)
  | 0x1B => some (.gVsll t)
  | 0x1C => some (.gVsrl t)
  | 0x1D => some (.gVsra t)
  | 0x1E => some (.gVsadd t)
  | 0x1F => some (.gVssub t)
  | 0x20 => some (.gVcmpeq t)
  | 0x21 => some (.gVcmplt t)
  | 0x22 => some (.gVcmple t)
  | 0x23 => some (.gVcmpun t)
  | 0x24 => some (.gVcmpltu t)
  | 0x25 => some (.gVabs t)
  | 0x26 => some (.gVneg t)
  | _ => none

/-- The operations of VOPX by func6 (12 R413). -/
def vopxOf (t : ThreadId) : Nat → Option (BitVec 4 → BitVec 4 → BitVec 5 → BitVec 3 → BitVec 3 → Instr)
  | 0x00 => some (.gVaddx t)
  | 0x01 => some (.gVsubx t)
  | 0x02 => some (.gVmulx t)
  | 0x03 => some (.gVfmax t)
  | 0x08 => some (.gVbcast t)
  | 0x09 => some (.gVins t)
  | 0x0A => some (.gVext t)
  | 0x0B => some (.gVsldn t)
  | 0x0C => some (.gVslup t)
  | 0x10 => some (.gViota t)
  | _ => none

/-- The operations of POP by func3 (12 R414). -/
def popOf (t : ThreadId) : Nat → Option (BitVec 3 → BitVec 3 → BitVec 3 → BitVec 5 → Instr)
  | 0 => some (.gPand t)
  | 1 => some (.gPor t)
  | 2 => some (.gPxor t)
  | 3 => some (.gPandn t)
  | 4 => some (.gPfromx t)
  | 5 => some (.gPtox t)
  | _ => none

/-- The operations of AOP by func4 (12 R421). -/
def aopOf (t : ThreadId) : Nat → Option (BitVec 3 → BitVec 5 → BitVec 5 → Bool → BitVec 3 → BitVec 4 → Instr)
  | 0x0 => some (.gAmma t)
  | 0x1 => some (.gAzero t)
  | 0x2 => some (.gAread t)
  | 0x3 => some (.gAwait t)
  | 0x4 => some (.gAlut t)
  | _ => none

/-- The tile fetches by func3 (12 R424). -/
def tfetchOf (t : ThreadId) : Nat → Option (BitVec 5 → BitVec 5 → Bool → Instr)
  | 0 => some (.gTfraw t)
  | 1 => some (.gTffr t)
  | _ => none

/-- The operations of SYNC by func4 (12 R426). -/
def syncOf (t : ThreadId) : Nat → Option (BitVec 5 → BitVec 5 → BitVec 5 → BitVec 6 → Instr)
  | 0x0 => some (.gBar t)
  | 0x1 => some (.gPoswait t)
  | 0x2 => some (.gPosadv t)
  | 0x3 => some (.gMvreq t)
  | 0x4 => some (.gMvwait t)
  | 0x5 => some (.gWaitne t)
  | _ => none

/-- The branches by condition (12 R431). -/
def branchOf (t : ThreadId) : Nat → Option (BitVec 5 → BitVec 5 → BitVec 12 → Instr)
  | 0 => some (.gBeq t)
  | 1 => some (.gBne t)
  | 2 => some (.gBlt t)
  | 3 => some (.gBge t)
  | 4 => some (.gBltu t)
  | 5 => some (.gBgeu t)
  | _ => none

/-- The operations of SYS by func3 (12 R431). -/
def sysOf (t : ThreadId) : Nat → Option (BitVec 5 → BitVec 5 → BitVec 12 → Instr)
  | 0 => some (.gSrr t)
  | 1 => some (.gSrw t)
  | 2 => some (.gExit t)
  | 3 => some (.gNop t)
  | 4 => some (.gStop t)
  | 5 => some (.gIflush t)
  | _ => none

/-! ## Words -/

/-- Bits [hi:lo] of a word as a bit vector. -/
def fieldOf (n w lo : Nat) : BitVec n := BitVec.ofNat n (w / 2 ^ lo)

/-- The instruction a legal word spells, by its major opcode (12 R400). -/
def gaiskRead (t : ThreadId) (w : Nat) : Option Instr :=
  let x (lo : Nat) : BitVec 5 := fieldOf 5 w lo
  let v (lo : Nat) : BitVec 4 := fieldOf 4 w lo
  let p (lo : Nat) : BitVec 3 := fieldOf 3 w lo
  let imm : BitVec 12 := fieldOf 12 w 20
  match bits w 6 0 with
  | 0x01 => (sopOf t (bits w 31 22)).map (· (x 7) (x 12) (x 17))
  | 0x02 => (sopiOf t (bits w 19 17)).map (· (x 7) (x 12) imm)
  | 0x03 => some (.gLui t (x 7) (fieldOf 20 w 12))
  | 0x10 => (loadOf t (bits w 19 17)).map (· (x 7) (x 12) imm)
  | 0x11 => (storeOf t (bits w 19 17)).map (· (x 7) (x 12) imm)
  | 0x12 => (vloadOf t (bits w 20 19)).map (· (v 7) (x 11) (p 16) (fieldOf 11 w 21))
  | 0x13 => some (.gVst t (v 7) (x 11) (p 16) (fieldOf 11 w 21))
  | 0x14 => (atomicOf t (bits w 25 22)).map (· (x 7) (x 12) (x 17) (fieldOf 2 w 26) (fieldOf 2 w 28))
  | 0x15 => some (.gFence t (fieldOf 2 w 7) (fieldOf 2 w 9))
  | 0x20 => (vopOf t (bits w 31 26)).map (· (v 7) (v 11) (v 15) (p 19) (p 22) (w.testBit 25))
  | 0x21 => (vopxOf t (bits w 31 26)).map (· (v 7) (v 11) (x 15) (p 20) (p 23))
  | 0x22 => (popOf t (bits w 23 21)).map (· (p 7) (p 10) (p 13) (x 16))
  | 0x30 => (aopOf t (bits w 27 24)).map (· (p 7) (x 10) (x 15) (w.testBit 20) (p 21) (v 28))
  | 0x40 => (tfetchOf t (bits w 20 18)).map (· (x 7) (x 12) (w.testBit 17))
  | 0x50 => (syncOf t (bits w 25 22)).map (· (x 7) (x 12) (x 17) (fieldOf 6 w 26))
  | 0x60 => (branchOf t (bits w 19 17)).map (· (x 7) (x 12) imm)
  | 0x61 => some (.gJal t (x 7) (fieldOf 20 w 12))
  | 0x62 => some (.gJalr t (x 7) (x 12) imm)
  | 0x63 => (sysOf t (bits w 19 17)).map (· (x 7) (x 12) imm)
  | _ => none

/-- The instruction of a thread that a 32-bit word spells; none for an illegal word (12 R398 to R400). -/
def gaiskDecode (t : ThreadId) (w : Nat) : Option Instr := if wordLegal w then gaiskRead t w else none

/-- The word of an instruction of a thread (12 R398); none for every other command. -/
def gaiskWord : Instr → Option Nat
  | .gAdd _ rd rs1 rs2 => some (wordS3 0x01 0x000 rd rs1 rs2)
  | .gSub _ rd rs1 rs2 => some (wordS3 0x01 0x001 rd rs1 rs2)
  | .gAnd _ rd rs1 rs2 => some (wordS3 0x01 0x002 rd rs1 rs2)
  | .gOr _ rd rs1 rs2 => some (wordS3 0x01 0x003 rd rs1 rs2)
  | .gXor _ rd rs1 rs2 => some (wordS3 0x01 0x004 rd rs1 rs2)
  | .gSll _ rd rs1 rs2 => some (wordS3 0x01 0x005 rd rs1 rs2)
  | .gSrl _ rd rs1 rs2 => some (wordS3 0x01 0x006 rd rs1 rs2)
  | .gSra _ rd rs1 rs2 => some (wordS3 0x01 0x007 rd rs1 rs2)
  | .gSlt _ rd rs1 rs2 => some (wordS3 0x01 0x008 rd rs1 rs2)
  | .gSltu _ rd rs1 rs2 => some (wordS3 0x01 0x009 rd rs1 rs2)
  | .gMin _ rd rs1 rs2 => some (wordS3 0x01 0x00A rd rs1 rs2)
  | .gMax _ rd rs1 rs2 => some (wordS3 0x01 0x00B rd rs1 rs2)
  | .gMinu _ rd rs1 rs2 => some (wordS3 0x01 0x00C rd rs1 rs2)
  | .gMaxu _ rd rs1 rs2 => some (wordS3 0x01 0x00D rd rs1 rs2)
  | .gMul _ rd rs1 rs2 => some (wordS3 0x01 0x010 rd rs1 rs2)
  | .gMulh _ rd rs1 rs2 => some (wordS3 0x01 0x011 rd rs1 rs2)
  | .gMulhu _ rd rs1 rs2 => some (wordS3 0x01 0x012 rd rs1 rs2)
  | .gDiv _ rd rs1 rs2 => some (wordS3 0x01 0x014 rd rs1 rs2)
  | .gDivu _ rd rs1 rs2 => some (wordS3 0x01 0x015 rd rs1 rs2)
  | .gRem _ rd rs1 rs2 => some (wordS3 0x01 0x016 rd rs1 rs2)
  | .gRemu _ rd rs1 rs2 => some (wordS3 0x01 0x017 rd rs1 rs2)
  | .gClz _ rd rs1 rs2 => some (wordS3 0x01 0x018 rd rs1 rs2)
  | .gCtz _ rd rs1 rs2 => some (wordS3 0x01 0x019 rd rs1 rs2)
  | .gPopc _ rd rs1 rs2 => some (wordS3 0x01 0x01A rd rs1 rs2)
  | .gAddi _ rd rs1 imm => some (wordSI 0x02 0 rd rs1 imm)
  | .gAndi _ rd rs1 imm => some (wordSI 0x02 1 rd rs1 imm)
  | .gOri _ rd rs1 imm => some (wordSI 0x02 2 rd rs1 imm)
  | .gXori _ rd rs1 imm => some (wordSI 0x02 3 rd rs1 imm)
  | .gSlli _ rd rs1 imm => some (wordSI 0x02 4 rd rs1 imm)
  | .gSrli _ rd rs1 imm => some (wordSI 0x02 5 rd rs1 imm)
  | .gSrai _ rd rs1 imm => some (wordSI 0x02 6 rd rs1 imm)
  | .gSlti _ rd rs1 imm => some (wordSI 0x02 7 rd rs1 imm)
  | .gLui _ rd imm => some (wordSU 0x03 rd imm)
  | .gLb _ rd rs1 imm => some (wordSI 0x10 0 rd rs1 imm)
  | .gLh _ rd rs1 imm => some (wordSI 0x10 1 rd rs1 imm)
  | .gLw _ rd rs1 imm => some (wordSI 0x10 2 rd rs1 imm)
  | .gLd _ rd rs1 imm => some (wordSI 0x10 3 rd rs1 imm)
  | .gLbu _ rd rs1 imm => some (wordSI 0x10 4 rd rs1 imm)
  | .gLhu _ rd rs1 imm => some (wordSI 0x10 5 rd rs1 imm)
  | .gLwu _ rd rs1 imm => some (wordSI 0x10 6 rd rs1 imm)
  | .gSb _ rd rs1 imm => some (wordSI 0x11 0 rd rs1 imm)
  | .gSh _ rd rs1 imm => some (wordSI 0x11 1 rd rs1 imm)
  | .gSw _ rd rs1 imm => some (wordSI 0x11 2 rd rs1 imm)
  | .gSd _ rd rs1 imm => some (wordSI 0x11 3 rd rs1 imm)
  | .gVld _ vd rs1 pm imm => some (wordVM 0x12 0 vd rs1 pm imm)
  | .gVldnt _ vd rs1 pm imm => some (wordVM 0x12 1 vd rs1 pm imm)
  | .gVst _ vd rs1 pm imm => some (wordVM 0x13 0 vd rs1 pm imm)
  | .gAadd _ rd rs1 rs2 order size => some (wordAT 0x0 rd rs1 rs2 order size)
  | .gAand _ rd rs1 rs2 order size => some (wordAT 0x1 rd rs1 rs2 order size)
  | .gAor _ rd rs1 rs2 order size => some (wordAT 0x2 rd rs1 rs2 order size)
  | .gAxor _ rd rs1 rs2 order size => some (wordAT 0x3 rd rs1 rs2 order size)
  | .gAmin _ rd rs1 rs2 order size => some (wordAT 0x4 rd rs1 rs2 order size)
  | .gAmax _ rd rs1 rs2 order size => some (wordAT 0x5 rd rs1 rs2 order size)
  | .gAminu _ rd rs1 rs2 order size => some (wordAT 0x6 rd rs1 rs2 order size)
  | .gAmaxu _ rd rs1 rs2 order size => some (wordAT 0x7 rd rs1 rs2 order size)
  | .gAswap _ rd rs1 rs2 order size => some (wordAT 0x8 rd rs1 rs2 order size)
  | .gAcas _ rd rs1 rs2 order size => some (wordAT 0x9 rd rs1 rs2 order size)
  | .gAfadd _ rd rs1 rs2 order size => some (wordAT 0xA rd rs1 rs2 order size)
  | .gFence _ scope kind => some (wordFN scope kind)
  | .gVadd _ vd vs1 vs2 pm ty rm => some (wordV 0x00 vd vs1 vs2 pm ty rm)
  | .gVsub _ vd vs1 vs2 pm ty rm => some (wordV 0x01 vd vs1 vs2 pm ty rm)
  | .gVmul _ vd vs1 vs2 pm ty rm => some (wordV 0x02 vd vs1 vs2 pm ty rm)
  | .gVfma _ vd vs1 vs2 pm ty rm => some (wordV 0x03 vd vs1 vs2 pm ty rm)
  | .gVfnma _ vd vs1 vs2 pm ty rm => some (wordV 0x04 vd vs1 vs2 pm ty rm)
  | .gVmin _ vd vs1 vs2 pm ty rm => some (wordV 0x05 vd vs1 vs2 pm ty rm)
  | .gVmax _ vd vs1 vs2 pm ty rm => some (wordV 0x06 vd vs1 vs2 pm ty rm)
  | .gVdiv _ vd vs1 vs2 pm ty rm => some (wordV 0x07 vd vs1 vs2 pm ty rm)
  | .gVsqrt _ vd vs1 vs2 pm ty rm => some (wordV 0x08 vd vs1 vs2 pm ty rm)
  | .gVrcp _ vd vs1 vs2 pm ty rm => some (wordV 0x09 vd vs1 vs2 pm ty rm)
  | .gVrsqrt _ vd vs1 vs2 pm ty rm => some (wordV 0x0A vd vs1 vs2 pm ty rm)
  | .gVexp2 _ vd vs1 vs2 pm ty rm => some (wordV 0x0B vd vs1 vs2 pm ty rm)
  | .gVlog2 _ vd vs1 vs2 pm ty rm => some (wordV 0x0C vd vs1 vs2 pm ty rm)
  | .gVsinpi _ vd vs1 vs2 pm ty rm => some (wordV 0x0D vd vs1 vs2 pm ty rm)
  | .gVcospi _ vd vs1 vs2 pm ty rm => some (wordV 0x0E vd vs1 vs2 pm ty rm)
  | .gVtanh _ vd vs1 vs2 pm ty rm => some (wordV 0x0F vd vs1 vs2 pm ty rm)
  | .gVcvt _ vd vs1 vs2 pm ty rm => some (wordV 0x10 vd vs1 vs2 pm ty rm)
  | .gVsel _ vd vs1 vs2 pm ty rm => some (wordV 0x11 vd vs1 vs2 pm ty rm)
  | .gVperm _ vd vs1 vs2 pm ty rm => some (wordV 0x12 vd vs1 vs2 pm ty rm)
  | .gVredadd _ vd vs1 vs2 pm ty rm => some (wordV 0x13 vd vs1 vs2 pm ty rm)
  | .gVredmax _ vd vs1 vs2 pm ty rm => some (wordV 0x14 vd vs1 vs2 pm ty rm)
  | .gVredmin _ vd vs1 vs2 pm ty rm => some (wordV 0x15 vd vs1 vs2 pm ty rm)
  | .gVand _ vd vs1 vs2 pm ty rm => some (wordV 0x18 vd vs1 vs2 pm ty rm)
  | .gVor _ vd vs1 vs2 pm ty rm => some (wordV 0x19 vd vs1 vs2 pm ty rm)
  | .gVxor _ vd vs1 vs2 pm ty rm => some (wordV 0x1A vd vs1 vs2 pm ty rm)
  | .gVsll _ vd vs1 vs2 pm ty rm => some (wordV 0x1B vd vs1 vs2 pm ty rm)
  | .gVsrl _ vd vs1 vs2 pm ty rm => some (wordV 0x1C vd vs1 vs2 pm ty rm)
  | .gVsra _ vd vs1 vs2 pm ty rm => some (wordV 0x1D vd vs1 vs2 pm ty rm)
  | .gVsadd _ vd vs1 vs2 pm ty rm => some (wordV 0x1E vd vs1 vs2 pm ty rm)
  | .gVssub _ vd vs1 vs2 pm ty rm => some (wordV 0x1F vd vs1 vs2 pm ty rm)
  | .gVcmpeq _ vd vs1 vs2 pm ty rm => some (wordV 0x20 vd vs1 vs2 pm ty rm)
  | .gVcmplt _ vd vs1 vs2 pm ty rm => some (wordV 0x21 vd vs1 vs2 pm ty rm)
  | .gVcmple _ vd vs1 vs2 pm ty rm => some (wordV 0x22 vd vs1 vs2 pm ty rm)
  | .gVcmpun _ vd vs1 vs2 pm ty rm => some (wordV 0x23 vd vs1 vs2 pm ty rm)
  | .gVcmpltu _ vd vs1 vs2 pm ty rm => some (wordV 0x24 vd vs1 vs2 pm ty rm)
  | .gVabs _ vd vs1 vs2 pm ty rm => some (wordV 0x25 vd vs1 vs2 pm ty rm)
  | .gVneg _ vd vs1 vs2 pm ty rm => some (wordV 0x26 vd vs1 vs2 pm ty rm)
  | .gVaddx _ vd vs1 rs2 pm ty => some (wordVX 0x00 vd vs1 rs2 pm ty)
  | .gVsubx _ vd vs1 rs2 pm ty => some (wordVX 0x01 vd vs1 rs2 pm ty)
  | .gVmulx _ vd vs1 rs2 pm ty => some (wordVX 0x02 vd vs1 rs2 pm ty)
  | .gVfmax _ vd vs1 rs2 pm ty => some (wordVX 0x03 vd vs1 rs2 pm ty)
  | .gVbcast _ vd vs1 rs2 pm ty => some (wordVX 0x08 vd vs1 rs2 pm ty)
  | .gVins _ vd vs1 rs2 pm ty => some (wordVX 0x09 vd vs1 rs2 pm ty)
  | .gVext _ vd vs1 rs2 pm ty => some (wordVX 0x0A vd vs1 rs2 pm ty)
  | .gVsldn _ vd vs1 rs2 pm ty => some (wordVX 0x0B vd vs1 rs2 pm ty)
  | .gVslup _ vd vs1 rs2 pm ty => some (wordVX 0x0C vd vs1 rs2 pm ty)
  | .gViota _ vd vs1 rs2 pm ty => some (wordVX 0x10 vd vs1 rs2 pm ty)
  | .gPand _ pd ps1 ps2 rs => some (wordP 0 pd ps1 ps2 rs)
  | .gPor _ pd ps1 ps2 rs => some (wordP 1 pd ps1 ps2 rs)
  | .gPxor _ pd ps1 ps2 rs => some (wordP 2 pd ps1 ps2 rs)
  | .gPandn _ pd ps1 ps2 rs => some (wordP 3 pd ps1 ps2 rs)
  | .gPfromx _ pd ps1 ps2 rs => some (wordP 4 pd ps1 ps2 rs)
  | .gPtox _ pd ps1 ps2 rs => some (wordP 5 pd ps1 ps2 rs)
  | .gAmma _ acc rs1 rs2 bank mode flags => some (wordA 0x0 acc rs1 rs2 bank mode flags)
  | .gAzero _ acc rs1 rs2 bank mode flags => some (wordA 0x1 acc rs1 rs2 bank mode flags)
  | .gAread _ acc rs1 rs2 bank mode flags => some (wordA 0x2 acc rs1 rs2 bank mode flags)
  | .gAwait _ acc rs1 rs2 bank mode flags => some (wordA 0x3 acc rs1 rs2 bank mode flags)
  | .gAlut _ acc rs1 rs2 bank mode flags => some (wordA 0x4 acc rs1 rs2 bank mode flags)
  | .gTfraw _ rs1 rs2 bank => some (wordTF 0 rs1 rs2 bank)
  | .gTffr _ rs1 rs2 bank => some (wordTF 1 rs1 rs2 bank)
  | .gBar _ rd rs1 rs2 imm => some (wordSY 0x0 rd rs1 rs2 imm)
  | .gPoswait _ rd rs1 rs2 imm => some (wordSY 0x1 rd rs1 rs2 imm)
  | .gPosadv _ rd rs1 rs2 imm => some (wordSY 0x2 rd rs1 rs2 imm)
  | .gMvreq _ rd rs1 rs2 imm => some (wordSY 0x3 rd rs1 rs2 imm)
  | .gMvwait _ rd rs1 rs2 imm => some (wordSY 0x4 rd rs1 rs2 imm)
  | .gWaitne _ rd rs1 rs2 imm => some (wordSY 0x5 rd rs1 rs2 imm)
  | .gBeq _ rs1 rs2 off => some (wordB 0 rs1 rs2 off)
  | .gBne _ rs1 rs2 off => some (wordB 1 rs1 rs2 off)
  | .gBlt _ rs1 rs2 off => some (wordB 2 rs1 rs2 off)
  | .gBge _ rs1 rs2 off => some (wordB 3 rs1 rs2 off)
  | .gBltu _ rs1 rs2 off => some (wordB 4 rs1 rs2 off)
  | .gBgeu _ rs1 rs2 off => some (wordB 5 rs1 rs2 off)
  | .gJal _ rd imm => some (wordSU 0x61 rd imm)
  | .gJalr _ rd rs1 imm => some (wordSI 0x62 0 rd rs1 imm)
  | .gSrr _ rd rs1 imm => some (wordSI 0x63 0 rd rs1 imm)
  | .gSrw _ rd rs1 imm => some (wordSI 0x63 1 rd rs1 imm)
  | .gExit _ rd rs1 imm => some (wordSI 0x63 2 rd rs1 imm)
  | .gNop _ rd rs1 imm => some (wordSI 0x63 3 rd rs1 imm)
  | .gStop _ rd rs1 imm => some (wordSI 0x63 4 rd rs1 imm)
  | .gIflush _ rd rs1 imm => some (wordSI 0x63 5 rd rs1 imm)
  | _ => none

end Sys2Proof
end

