-- ==== Sys2Proof/Machine/Sched.lean ====
section
/-!
DEFINITION. Schedule entries (08 R264 to R276): their fields, and how a firing ends.
-/
namespace Sys2Proof.Machine

/-! ## Positions (00 R16) -/

/-- The step of a position. -/
def posStep (p : Nat) : Nat := p / 2 ^ 24
/-- The layer of a position. -/
def posLayer (p : Nat) : Nat := bits p 23 8
/-- The position step.layer.0. -/
def posAt (step layer : Nat) : Nat := (step * 2 ^ 24 + layer * 256) % 2 ^ 64

/-- The LD a job slot belongs to (13 R437). -/
def jobLd (j : Nat) : Nat := j / 64

/-! ## Entries (08 R264) -/

/-- The LD of a schedule entry. -/
def schedLd (n : Nat) : Nat := n / 1024
/-- The action. -/
def Sched.action (x : Sched) : Nat := field x.bytes 0 1
/-- Whether it is armed. -/
def Sched.armed (x : Sched) : Bool := (field x.bytes 1 1).testBit 0
/-- Whether it repeats each step. -/
def Sched.repeats (x : Sched) : Bool := (field x.bytes 1 1).testBit 1
/-- Whether its lead is fixed. -/
def Sched.fixed (x : Sched) : Bool := (field x.bytes 1 1).testBit 2
/-- Its cadence. -/
def Sched.cad (x : Sched) : Nat := field x.bytes 2 1
/-- Its lead limit. -/
def Sched.leadLimit (x : Sched) : Nat := field x.bytes 3 1
/-- The destination tier of a demote. -/
def Sched.tier (x : Sched) : Nat := field x.bytes 4 1
/-- Its target position. -/
def Sched.target (x : Sched) : Nat := field x.bytes 8 8
/-- Operand A. -/
def Sched.opA (x : Sched) : Nat := field x.bytes 16 8
/-- Operand B. -/
def Sched.opB (x : Sched) : Nat := field x.bytes 24 4
/-- Whether it steeps. -/
def Sched.steeps (x : Sched) : Bool := x.action == 1 || x.action == 2
/-- The class of its moves: a late steep's are raised (05 R183, 08 R273). -/
def Sched.cls (x : Sched) : Nat := if !x.steeps then 4 else if x.late then 1 else 3
/-- The tier a steep or demote moves to. -/
def Sched.dest (x : Sched) : Nat := if x.action = 1 then 1 else if x.action = 2 then 0 else x.tier

/-- The 32 bytes of an entry's status (08 R276). -/
def Sched.statusBytes (x : Sched) : Bytes :=
  leBytes 1 x.status ++ leBytes 1 x.lead ++ leBytes 1 x.cause ++ leBytes 1 (b2n x.capped) ++ leBytes 4 x.lateCount
    ++ leBytes 8 x.issuePos ++ leBytes 4 x.lastLate ++ leBytes 4 x.delta ++ leBytes 8 x.latePos

/-- A schedule entry; one that nothing has written is all zeros. -/
def State.entryOf (s : State) (n : Nat) : Sched := (tabGet s.sched n).getD { bytes := zeros 32 }
/-- Replace a schedule entry. -/
def State.setEntryOf (s : State) (n : Nat) (x : Sched) : State := { s with sched := tabSet s.sched n x }

/-! ## The end of a firing (08 R268, R273 to R275) -/

/-- The cause of a late firing: the first that applies (08 R275). -/
def Sched.lateCause (x : Sched) : Nat :=
  if x.noSpace then 3 else if x.unreachable then 4 else if x.restart then 5 else if x.decodeWait > x.transferWait then 2 else 1

/-- Late accounting of a steep firing that has ended (08 R274). -/
def State.accountLate (s : State) (n : Nat) (x : Sched) : Sched × State :=
  let u := 0x810 + x.cad
  let lim := s.obj u 0x114 0
  if !x.late then ({ x with delta := x.delta - x.delta / 16 }, s)
  else
    let l := s.now - x.reachedAt.getD s.now
    let y : Sched := { x with delta := Nat.min (x.delta + 2 * l) lim, lateCount := (x.lateCount + 1) % 2 ^ 32
                              lastLate := Nat.min l 0xFFFFFFFF, latePos := x.target, cause := x.lateCause }
    let s := (s.bump u 0x13 1).bump u 0x19 l
    (y, if l > lim then (s.raise u 0x0140 n).bump u 0x1A 1 else s)

/-- The entry is ready for its next target, one step on (08 R268). -/
def Sched.rearm (x : Sched) : Sched :=
  { x with bytes := patch x.bytes 8 (leBytes 8 ((x.target + 2 ^ 24) % 2 ^ 64)), status := if x.status = 5 then 5 else 1
           lam := none, issued := false, reachedAt := none, late := false, noSpace := false, unreachable := false
           restart := false, waiting := [], decodeWait := 0, transferWait := 0 }

/-- A fired entry whose target is reached and whose moves have all ended re-arms, or is done (08 R268, R274). The cadence reaches the target
of a steep after it issues, of another action as it fires; a rewind takes neither back. A refused firing stays on show (08 R276). -/
def State.schedCheck (s : State) (n : Nat) : State :=
  match tabGet s.sched n with
  | none => s
  | some x =>
    if !x.issued ∨ x.done ∨ !x.armed ∨ !x.waiting.isEmpty ∨ s.moves.any (fun m => m.2.by_ == .schedule n)
      ∨ (x.steeps && x.reachedAt.isNone) then s
    else
      let (y, s) := if x.steeps then s.accountLate n x else (x, s)
      if y.repeats then s.setEntryOf n y.rearm
      else s.setEntryOf n { y with status := if y.status = 5 then 5 else 4, done := true, late := false }

end Sys2Proof.Machine
end

