-- ==== Sys2Proof/Machine/FrCodec.lean ====
section
/-!
DEFINITION. The fixed-rate codec: rates, frame layout, tables, encoding, decoding and residuals (04 R121 to R143).
-/
namespace Sys2Proof.Machine

/-- The number format of an element type: 1 BF16, 2 FP16, 3 FP32 (03 R97). -/
def elemFmt (ty : Nat) : Fmt := if ty = 2 then fp16 else if ty = 3 then fp32 else bf16
/-- Bytes of one element. -/
def elemBytes (ty : Nat) : Nat := if ty = 3 then 4 else 2
/-- Elements of a line (04 R121). -/
def lineElems (ty : Nat) : Nat := 64 / elemBytes ty
/-- Index bits of an FR width code: 1, 2, 3 for 4, 6, 8 (04 R123). -/
def frBits (wcode : Nat) : Nat := if wcode = 1 then 4 else if wcode = 2 then 6 else 8
/-- The FR width code of an index width. -/
def frCode (b : Nat) : Nat := if b = 4 then 1 else if b = 6 then 2 else 3
/-- The coded line size c (04 R121). -/
def codedSize (ty b : Nat) : Nat := lineElems ty * b / 8
/-- Bytes of an FR frame (04 R122). -/
def frameBytes (ty b : Nat) : Nat := 1024 * codedSize ty b + 2048
/-- Blocks of 1 KiB of a tile in ready form (04 R122). -/
def readyBlocks (ty wcode : Nat) : Nat :=
  if wcode = 0 then 64 else codedSize ty (frBits wcode) + 2

/-- A loaded FR table (04 R126 to R128): index width, NaN designation, entries as FP16 encodings. -/
structure FrTable where
  width : Nat
  nan : Bool
  entries : List Nat
deriving DecidableEq, Repr

/-- The value of an FP16 entry in units of 2^-24. -/
def fp16Units (v : Nat) : Int :=
  match fp16.decode v with
  | .fin n m e => scaled n m e (-24)
  | _ => 0

/-- The finite entries, in units of 2^-24. -/
def FrTable.finite (t : FrTable) : List Int :=
  (t.entries.take (if t.nan then t.entries.length - 1 else t.entries.length)).map fp16Units

/-- Strictly ascending. -/
def ascending : List Int → Bool
  | [] => true
  | [_] => true
  | a :: b :: r => decide (a < b) && ascending (b :: r)

/-- The table of an image, when R126 and R127 hold. -/
def frTableOf (img : Bytes) : Option FrTable :=
  let b := field img 2 1
  let fl := field img 3 1
  let n := 2 ^ b
  let es := (List.range n).map (fun i => field img (16 + 2 * i) 2)
  let t : FrTable := ⟨b, fl.testBit 0, es⟩
  let fin := es.take (if t.nan then n - 1 else n)
  if field img 0 2 = 0x4654 ∧ (b = 4 ∨ b = 6 ∨ b = 8) ∧ fl ≤ 1 ∧ field img 4 2 = n ∧
      allZero (slice img 6 10) = true ∧ allZero (img.drop (16 + 2 * n)) = true ∧
      (t.nan = true → nth es (n - 1) 0 = 0x7E00) ∧
      fin.all (fun v => v / 1024 % 32 != 31) = true ∧ ascending t.finite = true ∧
      fin.contains 0 = true ∧ fin.contains 0x8000 = false ∧ t.finite.any (· != 0) = true
  then some t else none

/-- The top exponent t (04 R128). -/
def FrTable.top (t : FrTable) : Int :=
  let f := t.finite
  let a := (nth f 0 0).natAbs
  let b := (nth f (f.length - 1) 0).natAbs
  (bitLen (if a > b then a else b) : Int) - 1 - 24

/-- The zero index z (04 R128). -/
def FrTable.zeroIdx (t : FrTable) : Nat := (t.finite.findIdx (· == 0))

/-- The smallest non-zero magnitude a (04 R128), in units of 2^-24. -/
def FrTable.least (t : FrTable) : Nat :=
  (t.finite.filter (· != 0)).foldl (fun m v => if m = 0 ∨ v.natAbs < m then v.natAbs else m) 0

/-- What coding a line gives: indices, scale byte, flag, elements saturated, elements flushed (04 R129, R133). -/
structure FrLine where
  idx : List Nat
  scale : Nat
  flag : Bool
  saturated : Nat := 0
  flushed : Nat := 0
deriving DecidableEq, Repr

/-- nearest(y) of 04 R129 on a table scaled like `y`; ties go to the even index. -/
def frNearest (ts : List Int) (y : Int) : Nat :=
  let m := ts.length
  if y ≥ nth ts (m - 1) 0 then m - 1
  else if y ≤ nth ts 0 0 then 0
  else
    let j := (ts.takeWhile (fun t => decide (t ≤ y))).length - 1
    let lo := y - nth ts j 0
    let hi := nth ts (j + 1) 0 - y
    if lo < hi then j else if lo > hi then j + 1 else if j % 2 = 0 then j else j + 1

/-- The elements of a line as encodings. -/
def lineValues (ty : Nat) (line : Bytes) : List Nat := (pieces (elemBytes ty) line).map leNat

/-- The exponent e of a line: clamp(emax − t) (04 R129). -/
def frExponent (t : FrTable) (vs : List FVal) : Int :=
  match vs.foldl (fun (a : Option Int) v =>
      match v.exponent, a with
      | none, a => a
      | some x, none => some x
      | some x, some y => some (if x > y then x else y)) none with
  | none => 0
  | some emax =>
    let d := emax - t.top
    if d < -128 then -128 else if d > 127 then 127 else d

/-- One element: its index, whether it sets the flag, saturates, is flushed. -/
def frElem (t : FrTable) (fin : List Int) (e : Int) : FVal → Nat × Bool × Bool × Bool
  | .nan _ => if t.nan then (2 ^ t.width - 1, false, false, false) else (t.zeroIdx, true, false, false)
  | .inf n => (if n then 0 else fin.length - 1, true, false, false)
  | .fin n m x =>
    let q : Int := if x - e < -24 then x - e else -24
    let y := scaled n m (x - e) q
    let ts := fin.map (fun v => v * 2 ^ (-24 - q).toNat)
    let sat := decide (y > nth ts (ts.length - 1) 0) || decide (y < nth ts 0 0)
    let flushed := m != 0 && decide (2 * y.natAbs < t.least * 2 ^ (-24 - q).toNat)
    (frNearest ts y, false, sat, flushed)

/-- encode_line (04 R129) with the counts of R133. -/
def frEncode (t : FrTable) (ty : Nat) (line : Bytes) : FrLine :=
  let vs := (lineValues ty line).map (elemFmt ty).decode
  let e := frExponent t vs
  let fin := t.finite
  let rs := vs.map (frElem t fin e)
  { idx := rs.map (·.1), scale := (e + 128).toNat, flag := rs.any (·.2.1)
    saturated := (rs.filter (·.2.2.1)).length, flushed := (rs.filter (·.2.2.2)).length }

/-- Element of decode_line (04 R130). -/
def frDecodeElem (t : FrTable) (ty : Nat) (scale idx : Nat) : Nat :=
  let f := elemFmt ty
  if t.nan ∧ idx = 2 ^ t.width - 1 then f.nan
  else
    let u := fp16Units (nth t.entries idx 0)
    (f.round .rne true (decide (u < 0)) u.natAbs ((scale : Int) - 128 - 24) false).1

/-- decode_line (04 R130). -/
def frDecode (t : FrTable) (ty : Nat) (idx : List Nat) (scale : Nat) : Bytes :=
  idx.flatMap (fun i => leBytes (elemBytes ty) (frDecodeElem t ty scale i))

/-- The coded bytes of a line's indices (04 R124). -/
def packIdx (b : Nat) (idx : List Nat) : Bytes :=
  leBytes (idx.length * b / 8) (idx.foldr (fun i a => i + a * 2 ^ b) 0)

/-- The indices of a coded line (04 R124). -/
def unpackIdx (b n : Nat) (coded : Bytes) : List Nat :=
  let v := leNat coded
  (List.range n).map (fun k => (v >>> (b * k)) % 2 ^ b)

/-- Where line `j` lies in the frame (04 R122): offset of its coded line, of its scale byte, of its flag byte. -/
def frOffsets (ty b j : Nat) : Nat × Nat × Nat :=
  let c := codedSize ty b
  (c * j, 1024 * c + j, 1024 * c + 1024 + j / 8)

/-- The frame trailer (04 R123). -/
def frTrailer (ty wcode slot gen tile : Nat) : Bytes :=
  leBytes 2 0x4652 ++ leBytes 1 ty ++ leBytes 1 wcode ++ leBytes 1 slot ++ leBytes 1 0
    ++ leBytes 2 gen ++ leBytes 4 tile ++ zeros 4

/-- The frame of coded lines 0 to 1,023 (04 R122). -/
def frameOf (ty b slot gen tile : Nat) (ls : List FrLine) : Bytes :=
  ls.flatMap (fun l => packIdx b l.idx) ++ ls.map (fun l => BitVec.ofNat 8 l.scale)
    ++ (pieces 8 ls).map (fun g => BitVec.ofNat 8 (g.foldr (fun l a => b2n l.flag + 2 * a) 0))
    ++ frTrailer ty (frCode b) slot gen tile ++ zeros 880

/-- The stored form of a zero line: index z, scale byte of e = 0, flag clear (03 R105, 04 R128, R129). -/
def zeroFrLine (t : FrTable) (ty : Nat) : FrLine :=
  { idx := List.replicate (lineElems ty) t.zeroIdx, scale := 128, flag := false }

/-- The residual of one element: bf16(x − d), capped, +0 for a non-finite x (04 R139). -/
def residualElem (ty x d : Nat) : Nat :=
  let f := elemFmt ty
  match f.decode x with
  | .fin _ _ _ => (bf16.ofVal .rne true ((f.decode x).add (f.decode d).neg).1).1
  | _ => 0

/-- The residual line of a plaintext line and its decoded value (04 R139). -/
def residualLine (ty : Nat) (x d : Bytes) : Bytes :=
  (List.zipWith (residualElem ty) (lineValues ty x) (lineValues ty d)).flatMap (leBytes 2)

/-- The residual of a recode: bf16((d_old + r_old) − d_new), the sum exact (04 R153). -/
def recodeResidual (ty dOld rOld dNew : Nat) : Nat :=
  let f := elemFmt ty
  let s := ((f.decode dOld).add (bf16.decode rOld)).1
  (bf16.ofVal .rne true (s.add (f.decode dNew).neg).1).1

/-! ## Default tables (04 R143) -/

/-- fp16 of 2^(−k/8), rounded to nearest even. -/
def fp16Root (k : Nat) : Nat :=
  let r := isqrt (isqrt (isqrt (2 ^ (8 * 200 - k))))
  (fp16.round .rne false false r (-200) (k % 8 != 0)).1

/-- fp16 of m·2^e. -/
def fp16Of (neg : Bool) (m : Nat) (e : Int) : Nat := (fp16.round .rne false neg m e false).1

/-- Positive entries to the full entry list: −P descending in magnitude, 0, P, then NaN. -/
def signedEntries (p : List Nat) : List Nat := p.reverse.map (· + 0x8000) ++ [0] ++ p ++ [0x7E00]

/-- The uniform tables: (i − 2^(b−1)) / 2^(b−1). -/
def uniformEntries (b : Nat) : List Nat :=
  (List.range (2 ^ b)).map (fun i =>
    let h := 2 ^ (b - 1)
    fp16Of (decide (i < h)) (if i < h then h - i else i - h) (1 - (b : Int)))

/-- (m + f/m)·2^k style grids: mantissas lo to 2·lo − 1 at each exponent. -/
def gridEntries (lo : Nat) (ks : List Int) : List Nat :=
  ks.flatMap (fun k => (List.range lo).map (fun f => fp16Of false (lo + f) k))

/-- Default table `id` (04 R143). -/
def defaultTable (id : Nat) : FrTable :=
  match id with
  | 0 => ⟨4, false, uniformEntries 4⟩
  | 1 => ⟨4, true, signedEntries ([1, 2, 3, 4, 6, 8, 12].map (fun m => fp16Of false m (-1)))⟩
  | 2 => ⟨4, true, signedEntries ([6, 5, 4, 3, 2, 1, 0].map (fun k => fp16Root (8 * k)))⟩
  | 3 => ⟨6, false, uniformEntries 6⟩
  | 4 => ⟨6, true, signedEntries ([1, 2, 3].map (fun m => fp16Of false m (-4))
      ++ gridEntries 4 [-4, -3, -2, -1, 0, 1, 2])⟩
  | 5 => ⟨6, true, signedEntries ((List.range 31).map (fun i => fp16Root (4 * (30 - i))))⟩
  | 6 => ⟨8, false, uniformEntries 8⟩
  | 7 => ⟨8, true, signedEntries ([1, 2, 3, 4, 5, 6, 7].map (fun m => fp16Of false m (-9))
      ++ gridEntries 8 [-9, -8, -7, -6, -5, -4, -3, -2, -1, 0, 1, 2, 3, 4, 5])⟩
  | _ => ⟨8, true, signedEntries ((List.range 127).map (fun i => fp16Root (126 - i)))⟩

/-- The image of a table (04 R126). -/
def tableImage (t : FrTable) : Bytes :=
  slice (leBytes 2 0x4654 ++ leBytes 1 t.width ++ leBytes 1 (b2n t.nan) ++ leBytes 2 (2 ^ t.width) ++ zeros 10
    ++ t.entries.flatMap (leBytes 2)) 0 528

end Sys2Proof.Machine
end

