-- ==== Sys2Proof/Machine/Codes.lean ====
section
/-!
DEFINITION. The check codes of the spec: its CRCs (02 R69 store format, 03 R104, 05 R168, 16 R540) and RS(72,64) (14 R478, R479).
-/
namespace Sys2Proof.Machine

/-! ## CRCs -/

/-- `n` steps of a reflected CRC. -/
def crcReflSteps (poly : Nat) : Nat → Nat → Nat
  | 0, c => c
  | n + 1, c => crcReflSteps poly n (if c % 2 = 1 then (c / 2) ^^^ poly else c / 2)

/-- CRC-32 of IEEE 802.3 (the profile copies, 02 R69 ff.). -/
def crc32 (b : Bytes) : Nat :=
  (b.foldl (fun c x => crcReflSteps 0xEDB88320 8 (c ^^^ x.toNat)) 0xFFFFFFFF) ^^^ 0xFFFFFFFF

/-- CRC-32C: Castagnoli polynomial reflected, initial value and final XOR all ones (05 R168). -/
def crc32c (b : Bytes) : Nat :=
  (b.foldl (fun c x => crcReflSteps 0x82F63B78 8 (c ^^^ x.toNat)) 0xFFFFFFFF) ^^^ 0xFFFFFFFF

/-- `n` steps of a CRC of `w` bits taken most significant bit first. -/
def crcSteps (w poly : Nat) : Nat → Nat → Nat
  | 0, c => c
  | n + 1, c => crcSteps w poly n (if c.testBit (w - 1) then (2 * c) % 2 ^ w ^^^ poly else 2 * c)

/-- CRC-16 of polynomial 0x1021 and initial value 0xFFFF: the tile map's entry check (03 R104). -/
def crc16 (b : Bytes) : Nat :=
  b.foldl (fun c x => crcSteps 16 0x1021 8 (c ^^^ (x.toNat <<< 8))) 0xFFFF

/-- CRC-64 of polynomial 0x42F0_E1EB_A9EA_3693, initial value 0: the link CRC of a flit (16 R540). -/
def crc64 (b : Bytes) : Nat :=
  b.foldl (fun c x => crcSteps 64 0x42F0E1EBA9EA3693 8 (c ^^^ (x.toNat <<< 56))) 0

/-! ## RS(72,64) over GF(2^8), field polynomial x^8 + x^4 + x^3 + x^2 + 1 -/

/-- The powers of α: α^i in bits [8i+7:8i], i = 0 to 254. -/
def gfExpTable : Nat :=
  0x8e47add86c361b83cfe9fa7db0582c160b8bcbebfbf3f7f5f47a3d90482412098a45ac562b9bc3eff9f279b259a251a653a7dde070381c0e078dc86432198241ae57a5dc6e3795c46231964babdbe3fff1f67bb3d7e5fc7e3f91c663bfd1e673b7d5e472399249aa55a452299a4da8542a158442219e4fa9da6db85c2e1785cc663397c5ec763b93c7edf87c3e1f81ce67bdd068341a0d884422118643afd9e271b65ba3dfe1fe7fb1d66bbbd3e7fdf0783c1e0f89ca65bc5e2f99c261be5fa1de6fb9d269ba5da05028140a058c46239fc1ee77b5d46a35944a259c4e279dc06030180c06038fc9ea75b45a2d984c261387cde8743a1d8040201008040201

/-- The logarithms: of `a` in bits [8a+7:8a]. -/
def gfLogTable : Nat :=
  0xaf5850a8eaf4d674e8ade7e6e9d5ae4fd72c757aeb16f50b51a0a99cb05f59cb5a3eccbbb18660fbaa559d29523ba16cf66f0c7fec4917c476a47bb7d8432d1fa2416d4753393c849e5d2a14abd356f261befcdcb2978790cdcfbc955bd13f372e892023d99244117cb4b8267799a5e318fec531edde4a670d63808cf7c0700757a7f373ace5d44e2b79150a9f9b5eca3dba85fa54283a6b6e7e48c3a3b6421e404638835c13d2f1bddb968fce94d03688229110b32598e2fd30dd66628bbf06a672e44d78099ac9b9f9276a7dc2b51d458212f0da8e9335210f24e12f658a05714c08c8f869c11c81ef8d340ee064044bc7681bee33df03c61a320219010000

/-- α^i. -/
def gfExp (i : Nat) : Nat := (gfExpTable >>> (8 * (i % 255))) % 256
/-- The logarithm of a non-zero element. -/
def gfLog (a : Nat) : Nat := (gfLogTable >>> (8 * a)) % 256
/-- Product in the field. -/
def gfMul (a b : Nat) : Nat := if a = 0 ∨ b = 0 then 0 else gfExp (gfLog a + gfLog b)
/-- Quotient in the field by a non-zero element. -/
def gfDiv (a b : Nat) : Nat := if a = 0 then 0 else gfExp (gfLog a + 255 - gfLog b)

/-- The generator polynomial (x − α^0)…(x − α^7) without its leading 1, highest power first. -/
def rsGenerator : List Nat := [255, 11, 81, 54, 239, 173, 200, 24]

/-- One step of the systematic division: the remainder register after a data byte. -/
def rsStep (reg : List Nat) (d : Byte) : List Nat :=
  let f := d.toNat ^^^ nth reg 0 0
  List.zipWith (fun r g => r ^^^ gfMul f g) (reg.drop 1 ++ [0]) rsGenerator

/-- The 8 check bytes of 64 data bytes, check byte 0 the coefficient of x^7 (14 R478). -/
def rsCheck (data : Bytes) : Bytes :=
  (data.foldl rsStep [0, 0, 0, 0, 0, 0, 0, 0]).map (BitVec.ofNat 8)

/-- The 72-byte granule of 64 data bytes. -/
def rsEncode (data : Bytes) : Bytes := data ++ rsCheck data

/-- The value of a polynomial at `x`, coefficients highest power first. -/
def gfEval (p : List Nat) (x : Nat) : Nat := p.foldl (fun a c => gfMul a x ^^^ c) 0

/-- The eight syndromes of a received granule. -/
def rsSyndromes (r : Bytes) : List Nat :=
  (List.range 8).map (fun j => gfEval (r.map (·.toNat)) (gfExp j))

/-- Whether 72 bytes are a codeword. -/
def rsValid (r : Bytes) : Bool := (rsSyndromes r).all (· == 0)

/-- Add polynomials, lowest power first. -/
def gfAdd : List Nat → List Nat → List Nat
  | [], b => b
  | a, [] => a
  | x :: a, y :: b => (x ^^^ y) :: gfAdd a b

/-- State of the Berlekamp-Massey search: locator, previous locator, length, gap, previous discrepancy. -/
structure BmState where
  lam : List Nat
  prev : List Nat
  len : Nat
  gap : Nat
  disc : Nat

/-- One step of the search at syndrome `n`. -/
def bmStep (syn : List Nat) (b : BmState) (n : Nat) : BmState :=
  let d := (List.range (b.len + 1)).foldl (fun a i => a ^^^ gfMul (nth b.lam i 0) (if i ≤ n then nth syn (n - i) 0 else 0)) 0
  if d = 0 then { b with gap := b.gap + 1 }
  else
    let shifted := List.replicate b.gap 0 ++ b.prev.map (fun c => gfMul (gfDiv d b.disc) c)
    let lam' := gfAdd b.lam shifted
    if 2 * b.len ≤ n then
      { lam := lam', prev := b.lam, len := n + 1 - b.len, gap := 1, disc := d }
    else { b with lam := lam', gap := b.gap + 1 }

/-- The codeword within 4 bytes of `r`, if there is one, and how many bytes differ. -/
def rsNearest (r : Bytes) : Option (Bytes × Nat) :=
  let syn := rsSyndromes r
  if syn.all (· == 0) then some (r, 0)
  else
    let b := (List.range 8).foldl (bmStep syn) { lam := [1], prev := [1], len := 0, gap := 1, disc := 1 }
    let nu := b.len
    let lam := b.lam
    let omega := (List.range nu).map (fun i =>
      (List.range (i + 1)).foldl (fun a j => a ^^^ gfMul (nth lam j 0) (nth syn (i - j) 0)) 0)
    let low := fun (p : List Nat) x => gfEval p.reverse x
    let deriv := (List.range lam.length).filterMap (fun i => if i % 2 = 1 then some (nth lam i 0) else none)
    let fixed := (List.range 72).map (fun k =>
      let e := 71 - k
      let xi := gfExp (255 - e)
      let den := low deriv (gfMul xi xi)
      if low lam xi = 0 ∧ den ≠ 0 then
        (nth r k 0) ^^^ BitVec.ofNat 8 (gfMul (gfExp e) (gfDiv (low omega xi) den))
      else nth r k 0)
    let n := ((List.zip fixed r).filter (fun p => p.1 != p.2)).length
    if nu ≤ 4 ∧ n = nu ∧ rsValid fixed = true then some (fixed, n) else none

/-- What the decoder makes of a granule. -/
inductive RsResult where
  /-- The value, and how many bytes the decoder changed. -/
  | data (granule : Bytes) (changed : Nat)
  /-- Reported as uncorrectable. -/
  | uncorrectable
deriving DecidableEq, Repr

/-- The decoder at correction limit `c` (14 R479): the codeword within `c` bytes, if there is one; every other word is uncorrectable (log
entry 11). -/
def rsDecode (c : Nat) (r : Bytes) : RsResult :=
  match rsNearest r with
  | some (w, n) => if n ≤ c then .data w n else .uncorrectable
  | none => .uncorrectable

end Sys2Proof.Machine
end

