-- ==== Sys2Proof/Machine/NearMem.lean ====
section
/-!
DEFINITION. Where near-tier data lives and how it is written (14 R458 to R466): placement, device memory, channel parity, the
write queue; and the tile map, whose lines lie there (03 R104 to R109, 14 R460).
-/
namespace Sys2Proof.Machine

/-! ## Tile map entries as bytes (03 R104) -/

/-- The 32 bytes of a tile map entry. -/
def entryBytes (e : TileEntry) : Bytes :=
  let lo := e.home + 4 * e.state + 32 * (e.elem % 4) + 128 * e.frWidth + 512 * b2n e.llPresent + 1024 * e.frSlot
    + 2 ^ 16 * e.frGen + 2 ^ 32 * e.llSlot + 2 ^ 38 * b2n e.llBuiltin + 2 ^ 40 * e.keySlot + 2 ^ 64 * e.keyGen
    + 2 ^ 80 * e.inst + 2 ^ 112 * (e.region % 4096)
  let b := leBytes 16 lo ++ leBytes 1 e.recency ++ leBytes 1 e.frequency ++ leBytes 2 e.moveTag ++ leBytes 8 e.location
    ++ leBytes 2 e.length
  b ++ leBytes 2 (crc16 b)

/-! ## Placement (14 R458 to R460) -/

/-- Whether channel parity is in force (14 R482). -/
def State.parityOn (s : State) : Bool := s.obj 0x500 0x100 1 == 1

/-- place(a) of 14 R458: channel, segment and first burst of a block, and with parity the block's row q. Block 2^36 + 32·q + c is block q of
channel c, whichever it holds: so the patrol names the blocks of parity too (14 R481, R482). -/
def placeBlock (parity : Bool) (a : Nat) : Nat × Nat × Nat × Nat :=
  let (ch, q) := if a ≥ 2 ^ 36 then (a % 32, (a - 2 ^ 36) / 32) else if parity then
      let q := a / 28
      let r := a % 28
      let p := q % 8
      (8 * (r / 7) + (if r % 7 < p then r % 7 else r % 7 + 1), q)
    else (a % 32, a / 32)
  let seg := q / 699050
  (ch, seg, seg * 12582912 + 18 * (q % 699050), q)

/-- The data burst, check burst and offset of check bytes of granule `g` of a block at first burst `b` (14 R459). -/
def granuleBursts (b g : Nat) : Nat × Nat × Nat := (b + 9 * (g / 8) + g % 8, b + 9 * (g / 8) + 8, 8 * (g % 8))

/-- Bank, row and column of a burst (14 R458). -/
def burstBank (b : Nat) : Nat := b / 64 % 32
/-- Row of a burst. -/
def burstRow (b : Nat) : Nat := b / 2048
/-- Column of a burst. -/
def burstCol (b : Nat) : Nat := b % 64

/-- Channel of a granule number: 16 × block + granule. -/
def State.granChan (s : State) (g : Nat) : Nat := (placeBlock s.parityOn (g / 16)).1
/-- Segment of a granule number. -/
def State.granSeg (s : State) (g : Nat) : Nat := (placeBlock s.parityOn (g / 16)).2.1
/-- Data burst of a granule number within its channel. -/
def State.granBurst (s : State) (g : Nat) : Nat := (granuleBursts (placeBlock s.parityOn (g / 16)).2.2.1 (g % 16)).1

/-- Blocks of a channel (14, its first table). -/
def chanBlocks : Nat := 5592400

/-- The block at place q of a channel: its near data address, or for a block of parity its place (14 R458, R482). -/
def blockAt (parity : Bool) (ch q : Nat) : Nat :=
  let i := ch % 8
  let p := q % 8
  if !parity then 32 * q + ch
  else if i = p then 2 ^ 36 + 32 * q + ch
  else 28 * q + 7 * (ch / 8) + (if i < p then i else i - 1)

/-- Granules of the near tier: parity off or on (14 R460). -/
def State.granLimit (s : State) : Nat := 16 * (if s.parityOn then 156587200 else 178956800)

/-! ## Device memory -/

/-- A burst after the remap table (14 R490): spare rows start at row 3,007 (14 R488). -/
def Chan.phys (x : Chan) (b : Nat) : Nat :=
  match tabGet x.remap (65536 * burstBank b + burstRow b) with
  | some sp => (3007 + sp) * 2048 + b % 2048
  | none => b

/-- The key of a device byte in `State.near`. -/
def nearKey (ch b off : Nat) : Nat := ch * 2 ^ 33 + 64 * b + off

/-- A map line of two UNWRITTEN entries, as a granule stores it. -/
def blankLine : Bytes := rsEncode (entryBytes {} ++ entryBytes {})

/-- Whether a burst lies in the rows of the tile map (14 R460). -/
def mapBurst (parity : Bool) (b : Nat) : Bool := decide (b < 18 * (if parity then 299594 else 262144))

/-- What a granule's device bytes are told apart from in `State.near`: nothing, and in the rows of the map the line of two
UNWRITTEN entries, so that a line that is not listed holds two of them (03 R90; log entry 45). -/
def mapMask (parity : Bool) (b : Nat) (w : Bytes) : Bytes := if mapBurst parity b then xorBytes w blankLine else w

/-- The 72 bytes of a granule as channel `ch` stores it. -/
def State.deviceGranule (s : State) (ch : Nat) (bs : Nat × Nat × Nat) : Bytes :=
  let x := s.chan ch
  mapMask s.parityOn bs.1
    (memRead s.near (nearKey ch (x.phys bs.1) 0) 64 ++ memRead s.near (nearKey ch (x.phys bs.2.1) bs.2.2) 8)

/-- Store the 72 bytes of a granule in channel `ch`. -/
def State.setDeviceGranule (s : State) (ch : Nat) (bs : Nat × Nat × Nat) (g : Bytes) : State :=
  let x := s.chan ch
  let g := mapMask s.parityOn bs.1 g
  let m := memWrite s.near (nearKey ch (x.phys bs.1) 0) (g.take 64)
  { s with near := memWrite m (nearKey ch (x.phys bs.2.1) bs.2.2) (g.drop 64) }

/-- Whether a channel's device holds nothing that is read: FAILED, or taken out under 02 R646 and not yet rewritten. -/
def State.chanLost (s : State) (ch : Nat) : Bool := (s.unit (0x510 + ch)).own == 6 || (s.chan ch).takenOut

/-- Whether reads of a channel are not served by its device: lost, or retraining with parity in force (14 R487). -/
def State.chanDown (s : State) (ch : Nat) : Bool := s.chanLost ch || ((s.chan ch).retraining && s.parityOn)

/-- The other channels of a channel's parity group (14 R482). -/
def groupMates (ch : Nat) : List Nat := (unitRun (8 * (ch / 8)) 8).filter (· != ch)

/-- A granule rebuilt as the XOR of the other seven channels (14 R482); none when another of the group is down. -/
def State.rebuild (s : State) (ch : Nat) (bs : Nat × Nat × Nat) : Option Bytes :=
  if (groupMates ch).any s.chanLost then none
  else some ((groupMates ch).foldl (fun a m => xorBytes a (s.deviceGranule m bs)) (zeros 72))

/-- Place of a granule number: channel and bursts. -/
def State.granPlace (s : State) (g : Nat) : Nat × (Nat × Nat × Nat) :=
  let (ch, _, b, _) := placeBlock s.parityOn (g / 16)
  (ch, granuleBursts b (g % 16))

/-- The parity channel of a block (14 R482). -/
def parityChan (ch q : Nat) : Nat := 8 * (ch / 8) + q % 8

/-- The value a granule stands for now, read without a check: the device's bytes, or the rebuilt ones. -/
def State.currentGranule (s : State) (g : Nat) : Option Bytes :=
  let (ch, bs) := s.granPlace g
  if s.chanDown ch then (if s.parityOn then s.rebuild ch bs else none) else some (s.deviceGranule ch bs)

/-- Write a granule to the devices, its parity with it (14 R483, R484). -/
def State.writeGranule (s : State) (g : Nat) (w : Bytes) : State :=
  let (ch, bs) := s.granPlace g
  let q := (placeBlock s.parityOn (g / 16)).2.2.2
  let s := s.bump (0x510 + ch) 0x17 1
  let s' := if s.parityOn then
      let pc := parityChan ch q
      if s.chanLost pc then s
      else match s.currentGranule g with
        | some old => s.setDeviceGranule pc bs (xorBytes (s.deviceGranule pc bs) (xorBytes old w))
        | none => s
    else s
  if s.chanLost ch then s'
  else s'.setDeviceGranule ch bs w

/-! ## Rows (14 R463, R471 to R476, R485) -/

/-- Whether partitioned QoS mode is in force (10 R336). -/
def State.partitioned (s : State) : Bool := s.obj 0 0x131 0 == 1

/-- A command on the bus joins the 32 most recent (14 R485). -/
def Chan.noted (x : Chan) (c : NtCmd) : Chan := { x with retry := (x.retry.drop (x.retry.length - 31)) ++ [c] }

/-- The refresh interval in ns. -/
def Chan.interval (x : Chan) : Nat := if x.hot then 1950 else 3900

/-- The first scheduled refresh of a channel after time `t` (14 R471, R473). -/
def State.refreshAfter (s : State) (ch : Nat) (x : Chan) (t : Nat) : Nat :=
  let base := s.trainedAt + x.interval * (ch % 4) / 4
  if t < base then base else base + x.interval * ((t - base) / x.interval + 1)

/-- A channel leaves self-refresh (14 R495). -/
def State.wakeChannel (s : State) (ch : Nat) : State :=
  let x := s.chan ch
  if x.selfRefresh then s.setChan ch { x with selfRefresh := false, nextRefresh := s.refreshAfter ch x s.now, lastUse := s.now } else s

/-- A request that comes while a refresh stalls its channel waits for the stall to end (14 R472). -/
def State.metRefresh (s : State) (ch : Nat) : State := if s.now < (s.chan ch).stallUntil then s.bump (0x510 + ch) 0x1D 1 else s

/-- Add an activate by a requester to a tracker entry's sub-counts: the four most recent requesters. -/
def TrackRow.by (t : TrackRow) (n : Nat) : TrackRow :=
  { t with subs := ((n, (tabGet (t.subs.filter (·.1 == n)) n).getD 0 + 1) :: t.subs.filter (·.1 != n)).take 4 }

/-- The tracker of a bank after an activate of a row (14 R474). -/
def trackActivate (l : List TrackRow) (row n : Nat) : List TrackRow :=
  match l.find? (·.row == row) with
  | some _ => l.map (fun t => if t.row = row then { t.by n with count := t.count + 1 } else t)
  | none =>
    let fresh (c : Nat) : TrackRow := { row := row, count := c, subs := [(n, 1)] }
    if l.length < 16 then l ++ [fresh 1]
    else
      let least := l.foldl (fun m t => Nat.min m t.count) (l.headD (fresh 0)).count
      match l.findIdx? (·.count == least) with
      | some i => l.set i (fresh (least + 1))
      | none => l

/-- The requester with the largest sub-count, the lower identifier on a tie. -/
def TrackRow.worst (t : TrackRow) : Nat :=
  (t.subs.foldl (fun b p => if p.2 > b.2 ∨ (p.2 = b.2 ∧ p.1 < b.1) then p else b) (t.subs.headD (0, 0))).1

/-- An activate: the row opens, the tracker counts it, and at the threshold the neighbours are refreshed, in partitioned mode one in a slot,
and the worst requester is throttled (14 R474 to R476). -/
def State.activateRow (s : State) (ch bank row n : Nat) : State :=
  let x := s.chan ch
  let l := trackActivate ((tabGet x.trackers bank).getD []) row n
  let thr := x.throttles.map (fun t => if t.bank = bank ∧ t.requester = n then { t with nextAt := s.now + s.obj 0x500 0x121 0 } else t)
  let x := { x with
    openRows := tabSet x.openRows bank row, pointer := (bank / 8 * 8 + 8) % 32
    trackers := tabSet x.trackers bank l, throttles := thr }
  let s := (s.setChan ch x).bump (0x510 + ch) 0x19 1
  match l.find? (·.row == row) with
  | some t =>
    if t.count ≥ s.obj 0x500 0x120 0 then
      let w := t.worst
      let l := l.map (fun t => if t.row = row then { t with count := 0 } else t)
      let have_ := x.throttles.any (fun t => t.bank == bank && t.requester == w)
      let thr := if have_ then x.throttles
        else x.throttles ++ [{ bank := bank, requester := w, nextAt := s.now + s.obj 0x500 0x121 0 }]
      let rows := ([row - 2, row - 1, row + 1, row + 2].filter (fun r => decide (r ≠ row ∧ r < 49152))).eraseDups
      let due := if s.partitioned then rows.map (fun r => { bank := bank, row := r, requester := w, last := rows.getLast? == some r }) else []
      let s := s.setChan ch { x with trackers := tabSet x.trackers bank l, throttles := thr, neighbours := x.neighbours ++ due }
      let s := if s.partitioned then s else s.bump (0x510 + ch) 0x23 1
      if have_ then s else s.raise (0x510 + ch) 0x0190 (w + 256 * bank)
    else s
  | none => s

/-- An activate on the bus. -/
def State.activate (s : State) (ch bank row n : Nat) : State :=
  (s.setChan ch ((s.chan ch).noted (.activate bank row n))).activateRow ch bank row n

/-- A bank's row is closed: the requests its row was opened for need it again. -/
def State.shutBank (s : State) (ch bank : Nat) : State :=
  let x := s.chan ch
  let in_ (g : Nat) : Bool := s.granPlace g |>.2 |> fun bs => burstBank bs.1 == bank || burstBank bs.2.1 == bank
  s.setChan ch { x with
    openRows := tabDel x.openRows bank
    reads := x.reads.map (fun r => if in_ r.gran then { r with opened := false } else r)
    wq := x.wq.map (fun q => match q.body with
      | .raw g _ => if in_ g then { q with opened := false } else q
      | .coded _ => q) }

/-- A page conflict closes a bank's row (14 R463). -/
def State.precharge (s : State) (ch bank : Nat) : State :=
  let s := s.shutBank ch bank
  (s.setChan ch ((s.chan ch).noted (.precharge bank))).bump (0x510 + ch) 0x1B 1

/-- The row of a burst is open for a requester: it was, or a conflict closes another and it is activated. -/
def State.openRow (s : State) (ch b n : Nat) : State :=
  match tabGet (s.chan ch).openRows (burstBank b) with
  | some r => if r = burstRow b then s.bump (0x510 + ch) 0x1A 1 else (s.precharge ch (burstBank b)).activate ch (burstBank b) (burstRow b) n
  | none => s.activate ch (burstBank b) (burstRow b) n

/-- An access to a granule by the command of another unit: it wakes the channel, opens the rows of its data and of its check bytes, in two
banks where its slice crosses a column group, and its bursts go on the bus (14 R459, R461, R464, R474; log entry 49). -/
def State.reach (s : State) (ch : Nat) (bs : Nat × Nat × Nat) (g n : Nat) (write : Bool) : State :=
  if s.chanDown ch ∨ (s.chan ch).retraining then s
  else
    let c (check : Bool) : NtCmd := if write then .write g n check else .read g n check
    let s := ((s.wakeChannel ch).metRefresh ch).openRow ch bs.1 n
    let s := if burstBank bs.1 = burstBank bs.2.1 ∧ burstRow bs.1 = burstRow bs.2.1 then s else s.openRow ch bs.2.1 n
    s.setChan ch (((s.chan ch).noted (c true)).noted (c false))

/-! ## Write queue (14 R461, R464, R465) -/

/-- The newest raw entry for a granule in its channel's write queue. -/
def Chan.queuedRaw (x : Chan) (g : Nat) : Option Bytes :=
  x.wq.reverse.findSome? (fun e => match e.body with
    | .raw g' w => if g' = g then some w else none
    | .coded _ => none)

/-- Whether an entry is one of a granule that is not yet being written (14 R465). -/
def WqEntry.replaceable (e : WqEntry) (g : Nat) : Bool := match e.body with
  | .raw g' _ => g' == g && decide (e.stage < 2)
  | .coded _ => false

/-- Whether a channel's write queue takes a granule: a place is free, or its entry can be replaced (14 R465). -/
def State.queueTakes (s : State) (g : Nat) : Bool :=
  let x := s.chan (s.granChan g)
  decide (x.wq.length < 64) || x.wq.any (·.replaceable g)

/-- Drain mode after a change of the queue (14 R464). -/
def Chan.drainUpdate (x : Chan) : Chan :=
  { x with drain := if x.wq.length ≥ 48 then true else if x.wq.length ≤ 16 then false else x.drain }

/-- Put an entry at the end of a channel's write queue. -/
def State.queueAppend (s : State) (ch : Nat) (e : WqEntry) : State :=
  let s := s.metRefresh ch
  let x := s.chan ch
  s.setChan ch { x with wq := x.wq ++ [e], lastUse := s.now }.drainUpdate

/-- Queue a granule as stored: it replaces a queued entry of its granule in place, or goes to the end (14 R465). -/
def State.queueGranule (s : State) (g : Nat) (w : Bytes) (requester : Nat) : State :=
  let ch := s.granChan g
  let x := s.chan ch
  if x.wq.any (·.replaceable g) then
    let q := x.wq.map (fun e => if e.replaceable g then { e with body := .raw g w } else e)
    s.setChan ch { x with wq := q, lastUse := s.now }
  else s.queueAppend ch { body := .raw g w, requester := requester, since := s.now }

/-- Remove the queued raw entries of a granule; a queue that falls to 16 entries leaves drain mode. -/
def State.unqueue (s : State) (g : Nat) : State :=
  let ch := s.granChan g
  let x := s.chan ch
  let left := x.wq.filter (fun e => match e.body with
    | .raw g' _ => g' != g
    | .coded _ => true)
  s.setChan ch { x with wq := left }.drainUpdate

/-- The accesses of a granule's write: its own, and with parity those of the parity channel (14 R464, R483). -/
def State.reachWrite (s : State) (g n : Nat) : State :=
  let (ch, bs) := s.granPlace g
  let s := s.reach ch bs g n true
  if s.parityOn then s.reach (parityChan ch (placeBlock s.parityOn (g / 16)).2.2.2) bs g n true else s

/-- Write a granule's 64 stored bytes at once, check bytes with them: the writes of moves, fills and merges. -/
def State.storeGranule (s : State) (g : Nat) (d : Bytes) (n : Nat := 0x51) : State :=
  ((s.unqueue g).reachWrite g n).writeGranule g (rsEncode d)

/-! ## The tile map (03 R104, R107, R109) -/

/-- A tile map entry; an unlisted one is UNWRITTEN (03 R104). -/
def State.entry (s : State) (i : Nat) : TileEntry := (tabGet s.tileMap i).getD {}
/-- The bytes of a map line: two entries (03 R107). -/
def State.mapLine (s : State) (m : Nat) : Bytes := entryBytes (s.entry (2 * m)) ++ entryBytes (s.entry (2 * m + 1))

/-- A full write queue makes room: its oldest entry as stored goes to the devices (14 R464). -/
def State.makeRoom (s : State) (ch : Nat) : State :=
  let raw (e : WqEntry) : Option (Nat × Bytes) := match e.body with
    | .raw g w => some (g, w)
    | .coded _ => none
  match (s.chan ch).wq.findSome? raw with
  | some (g, w) => ((s.unqueue g).reachWrite g 0x52).writeGranule g w
  | none => s

/-- A map line goes to the near-tier write queue, which it waits for while the queue takes no more; only where every entry is a coded line
does it go to the devices; map line m is granule m of the near tier (03 R109, 14 R460, R461; log entry 45). -/
def State.writeMapLine (s : State) (m : Nat) : State :=
  let s := if s.queueTakes m then s else s.makeRoom (s.granChan m)
  if s.queueTakes m then s.queueGranule m (rsEncode (s.mapLine m)) 0x52 else s.storeGranule m (s.mapLine m) 0x52

/-- Put an entry into the map, where lookups see it at once. -/
def State.putEntry (s : State) (i : Nat) (e : TileEntry) : State :=
  { s with tileMap := if e = {} then tabDel s.tileMap i else tabSet s.tileMap i e }

/-- Replace a tile map entry: lookups see it at once, and its map line is in the near-tier write queue (03 R109). -/
def State.setEntry (s : State) (i : Nat) (e : TileEntry) : State :=
  if s.entry i = e then s else (s.putEntry i e).writeMapLine (i / 2)

end Sys2Proof.Machine
end

