-- ==== Sys2Proof/Machine/Poison.lean ====
section
/-!
DEFINITION. Extents and regions as lookups (03 R86 to R101), stored tiles, the error log and poisoned tiles (18 R584 to R593).
A stored tile is named by its target: a map index, or 2^28 + the number of a version record.
-/
namespace Sys2Proof.Machine

/-! ## Extents (03 R87 to R94) -/

/-- The key of an extent table entry: LD and DPA extent number. -/
def extKey (ld ext : Nat) : Nat := ld * 16384 + ext

/-- An extent table entry, NONE when not listed. -/
def State.extent (s : State) (ld ext : Nat) : Option ExtEntry := tabGet s.extents (extKey ld ext)

/-- The extent table of an LD: DPA extent and entry. -/
def State.extentsOf (s : State) (ld : Nat) : List (Nat × ExtEntry) :=
  s.extents.filterMap (fun e => if e.1 / 16384 = ld then some (e.1 % 16384, e.2) else none)

/-- The GRANTED extent a DPA of an LD falls in (03 R95). -/
def State.granted (s : State) (ld dpa : Nat) : Option ExtEntry :=
  match s.extent ld (dpa / 2 ^ 30) with
  | some e => if e.state = 2 then some e else none
  | none => none

/-- The map index of a DPA in an extent (03 R107). -/
def mapIndexOf (e : ExtEntry) (dpa : Nat) : Nat := e.block * 16384 + dpa / 65536 % 16384

/-- The LDs that hold the extent of a map index in any state but NONE, with their DPA extent (03 R94). -/
def State.holders (s : State) (index : Nat) : List (Nat × Nat × ExtEntry) :=
  s.extents.filterMap (fun e =>
    if e.2.block = index / 16384 then some (e.1 / 16384, e.1 % 16384, e.2) else none)

/-- The DPA at which an LD reaches a map index, whatever the extent's state. -/
def State.dpaOf (s : State) (ld index : Nat) : Option Nat :=
  (s.holders index).findSome? (fun h =>
    if h.1 = ld then some (h.2.1 * 2 ^ 30 + index % 16384 * 65536) else none)

/-! ## Regions (03 R96, R97) -/

/-- The number under which tiles held for span members are kept; no region has it (16 R555; log entry 25). -/
def guestRegion : Nat := 0x1000

/-- How the tiles held for span members are kept: frames in T1, records coded with the built-in table in T2 (16 R555). -/
def guestDescriptor : Region :=
  { base := 0, length := 0, owner := 16 + guestRegion, codec := 0, elem := 0, flags := 0, frSlot := 0xFF, llSlot := 0xFF
    residual := 0xFFFF, keyBinding := 0, keyGen := 0, keyKind := 2, layout := 0, stripe := 0, tierMask := 7, steep := 0 }

/-- A region that a command can name (03 R99): the tiles held for span members lie in none. -/
def State.declared (s : State) (r : Nat) : Option Region := tabGet s.regions r
/-- A region descriptor. -/
def State.region (s : State) (r : Nat) : Option Region := if r = guestRegion then some guestDescriptor else tabGet s.regions r

/-- Whether a region is shared (03 R98, flags bit 0). -/
def Region.shared (r : Region) : Bool := r.flags.testBit 0
/-- Whether a region is size-masked. -/
def Region.masked (r : Region) : Bool := r.flags.testBit 1
/-- Whether a region keeps residuals. -/
def Region.residuals (r : Region) : Bool := r.flags.testBit 2
/-- Whether a region has FR class. -/
def Region.isFr (r : Region) : Bool := r.codec == 0x10 || r.codec == 0x11

/-- The region a map index belongs to; none for a tile of a shared extent in no declared region (03 R96). -/
def State.regionAt (s : State) (index : Nat) : Option Nat :=
  let hs := s.holders index
  let inside (r : Nat × Region) : Bool :=
    decide (r.1 ≥ 16) && hs.any (fun h => h.1 == r.2.owner &&
      (let dpa := h.2.1 * 2 ^ 30 + index % 16384 * 65536
       decide (r.2.base ≤ dpa ∧ dpa < r.2.base + r.2.length)))
  match s.regions.find? inside with
  | some r => some r.1
  | none => match hs with
    | h :: _ => if h.2.2.shared then none else some h.1
    | [] => none

/-- The map index of tile `t` of a region, when its owner holds the extent. -/
def State.regionTile (s : State) (r : Region) (t : Nat) : Option Nat :=
  let dpa := r.base + t * 65536
  (s.extent r.owner (dpa / 2 ^ 30)).map (fun e => mapIndexOf e dpa)

/-- Tiles of a region. -/
def Region.tiles (r : Region) : Nat := r.length / 65536

/-- The tile index of a map index within a region. -/
def State.tileIn (s : State) (r : Region) (index : Nat) : Nat :=
  ((s.dpaOf r.owner index).getD r.base - r.base) / 65536

/-! ## Stored tiles -/

/-- The target of a version record. -/
def verKey (v : Nat) : Nat := 2 ^ 28 + v

/-- The entry of a stored tile. -/
def State.tgt (s : State) (k : Nat) : TileEntry :=
  if k < 2 ^ 28 then s.entry k else ((tabGet s.versions (k - 2 ^ 28)).map (·.entry)).getD {}

/-- Replace the entry of a stored tile. -/
def State.setTgt (s : State) (k : Nat) (e : TileEntry) : State :=
  if k < 2 ^ 28 then s.setEntry k e
  else match tabGet s.versions (k - 2 ^ 28) with
    | some v => { s with versions := tabSet s.versions (k - 2 ^ 28) { v with entry := e } }
    | none => s

/-- The map index of the tile a stored tile is, or is a version of. -/
def State.indexOf (s : State) (k : Nat) : Option Nat :=
  if k < 2 ^ 28 then some k else
    (tabGet s.versions (k - 2 ^ 28)).bind (fun v => (s.region v.region).bind (fun r => s.regionTile r v.tile))

/-- The logical tile number of a stored tile (03 R88). -/
def State.tileNumber (s : State) (k : Nat) : Nat :=
  match s.indexOf k with
  | none => 0
  | some i => match s.holders i with
    | h :: _ => h.2.2.dla * 16384 + i % 16384
    | [] => match s.span.reservations.find? (fun g => g.guest && g.block == i / 16384) with
      | some g => g.dla * 16384 + i % 16384
      | none => 0

/-- The die whose LL engines work for a stored tile: the die of its map line (03 R108, 05 R183). -/
def State.mapDie (s : State) (k : Nat) : Nat := (s.indexOf k).getD 0 / 2 % 2

/-- The region of a stored tile, 0xFFFF for none. -/
def State.tgtRegion (s : State) (k : Nat) : Nat :=
  if k < 2 ^ 28 then
    let e := s.entry k
    if e.state = 0 then (s.regionAt k).getD 0xFFFF else e.region
  else ((tabGet s.versions (k - 2 ^ 28)).map (·.region)).getD 0xFFFF

/-- The move record a move tag names: bits [12:0] (06 R190). -/
def State.move (s : State) (tag : Nat) : Option Move := tabGet s.moves (tag % 8192)

/-- The poisoned line set of a stored tile, one bit a line (18 R586): a POISONED tile without a record has every line. -/
def State.poisonSet (s : State) (k : Nat) : Nat :=
  match s.poisons.find? (·.key == k) with
  | some p => p.lines
  | none =>
    let e := s.tgt k
    if e.state = 3 ∨ (e.state = 2 ∧ (s.move e.moveTag).any (fun m => m.dst.state == 3)) then 2 ^ 1024 - 1 else 0

/-- The key slot state (10 R323). -/
def State.key (s : State) (slot : Nat) : Option KeySlot := tabGet s.keys slot

/-- Whether an entry carries a key generation its slot no longer has (10 R331). -/
def State.staleKey (s : State) (e : TileEntry) : Bool :=
  e.state != 0 && e.state != 4 && (match s.key e.keySlot with
    | some z => z.gen != e.keyGen
    | none => true)

/-! ## The error log (18 R593) -/

/-- The bytes of an error log entry. -/
def errBytes (q : Nat) (e : ErrEntry) : Bytes :=
  let b := leBytes 4 q ++ leBytes 1 e.cls ++ leBytes 1 e.detail ++ leBytes 2 e.unit ++ leBytes 8 e.first
    ++ leBytes 8 e.last ++ leBytes 4 e.tile ++ leBytes 2 e.region ++ leBytes 1 e.ld ++ leBytes 1 e.home
    ++ leBytes 4 e.affected ++ leBytes 2 e.lines ++ leBytes 1 e.flags ++ leBytes 1 e.requester
    ++ leBytes 8 e.location ++ leBytes 8 e.position ++ leBytes 4 e.source
  b ++ leBytes 4 (crc32c b)

/-- Whether a slot of the ring may be overwritten (18 R593). -/
def ErrEntry.kept (e : ErrEntry) : Bool := e.cls == 5 || (e.cls == 3 && e.live.isSome)

/-- The sequence a new entry takes: the first after the newest whose slot holds no kept entry (18 R593). -/
def State.errNext (s : State) : Option Nat :=
  (firstBelow 4096 (fun i =>
    match tabGet s.errLog ((s.errSeq + 1 + i) % 4096) with
    | some e => !e.kept
    | none => true)).map (fun i => s.errSeq + 1 + i)

/-- Whether injection is armed on any link (18 R593, flags bit 2). -/
def State.injectionArmed (s : State) : Bool := s.injects.any (fun i => i.2.armed)

/-- Write an error log entry; the sequence it took, if any (18 R593). -/
def State.logError (s : State) (e : ErrEntry) : Option Nat × State :=
  let e := { e with first := s.now, last := s.now, flags := e.flags ||| (if s.injectionArmed then 4 else 0) }
  match s.errNext with
  | none =>
    let s := s.bump 0xF80 0x1A 1
    (none, if s.errFull then s else ({ s with errFull := true }).raise 0xF80 0x01C5 0)
  | some q =>
    let hist := if e.cls = 3 ∨ e.cls = 5 then (s.errHistory.drop (s.errHistory.length - 255)) ++ [errBytes q e]
      else s.errHistory
    (some q, { (s.bump 0xF80 0x16 1) with
      errLog := tabSet s.errLog (q % 4096) { e with seqNo := q }, errSeq := q, errFull := false, errHistory := hist })

/-- An entry with no tile, for errors of a unit. -/
def unitError (cls detail unit source : Nat) : ErrEntry :=
  { cls := cls, detail := detail, unit := unit, first := 0, last := 0, tile := 0xFFFFFFFF, region := 0xFFFF, ld := 0xFF
    home := 0xFF, affected := 0, lines := 0, flags := 0, requester := 0, location := 0, position := 0, source := source
    live := none }

/-- Log an error that no later step names. -/
def State.logUnit (s : State) (cls detail unit source : Nat) : State := (s.logError (unitError cls detail unit source)).2

/-- The ring slot of the live entry of a poisoned tile. -/
def State.errOf (s : State) (k : Nat) : Option (Nat × ErrEntry) := s.errLog.find? (fun e => e.2.live == some k)

/-- The log sequence of the live entry of a tile, 0 for none. -/
def State.errSeqOf (s : State) (k : Nat) : Nat :=
  match s.errOf k with
  | some (_, e) => e.seqNo
  | none => 0

/-! ## Poisoning (18 R586 to R592) -/

/-- Set bits of a bitmap. -/
def popCount (n v : Nat) : Nat := ((List.range n).filter v.testBit).length

/-- A stored tile's owner as the error log names it: an LD, 0xFE for a shared region, 0xFF for none (18 R593). -/
def State.tgtOwner (s : State) (k : Nat) : Nat :=
  match s.region (s.tgtRegion k) with
  | some r => if r.shared then 0xFE else r.owner
  | none => 0xFF

/-- Where an error was found: detecting unit, requester, location field and home at detection. -/
structure Found where
  unit : Nat
  requester : Nat := 0
  location : Nat := 0
  home : Nat
  source : Nat := 0
deriving DecidableEq, Repr

/-- The stored tile whose entry satisfies `mine`. -/
def State.tileWhere (s : State) (mine : TileEntry → Bool) : Option Nat :=
  match s.tileMap.find? (fun e => mine e.2) with
  | some e => some e.1
  | none => (s.versions.find? (fun v => mine v.2.entry)).map (fun v => 2 ^ 28 + v.1)

/-- The stored tile in T1 whose frame holds a granule. -/
def State.tileAtGran (s : State) (g : Nat) : Option Nat :=
  s.tileWhere (fun e =>
    e.home == 1 && decide (1 ≤ e.state ∧ e.state ≤ 3 ∧ e.location ≤ g / 16 ∧ g / 16 < e.location + e.length))

/-- Log an error of class 0x02, recovered, with the stored tile whose data met it, if any (18 R585, R593). -/
def State.logRecovered (s : State) (k : Option Nat) (detail : Nat) (f : Found) : State :=
  let owner := (k.map s.tgtOwner).getD 0xFF
  (s.logError { unitError 2 detail f.unit f.source with
    tile := (k.map s.tileNumber).getD 0xFFFFFFFF, region := (k.map s.tgtRegion).getD 0xFFFF, ld := owner, home := f.home
    flags := if owner = 0xFE then 1 else 0, requester := f.requester, location := f.location }).2

/-- Replace the poison record of a tile. -/
def State.setPoison (s : State) (k lines : Nat) : State :=
  { s with poisons := s.poisons.filter (·.key != k) ++ [{ key := k, lines := lines }] }

/-- Add lines to a tile's poisoned line set (18 R586, R587): a new poisoning counts, logs and raises event 0x01C0; with
no poison record free the tile is poisoned whole. A REMOTE tile stays so (log entry 25). -/
def State.poison (s : State) (k lines : Nat) (f : Found) : State :=
  let e := s.tgt k
  let before := s.poisonSet k
  let whole := lines % 2 ^ 1024 == 2 ^ 1024 - 1
  let set := before ||| (lines % 2 ^ 1024)
  let has := s.poisons.any (·.key == k)
  let s := if before ≠ 0 then (if has then s.setPoison k set else s)
    else if whole ∨ s.poisons.length ≥ 65536 then s else s.setPoison k set
  if before ≠ 0 then
    match s.errOf k with
    | some (slot, x) => { s with errLog := tabSet s.errLog slot { x with lines := popCount 1024 (s.poisonSet k), last := s.now } }
    | none => s
  else
    let s := if e.state = 2 then
        match s.move e.moveTag with
        | some m => { s with moves := tabSet s.moves (e.moveTag % 8192) { m with dst := { m.dst with state := 3 } } }
        | none => s
      else if e.state = 4 then s
      else s.setTgt k { e with state := 3 }
    let owner := s.tgtOwner k
    let (q, s) := (s.bump 0xF80 0x17 1).logError
      { unitError 3 0 f.unit f.source with
        tile := s.tileNumber k, region := s.tgtRegion k, ld := owner, home := f.home
        lines := popCount 1024 (s.poisonSet k), flags := if owner = 0xFE then 1 else 0, requester := f.requester
        location := f.location, live := some k }
    let s := s.raiseFor (if owner < 16 then [owner] else []) 0xF80 0x01C0 (q.getD 0)
    s.bump f.unit 0x12 1

/-- A tile leaves POISONED: its record is freed and its log entry is no longer kept (18 R589, R593). -/
def State.unpoison (s : State) (k : Nat) : State :=
  let s := match s.errOf k with
    | some (slot, x) => { s with errLog := tabSet s.errLog slot { x with live := none } }
    | none => s
  { s with poisons := s.poisons.filter (·.key != k) }

/-- A poison answer for a tile (18 R588, R593). -/
def State.poisonAnswer (s : State) (k : Nat) : State :=
  let s := s.bump 0xF80 0x19 1
  match s.errOf k with
  | some (slot, x) =>
    { s with errLog := tabSet s.errLog slot { x with affected := Nat.min (x.affected + 1) 0xFFFFFFFF, last := s.now } }
  | none => s

/-- A full-line write clears a line's bit; an empty set returns the tile to VALID with event 0x01C1 (18 R589). -/
def State.clearPoisonLine (s : State) (k line : Nat) : State :=
  let set := setBit (s.poisonSet k) line false
  if set = 0 then
    let q := s.errSeqOf k
    let e := s.tgt k
    let s := s.unpoison k
    let s := if e.state = 3 then s.setTgt k { e with state := 1 }
      else if e.state = 2 then
        match s.move e.moveTag with
        | some m => { s with moves := tabSet s.moves (e.moveTag % 8192) { m with dst := { m.dst with state := 1 } } }
        | none => s
      else s
    let owner := s.tgtOwner k
    (s.bump 0xF80 0x18 1).raiseFor (if owner < 16 then [owner] else []) 0xF80 0x01C1 q
  else s.setPoison k set

/-- Whether clearing one line of a tile needs a poison record and none is free (18 R589). -/
def State.poisonRecordShort (s : State) (k : Nat) : Bool :=
  !s.poisons.any (·.key == k) && decide (s.poisons.length ≥ 65536)

end Sys2Proof.Machine
end

