-- ==== Sys2Proof/Machine/Frames.lean ====
section
/-!
DEFINITION. The frame lines of a tile in ready form (04 R122 to R125): which ones a line needs, and which lines an
unreadable one takes with it (18 R587).
-/
namespace Sys2Proof.Machine

/-! ## Frames and their lines -/

/-- Whether an entry's stored form is an FR frame. -/
def TileEntry.isFr (e : TileEntry) : Bool := e.frWidth != 0
/-- Index bits of an FR entry. -/
def TileEntry.b (e : TileEntry) : Nat := frBits e.frWidth
/-- Frame lines of a tile in ready form. -/
def TileEntry.frameLines (e : TileEntry) : Nat := 16 * readyBlocks e.elem e.frWidth

/-- Whether a tile's lines are FR coded for this module: of a tile held for a span member, the frame lines are the lines (16 R555). -/
def TileEntry.frHere (e : TileEntry) : Bool := e.isFr && e.region != guestRegion

/-- The frame lines that `n` bytes from offset `o` meet. -/
def linesOfRange (o n : Nat) : List Nat := (List.range ((o + n - 1) / 64 - o / 64 + 1)).map (o / 64 + ·)

/-- The frame lines line `j` of a tile needs: itself when raw or held for a member; coded line, scale byte and flag when FR. -/
def TileEntry.needs (e : TileEntry) (j : Nat) : List Nat :=
  if e.frHere then
    let (oc, os, of) := frOffsets e.elem e.b j
    (linesOfRange oc (codedSize e.elem e.b) ++ [os / 64, of / 64]).eraseDups
  else [j]

/-- The lines of a tile that an unreadable frame line takes with it (18 R587). -/
def TileEntry.linesLost (e : TileEntry) (f : Nat) : Nat :=
  if e.frHere then
    let c := codedSize e.elem e.b
    (List.range 64).foldl (fun m i =>
      let o := 64 * f + i
      if o < 1024 * c then m ||| 2 ^ (o / c)
      else if o < 1024 * c + 1024 then m ||| 2 ^ (o - 1024 * c)
      else if o < 1024 * c + 1152 then m ||| (255 * 2 ^ (8 * (o - 1024 * c - 1024)))
      else if o < 1024 * c + 1168 then 2 ^ 1024 - 1 else m) 0
  else 2 ^ f

end Sys2Proof.Machine
end

