-- ==== Sys2Proof/Machine/Near.lean ====
section
/-!
DEFINITION. How near-tier data is read (14 R478 to R490): check code, channel parity, uncorrectable granules, lost devices;
frames and their places.
-/
namespace Sys2Proof.Machine

/-! ## Reading with the check (14 R478 to R480) -/

/-- Apply bad bytes as they are read. -/
def applyErrs (w : Bytes) (err : List ByteErr) : Bytes :=
  err.foldl (fun w e => w.set e.index (nth w e.index 0 ^^^ e.bits)) w

/-- What a checked read of a granule gives: its 64 bytes, or none when it is uncorrectable and not rebuilt. -/
abbrev GranRead := Option Bytes

/-- A log entry and a count for an uncorrectable granule (14 R480). -/
def granLocation (ch : Nat) (bs : Nat × Nat × Nat) (g : Nat) : Nat :=
  ch + 2 ^ 5 * burstBank bs.1 + 2 ^ 10 * burstRow bs.1 + 2 ^ 26 * burstCol bs.1 + 2 ^ 32 * (g % 16)

/-- Mark a row as a remap candidate (14 R489). -/
def Chan.candidate (x : Chan) (b : Nat) : Chan :=
  let c := (burstBank b, burstRow b)
  if x.candidates.contains c then x else { x with candidates := x.candidates ++ [c] }

/-- Count a corrected read of a row, which may make it a candidate (14 R489). -/
def State.noteCorrected (s : State) (ch b changed : Nat) : State :=
  let x := s.chan ch
  let k := 65536 * burstBank b + burstRow b
  let x := if s.now ≥ x.correctedSince + s.obj 0x500 0x150 0 then { x with corrected := [], correctedSince := s.now } else x
  let n := (tabGet x.corrected k).getD 0 + 1
  let x := { x with corrected := tabSet x.corrected k n }
  let x := if n ≥ s.obj 0x500 0x140 0 ∨ changed ≥ s.obj 0x500 0x101 0 then x.candidate b else x
  (((s.setChan ch x).bump (0x510 + ch) 0x1E 1).bump (0x510 + ch) 0x1F changed).bump (0x510 + ch) 0x11 1

/-- The lines of a stored tile in T1 that lie on a channel (18 R587): every line when its map entry does. -/
def State.linesOn (s : State) (ch k : Nat) : Nat :=
  let e := s.tgt k
  if k < 2 ^ 28 ∧ s.granChan (k / 2) = ch then 2 ^ 1024 - 1
  else if e.home = 1 ∧ e.length ≠ 0 then
    (List.range e.frameLines).foldl (fun m f => if s.granChan (16 * e.location + f) = ch then m ||| e.linesLost f else m) 0
  else 0

/-- A lost device without parity poisons the affected tiles; `loc` is the location of the granule that began it (14 R484,
18 R587, R593). -/
def State.poisonChannel (s : State) (ch loc : Nat) : State :=
  (s.tileMap.filterMap (fun e => if 1 ≤ e.2.state ∧ e.2.state ≤ 3 then some e.1 else none)
    ++ s.versions.filterMap (fun v => if v.2.entry.state ≠ 0 then some (verKey v.1) else none)).foldl (fun s k =>
      let l := s.linesOn ch k
      if l = 0 then s
      else s.poison k l { unit := 0x510 + ch, location := loc, home := (s.tgt k).home, source := ch }) s

/-- Declare a device lost (14 R484): the channel is FAILED with a reason; without parity in force its tiles are
poisoned. -/
def State.loseDevice (s : State) (ch reason loc : Nat) : State :=
  let s := s.setOwn (0x510 + ch) 6 reason
  if s.parityOn then s.logUnit 2 1 (0x510 + ch) ch
  else (s.logUnit 3 0 (0x510 + ch) ch).poisonChannel ch loc

/-- Count an uncorrectable granule toward the loss of its device: 0500:102.00 of them within 10 µs from at least four
banks (14 R484). -/
def State.noteUncorrectable (s : State) (ch b loc : Nat) : State :=
  let x := s.chan ch
  let l := (x.uncorrectable ++ [(s.now, burstBank b)]).filter (fun e => decide (e.1 + 10000 ≥ s.now))
  let s := s.setChan ch { x.candidate b with uncorrectable := l }
  if l.length ≥ s.obj 0x500 0x102 0 ∧ (l.map (·.2)).eraseDups.length ≥ 4 ∧ (s.unit (0x510 + ch)).own ≠ 6
  then s.loseDevice ch 0x0102 loc else s

/-- Read what a place of a channel stores through the check step (14 R479, R480, R482): `g` is its granule number, `err1` and `err2` are the
bad bytes of the first and of the second read. -/
def State.readGranule (s : State) (g requester : Nat) (err1 err2 : List ByteErr) : GranRead × State :=
  let (ch, bs) := s.granPlace g
  let u := 0x510 + ch
  let c := s.obj 0x500 0x101 0
  let s := s.bump u 0x16 1
  let fixed (s : State) (w : Bytes) (n : Nat) : GranRead × State :=
    (some (w.take 64), if n = 0 then s else s.noteCorrected ch bs.1 n)
  let log (s : State) (detail : Nat) : State := s.logRecovered (s.tileAtGran g) detail
    { unit := u, requester := requester, location := granLocation ch bs g, home := 1, source := ch }
  let viaParity (s : State) (logged : Bool) : GranRead × State :=
    match (if s.parityOn then s.rebuild ch bs else none) with
    | some w => match rsDecode c w with
      | .data w n =>
        let s := if n = 0 then s else s.noteCorrected ch bs.1 n
        let s := if s.chanDown ch then s else s.setDeviceGranule ch bs w
        let s := s.bump u 0x26 1
        (some (w.take 64), if logged then log s 1 else s)
      | .uncorrectable => (none, s.bump u 0x20 1)
    | none => (none, s.bump u 0x20 1)
  if s.chanDown ch then viaParity s false
  else
    let w := s.deviceGranule ch bs
    match rsDecode c (applyErrs w err1) with
    | .data w n => fixed s w n
    | .uncorrectable =>
      match rsDecode c (applyErrs w err2) with
      | .data w n => fixed (log s 3) w n
      | .uncorrectable => viaParity (s.noteUncorrectable ch bs.1 (granLocation ch bs g)) true

/-! ## Reading a stored granule -/

/-- The stored 64 bytes of a granule: from the newest queued entry, without the check step (14 R465), or from the devices, where the read has
reached its rows. -/
def State.takeGranule (s : State) (g requester : Nat) (err1 err2 : List ByteErr) : GranRead × State :=
  let ch := s.granChan g
  match (s.chan ch).queuedRaw g with
  | some w => (some (w.take 64), s.bump (0x510 + ch) 0x18 1)
  | none => s.readGranule g requester err1 err2

/-- A granule read by the command of another unit. -/
def State.loadGranule (s : State) (g requester : Nat) : GranRead × State :=
  let (ch, bs) := s.granPlace g
  (if ((s.chan ch).queuedRaw g).isSome then s else s.reach ch bs g requester false).takeGranule g requester [] []

/-! ## Frames (14 R460, R493) -/

/-- Near data addresses of a self-refresh segment. -/
def segBlocks (parity : Bool) : Nat := if parity then 19573400 else 22369600

/-- Whether a segment is open (14 R493). -/
def State.segOpen (s : State) (k : Nat) : Bool := ((tabGet s.segStates k).getD 0) == 0

/-- The first near data address of the tile frames (14 R460). -/
def frameBase : Nat := 11184640

/-- Homes in T1, with their lengths in blocks: entries, versions, discarded homes and the destinations of moves. -/
def State.homesIn (s : State) (tier : Nat) : List (Nat × Nat) :=
  let f (e : TileEntry) : Option (Nat × Nat) :=
    if e.home = tier ∧ e.state ≠ 0 ∧ e.state ≠ 4 ∧ e.length ≠ 0 then some (e.location, e.length) else none
  s.tileMap.filterMap (fun e => f e.2) ++ s.versions.filterMap (fun v => f v.2.entry)
    ++ s.oldHomes.filterMap (fun o => f o.entry) ++ s.moves.filterMap (fun m => f m.2.dst)

/-- Homes in T1 that an access under way still reads: they are freed for others only after it (03 R110). -/
def State.homesRead (s : State) : List (Nat × Nat) :=
  s.accesses.filterMap (fun a => if a.wait = .near ∧ a.entry.home = 1 then some (a.entry.location, a.entry.length) else none)

/-- Whether a run of blocks is free: inside the frames, in open segments, meeting no home. -/
def State.frameFree (s : State) (used : List (Nat × Nat)) (a n : Nat) : Bool :=
  let sb := segBlocks s.parityOn
  decide (frameBase ≤ a ∧ a + n ≤ s.granLimit / 16) && (List.range 9).all (fun k =>
    s.segOpen k || decide ((k + 1) * sb ≤ a ∨ a + n ≤ k * sb))
  && used.all (fun u => decide (u.1 + u.2 ≤ a ∨ a + n ≤ u.1))

/-- The least element of a list that satisfies `p`. -/
def leastOf (l : List Nat) (p : Nat → Bool) : Option Nat :=
  (l.filter p).foldl (fun m v => match m with
    | none => some v
    | some w => some (Nat.min v w)) none

/-- A free frame of `n` blocks: which one the spec leaves open (log entry 10). -/
def State.freeFrame (s : State) (n : Nat) : Option Nat :=
  let used := s.homesIn 1 ++ s.homesRead
  let want := Config.placement s.fresh
  if s.frameFree used want n then some want
  else leastOf (frameBase :: used.map (fun u => u.1 + u.2) ++ (List.range 8).map (· * segBlocks s.parityOn))
    (fun a => s.frameFree used a n)

/-- H of a cluster (11 R363). -/
def State.homeBlocks (s : State) (c : Nat) : Nat := s.obj (0xA40 + c) 0x101 0

/-- A free T0 run of `n` blocks in the lowest-numbered cluster assigned to an LD that has one (11 R364): the location
field of 03 R104. -/
def State.freeCaddy (s : State) (ld n : Nat) : Option Nat :=
  let used := s.homesIn 0
  (List.range 64).findSome? (fun c =>
    if s.obj (0xA40 + c) 0x100 0 = ld ∧ !(s.cluster c).scrubbing ∧ !(s.cluster c).draining ∧ s.clusterServes c = true then
      let mine := used.filterMap (fun u => if u.1 % 64 = c then some (u.1 / 64, u.2) else none)
      let ok (b : Nat) : Bool := decide (b + n ≤ s.homeBlocks c) && mine.all (fun u => decide (u.1 + u.2 ≤ b ∨ b + n ≤ u.1))
      let want := Config.placement s.fresh
      let b := if ok want then some want else leastOf (0 :: mine.map (fun u => u.1 + u.2)) ok
      b.map (fun b => c + 64 * b)
    else none)

/-! ## Ready-form lines of a home -/

/-- A placement, or an access to its caddy, starts a cluster's stopped clock (17 R575, R606). -/
def State.startClock (s : State) (c : Nat) : State :=
  let x := s.cluster c
  if x.clockOn then s
  else
    let s := (s.setCluster c { x with clockOn := true }).bump (0xA40 + c) 0x24 (s.now - x.clockStop)
    let u := 0x1000 + 4 * c
    match (unitRun u 4).find? (fun u => s.obj u 0x80 0 != 0) with
    | some k => if x.context ≤ 16 then
        s.tracePut k { kind := 0x10, party := x.context, waiter := 0xA40 + c, on_ := 0xFFFF, pos := none, flags := 0
                       cause := 0xFFFF, object := 0, start := x.clockStop, len := s.now - x.clockStop }
      else s
    | none => s

/-- The address in `State.caddy` of frame line `l` of a home in T0. -/
def TileEntry.caddyAt (e : TileEntry) (l : Nat) : Nat := (e.location % 64) * 2 ^ 22 + e.location / 64 * 1024 + 64 * l

/-- The 16 B caddy lines, of those listed, that `n` bytes at an address lie on (11 R365, 18 R600). -/
def caddyLines (bad : List Nat) (a n : Nat) : List Nat := bad.filter (fun l => decide (a < 16 * l + 16 ∧ 16 * l < a + n))

/-- A caddy line fails its check; the second time the RAS unit puts it on a free spare line of its macro, from the next power-up on (14 R492,
R503, 18 R600; log entry 47). -/
def State.caddyFail (s : State) (l : Nat) : State :=
  let c := l / 2 ^ 18
  let macro_ := l % 2 ^ 18 / 4096
  let mine (m : RepairEntry) : Bool := m.kind == 2 && m.unit == c && m.bank == macro_
  let fused (i : Nat) : Bool := (Config.fuseMap (2 * (192 * c + 4 * macro_ + i) + 1)).toNat.testBit 7
  let free (i : Nat) : Bool := !fused i && !s.repairMap.any (fun m => mine m && m.spare == i)
  if !s.caddyFailed.contains l then { s with caddyFailed := s.caddyFailed ++ [l] }
  else if s.repairMap.any (fun m => mine m && m.row == l % 4096) then s
  else match (List.range 4).find? free with
    | some i => { s with repairSeq := s.repairSeq + 1
                         repairMap := s.repairMap ++ [{ kind := 2, unit := c, bank := macro_, row := l % 4096, spare := i }] }
    | none => s

/-- A read of caddy bytes finds lines whose check fails: `o` of unit 0x0B00 counts it (11 R392). -/
def State.caddyFails (s : State) (a n o : Nat) : State := ((caddyLines s.caddyBad a n).foldl State.caddyFail s).bump 0xB00 o 1

/-- Bytes of the caddy are written: the lines written whole have valid check bytes again. -/
def State.caddyWrite (s : State) (a : Nat) (b : Bytes) : State :=
  { s with caddy := memWrite s.caddy a b
           caddyBad := s.caddyBad.filter (fun l => !decide (a ≤ 16 * l ∧ 16 * l + 16 ≤ a + b.length)) }

/-- Whether a home in T0 has lost a line that a move has written there (06 R197 code 0x09). -/
def State.caddyLost (s : State) (e : TileEntry) : Bool :=
  e.home == 0 && !(caddyLines s.caddyBad (e.caddyAt 0) (64 * e.frameLines)).isEmpty

/-- The 64 stored bytes of frame line `l` of a home in T0 or T1; none where its check fails (11 R365, 14 R480). -/
def State.loadReady (s : State) (e : TileEntry) (l requester : Nat) : GranRead × State :=
  if e.home = 0 then
    let s := s.startClock (e.location % 64)
    if (caddyLines s.caddyBad (e.caddyAt l) 64).isEmpty then (some (memRead s.caddy (e.caddyAt l) 64), s)
    else (none, s.caddyFails (e.caddyAt l) 64 0x17)
  else s.loadGranule (16 * e.location + l) requester

/-- Store 64 bytes at frame line `l` of a home in T0 or T1, at once. -/
def State.storeReady (s : State) (e : TileEntry) (l : Nat) (d : Bytes) (n : Nat := 0x51) : State :=
  if e.home = 0 then
    (s.startClock (e.location % 64)).caddyWrite (e.caddyAt l) d
  else s.storeGranule (16 * e.location + l) d n

end Sys2Proof.Machine
end

