-- ==== Sys2Proof/Machine/Lines.lean ====
section
/-!
DEFINITION. Lines of tiles in ready form: cipher (10 R332, R333), FR tables and coded entries (04 R134 to R149), reads and
writes of one line at a home in T0 or T1.
-/
namespace Sys2Proof.Machine

/-! ## Cipher (10 R326, R332) -/

/-- The XTS tweak of a data unit (10 R332). -/
def tweakBytes (tile index kind inst binding : Nat) : Bytes :=
  leBytes 4 tile ++ leBytes 2 index ++ leBytes 1 kind ++ leBytes 1 0 ++ leBytes 4 inst ++ leBytes 4 binding

/-- The key an entry's data is under: the slot's, or its shadow for an access that saw the old generation (10 R330). -/
def State.dataKey (s : State) (e : TileEntry) : Bytes × Nat :=
  match s.key e.keySlot with
  | some z => (if z.gen = e.keyGen then z.key else (z.shadow.getD z.key), z.binding)
  | none => (zeros 64, 0)

/-- The counters of data units enciphered (0400:016) and deciphered (0400:017). -/
def State.encipher (s : State) (e : TileEntry) (tile index kind : Nat) (d : Bytes) : Bytes × State :=
  let (k, b) := s.dataKey e
  (xtsEncrypt k (tweakBytes tile index kind e.inst b) d, s.bump 0x400 0x16 1)

/-- Decipher a data unit. -/
def State.decipher (s : State) (e : TileEntry) (tile index kind : Nat) (d : Bytes) : Bytes × State :=
  let (k, b) := s.dataKey e
  (xtsDecrypt k (tweakBytes tile index kind e.inst b) d, s.bump 0x400 0x17 1)

/-! ## FR slots (04 R144 to R149) -/

/-- Object number of FR slot `n`, or of LL slot `n`. -/
def slotObj (ll : Bool) (n : Nat) : Nat := (if ll then 0x300 else 0x200) + n

/-- State of a codec slot: 0 EMPTY, 1 READY, 2 RETIRING. -/
def State.slotState (s : State) (ll : Bool) (n : Nat) : Nat := s.obj 0x300 (slotObj ll n) 1
/-- Generation of a codec slot. -/
def State.slotGen (s : State) (ll : Bool) (n : Nat) : Nat := s.obj 0x300 (slotObj ll n) 2
/-- Owner of a codec slot. -/
def State.slotOwner (s : State) (ll : Bool) (n : Nat) : Nat := s.obj 0x300 (slotObj ll n) 0

/-- The FR table loaded in a slot. -/
def State.frTable (s : State) (slot : Nat) : Option FrTable :=
  if s.slotState false slot = 0 then none else (tabGet s.frTables slot).bind frTableOf

/-- The FR table a coded form names, when the slot still holds that generation (04 R149). -/
def State.frTableAt (s : State) (slot gen : Nat) : Option FrTable :=
  if s.slotGen false slot = gen then s.frTable slot else none

/-- The granule whose channel holds a line of a home in T1: the first of its frame lines. -/
def TileEntry.lineGran (e : TileEntry) (j : Nat) : Nat := 16 * e.location + (nth (e.needs j) 0 j)

/-- The die whose FR engines work for a line of a home: that of the channel that holds its frame line, and outside T1 that of the
tile's map line (04 R157; log entry 14). -/
def State.frDie (s : State) (k : Nat) (e : TileEntry) (j : Nat) : Nat :=
  if e.home = 1 then s.granChan (e.lineGran j) / 16 else s.mapDie k

/-- Count the elements and flag of a line encoded by an engine (04 R133). -/
def State.noteEncoded (s : State) (u : Nat) (l : FrLine) : State :=
  (((s.bump u 0x16 1).bump u 0x19 l.saturated).bump u 0x1A l.flushed).bump u 0x1B (b2n l.flag)

/-- A decode that finds its slot EMPTY or under another generation is counted and logged (04 R149). -/
def State.slotMismatch (s : State) (u k slot : Nat) : State :=
  ((s.bump u 0x1C 1).logError { unitError 4 0 u slot with
    tile := s.tileNumber k, region := s.tgtRegion k, ld := s.tgtOwner k, home := (s.tgt k).home }).2

/-- Decode a coded line with the slot and generation it names; a mismatch answers poison (04 R149). -/
def State.decodeCoded (s : State) (u k ty slot gen : Nat) (l : FrLine) : Option Bytes × State :=
  match s.frTableAt slot gen with
  | some t => (some (frDecode t ty l.idx l.scale), s.bump u 0x17 1)
  | none => (none, s.slotMismatch u k slot)

/-- A coded line as a tile fetch takes it: the coded bytes, the scale byte and the flag (12 R424). -/
def codedBytes (b : Nat) (l : FrLine) : Bytes := packIdx b l.idx ++ leBytes 1 l.scale ++ leBytes 1 (b2n l.flag)

/-- A coded line for its reader: decoded, or as it is for a tile fetch, which reads no FR engine (11 R380). -/
def State.giveLine (s : State) (coded : Bool) (u k ty slot gen b : Nat) (l : FrLine) : Option Bytes × State :=
  if coded then (some (codedBytes b l), s) else s.decodeCoded u k ty slot gen l

/-! ## Coded lines of a frame -/

/-- The bytes of a range of a frame, from its deciphered lines. -/
def rangeOf (ls : List (Nat × Bytes)) (o n : Nat) : Bytes :=
  (List.range n).map (fun i => nth ((tabGet ls ((o + i) / 64)).getD []) ((o + i) % 64) 0)

/-- Line `j` of an FR frame from the deciphered frame lines it needs. -/
def codedFrom (e : TileEntry) (j : Nat) (ls : List (Nat × Bytes)) : FrLine :=
  let (oc, os, of) := frOffsets e.elem e.b j
  { idx := unpackIdx e.b (lineElems e.elem) (rangeOf ls oc (codedSize e.elem e.b))
    scale := leNat (rangeOf ls os 1), flag := (leNat (rangeOf ls of 1)).testBit (j % 8) }

/-! ## Reading lines at a home in T0 or T1 -/

/-- A frame line deciphered, or none when its granule is unreadable. -/
def State.plainFrameLine (s : State) (k : Nat) (e : TileEntry) (f requester : Nat) : Option Bytes × State :=
  match s.loadReady e f requester with
  | (some c, s) => let r := s.decipher e (s.tileNumber k) f 0 c; (some r.1, r.2)
  | (none, s) => (none, s)

/-- Several frame lines deciphered, with those that are unreadable. -/
def State.plainFrameLines (s : State) (k : Nat) (e : TileEntry) (fs : List Nat) (requester : Nat) :
    List (Nat × Bytes) × List Nat × State :=
  fs.foldl (fun a f =>
    match a.2.2.plainFrameLine k e f requester with
    | (some d, s) => (tabSet a.1 f d, a.2.1, s)
    | (none, s) => (a.1, a.2.1 ++ [f], s)) ([], [], s)

/-- The newest queued coded entry for a line of a frame (04 R137). -/
def State.queuedCoded (s : State) (e : TileEntry) (j : Nat) : Option FrEntry :=
  if e.home ≠ 1 then none
  else s.channels.foldl (fun a c => c.2.wq.foldl (fun a q => match q.body with
    | .coded x => if x.loc = e.location ∧ x.line = j then some x else a
    | .raw _ _ => a) a) none

/-- Where an unreadable frame line was found. -/
def State.foundAt (s : State) (e : TileEntry) (f requester : Nat) : Found :=
  if e.home = 0 then
    { unit := 0xB00, requester := requester, location := e.location + 2 ^ 18 * f, home := 0 }
  else
    let g := 16 * e.location + f
    let (ch, bs) := s.granPlace g
    { unit := 0x510 + ch, requester := requester, location := granLocation ch bs g, home := 1, source := ch }

/-- Poison the lines that unreadable frame lines take with them (18 R587). -/
def State.poisonFrames (s : State) (k : Nat) (e : TileEntry) (bad : List Nat) (requester : Nat) : State :=
  bad.foldl (fun s f =>
    let l := e.linesLost f
    if l = 0 then
      let r := s.encipher e (s.tileNumber k) f 0 (zeros 64)
      r.2.storeReady e f r.1 requester
    else s.poison k l (s.foundAt e f requester)) s

/-- Line `j` of a tile homed in T0 or T1, in plaintext or coded; none is poison. The line must not be in the poisoned
set. -/
def State.readReadyLineAs (s : State) (coded : Bool) (k : Nat) (e : TileEntry) (j requester : Nat) : Option Bytes × State :=
  let u := s.frEngine (s.frDie k e j) 0
  match s.queuedCoded e j with
  | some x =>
    let s := (s.bump (0x510 + s.granChan (e.lineGran j)) 0x18 1).bump u 0x18 1
    s.giveLine coded u k x.ty x.slot x.gen x.width
      { idx := unpackIdx x.width (lineElems x.ty) x.coded, scale := x.scale, flag := x.flag }
  | none =>
    match s.plainFrameLines k e (e.needs j) requester with
    | (ls, [], s) =>
      if e.frHere then s.giveLine coded u k e.elem e.frSlot e.frGen e.b (codedFrom e j ls)
      else (some ((tabGet ls j).getD []), s)
    | (_, bad, s) => (none, s.poisonFrames k e bad requester)

/-- Line `j` of a tile homed in T0 or T1, in plaintext. -/
def State.readReadyLine (s : State) (k : Nat) (e : TileEntry) (j requester : Nat) : Option Bytes × State :=
  s.readReadyLineAs false k e j requester

/-! ## Writing lines at a home in T0 or T1 -/

/-- The pieces of an FR entry: offset in the frame and bytes, the flag as the bit of its byte. -/
def FrEntry.parts (x : FrEntry) : List (Nat × Bytes) :=
  let (oc, os, _) := frOffsets x.ty x.width x.line
  [(oc, x.coded), (os, leBytes 1 x.scale)]

/-- Put an entry's bytes and flag into one frame line (14 R466 step 2). -/
def FrEntry.into (x : FrEntry) (f : Nat) (d : Bytes) : Bytes :=
  let d := x.parts.foldl (fun d p => (List.range p.2.length).foldl (fun d i =>
    if (p.1 + i) / 64 = f then d.set ((p.1 + i) % 64) (nth p.2 i 0) else d) d) d
  let of := (frOffsets x.ty x.width x.line).2.2
  if of / 64 = f then d.set (of % 64) (BitVec.ofNat 8 (setBit (nth d (of % 64) 0).toNat (x.line % 8) x.flag)) else d

/-- A line written in full is no longer in the poisoned set, where the set has a record or one is free for it (18 R589). -/
def State.healLine (s : State) (k line : Nat) : State :=
  if (s.poisonSet k).testBit line ∧ s.poisonRecordShort k = false then s.clearPoisonLine k line else s

/-- Merge an FR entry into the frame lines it meets (14 R466): an unreadable frame line is rewritten with the entry's
bytes and zero elsewhere, and the lines whose bytes it held are poisoned; the written one leaves the set. `now` writes the
granule to the device at once; otherwise it is queued. -/
def State.mergeEntry (s : State) (x : FrEntry) (now : Bool) : State :=
  let k := x.mapIndex
  let e := { s.tgt k with
    home := 1, location := x.loc, elem := x.ty, frWidth := frCode x.width, keySlot := x.keySlot, inst := x.inst }
  (e.needs x.line).foldl (fun s f =>
    let (d, s) := s.plainFrameLine k e f 0x58
    let s := match d with
      | some _ => s
      | none => (s.poison k (setBit (e.linesLost f) x.line false) (s.foundAt e f 0x58)).healLine k x.line
    let r := s.encipher e x.tile f 0 (x.into f (d.getD (zeros 64)))
    if now then r.2.storeGranule (16 * x.loc + f) r.1 0x58
    else r.2.queueGranule (16 * x.loc + f) (rsEncode r.1) 0x58) s

/-- Take the coded entries of a frame out of the write queues, oldest first. -/
def State.takeCoded (s : State) (loc : Nat) : List FrEntry × State :=
  let mine (q : WqEntry) : Bool := match q.body with
    | .coded x => x.loc == loc
    | .raw _ _ => false
  let xs := s.channels.flatMap (fun c => c.2.wq.filterMap (fun q => match q.body with
    | .coded x => if x.loc = loc then some x else none
    | .raw _ _ => none))
  (xs, { s with channels := s.channels.map (fun c =>
    (c.1, { c.2 with wq := c.2.wq.filter (fun q => !mine q) }.drainUpdate)) })

/-- Merge every queued entry of a frame into the devices: a copy of the tile then reads the stored frame. -/
def State.mergeFrame (s : State) (loc : Nat) : State :=
  let (xs, s) := s.takeCoded loc
  xs.foldl (fun s x => s.mergeEntry x true) s

/-- The coded entry of a plaintext line of an FR tile (04 R129, R134), when the tile's table stands. -/
def State.codeLine (s : State) (k : Nat) (e : TileEntry) (j : Nat) (d : Bytes) : Option (FrEntry × FrLine) :=
  (s.frTableAt e.frSlot e.frGen).map (fun t =>
    let l := frEncode t e.elem d
    ({ mapIndex := k, loc := e.location, tile := s.tileNumber k, line := j, ty := e.elem, width := e.b
       coded := packIdx e.b l.idx, scale := l.scale, flag := l.flag, slot := e.frSlot, gen := e.frGen
       keySlot := e.keySlot, inst := e.inst }, l))

/-- Whether the write queue takes a line of a tile (14 R461, R465); the caddy always does. -/
def State.lineTaken (s : State) (e : TileEntry) (j : Nat) : Bool :=
  e.home != 1 || (if e.frHere then decide ((s.chan (s.granChan (e.lineGran j))).wq.length < 64)
    else s.queueTakes (e.lineGran j))

/-- Write one full line of plaintext at a home in T0 or T1: a raw line as an enciphered granule, an FR line as a coded
entry; in the caddy both apply at once (01 R28, R29, 04 R134). -/
def State.writeReadyLine (s : State) (k : Nat) (e : TileEntry) (j : Nat) (d : Bytes) (requester : Nat) : State :=
  if e.frHere then
    match s.codeLine k e j d with
    | none => s
    | some (x, l) =>
      let s := s.noteEncoded (s.frEngine (s.frDie k e j) 0) l
      if e.home = 0 then
        (e.needs j).foldl (fun s f =>
          let (p, s) := s.plainFrameLine k e f requester
          let s := if p.isSome then s else s.poison k (setBit (e.linesLost f) j false) (s.foundAt e f requester)
          let r := s.encipher e x.tile f 0 (x.into f (p.getD (zeros 64)))
          r.2.storeReady e f r.1) s
      else s.queueAppend (s.granChan (e.lineGran j)) { body := .coded x, requester := requester, since := s.now }
  else
    let r := s.encipher e (s.tileNumber k) j 0 d
    if e.home = 0 then r.2.storeReady e j r.1
    else r.2.queueGranule (e.lineGran j) (rsEncode r.1) requester

/-- The deciphered frame that holds zero in every line (03 R105). -/
def State.zeroFrame (s : State) (k : Nat) (e : TileEntry) : Bytes :=
  if e.isFr then
    match s.frTableAt e.frSlot e.frGen with
    | some t => frameOf e.elem e.b e.frSlot e.frGen (s.tileNumber k) (List.replicate 1024 (zeroFrLine t e.elem))
    | none => zeros (frameBytes e.elem e.b)
  else zeros 65536

/-- Write a whole deciphered frame at a home in T0 or T1. -/
def State.writeFrame (s : State) (k : Nat) (e : TileEntry) (frame : Bytes) : State :=
  ((pieces 64 frame).zipIdx).foldl (fun s l =>
    let r := s.encipher e (s.tileNumber k) l.2 0 l.1
    r.2.storeReady e l.2 r.1) s

/-- The deciphered frame of a home in T0 or T1, with the frame lines that are unreadable. -/
def State.readFrame (s : State) (k : Nat) (e : TileEntry) (requester : Nat) : Bytes × List Nat × State :=
  let s := if e.home = 1 then s.mergeFrame e.location else s
  let (ls, bad, s) := s.plainFrameLines k e (List.range e.frameLines) requester
  ((List.range e.frameLines).flatMap (fun f => (tabGet ls f).getD (zeros 64)), bad, s)

end Sys2Proof.Machine
end

