-- ==== Sys2Proof/Machine/Far.lean ====
section
/-!
DEFINITION. The far store as a log of sectors (07 R226 to R245, R652): placement, streams and stripes, reading and
rebuilding, segment states.
-/
namespace Sys2Proof.Machine

/-! ## Chunks, stripes and segments (07 R226 to R231) -/

/-- A far port's own state. -/
def State.farOwn (s : State) (p : Nat) : Nat := (s.unit (0x610 + p)).own

/-- Cp: the usable chunks of a port (07 R226, R250). -/
def State.usableChunks (s : State) (p : Nat) : Nat :=
  let x := s.farPort p
  if x.present && !x.refused then 64 * (x.capacity / 4194304) else 0

/-- Whether a port holds placed sectors that can be read: its memory is active, and it is neither FAILED, OFFLINE nor ABSENT. -/
def State.farServes (s : State) (p : Nat) : Bool := (s.farPort p).active && [1, 2, 4, 5].contains (s.farOwn p)

/-- Whether a port joins stripes of new segments: ONLINE (07 R227); TEST serves as ONLINE (02 R646), and DRAINING does
not (07 R241, R652). -/
def State.farJoins (s : State) (p : Nat) : Bool :=
  (s.farPort p).active && (s.farOwn p == 1 || s.farOwn p == 2 || (s.farOwn p == 5 && s.requested (0x610 + p) != 3))

/-- The member mask a segment would open with, a port left out (07 R227, R229, R236). -/
def State.segMaskBut (s : State) (but : Option Nat) (g : Nat) : Nat :=
  ((List.range 8).filter (fun p => s.farJoins p && decide (s.usableChunks p > 64 * g) && but != some p)).foldl (fun m p => m ||| 2 ^ p) 0

/-- The member mask a segment would open with (07 R227, R229). -/
def State.segMask (s : State) (g : Nat) : Nat := s.segMaskBut none g

/-- The ports of a mask in ascending order. -/
def membersOf (mask : Nat) : List Nat := (List.range 8).filter mask.testBit

/-- The number of segments any port reaches. -/
def State.segCount (s : State) : Nat :=
  ((List.range 8).map (fun p => s.usableChunks p / 64)).foldl Nat.max 0

/-- The parity member of stripe `k` (07 R227). -/
def parityMember (mask k : Nat) : Nat := let m := membersOf mask; nth m (k % m.length) 0
/-- The data members of stripe `k`, in order of their chunks. -/
def dataMembers (mask k : Nat) : List Nat := (membersOf mask).filter (· != parityMember mask k)

/-- Data sectors of a stripe: 256 × (w − 1). -/
def stripeSectors (mask : Nat) : Nat := 256 * ((membersOf mask).length - 1)
/-- Payload sectors of a segment. -/
def paySectors (mask : Nat) : Nat := 63 * stripeSectors mask

/-- The port and address of data sector `d` of stripe `k` (07 R228). -/
def sectorAt (mask k d : Nat) : Nat × Nat := (nth (dataMembers mask k) (d / 256) 0, k * 65536 + d % 256 * 256)

/-- The key of a far byte in `State.farMem`. -/
def farKey (p a : Nat) : Nat := p * 2 ^ 41 + a

/-- Far-store sector number of payload sector `i` of segment `g`. -/
def payloadSector (g mask i : Nat) : Nat :=
  (64 * g + i / stripeSectors mask) * 2048 + i % stripeSectors mask

/-- The payload index of a sector number within its segment (07 R233). -/
def payloadIndex (mask f : Nat) : Nat := f / 2048 % 64 * stripeSectors mask + f % 2048

/-- The sector `n` after sector `f` in log order (07 R233). -/
def sectorAfter (mask f n : Nat) : Nat := payloadSector (f / 131072) mask (payloadIndex mask f + n)

/-- The CRC-32C of 256 zero bytes: a pad sector's entry (07 R231). -/
def padCrc : Nat := crc32c (zeros 256)

/-! ## Reading (07 R237, R238) -/

/-- What a far read answers for one sector, before checks: bytes, or none for poison. -/
def State.farRaw (s : State) (bad : List FarBad) (p a : Nat) : Option Bytes :=
  let d := memRead s.farMem (farKey p a) 256
  match bad.find? (fun b => b.port.val == p && b.chunk == a / 65536 && b.sector == a % 65536 / 256) with
  | some b => if b.poison then none else some (d.set 0 (nth d 0 0 ^^^ b.bits))
  | none => some d

/-- A segment of the table. -/
def State.seg (s : State) (g : Nat) : Option Seg := tabGet s.segs g
/-- Replace a segment. -/
def State.setSeg (s : State) (g : Nat) (x : Seg) : State := { s with segs := tabSet s.segs g x }

/-- Whether a member's chunks of a segment can be read. -/
def State.farHolds (s : State) (x : Seg) (p : Nat) : Bool := s.farServes p && !x.lost.testBit p

/-- What one sector read of a member would give, uncounted. -/
def State.farPeek (s : State) (bad : List FarBad) (x : Seg) (p a : Nat) : Option Bytes :=
  if s.farHolds x p then s.farRaw bad p a else none

/-- One sector read of a member with its counts: none when its chunks cannot be read or it answers poison. -/
def State.farRead (s : State) (bad : List FarBad) (x : Seg) (p a : Nat) : Option Bytes × State :=
  if !s.farHolds x p then (none, s)
  else
    let s := s.bump (0x610 + p) 0x30 1
    match s.farRaw bad p a with
    | some d => (some d, s)
    | none => (none, s.bump (0x610 + p) 0x32 1)

/-- The other members of a stripe. -/
def Seg.others (x : Seg) (p : Nat) : List Nat := (membersOf x.mask).filter (· != p)

/-- The XOR of the same sector of the other members of a stripe, uncounted. -/
def State.xorPeek (s : State) (bad : List FarBad) (x : Seg) (p a : Nat) : Option Bytes :=
  (x.others p).foldl (fun r m => r.bind (fun d => (s.farPeek bad x m a).map (xorBytes d))) (some (zeros 256))

/-- The XOR of the same sector of the other members of a stripe (07 R238). -/
def State.farXor (s : State) (bad : List FarBad) (x : Seg) (p a : Nat) : Option Bytes × State :=
  (x.others p).foldl (fun r m =>
    match r.1 with
    | none => r
    | some d => match r.2.farRead bad x m a with
      | (some b, s) => (some (xorBytes d b), s)
      | (none, s) => (none, s)) (some (zeros 256), s)

/-- The CRC a payload sector must meet (07 R237): held on the die while the segment is open; after that in its summary stripe,
rebuilt there when its own sector cannot be read. -/
def State.summaryCrc (s : State) (bad : List FarBad) (g : Nat) (x : Seg) (i : Nat) : Option Nat :=
  if !x.summarised then some ((tabGet x.crcs i).getD padCrc)
  else
    let (p, a) := sectorAt x.mask (64 * g + 63) (4 * i / 256)
    ((s.farPeek bad x p a).orElse (fun _ => s.xorPeek bad x p a)).map (fun d => field d (4 * i % 256) 4)

/-- The reads of the summary sectors that cover the sectors of a record, each once, rebuilt as needed (07 R237). -/
def State.readSummaries (s : State) (bad : List FarBad) (f n : Nat) : State :=
  let g := f / 131072
  match s.seg g with
  | none => s
  | some x =>
    if !x.summarised then s
    else
      let i := payloadIndex x.mask f
      let q := 4 * i / 256
      (List.range (4 * (i + n - 1) / 256 - q + 1)).foldl (fun s j =>
        let (p, a) := sectorAt x.mask (64 * g + 63) (q + j)
        match s.farRead bad x p a with
        | (some _, s) => s
        | (none, s) => match s.farXor bad x p a with
          | (some _, s) => s.bump 0x600 0x19 1
          | (none, s) => s.bump 0x600 0x1A 1) s

/-- A sector as read: its bytes, whether it was rebuilt, and whether the sector itself lies on a healthy port. -/
structure SectorRead where
  data : Option Bytes
  rebuilt : Bool := false
  healthy : Bool := false
  /-- Where it failed: port and sector number. -/
  port : Nat := 0
  sector : Nat := 0
deriving DecidableEq, Repr

/-- Whether a sector's bytes meet their CRC. -/
def crcGood (d : Option Bytes) (crc : Option Nat) : Bool := match d, crc with
  | some b, some c => crc32c b == c
  | _, _ => false

/-- The stored tile whose record holds a sector. -/
def State.tileAtSector (s : State) (f : Nat) : Option Nat :=
  let mask := ((s.seg (f / 131072)).map (·.mask)).getD 0
  s.tileWhere (fun e => e.home == 2 && decide (1 ≤ e.state ∧ e.state ≤ 3 ∧ e.location / 131072 = f / 131072
    ∧ payloadIndex mask e.location ≤ payloadIndex mask f ∧ payloadIndex mask f < payloadIndex mask e.location + e.length))

/-- A rebuilt sector is logged, but for one on a port whose loss has been logged (07 R239, 18 R585, R593). -/
def State.logRebuilt (s : State) (x : Seg) (p f : Nat) : State :=
  if s.farHolds x p then s.logRecovered (s.tileAtSector f) 2 { unit := 0x610 + p, location := f + 2 ^ 40 * p, home := 2, source := p } else s

/-- Rebuild one payload sector from the other members, checked against its CRC (07 R238). -/
def State.rebuildSector (s : State) (bad : List FarBad) (f : Nat) : SectorRead × State :=
  match s.seg (f / 131072) with
  | none => ({ data := none, sector := f }, s)
  | some x =>
    let (p, a) := sectorAt x.mask (f / 2048) (f % 2048)
    let crc := s.summaryCrc bad (f / 131072) x (payloadIndex x.mask f)
    let (r, s) := s.farXor bad x p a
    if crcGood r crc then ({ data := r, rebuilt := true, healthy := s.farHolds x p, port := p, sector := f },
      (s.bump 0x600 0x19 1).logRebuilt x p f)
    else ({ data := none, port := p, sector := f }, s.bump 0x600 0x1A 1)

/-- Read one payload sector, checked and rebuilt as needed (07 R237, R238). -/
def State.readSector (s : State) (bad : List FarBad) (f : Nat) : SectorRead × State :=
  match s.seg (f / 131072) with
  | none => ({ data := none, sector := f }, s)
  | some x =>
    let (p, a) := sectorAt x.mask (f / 2048) (f % 2048)
    let crc := s.summaryCrc bad (f / 131072) x (payloadIndex x.mask f)
    let (d, s) := s.farRead bad x p a
    if crcGood d crc then ({ data := d, port := p, sector := f }, s)
    else (if d.isSome && crc.isSome then s.bump (0x610 + p) 0x33 1 else s).rebuildSector bad f

/-- Read `n` sectors of a record from sector offset `o`, each by `one`. -/
def State.eachSector (s : State) (one : State → Nat → SectorRead × State) (f o n : Nat) : List SectorRead × State :=
  let mask := ((s.seg (f / 131072)).map (·.mask)).getD 0
  (List.range n).foldl (fun a i =>
    let (r, s) := one a.2 (sectorAfter mask f (o + i))
    (a.1 ++ [r], s)) (([] : List SectorRead), s)

/-! ## Writing the log (07 R232 to R236) -/

/-- Whether a segment is usable: width at least 3 (07 R229). -/
def State.segUsable (s : State) (g : Nat) : Bool := decide ((membersOf (s.segMask g)).length ≥ 3)

/-- The bands of segments between module sizes, start and end: inside a band every segment would open with the same
members (07 R229). -/
def State.bands (s : State) : List (Nat × Nat) :=
  let ends := (List.range 8).map (fun p => s.usableChunks p / 64)
  (go ends 9 0)
where
  go (ends : List Nat) : Nat → Nat → List (Nat × Nat)
    | 0, _ => []
    | n + 1, a => match leastOf ends (fun e => decide (e > a)) with
      | some e => (a, e) :: go ends n e
      | none => []

/-- Widths a segment would open with now, with their numbers of segments (07 R230; R241: added capacity counts at once, log
entry 43). -/
def State.widths (s : State) : List (Nat × Nat) :=
  s.bands.map (fun b => ((membersOf (s.segMask b.1)).length, b.2 - b.1))

/-- Usable segments: width at least 3 (07 R229, R249). -/
def State.usableSegs (s : State) : Nat := s.widths.foldl (fun a w => if w.1 ≥ 3 then a + w.2 else a) 0

/-- Free segments: usable and not listed (07 R248, R249). -/
def State.freeSegs (s : State) : Nat :=
  s.usableSegs - (s.segs.filter (fun g => s.segUsable g.1)).length

/-- A free segment to open, its members without a port: which one the spec leaves open (log entry 10). -/
def State.pickSegment (s : State) (but : Option Nat) : Option Nat :=
  let ok (g : Nat) : Bool := decide ((membersOf (s.segMaskBut but g)).length ≥ 3) && (s.seg g).isNone && decide (g < s.segCount)
  let want := Config.placement s.fresh
  if ok want then some want
  else leastOf (0 :: s.segs.map (·.1 + 1) ++ (List.range 8).map (fun p => s.usableChunks p / 64)) ok

/-- The stream's open segment that still takes records. -/
def State.openSegment (s : State) (stream : Nat) : Option (Nat × Seg) :=
  s.segs.find? (fun g => g.2.state == 1 && g.2.stream == stream && !g.2.closed)

/-- Issue a stripe write: the stripe's data sectors, zeros after the last (07 R234). `k` is the stripe within the segment. -/
def State.issueStripe (s : State) (g : Nat) (x : Seg) (k : Nat) (data : Bytes) : State :=
  (s.setSeg g { x with issued := x.issued ++ [(k, data)], gather := [] }).bump 0x600 0x17 1

/-- The stripe that gathers, within its segment. -/
def Seg.gatherStripe (x : Seg) : Nat := (x.filled - x.gather.length / 256) / stripeSectors x.mask

/-- Pad the gathering stripe of a segment and issue it; pad sectors are counted (07 R234). -/
def State.flushStripe (s : State) (g : Nat) : State :=
  match s.seg g with
  | none => s
  | some x =>
    if x.gather.isEmpty then s
    else
      let k := x.gatherStripe
      let pads := stripeSectors x.mask - x.gather.length / 256
      let s := s.issueStripe g { x with filled := x.filled + pads } k x.gather
      s.bump 0x600 0x18 pads

/-- Append the sectors of a record to a segment that has room, sector by sector; a full stripe is issued (07 R233). -/
def State.appendSectors (s : State) (g : Nat) (secs : List Bytes) : State :=
  secs.foldl (fun s d =>
    match s.seg g with
    | none => s
    | some x =>
      let x := { x with
        crcs := tabSet x.crcs x.filled (crc32c d), gather := x.gather ++ d, filled := x.filled + 1
        gatherSince := if x.gather.isEmpty then s.now else x.gatherSince }
      if x.gather.length = 256 * stripeSectors x.mask then s.issueStripe g x ((x.filled - 1) / stripeSectors x.mask) x.gather
      else s.setSeg g x) s

/-- The summary area of a segment (07 R231). -/
def summaryArea (g : Nat) (x : Seg) (written : Nat) : Bytes :=
  let w1 := (membersOf x.mask).length - 1
  let crcs := (List.range (paySectors x.mask)).flatMap (fun i => leBytes 4 ((tabGet x.crcs i).getD padCrc))
  let t := leBytes 2 0x4653 ++ leBytes 1 (w1 + 1) ++ leBytes 1 x.mask ++ leBytes 4 g ++ leBytes 8 x.seqNo
    ++ leBytes 1 x.stream ++ zeros 3 ++ leBytes 4 written ++ zeros 228
  slice (crcs ++ t ++ leBytes 4 (crc32c t)) 0 (65536 * w1)

/-- Pad the payload of a segment from its next stripe on: stripes of zeros, their sectors counted (07 R233). -/
def State.padStripes (s : State) (g : Nat) : State :=
  match s.seg g with
  | none => s
  | some x =>
    let n := stripeSectors x.mask
    let k := x.filled / n
    let s := (List.range (63 - k)).foldl (fun s i => match s.seg g with
      | some y => s.issueStripe g { y with filled := y.filled + n } (k + i) []
      | none => s) s
    s.bump 0x600 0x18 (n * (63 - k))

/-- Close a segment: the rest of its payload is padded and its summary stripe is issued (07 R233, R235). `holes` counts the payload
sectors whose stripe was never written. -/
def State.closeSegment (s : State) (g holes : Nat) : State :=
  if (s.seg g).any (·.closed) then s
  else
    let s := (s.flushStripe g).padStripes g
    match s.seg g with
    | none => s
    | some x =>
      let y := { x with closed := true, filled := x.filled - holes }
      s.issueStripe g y 63 (summaryArea g y y.filled)

/-- Open a segment for a stream, its members without a port (07 R229, R232, R236, R248). -/
def State.openNew (s : State) (stream : Nat) (but : Option Nat) : Option (Nat × State) :=
  (s.pickSegment but).map (fun g =>
    let n := s.segSeq + 1
    (g, { (s.setSeg g { state := 1, stream := stream, mask := s.segMaskBut but g, seqNo := n }) with
      segSeq := n, fresh := s.fresh + 1 }))

/-- Place a record of some sectors in a stream, on members without a port (07 R233, R236): the first sector's number. A record that
does not fit in the stream's open segment, or must not go there, closes it and goes to a new one. -/
def State.placeRecord (s : State) (stream : Nat) (secs : List Bytes) (but : Option Nat) : Option (Nat × State) :=
  let put (g : Nat) (s : State) : Option (Nat × State) :=
    (s.seg g).map (fun x => (payloadSector g x.mask x.filled, (s.appendSectors g secs).bump 0x600 0x16 1))
  match s.openSegment stream with
  | some (g, x) =>
    if x.filled + secs.length ≤ paySectors x.mask ∧ but.any x.mask.testBit = false then put g s
    else ((s.closeSegment g 0).openNew stream but).bind (fun r => put r.1 r.2)
  | none => (s.openNew stream but).bind (fun r => put r.1 r.2)

/-- Whether a stream's open segment, or a free one, takes a record of `n` sectors. -/
def State.canPlace (s : State) (stream n : Nat) : Bool :=
  (s.openSegment stream).any (fun g => decide (g.2.filled + n ≤ paySectors g.2.mask)) || (s.pickSegment none).isSome

/-- Whether the free segments have come down to the floor at which demotions and relocations into T2 wait (07 R245). -/
def State.farFloor (s : State) : Bool := decide (256 * s.freeSegs ≤ s.obj 0x600 0x134 0 * s.usableSegs)

/-- Start a record's life in the log until it is durable (07 R235), on members without a port (07 R236). -/
def State.appendBut (s : State) (but : Option Nat) (stream : Nat) (data : Bytes) (for_ : RecFor) : Option (Nat × State) :=
  (s.placeRecord stream (pieces 256 data) but).map (fun r =>
    (r.1, { r.2 with farRecs := r.2.farRecs ++ [{ sector := r.1, count := data.length / 256, for_ := for_
                                                  data := data }] }))

/-- Start a record's life in the log until it is durable (07 R235). -/
def State.appendRecord (s : State) (stream : Nat) (data : Bytes) (for_ : RecFor) : Option (Nat × State) :=
  s.appendBut none stream data for_

/-- The stripes of a record: segment and stripes within it. -/
def State.recStripes (s : State) (r : FarRec) : Nat × List Nat :=
  let g := r.sector / 131072
  match s.seg g with
  | none => (g, [])
  | some x =>
    let i := payloadIndex x.mask r.sector
    let n := stripeSectors x.mask
    (g, (List.range ((i + r.count - 1) / n - i / n + 1)).map (i / n + ·))

/-- Whether a record is durable (07 R235). -/
def State.recDurable (s : State) (r : FarRec) : Bool :=
  let (g, ks) := s.recStripes r
  match s.seg g with
  | none => false
  | some x => ks.all x.acked.contains

/-- Store a stripe's chunks and its parity on every member that serves (07 R227, R235). -/
def State.storeStripe (s : State) (x : Seg) (k : Nat) (data : Bytes) : State :=
  let ds := (dataMembers x.mask k).zip (pieces 65536 (slice data 0 (256 * stripeSectors x.mask)))
  let par := ds.foldl (fun a c => xorBytes a c.2) (zeros 65536)
  ((parityMember x.mask k, par) :: ds).foldl (fun s c =>
    if s.farHolds x c.1 then
      { (s.bump (0x610 + c.1) 0x31 256) with farMem := memWrite s.farMem (farKey c.1 (k * 65536)) c.2 }
    else s) s

/-! ## Live sectors and capacities (07 R230, R242, R248) -/

/-- Live sectors of a segment: those of records whose header sector a tile map entry names (07 R242). -/
def State.liveSectors (s : State) (g : Nat) : Nat :=
  let n (e : TileEntry) : Nat := if e.home = 2 ∧ e.state ≠ 0 ∧ e.state ≠ 4 ∧ e.location / 131072 = g then e.length else 0
  s.versions.foldl (fun a v => a + n v.2.entry) (s.tileMap.foldl (fun a e => a + n e.2) 0)

/-- Capacities of 07 R230: raw, data and payload bytes over usable segments. -/
def State.farCapacity (s : State) : Nat × Nat × Nat :=
  s.widths.foldl (fun a w => if w.1 < 3 then a else
    (a.1 + 65536 * w.1 * 64 * w.2, a.2.1 + 65536 * (w.1 - 1) * 64 * w.2, a.2.2 + 65536 * (w.1 - 1) * 63 * w.2)) (0, 0, 0)

/-- Far assignable 0200:101.01 (07 R230). -/
def State.farAssignable (s : State) : Nat :=
  let (_, _, pay) := s.farCapacity
  pay * (256 - s.obj 0x600 0x130 0) / 65536 * 256

/-- Whether a segment names a port that is FAILED or DRAINING (07 R248). -/
def State.segNamesBad (s : State) (x : Seg) : Bool :=
  (membersOf x.mask).any (fun p => s.farOwn p == 6 || s.farOwn p == 4 || s.farOwn p == 0 || s.farOwn p == 3
    || (s.farOwn p == 5 && s.requested (0x610 + p) == 3))

/-- Whether a segment is cleaned ahead of the others: it names such a port, or holds chunks that are lost (07 R239, R242). -/
def State.segRestripes (s : State) (x : Seg) : Bool := x.lost != 0 || s.segNamesBad x

/-- A segment with no live sector, no record on its way and no access that saw it passes to FREE (07 R244). -/
def State.segIdle (s : State) (g : Nat) : Bool :=
  s.liveSectors g == 0 && s.farRecs.all (fun r => r.sector / 131072 != g)
  && s.cleanCopies.all (fun c => c.2.new / 131072 != g)
  && s.accesses.all (fun a => !(a.entry.home == 2 && a.entry.location / 131072 == g && a.wait == .far))

end Sys2Proof.Machine
end

