-- ==== Sys2Proof/Machine/LlCodec.lean ====
section
/-!
DEFINITION. The lossless codec: planes, symbols, tables, lanes, leaves and record headers (05 R159 to R177).
-/
namespace Sys2Proof.Machine

/-- The planes w of a codec class and element type (05 R159). -/
def llPlanes (codec ty : Nat) : Nat :=
  if codec = 0 then (if ty = 0 then 1 else if ty = 3 then 4 else 2) else 1

/-- Plane `p` of `w` of a leaf: bytes w·i + p (05 R160). -/
def planeOf (w p : Nat) (leaf : Bytes) : Bytes :=
  (pieces w leaf).map (fun g => nth g p 0)

/-- The leaf of its planes. -/
def interleave (ps : List Bytes) : Nat → Bytes
  | 0 => []
  | n + 1 => ps.map (fun p => nth p 0 0) ++ interleave (ps.map (·.drop 1)) n

/-- Parse a plane into symbols; 256 is ZRUN (05 R161). `fuel` bounds the symbols. -/
def llParse : Nat → Bytes → List Nat
  | 0, _ => []
  | f + 1, b =>
    if 8 ≤ b.length ∧ allZero (b.take 8) = true then 256 :: llParse f (b.drop 8)
    else match b with
      | [] => []
      | x :: r => x.toNat :: llParse f r

/-- Occurrences of each of the 257 symbols. -/
def llCounts (syms : List Nat) : List Nat :=
  syms.foldl (fun c s => c.set s (nth c s 0 + 1)) (List.replicate 257 0)

/-- The first index of a largest element that satisfies `p`. -/
def argMax (l : List Nat) : Nat :=
  (l.zipIdx.foldl (fun (b : Nat × Nat) x => if x.1 > b.1 then x else b) (0, 0)).2

/-- Take 1 at a time from the largest frequency above 1, `n` times (05 R163). -/
def llTake : Nat → List Nat → List Nat
  | 0, f => f
  | n + 1, f =>
    let i := argMax f
    llTake n (f.set i (nth f i 0 - 1))

/-- The normalised frequencies of a plane (05 R163). -/
def llNormalise (counts : List Nat) : List Nat :=
  let n := counts.sum
  let f := counts.map (fun c => if c = 0 then 0 else Nat.max 1 (c * 4096 / n))
  let t := f.sum
  if t ≤ 4096 then
    let i := argMax counts
    f.set i (nth f i 0 + (4096 - t))
  else llTake (t - 4096) f

/-- Cumulative frequencies. -/
def llCumul (f : List Nat) : List Nat :=
  (f.foldl (fun (a : List Nat × Nat) x => (a.2 :: a.1, a.2 + x)) ([], 0)).1.reverse

/-- The symbol of slot `j`: c[s] ≤ j < c[s] + f[s], from symbol `s` on. -/
def llSymbol : List Nat → Nat → Nat → Nat
  | [], _, s => s
  | x :: r, j, s => if j < x then s else llSymbol r (j - x) (s + 1)

/-- The lane state at the start of coding. -/
def llStart : Nat := 0x10000

/-- Code the symbols from last to first: lanes, and words in storage order (05 R164). The list holds (index, symbol). -/
def llCode (f c : List Nat) : List (Nat × Nat) → List Nat × List Nat
  | [] => (List.replicate 8 llStart, [])
  | (k, s) :: r =>
    let (x, ws) := llCode f c r
    let l := k % 8
    let v := nth x l 0
    let fs := nth f s 0
    let (v, ws) := if v ≥ fs * 2 ^ 20 then (v >>> 16, (v % 65536) :: ws) else (v, ws)
    (x.set l (v / fs * 4096 + v % fs + nth c s 0), ws)

/-- The lane states and words of a plane's symbols under a table. -/
def llBody (f : List Nat) (syms : List Nat) : Bytes :=
  let (x, ws) := llCode f (llCumul f) (syms.zipIdx.map (fun p => (p.2, p.1)))
  x.flatMap (leBytes 4) ++ ws.flatMap (leBytes 2)

/-- The adaptive table (05 R163). -/
def llAdaptive (f : List Nat) : Bytes :=
  let presence := leBytes 33 (f.zipIdx.foldl (fun a p => if p.1 = 0 then a else a + 2 ^ p.2) 0)
  let vals := (f.filter (· != 0)).map (· - 1)
  let packed := vals.foldr (fun v a => v + a * 4096) 0
  let n := ceilDiv (vals.length * 12) 8
  let t := presence ++ leBytes n packed
  if t.length % 2 = 0 then t else t ++ [0]

/-- One coded plane: its mode and body (05 R162). -/
def llPlane (slotTable : Option (List Nat)) (plane : Bytes) : Nat × Bytes :=
  let syms := llParse plane.length plane
  let counts := llCounts syms
  let (mode, body) :=
    match slotTable.filter (fun t => (counts.zip t).all (fun p => p.1 == 0 || p.2 != 0)) with
    | some t => (0, llBody t syms)
    | none =>
      let f := llNormalise counts
      (1, llAdaptive f ++ llBody f syms)
  if body.length ≥ plane.length then (2, plane) else (mode, body)

/-- Decode the symbols of a plane (05 R164): bytes left, symbol index, lanes, words, output in reverse. -/
def llRead (f c : List Nat) : Nat → Nat → Nat → List Nat → List Nat → List Byte → Option Bytes
  | 0, _, _, _, _, _ => none
  | fuel + 1, n, k, x, ws, out =>
    if n = 0 then
      if x.all (· == llStart) && ws.isEmpty then some out.reverse else none
    else
      let l := k % 8
      let v := nth x l 0
      let j := v % 4096
      let s := llSymbol f j 0
      let v := nth f s 0 * (v / 4096) + j - nth c s 0
      let step := fun v ws =>
        if s = 256 then
          if n < 8 then none else llRead f c fuel (n - 8) (k + 1) (x.set l v) ws (zeros 8 ++ out)
        else llRead f c fuel (n - 1) (k + 1) (x.set l v) ws (BitVec.ofNat 8 s :: out)
      if v < llStart then
        match ws with
        | [] => none
        | w :: r => step (v * 65536 + w) r
      else step v ws

/-- Decode lane states and words. -/
def llUnbody (f : List Nat) (n : Nat) (body : Bytes) : Option Bytes :=
  if f.sum = 4096 ∧ 32 ≤ body.length ∧ body.length % 2 = 0 then
    llRead f (llCumul f) (n + 1) n 0 ((pieces 4 (body.take 32)).map leNat) ((pieces 2 (body.drop 32)).map leNat) []
  else none

/-- Read an adaptive table: frequencies and the bytes after it. -/
def llReadTable (body : Bytes) : List Nat × Bytes :=
  let pres := field body 0 33
  let cnt := ((List.range 257).filter (fun s => pres.testBit s)).length
  let n := ceilDiv (cnt * 12) 8
  let packed := field body 33 n
  let f := (List.range 257).foldl (fun (a : List Nat × Nat) s =>
    if pres.testBit s then (((packed >>> (12 * a.2)) % 4096 + 1) :: a.1, a.2 + 1) else (0 :: a.1, a.2)) ([], 0)
  (f.1.reverse, body.drop (33 + n + (33 + n) % 2))

/-- Decode one plane of `n` bytes in its mode. -/
def llUnplane (slotTable : Option (List Nat)) (mode n : Nat) (body : Bytes) : Option Bytes :=
  if mode = 0 then slotTable.bind (fun t => llUnbody t n body)
  else if mode = 1 then
    let (f, r) := llReadTable body
    llUnbody f n r
  else if mode = 2 ∧ body.length = n then some body else none

/-- The tables of an LL slot image, one per plane (05 R176). -/
abbrev LlTables := List (Option (List Nat))

/-- The tables of an image, when it is valid (05 R176). -/
def llTablesOf (img : Bytes) : Option LlTables :=
  let mask := field img 3 1
  let f := fun p => (pieces 2 (slice img (16 + 514 * p) 514)).map leNat
  if field img 0 2 = 0x4C54 ∧ field img 2 1 = 1 ∧ mask ≠ 0 ∧ mask < 16 ∧ allZero (slice img 4 12) = true ∧
      (List.range 4).all (fun p => if mask.testBit p then (f p).sum == 4096 else (f p).sum == 0) = true
  then some ((List.range 4).map (fun p => if mask.testBit p then some (f p) else none)) else none

/-- A leaf as stored, before encipherment (05 R165, R166): LL body or raw bytes, padded to sectors. -/
structure LlLeaf where
  raw : Bool
  bytes : Bytes
  plainLen : Nat
  checksum : Nat
  /-- Planes in mode 2 of a coded leaf. -/
  rawPlanes : Nat
  /-- Whether a plane uses the slot's table. -/
  usesSlot : Bool
deriving DecidableEq, Repr

/-- Sectors of a stored leaf. -/
def LlLeaf.sectors (l : LlLeaf) : Nat := l.bytes.length / 256

/-- A leaf stored raw. -/
def rawLeaf (leaf : Bytes) : LlLeaf :=
  { raw := true, bytes := leaf, plainLen := leaf.length, checksum := crc32c leaf, rawPlanes := 0, usesSlot := false }

/-- The LL body of a leaf (05 R165), its raw planes, and whether it uses the slot. -/
def llLeafBody (w : Nat) (tables : LlTables) (leaf : Bytes) : Bytes × Nat × Bool :=
  let ps := (List.range w).map (fun p => llPlane (nth tables p none) (planeOf w p leaf))
  (leBytes 1 w ++ zeros 3 ++ ps.flatMap (fun p => leBytes 2 p.2.length ++ leBytes 1 p.1 ++ zeros 1)
      ++ ps.flatMap (·.2),
    (ps.filter (·.1 == 2)).length, ps.any (·.1 == 0))

/-- Decode an LL leaf of `n` plaintext bytes (05 R164, R165). -/
def llLeafDecode (w : Nat) (tables : LlTables) (n : Nat) (b : Bytes) : Option Bytes :=
  if field b 0 1 ≠ w then none
  else
    let dir := (List.range w).map (fun p => (field b (4 + 4 * p) 2, field b (6 + 4 * p) 1))
    let offs := (llCumul (dir.map (·.1))).map (· + 4 + 4 * w)
    let ps := (List.range w).map (fun p =>
      let d := nth dir p (0, 0)
      llUnplane (nth tables p none) d.2 (n / w) (slice b (nth offs p 0) d.1))
    if ps.all (·.isSome) then some (interleave (ps.map (·.getD [])) (n / w)) else none

/-- Encode a leaf of an LL class: coded unless the threshold sends it raw (05 R166) or the verify decode fails
(05 R170); the second component says whether the verify failed. -/
def llEncodeLeaf (w : Nat) (tables : LlTables) (thr : Nat) (leaf : Bytes) : LlLeaf × Bool :=
  let (body, rp, us) := llLeafBody w tables leaf
  let n := ceilDiv body.length 256
  if n > thr * leaf.length / 4096 then (rawLeaf leaf, false)
  else
    let l : LlLeaf := { raw := false, bytes := slice body 0 (256 * n), plainLen := leaf.length
                        checksum := crc32c leaf, rawPlanes := rp, usesSlot := us }
    if llLeafDecode w tables leaf.length l.bytes = some leaf then (l, false) else (rawLeaf leaf, true)

/-- The leaves of a tile's stored data: 4 KiB pieces, the last one shorter for an FR frame (05 R159). -/
def leavesOf (data : Bytes) : List Bytes := pieces 4096 data

/-- What the header sector of a record carries besides its leaves (05 R168). -/
structure RecHeader where
  codec : Nat
  elem : Nat
  llSlot : Nat
  llGen : Nat
  frSlot : Nat
  frWidth : Nat
  frGen : Nat
  tile : Nat
  inst : Nat
  keyGen : Nat
deriving DecidableEq, Repr

/-- The leaf entries of a record. -/
def leafEntries : Nat → List LlLeaf → Bytes
  | _, [] => []
  | start, l :: r =>
    leBytes 4 l.checksum ++ leBytes 2 start ++ leBytes 1 l.sectors
      ++ leBytes 1 (b2n l.raw + 4 * (l.plainLen / 1024 - 1)) ++ leafEntries (start + l.sectors) r

/-- Sectors of a record: the header and its leaves (05 R167). -/
def recordSectors (ls : List LlLeaf) : Nat := 1 + (ls.map (·.sectors)).sum

/-- The header sector (05 R168). -/
def headerSector (h : RecHeader) (ls : List LlLeaf) : Bytes :=
  let fr := h.frWidth != 0
  let slotUsed := ls.any (·.usesSlot)
  let a := leBytes 2 0x4C52 ++ leBytes 1 1 ++ leBytes 1 ls.length ++ leBytes 1 h.codec ++ leBytes 1 h.elem
    ++ leBytes 1 (if slotUsed then h.llSlot else 0xFF)
    ++ leBytes 1 (b2n fr + 2 * b2n (ls.any (fun l => !l.raw)))
    ++ leBytes 2 (if slotUsed then h.llGen else 0) ++ leBytes 1 (if fr then h.frSlot else 0xFF)
    ++ leBytes 1 h.frWidth ++ leBytes 2 (if fr then h.frGen else 0) ++ leBytes 2 (recordSectors ls)
    ++ leBytes 4 h.tile ++ leBytes 4 h.inst ++ leBytes 2 h.keyGen ++ zeros 2
    ++ leBytes 4 ((ls.map (·.plainLen)).sum) ++ zeros 92
  let e := slice (leafEntries 1 ls) 0 128
  a ++ leBytes 4 (crc32c (a ++ e)) ++ e

/-- Whether a header sector's magic, format and check hold (05 R168, R173). -/
def headerOk (b : Bytes) : Bool :=
  field b 0 2 == 0x4C52 && field b 2 1 == 1 && field b 124 4 == crc32c (b.take 124 ++ b.drop 128)

/-- Leaf entry `i` of a header: checksum, start sector, sector count, raw, plaintext length. -/
def headerLeaf (b : Bytes) (i : Nat) : Nat × Nat × Nat × Bool × Nat :=
  let o := 128 + 8 * i
  let m := field b (o + 7) 1
  (field b o 4, field b (o + 4) 2, field b (o + 6) 1, m % 4 == 1, (m / 4 % 4 + 1) * 1024)

end Sys2Proof.Machine
end

