-- ==== Sys2Proof/Machine/Records.lean ====
section
/-!
DEFINITION. Tile records in T2 and T3 (05 R159 to R178): coding and sealing a record, and reading its header and leaves
through every check.
-/
namespace Sys2Proof.Machine

/-! ## Classes and tables -/

/-- The codec class of a stored tile: its region's (03 R101: a class does not change while a tile is not UNWRITTEN). A tile
held for a span member is LL coded, or FR with LL (16 R555). -/
def State.codecOf (s : State) (e : TileEntry) : Nat :=
  match s.region e.region with
  | some r => if e.region = guestRegion ∧ e.isFr = true then 0x11 else r.codec
  | none => if e.isFr then 0x10 else 0

/-- The image of an LL slot's table. -/
def State.llTable (s : State) (slot : Nat) : LlTables :=
  if s.slotState true slot = 0 then [] else ((tabGet s.llTables slot).bind llTablesOf).getD []

/-- An LL engine works on a leaf: its busy time is a free value within the bound of 05 R180 and R181 (05 R187; log entry 46). -/
def State.engineBusy (s : State) (u bound : Nat) : Nat × State :=
  let t := Nat.min (Config.engineTime s.fresh) bound
  (t, { s with fresh := s.fresh + 1 }.bump u 0x27 t)

/-- The far-store stream of a stored tile (07 R232). -/
def State.streamOf (s : State) (e : TileEntry) : Nat :=
  match s.region e.region with
  | some r => if r.shared then 16 else if r.owner < 16 then r.owner else 17
  | none => 17

/-! ## Sealing a record (05 R165 to R171) -/

/-- A record ready to be stored: its sectors, and the entry fields R169 sets from it. -/
structure Sealed where
  sectors : Bytes
  llPresent : Bool
  llBuiltin : Bool
  llSlot : Nat
  /-- Plaintext bytes of its LL-coded leaves (08 R271). -/
  coded : Nat
deriving DecidableEq, Repr

/-- Whether the leaves of a stored tile are LL-coded: its class codes them (05 R159) and its region is not size-masked (10 R322). -/
def State.codesLeaves (s : State) (e : TileEntry) : Bool :=
  (s.codecOf e == 0 || s.codecOf e == 0x11) && !(s.region e.region).any Region.masked

/-- Code the leaves of a stored form (05 R159, R166, R170, 10 R322). -/
def State.codeLeaves (s : State) (k : Nat) (e : TileEntry) (data : Bytes) : List LlLeaf × State :=
  let w := llPlanes (s.codecOf e) e.elem
  let tables := if e.llBuiltin then [] else s.llTable e.llSlot
  let thr := s.obj 0x300 0x120 0
  if !s.codesLeaves e then ((leavesOf data).map rawLeaf, s)
  else (leavesOf data).zipIdx.foldl (fun a leaf =>
    let u := a.2.llEngine (a.2.mapDie k) leaf.2
    let (l, bad) := llEncodeLeaf w tables thr leaf.1
    let s := ((a.2.engineBusy u (ceilDiv leaf.1.length 12)).2).bump u 0x21 leaf.1.length
    (a.1 ++ [l], if bad then s.bump u 0x22 1 else s)) ([], s)

/-- The leaves of a record that is stored are counted by the engines that coded them (05 R187). -/
def State.countLeaves (s : State) (k : Nat) (e : TileEntry) (ls : List LlLeaf) : State :=
  if !s.codesLeaves e then s
  else ls.zipIdx.foldl (fun s l =>
    let u := s.llEngine (s.mapDie k) l.2
    if l.1.raw then s.bump u 0x1E 1 else (s.bump u 0x1D 1).bump u 0x1F l.1.rawPlanes) s

/-- The record of a stored form, enciphered (05 R167 to R171). -/
def State.sealRecord (s : State) (k : Nat) (e : TileEntry) (data : Bytes) : Sealed × State :=
  let (ls, s) := s.codeLeaves k e data
  let s := s.countLeaves k e ls
  let tile := s.tileNumber k
  let slotUsed := ls.any (·.usesSlot)
  let h := headerSector { codec := s.codecOf e, elem := e.elem, llSlot := e.llSlot, llGen := s.slotGen true e.llSlot
                          frSlot := e.frSlot, frWidth := e.frWidth, frGen := e.frGen, tile := tile, inst := e.inst
                          keyGen := e.keyGen } ls
  let (hc, s) := s.encipher e tile 16 1 h
  let (body, s) := ls.zipIdx.foldl (fun a l =>
    let (c, s) := a.2.encipher e tile l.2 1 l.1.bytes
    (a.1 ++ c, s)) ([], s)
  let s := s.bump (s.llEngine (s.mapDie k) 0) 0x25 (recordSectors ls)
  ({ sectors := hc ++ body, llPresent := ls.any (fun l => !l.raw), llBuiltin := !slotUsed
     llSlot := if slotUsed then e.llSlot else 0
     coded := ((ls.zip (leavesOf data)).map (fun l => if l.1.raw then 0 else l.2.length)).foldl (· + ·) 0 }, s)

/-! ## Opening a record (05 R169, R173 to R178) -/

/-- Sectors of a record as fetched, in order; where the first unreadable one failed; and whether a rebuilt sector lies on a healthy
port, so that the record is appended again (07 R238). -/
structure Fetched where
  secs : List (Option Bytes)
  loc : Nat := 0
  rewrite : Bool := false
deriving DecidableEq, Repr

/-- The bytes of sectors, when all are there. -/
def Fetched.data (f : Fetched) : Option Bytes :=
  if f.secs.all (·.isSome) then some (f.secs.flatMap (fun d => d.getD [])) else none

/-- How a record's sectors are fetched, and how they are rebuilt after a decode failure (05 R174): offset and count within the
record. -/
structure Fetcher where
  get : State → Nat → Nat → Fetched × State
  rebuild : State → Nat → Nat → Fetched × State := fun s _ n => ({ secs := List.replicate n none }, s)

/-- Sectors read from the far store. -/
def fetchedFar (rs : List SectorRead) : Fetched :=
  { secs := rs.map (·.data)
    loc := match rs.find? (fun r => r.data.isNone) with
      | some r => r.sector + 2 ^ 40 * r.port
      | none => ((rs[0]?).map (fun r => r.sector + 2 ^ 40 * r.port)).getD 0
    rewrite := rs.any (fun r => r.rebuilt && r.healthy) }

/-- Fetch a record of `len` sectors from the far store, with the sectors that come back bad: the header comes with the summary
sectors of the whole record (07 R237, R238). -/
def farFetch (f len : Nat) (bad : List FarBad) : Fetcher where
  get s o n :=
    let s := if o = 0 then s.readSummaries bad f len else s
    let (rs, s) := s.eachSector (·.readSector bad) f o n
    (fetchedFar rs, s)
  rebuild s o n :=
    let (rs, s) := s.eachSector (·.rebuildSector bad) f o n
    (fetchedFar rs, s)

/-- The key of a spill sector in `State.t3crcs`. -/
def spillKey (ld sector : Nat) : Nat := ld * 2 ^ 40 + sector

/-- Fetch from bytes a host read returned, which start at record sector `o0` (05 R172). -/
def hostFetch (ld first o0 : Nat) (blob : Bytes) : Fetcher where
  get s o n :=
    let one (i : Nat) : Option Bytes :=
      let d := slice blob (256 * (o + i - o0)) 256
      if o ≥ o0 ∧ 256 * (o + i + 1 - o0) ≤ blob.length ∧ crc32c d = (tabGet s.t3crcs (spillKey ld (first + o + i))).getD padCrc
      then some d else none
    ({ secs := (List.range n).map one, loc := first + o + 2 ^ 40 * ld }, s)

/-- Whether a header agrees with the tile map entry: its fields 3 to 31 (05 R169). The codec class of a record from
a span member is the origin's, of which the entry tells FR alone (log entry 25). -/
def State.headerMatches (s : State) (k : Nat) (e : TileEntry) (h : Bytes) : Bool :=
  headerOk h && field h 3 1 == ceilDiv (64 * e.frameLines) 4096 
  && (field h 4 1 == s.codecOf e || (e.region == guestRegion && field h 4 1 / 16 == b2n e.isFr)) && field h 5 1 == e.elem
  && (field h 6 1 == 0xFF) == e.llBuiltin && (e.llBuiltin || field h 6 1 == e.llSlot)
  && field h 7 1 == b2n e.isFr + 2 * b2n e.llPresent
  && field h 10 1 == (if e.isFr then e.frSlot else 0xFF) && field h 11 1 == e.frWidth
  && field h 12 2 == (if e.isFr then e.frGen else 0) && field h 14 2 == e.length
  && field h 16 4 == s.tileNumber k && field h 20 4 == e.inst && field h 24 2 == e.keyGen && field h 26 2 == 0
  && field h 28 4 == 64 * e.frameLines

/-- The tables a header names; none when its slot is EMPTY or holds another generation (05 R178). -/
def State.headerTables (s : State) (h : Bytes) : Option LlTables :=
  let slot := field h 6 1
  if slot = 0xFF then some []
  else if s.slotState true slot ≠ 0 ∧ s.slotGen true slot = field h 8 2 then some (s.llTable slot)
  else none

/-- Whether a load waits for a leaf of a tile that moves into T0 (05 R184). -/
def State.leafAwaited (s : State) (k : Nat) (e : TileEntry) (i : Nat) : Bool :=
  s.accesses.any (fun a => decide (a.wait = .valid) && a.key == k && ((e.needs a.line).map (· / 64)).contains i)

/-- Change the schedule entry whose move a stored tile is in, if any. -/
def State.onEntryOf (s : State) (k : Nat) (f : Sched → Sched) : State :=
  let e := s.tgt k
  match (if e.state = 2 then s.move e.moveTag else none).map Move.by_ with
  | some (.schedule n) => match tabGet s.sched n with
    | some x => { s with sched := tabSet s.sched n (f x) }
    | none => s
  | _ => s

/-- An entry's moves have waited for a decode. -/
def Sched.decodeWaits (t : Nat) (x : Sched) : Sched := { x with decodeWait := x.decodeWait + t }
/-- An entry's moves have waited for data from another tier. -/
def Sched.transferWaits (t : Nat) (x : Sched) : Sched := { x with transferWait := x.transferWait + t }

/-- One attempt at a leaf on an engine: sectors deciphered, decoded and checked (05 R173, R182). An attempt at a coded leaf counts as
a leaf decoded, as busy time, and as decode-bound time of the loads that wait for it (05 R185, R187; log entry 46). -/
def State.tryLeaf (s : State) (u k : Nat) (e : TileEntry) (h : Bytes) (i : Nat) (stored : Bytes) : Option Bytes × State :=
  let (sum, _, _, raw, n) := headerLeaf h i
  let (p, s) := s.decipher e (s.tileNumber k) i 1 stored
  let (d, s) := if raw then (some (p.take n), s)
    else
      let (t, s) := s.engineBusy u (ceilDiv n 24)
      let s := if s.leafAwaited k e i then (s.bump u 0x24 t).onEntryOf k (Sched.decodeWaits t) else s
      (llLeafDecode (llPlanes (field h 4 1) (field h 5 1)) ((s.headerTables h).getD []) n p, s.bump u 0x20 1)
  match d with
  | some d => if crc32c d = sum then (some d, s) else (none, s.bump u 0x22 1)
  | none => (none, s.bump u 0x22 1)

/-- A part of a record, opened: its plaintext, or where it failed. -/
structure Opened where
  data : Option Bytes
  loc : Nat := 0
  rewrite : Bool := false
deriving DecidableEq, Repr

/-- The header of a record: fetched, deciphered, checked; a failure is repeated, and then repeated on sectors rebuilt from parity
(05 R173, R174). -/
def State.openHeader (s : State) (k : Nat) (e : TileEntry) (fetch : Fetcher) : Opened × State :=
  let u (s : State) (n : Nat) : Nat := s.llEngine (s.mapDie k) n
  let (f, s) := fetch.get s 0 1
  match f.data with
  | none => ({ data := none, loc := f.loc }, s)
  | some c =>
    let (h, s) := s.decipher e (s.tileNumber k) 16 1 c
    if s.headerMatches k e h then ({ data := some h, rewrite := f.rewrite }, s)
    else
      let s := (s.bump (u s 0) 0x22 1).bump (u s 1) 0x22 1
      let (g, s) := fetch.rebuild s 0 1
      match g.data with
      | some c =>
        let (h, s) := s.decipher e (s.tileNumber k) 16 1 c
        if s.headerMatches k e h then ({ data := some h, rewrite := f.rewrite || g.rewrite }, s)
        else ({ data := none, loc := f.loc }, s.bump (u s 0) 0x22 1)
      | none => ({ data := none, loc := f.loc }, s)

/-- Leaf `i` of a record whose header is open, as piece `n` of the work of its class (05 R173, R174, R183, R187). -/
def State.openLeaf (s : State) (cls : Nat) (n k : Nat) (e : TileEntry) (h : Bytes) (i : Nat) (fetch : Fetcher) : Opened × State :=
  let (_, start, count, raw, _) := headerLeaf h i
  let u (s : State) (n : Nat) : Nat := s.llEngine (s.mapDie k) n
  let (f, s) := fetch.get s start count
  match f.data with
  | none => ({ data := none, loc := f.loc }, s)
  | some c =>
    let s := if cls = 1 ∧ raw = false then s.bump (u s n) 0x26 1 else s
    match s.tryLeaf (u s n) k e h i c with
    | (some d, s) => ({ data := some d, rewrite := f.rewrite }, s)
    | (none, s) => match s.tryLeaf (u s (n + 1)) k e h i c with
      | (some d, s) => ({ data := some d, rewrite := f.rewrite },
          s.logRecovered (some k) 3 { unit := 0x700, requester := 0x51, location := e.location, home := e.home })
      | (none, s) =>
        let (g, s) := fetch.rebuild s start count
        match g.data with
        | some c => match s.tryLeaf (u s n) k e h i c with
          | (some d, s) => ({ data := some d, rewrite := f.rewrite || g.rewrite }, s)
          | (none, s) => ({ data := none, loc := f.loc }, s)
        | none => ({ data := none, loc := f.loc }, s)

/-- The lines that an unreadable leaf takes with it (18 R587). -/
def TileEntry.leafLost (e : TileEntry) (i : Nat) : Nat :=
  (List.range 64).foldl (fun m f => if 64 * i + f < e.frameLines then m ||| e.linesLost (64 * i + f) else m) 0

/-- The leaves line `j` of a record needs. -/
def TileEntry.leavesOfLine (e : TileEntry) (j : Nat) : List Nat := ((e.needs j).map (· / 64)).eraseDups

/-- Where a record failed. -/
def foundRecord (e : TileEntry) (loc requester : Nat) : Found :=
  { unit := if e.home = 2 then 0x610 + loc / 2 ^ 40 % 8 else 0x700, requester := requester, location := loc
    home := e.home, source := if e.home = 2 then loc / 2 ^ 40 else 0 }

/-- Open the leaves a reader needs: their plaintext by leaf, and the lines lost with where (05 R173, 18 R587). A header whose slot does
not hold its generation is counted once, when a coded leaf is read (05 R178). -/
def State.openLeaves (s : State) (cls : Nat) (k : Nat) (e : TileEntry) (is : List Nat) (fetch : Fetcher) :
    List (Nat × Bytes) × List (Nat × Nat) × Bool × State :=
  match s.openHeader k e fetch with
  | ({ data := none, loc := l, .. }, s) => ([], [(2 ^ 1024 - 1, l)], false, s)
  | ({ data := some h, rewrite := rw0, .. }, s) =>
    let coded (i : Nat) : Bool := !(headerLeaf h i).2.2.2.1
    let s := if (s.headerTables h).isNone ∧ is.any coded then s.bump (s.llEngine (s.mapDie k) 0) 0x23 1 else s
    is.zipIdx.foldl (fun a i =>
      match a.2.2.2.openLeaf cls ((is.take i.2).filter coded).length k e h i.1 fetch with
      | ({ data := some d, rewrite := rw1, .. }, s) => (tabSet a.1 i.1 d, a.2.1, a.2.2.1 || rw1, s)
      | ({ data := none, loc := l, .. }, s) => (a.1, a.2.1 ++ [(e.leafLost i.1, l)], a.2.2.1, s)) ([], [], rw0, s)

/-- The lines that unreadable sectors of a record take with it (07 R238, 18 R587): the header takes every line, a leaf its own. -/
def State.sectorsLost (s : State) (k : Nat) (e : TileEntry) (secs : List (Option Bytes)) : Nat :=
  let bad := (List.range secs.length).filter (fun i => (secs[i]?).any (·.isNone))
  let h : Bytes := (s.decipher e (s.tileNumber k) 16 1 (((secs[0]?).bind id).getD (zeros 256))).1
  if bad.isEmpty then 0
  else if bad.contains 0 ∨ !s.headerMatches k e h then 2 ^ 1024 - 1
  else (List.range (ceilDiv (64 * e.frameLines) 4096)).foldl (fun m i =>
    let (_, start, n, _, _) := headerLeaf h i
    if bad.any (fun o => decide (start ≤ o ∧ o < start + n)) then m ||| e.leafLost i else m) 0

/-- The stored bytes of a record, copied in kept form (01 R27, 18 R591): none with the lines lost when a sector of a line outside the
poisoned set cannot be read. Sectors of poisoned lines that cannot be read are copied as zeros (log entry 46). -/
def State.keptRecord (s : State) (k : Nat) (e : TileEntry) (fetch : Fetcher) : (Option Bytes × Nat × Nat) × State :=
  let (f, s) := fetch.get s 0 e.length
  let lost := s.sectorsLost k e f.secs
  let set := s.poisonSet k
  (if lost ||| set = set then (some (f.secs.flatMap (fun d => d.getD (zeros 256))), 0, f.loc) else (none, lost, f.loc), s)

/-- Append a record again after a rebuild on a healthy port, or to move it out of a segment: a cleaning copy that carries
the stored bytes unchanged (07 R238, R243, 18 R591), while a segment can take it (07 R240). A sector that cannot be rebuilt poisons
its lines instead (07 R238). -/
def State.startClean (s : State) (k : Nat) : State :=
  let e := s.tgt k
  if e.home ≠ 2 ∨ e.length = 0 ∨ (e.state = 0 ∨ e.state = 4) ∨ s.cleanCopies.any (fun c => c.2.key == k)
    ∨ !s.canPlace (s.streamOf e) e.length then s
  else
    match s.keptRecord k e (farFetch e.location e.length []) with
    | ((some d, _, _), s) =>
      let i := s.nextCopy
      match s.appendRecord (s.streamOf e) d (.cleaning i) with
      | some (f, s) => { s with
          cleanCopies := tabSet s.cleanCopies i { key := k, old := e.location, new := f, length := e.length }
          nextCopy := i + 1 }
      | none => s
    | ((none, lost, loc), s) => s.poison k lost (foundRecord e loc 0x51)

/-- Line `j` of a tile homed in T2 or T3, in plaintext or coded; none is poison. -/
def State.readRecordLineAs (s : State) (coded : Bool) (k : Nat) (e : TileEntry) (j requester : Nat) (fetch : Fetcher) :
    Option Bytes × State :=
  let (ls, lost, rewrite, s) := s.openLeaves 2 k e (e.leavesOfLine j) fetch
  let s := lost.foldl (fun s l => s.poison k l.1 (foundRecord e l.2 requester)) s
  let s := if rewrite then s.startClean k else s
  if !lost.isEmpty then (none, s)
  else
    let at_ (f : Nat) : Bytes := slice ((tabGet ls (f / 64)).getD []) (f % 64 * 64) 64
    if e.frHere then s.giveLine coded (s.frEngine (s.frDie k e j) 0) k e.elem e.frSlot e.frGen e.b (codedFrom e j ((e.needs j).map (fun f => (f, at_ f))))
    else (some (at_ j), s)

/-- The stored form of a tile in T2 or T3, whole, for work of a class, with the lines lost. -/
def State.readRecord (s : State) (cls : Nat) (k : Nat) (e : TileEntry) (fetch : Fetcher) :
    Bytes × List (Nat × Nat) × Bool × State :=
  let n := ceilDiv (64 * e.frameLines) 4096
  let (ls, lost, rewrite, s) := s.openLeaves cls k e (List.range n) fetch
  ((List.range n).flatMap (fun i => (tabGet ls i).getD (zeros (Nat.min 4096 (64 * e.frameLines - 4096 * i)))), lost,
    rewrite, s)

end Sys2Proof.Machine
end

