-- ==== Sys2Proof/Machine/Charges.lean ====
section
/-!
DEFINITION. Who pays for stored tiles and what (03 R112 to R117, 09 R282), codec slot counts (04 R145 to R147), freeing of
homes, and new homes.
-/
namespace Sys2Proof.Machine

/-! ## Codec slot counts (04 R145 to R147, 05 R177) -/

/-- Whether an entry in state VALID, MOVING or POISONED names a codec slot. -/
def namesSlot (ll : Bool) (n : Nat) (e : TileEntry) : Bool :=
  decide (1 ≤ e.state ∧ e.state ≤ 3) &&
    (if ll then e.llPresent && !e.llBuiltin && e.llSlot == n else e.frHere && e.frSlot == n)

/-- The tile count of a codec slot: tile map entries and version records that name it (log entry 15). -/
def State.slotTiles (s : State) (ll : Bool) (n : Nat) : Nat :=
  (s.tileMap.filter (fun e => namesSlot ll n e.2)).length + (s.versions.filter (fun v => namesSlot ll n v.2.entry)).length

/-- The in-flight count of a codec slot: queued coded entries, moves and array lookups. -/
def State.slotFlight (s : State) (ll : Bool) (n : Nat) : Nat :=
  (s.moves.filter (fun m => namesSlot ll n m.2.dst)).length
  + (if ll then 0 else
      s.channels.foldl (fun a c => a + (c.2.wq.filter (fun q => match q.body with
        | .coded x => x.slot == n
        | .raw _ _ => false)).length) 0
      + (s.clusters.filter (fun c => c.2.lookup.any (fun l => l.slot == n))).length)

/-- The region-pointer count of a codec slot (04 R145). -/
def State.slotPointers (s : State) (ll : Bool) (n : Nat) : Nat :=
  (s.regions.filter (fun r => if ll then r.2.llSlot == n else r.2.isFr && r.2.frSlot == n)).length

/-- Follow the counts of a codec slot: a READY slot no region names any longer passes to RETIRING while it is referenced;
a RETIRING slot passes to EMPTY with its event when nothing references it, and to READY when a region names it (04 R147). -/
def State.slotCheck (s : State) (ll : Bool) (n : Nat) : State :=
  if n ≥ 64 then s
  else
    let st := s.slotState ll n
    let refs := s.slotTiles ll n + s.slotFlight ll n
    if st = 2 then
      if s.slotPointers ll n ≠ 0 then s.setObj 0x300 (slotObj ll n) 1 1
      else if refs = 0 then
        (s.setObj 0x300 (slotObj ll n) 1 0).raise 0x300 (if ll then 0x0111 else 0x0110) (n + 256 * s.slotGen ll n)
      else s
    else s

/-- A region stops naming a codec slot (04 R147). -/
def State.slotUnnamed (s : State) (ll : Bool) (n : Nat) : State :=
  if n < 64 ∧ s.slotState ll n = 1 ∧ s.slotPointers ll n = 0 ∧ s.slotTiles ll n + s.slotFlight ll n ≠ 0
  then s.setObj 0x300 (slotObj ll n) 1 2 else s

/-- Follow the counts of the slots an entry named. -/
def State.slotsOf (s : State) (e : TileEntry) : State :=
  let s := if e.frHere then s.slotCheck false e.frSlot else s
  if e.llBuiltin then s else s.slotCheck true e.llSlot

/-! ## Charges (03 R112 to R114) -/

/-- Who pays for a tile of a region: an LD, or 16 + the shared region. -/
def State.payer (s : State) (r : Nat) : Nat :=
  match s.region r with
  | some x => if x.shared then 16 + r else x.owner
  | none => 16 + r

/-- The charge of a tile in its home's tier (03 R112, R113). -/
def State.tileCharge (s : State) (e : TileEntry) : Nat :=
  if (s.region e.region).any Region.masked then (if e.home ≤ 1 then 65536 else 65792)
  else if e.home ≤ 1 then e.length * 1024 else e.length * 256

/-- Whether an entry is charged: VALID, MOVING or POISONED with a home. -/
def TileEntry.charged (e : TileEntry) : Bool := decide (1 ≤ e.state ∧ e.state ≤ 3) && e.length != 0

/-- Bytes of stored tiles charged to a payer in a tier; the homes of discarded tiles still count (03 R102), and so do cleaning copies
of the guest segments (07 R246) and records from span members that are not yet durable. -/
def State.homeCharge (s : State) (payer tier : Nat) : Nat :=
  let f (a : Nat) (p : Nat) (e : TileEntry) : Nat :=
    if e.charged && e.home == tier && p == payer then a + s.tileCharge e else a
  let a := s.tileMap.foldl (fun a e => f a (s.payer e.2.region) e.2) 0
  let a := s.versions.foldl (fun a v => f a (16 + v.2.region) v.2.entry) a
  let a := s.oldHomes.foldl (fun a o => if o.entry.home == tier && o.payer == payer then a + o.charge else a) a
  if payer = 16 + guestRegion ∧ tier = 2 then
    let a := s.span.movesIn.foldl (fun a m => match m.placed with
      | some p => a + 256 * p.2.2.length
      | none => a) a
    s.cleanCopies.foldl (fun a c => if (s.tgt c.2.key).region = guestRegion then a + 256 * c.2.length else a) a
  else a

/-- UNWRITTEN tiles of a region. -/
def State.unwrittenTiles (s : State) (r : Nat) (x : Region) : Nat :=
  if r < 16 then 0
  else x.tiles - (s.tileMap.filter (fun e => e.2.region == r && e.2.state != 0)).length

/-- UNWRITTEN tiles of an LD's size-masked regions, 65,792 B each (03 R113). -/
def State.maskedUnwritten (s : State) (ld : Nat) : Nat :=
  s.regions.foldl (fun a r => if r.2.masked && !r.2.shared && r.2.owner == ld then a + s.unwrittenTiles r.1 r.2 else a) 0

/-- The share of the UNWRITTEN tiles of size-masked regions that falls on the far share; the rest falls on the spill area. -/
def State.maskedFar (s : State) (ld : Nat) : Nat :=
  let room := (s.obj 0x200 (0x200 + ld) 1 - s.homeCharge ld 2) / 65792
  Nat.min (s.maskedUnwritten ld) room

/-- UNWRITTEN tiles of the shared size-masked region that pays for its own, all of them against its far reserve (03 R113). -/
def State.sharedUnwritten (s : State) (payer : Nat) : Nat :=
  match tabGet s.regions (payer - 16) with
  | some x => if x.masked && x.shared then s.unwrittenTiles (payer - 16) x else 0
  | none => 0

/-- Bytes charged to a payer in a tier (03 R112, R113). A shared region's T0 homes are charged with its T1 homes
(11 R364). -/
def State.charge (s : State) (payer tier : Nat) : Nat :=
  if payer ≥ 16 then
    if tier = 0 then 0
    else if tier = 1 then s.homeCharge payer 0 + s.homeCharge payer 1
    else if tier = 2 then s.homeCharge payer 2 + 65792 * s.sharedUnwritten payer
    else s.homeCharge payer tier
  else if tier = 2 then s.homeCharge payer 2 + 65792 * s.maskedFar payer
  else if tier = 3 then s.homeCharge payer 3 + 65792 * (s.maskedUnwritten payer - s.maskedFar payer)
  else s.homeCharge payer tier

/-- The payer of tiles held for a span member: its guest reserve (16 R556). -/
def guestPayer : Nat := 16 + guestRegion

/-- A payer's near or far limit: an LD's share, a shared region's reserve, the guest reserve (03 R115, 09 R282, 16 R556). -/
def State.shareOf (s : State) (payer tier : Nat) : Nat :=
  if payer = guestPayer then s.obj 0xC00 0x130 (tier - 1)
  else if payer < 16 then s.obj 0x200 (0x200 + payer) (tier - 1)
  else match tabGet s.shareds (payer - 16) with
    | some x => if tier = 1 then x.nearReserve else x.farReserve
    | none => 0

/-- Bytes by which the flips of moves under way will raise a payer's charge in a tier (03 R112, R114). -/
def State.moving (s : State) (payer tier : Nat) : Nat :=
  s.moves.foldl (fun a m =>
    let e := s.tgt m.2.key
    if m.2.dst.home = tier ∧ m.2.kind ≠ 6 ∧ s.payer m.2.dst.region = payer then
      a + (s.tileCharge m.2.dst - (if e.home = tier then s.tileCharge e else 0))
    else a) 0

/-- Whether a payer's T1 charge has room for more bytes, once the moves under way have flipped (03 R114). -/
def State.nearRoom (s : State) (payer bytes : Nat) : Bool :=
  decide (s.charge payer 1 + s.moving payer 1 + bytes ≤ s.shareOf payer 1)
/-- Whether a payer's T2 charge has room for more bytes, once the moves under way have flipped. -/
def State.farRoom (s : State) (payer bytes : Nat) : Bool :=
  decide (s.charge payer 2 + s.moving payer 2 + bytes ≤ s.shareOf payer 2)

/-! ## Guaranteed tiles and overcommit (03 R116, R117) -/

/-- G of an LD. -/
def State.guaranteed (s : State) (ld : Nat) : Nat :=
  s.obj 0x200 (0x200 + ld) 0 / 65536 + s.obj 0x200 (0x200 + ld) 1 / 65792
/-- L of an LD: 16,384 for each private extent that is OFFERED or GRANTED. -/
def State.logicalTiles (s : State) (ld : Nat) : Nat :=
  16384 * ((s.extentsOf ld).filter (fun e => !e.2.shared && (e.2.state == 1 || e.2.state == 2))).length
/-- S of an LD: bytes of its granted host-tier pages, the unusable ones apart (06 R208). -/
def State.spillGranted (s : State) (ld : Nat) : Nat :=
  2097152 * ((s.ld ld).pages.filter (fun p => !p.2.unusable)).length
/-- S as the condition counts it: pages under withdrawal are absent as well (15 R530). -/
def State.spillCounted (s : State) (ld : Nat) : Nat :=
  2097152 * ((s.ld ld).pages.filter (fun p => !p.2.unusable && !p.2.closing)).length
/-- The spill area the condition needs. -/
def spillNeed (l g : Nat) : Nat := (l - g) * 65792
/-- The overcommit condition (03 R117) for given L, G, ρ and S. -/
def overcommitOk (l g rho s : Nat) : Bool := decide (l ≤ g * rho / 256) && decide (spillNeed l g ≤ s)

/-! ## Homes -/

/-- A freed frame's queued writes are dropped. -/
def State.dropQueued (s : State) (loc n : Nat) : State :=
  let stays (q : WqEntry) : Bool := match q.body with
    | .raw g _ => !decide (16 * loc ≤ g ∧ g < 16 * (loc + n))
    | .coded x => x.loc != loc
  { s with channels := s.channels.map (fun c => (c.1, { c.2 with wq := c.2.wq.filter stays }.drainUpdate)) }

/-- Free the space of a home. -/
def State.freeHome (s : State) (e : TileEntry) : State :=
  if e.length = 0 then s
  else if e.home = 1 then s.dropQueued e.location e.length
  else if e.home = 3 then
    let a := spillKey (e.location / 2 ^ 40) (e.location % 2 ^ 40)
    { s with t3crcs := s.t3crcs.filter (fun c => !decide (a ≤ c.1 ∧ c.1 < a + e.length)) }
  else s

/-- Make a tile UNWRITTEN, its old home left for the mover to free (03 R102). -/
def State.discardTile (s : State) (k : Nat) : State :=
  let e := s.entry k
  if e.state = 0 then s
  else
    let s := s.unpoison k
    let s := if e.charged then
        { s with oldHomes := s.oldHomes ++ [{ mapIndex := k, entry := { e with state := 1 }, payer := s.payer e.region, charge := s.tileCharge e }] }
      else s
    ({ (s.setEntry k {}) with headInst := tabDel s.headInst k }).slotsOf e

/-- Free one discarded home (03 R102). -/
def State.freeOldHome (s : State) (i : Nat) : State :=
  match s.oldHomes[i]? with
  | none => s
  | some o => (({ s with oldHomes := s.oldHomes.eraseIdx i }).freeHome o.entry).slotsOf o.entry

/-- A write to a tile whose old home is not yet freed frees that home first (03 R102). -/
def State.freeOldHomesOf (s : State) (k : Nat) : State :=
  let mine := s.oldHomes.filter (fun o => o.mapIndex == k)
  mine.foldl (fun s o => (s.freeHome o.entry).slotsOf o.entry) { s with oldHomes := s.oldHomes.filter (fun o => o.mapIndex != k) }

/-- The entry a tile of a region takes when it passes to VALID (03 R101, R105). -/
def State.newEntry (s : State) (r : Nat) (x : Region) (inst : Nat) : TileEntry :=
  let t := if x.isFr then s.frTable x.frSlot else none
  let w := match t with
    | some t => frCode t.width
    | none => 0
  let z := (s.keys.find? (fun z => z.2.origin.isNone && z.2.kind == x.keyKind && z.2.binding == x.keyBinding)).map (·.1)
  { home := 1, state := 1, elem := x.elem, frWidth := w, frSlot := if w = 0 then 0 else x.frSlot
    frGen := if w = 0 then 0 else s.slotGen false x.frSlot
    llSlot := if x.llSlot = 0xFF then 0 else x.llSlot, llBuiltin := x.llSlot == 0xFF
    keySlot := z.getD 0, keyGen := x.keyGen, inst := inst, region := r
    recency := s.obj 0x700 0x101 0, frequency := if s.obj 0x700 0x101 0 = 0 then 0 else 1
    length := readyBlocks x.elem w }

/-- Install a new ready-form frame with zero in every line for a stored tile (03 R105): none when no frame is free. -/
def State.newFrame (s : State) (k : Nat) (e : TileEntry) : Option State :=
  (s.freeFrame e.length).map (fun a =>
    let s := { s with fresh := s.fresh + 1 }
    let e := { e with location := a }
    let s := s.setTgt k e
    s.writeFrame k e (s.zeroFrame k e))

/-! ## Spill area (06 R206, R210) -/

/-- Whether a run of sectors lies on granted, usable pages that are not closing. -/
def State.spillOn (s : State) (ld a n : Nat) : Bool :=
  (List.range ((a + n - 1) / 8192 - a / 8192 + 1)).all (fun i =>
    (tabGet (s.ld ld).pages (a / 8192 + i)).any (fun p => !p.unusable && !p.closing))

/-- A free run of sectors in an LD's spill area (06 R210); which one the spec leaves open (log entry 10). -/
def State.freeSpill (s : State) (ld n : Nat) : Option Nat :=
  let used := (s.homesIn 3).filterMap (fun h => if h.1 / 2 ^ 40 = ld then some (h.1 % 2 ^ 40, h.2) else none)
  let ok (a : Nat) : Bool := s.spillOn ld a n && used.all (fun u => decide (u.1 + u.2 ≤ a ∨ a + n ≤ u.1))
  let want := Config.placement s.fresh
  if ok want then some want
  else leastOf ((s.ld ld).pages.map (fun p => p.1 * 8192) ++ used.map (fun u => u.1 + u.2)) ok

/-- Free sectors of an LD's spill area, on granted and usable pages. -/
def State.spillFree (s : State) (ld : Nat) : Nat :=
  8192 * ((s.ld ld).pages.filter (fun p => !p.2.unusable && !p.2.closing)).length
    - (s.homesIn 3).foldl (fun a h => if h.1 / 2 ^ 40 = ld then a + h.2 else a) 0

/-- Whether an LD's T3 tiles can be reached (06 R209). -/
def State.spillReachable (s : State) (ld : Nat) : Bool :=
  (s.ld ld).busMaster && !(s.ld ld).d3hot && !s.allLegsDown

end Sys2Proof.Machine
end

