-- ==== Sys2Proof/Machine/Dma.lean ====
section
/-!
DEFINITION. DMA to host memory (06 R206 to R208, 15 R526, R531): addresses of spill sectors, translation, reads and writes.
-/
namespace Sys2Proof.Machine

/-- The leg an LD's request leaves by: its preferred one while it is up (15 R506). -/
def State.dmaLeg (s : State) (n : Nat) : Nat :=
  let p := s.obj (0x110 + n) 0x101 0 % 2
  if (s.leg p).up then p else 1 - p

/-- Translate a host virtual address of an LD (06 R207, 15 R526): the cache of 256 entries, least recently used last;
none is a refusal. -/
def State.translate (s : State) (n va : Nat) : Option Nat × State :=
  let l := s.ld n
  if !l.atsEnable then (none, s)
  else match tabGet l.atc (va / 4096) with
    | some t =>
      (some (t * 4096 + va % 4096), s.setLd n { l with atc := (va / 4096, t) :: l.atc.filter (fun e => e.1 != va / 4096) })
    | none =>
      let r := Config.translation s.fresh n (va / 4096)
      let s := ({ s with fresh := s.fresh + 1 }).emit (.atsRequest n (va / 4096 * 4096))
      let s := s.bump (0x110 + n) 0x1D 1
      match r with
      | some t => (some (t * 4096 + va % 4096), s.setLd n { l with atc := ((va / 4096, t) :: l.atc).take 256 })
      | none => (none, s)

/-- The runs of a run of spill sectors that lie on one page each: page, byte offset in it, bytes (06 R206). -/
def spillRuns (a n : Nat) : List (Nat × Nat × Nat) :=
  let first := Nat.min n (8192 - a % 8192)
  if n = 0 then [] else (a / 8192, a % 8192 * 256, 256 * first) ::
    (if n > first then [((a + first) / 8192, 0, 256 * (n - first))] else [])

/-- Host addresses of `k` bytes at a virtual address, one page of the Smallest Translation Unit at a time (06 R207, 15 R526); none when a
translation is refused. -/
def State.translateRun (s : State) (n : Nat) : Nat → Nat → Nat → Option (List (Nat × Nat)) × State
  | 0, _, _ => (some [], s)
  | f + 1, va, k =>
    if k = 0 then (some [], s)
    else
      let here := Nat.min k (4096 - va % 4096)
      match s.translate n va with
      | (none, s) => (none, s)
      | (some h, s) => match s.translateRun n f (va + here) (k - here) with
        | (some ps, s) => (some ((h, here) :: ps), s)
        | (none, s) => (none, s)

/-- Host addresses of a run of spill sectors; none with the page whose translation is refused. -/
def State.spillHost (s : State) (n a k : Nat) : (List (Nat × Nat) × Option Nat) × State :=
  (spillRuns a k).foldl (fun r p =>
    match r.1.2 with
    | some _ => r
    | none => match tabGet (r.2.ld n).pages p.1 with
      | none => ((r.1.1, some p.1), r.2)
      | some x =>
        if x.translate then
          match r.2.translateRun n (p.2.2 / 4096 + 2) (x.addr + p.2.1) p.2.2 with
          | (some hs, s) => ((r.1.1 ++ hs, none), s)
          | (none, s) => ((r.1.1, some p.1), s)
        else ((r.1.1 ++ [(x.addr + p.2.1, p.2.2)], none), r.2)) (([], none), s)

/-- The 4 KiB pages of `k` bytes at a virtual address. -/
def pagesOf (va k : Nat) : List Nat := (List.range ((va % 4096 + k + 4095) / 4096)).map (va / 4096 + ·)

/-- Send the DMA read of some pieces of host memory, one request of the LD; its pieces complete together. `vas` are the
pages whose translations it uses, and `retry` the page for which it is a retry (06 R208). -/
def State.dmaSend (s : State) (n : Nat) (f : DmaFor) (ps : List (Nat × Nat)) (vas : List Nat) (retry : Option Nat) : State :=
  let id := s.nextDma
  let g := (s.ld n).tagGen
  let s := ps.foldl (fun s p => (s.emit (.dmaRead n id p.1 p.2 g)).bump (0x110 + n) 0x18 1) s
  { s with
    dmas := s.dmas ++ [{ id := id, ld := n, gen := g, for_ := f, addr := (ps.map (·.1)).headD 0
                         len := ps.foldl (fun a p => a + p.2) 0, leg := s.dmaLeg n, vas := vas, retry := retry }]
    nextDma := id + 1 }

/-- Send a DMA write of the LD. -/
def State.dmaPut (s : State) (n a : Nat) (data : Bytes) : State := (s.emit (.dmaWrite n a data)).bump (0x110 + n) 0x19 1

/-- The virtual pages under which a run of spill sectors is reached (06 R206). -/
def State.spillVas (s : State) (n a k : Nat) : List Nat :=
  (spillRuns a k).flatMap (fun p => match tabGet (s.ld n).pages p.1 with
    | some x => if x.translate then pagesOf (x.addr + p.2.1) p.2.2 else []
    | none => [])

/-- Set a page unusable: translation refused for write, or a failed write; the fault is counted by the abort of the move that meets it
(06 R197, R208), and the error is logged (18 R585). -/
def State.pageUnusable (s : State) (n p : Nat) : State :=
  let l := s.ld n
  match tabGet l.pages p with
  | some x =>
    ((s.setLd n { l with pages := tabSet l.pages p { x with unusable := true } }).logRecovered none 0
      { unit := 0x700, requester := 0x51, location := 2 ^ 40 * n + 8192 * p, home := 3 }).raise 0x700 0x0121 (n + 16 * p)
  | none => s

/-- Read a run of spill sectors for something that waits; a refused translation leaves it to wait for the retry of
T3_READ_RETRY (06 R208). -/
def State.spillRead (s : State) (n a k : Nat) (f : DmaFor) (retry : Option Nat) : State :=
  match s.spillHost n a k with
  | ((ps, none), s) => s.dmaSend n f ps (s.spillVas n a k) retry
  | ((_, some _), s) => s

/-- Write a record to a run of spill sectors: false when a translation is refused, and the page is then unusable. Every
sector's CRC-32C is kept on the module (log entry 13). -/
def State.spillWrite (s : State) (n a : Nat) (data : Bytes) : Bool × State :=
  match s.spillHost n a (data.length / 256) with
  | ((ps, none), s) =>
    let s := (ps.foldl (fun r p => (r.1 + p.2, r.2.dmaPut n p.1 (slice data r.1 p.2))) (0, s)).2
    (true, { s with t3crcs := ((pieces 256 data).zipIdx).foldl (fun t d =>
      tabSet t (spillKey n (a + d.2)) (crc32c d.1)) s.t3crcs })
  | ((_, some p), s) => (false, s.pageUnusable n p)

/-- A DMA no longer serves anything: its data is dropped when it comes. -/
def State.dmaOrphan (s : State) (f : DmaFor) : State :=
  { s with dmas := s.dmas.map (fun d => if d.for_ = f then { d with for_ := .move 0 } else d) }

end Sys2Proof.Machine
end

