-- ==== Sys2Proof/Machine/Waits.lean ====
section
/-!
DEFINITION. Reads under way (06 R188, 14 R461): reading a line at its home, collecting parts, answering, and the loads that wait for a
move into T0 (05 R184).
-/
namespace Sys2Proof.Machine

/-! ## Reading a line at once -/

/-- A read that found poison: the answer is counted for a poisoned line (18 R588). -/
def State.readPoison (s : State) (k j : Nat) : Option Bytes × State :=
  (none, if (s.poisonSet k).testBit j then s.poisonAnswer k else s)

/-- Whether a stored tile can be read line by line without host memory or a span member. -/
def TileEntry.local (e : TileEntry) : Bool := e.state == 0 || (e.state != 4 && e.home != 3)

/-- Line `j` of a stored tile, in plaintext; none is poison (06 R188, 18 R588, 10 R331). `t3` is the record's bytes when
the tile lies in T3. -/
def State.readLineAs (s : State) (coded : Bool) (k j requester : Nat) (t3 : Option Bytes) : Option Bytes × State :=
  let e := s.tgt k
  if e.state = 0 then (some (zeros 64), s)
  else if s.staleKey e then (none, (s.bump 0x400 0x18 1).poisonAnswer k)
  else if (s.poisonSet k).testBit j then (none, s.poisonAnswer k)
  else
    let (d, s) := if e.home ≤ 1 then s.readReadyLineAs coded k e j requester
      else if e.home = 2 then s.readRecordLineAs coded k e j requester (farFetch e.location e.length [])
      else match t3 with
        | some b => s.readRecordLineAs coded k e j requester (hostFetch (e.location / 2 ^ 40) (e.location % 2 ^ 40) 0 b)
        | none => (none, s)
    match d with
    | some d => (some d, s)
    | none => s.readPoison k j

/-- A line of a stored tile in plaintext. -/
def State.readLine (s : State) (k j requester : Nat) (t3 : Option Bytes) : Option Bytes × State :=
  s.readLineAs false k j requester t3

/-- Who accesses: an LD's host, or a job of the LD. -/
structure View where
  ld : Nat
  job : Option Nat := none
deriving DecidableEq, Repr

/-! ## Bank queues (14 R461) -/

/-- Reads queued on a bank of a channel. -/
def State.bankReads (s : State) (x : Chan) (bank : Nat) : Nat :=
  (x.reads.filter (fun r => burstBank (s.granBurst r.gran) == bank)).length

/-! ## Answers -/

/-- Who asks for a line: an LD with its tag, or a job of the LD with its load; and its near-tier requester. -/
structure Asker where
  view : View
  leg : Nat := 0
  tag : Nat := 0
  load : Option Nat := none
  req : Nat
  /-- A tile fetch of a coded line (12 R424). -/
  coded : Bool := false
deriving DecidableEq, Repr

/-- A line reaches who asked: the data response of a CXL.mem read on the leg that carried it, none when that leg has been lost (15
R506, R507), the thread's load or the dump; no data is poison. -/
def State.deliver (s : State) (ld leg tag : Nat) (load : Option Nat) (d : Option Bytes) : State :=
  match load with
  | none => if leg < 2 then s.emit (.memData ld leg tag d) else s
  | some id => { s with
      loads := s.loads.map (fun l => if l.id = id then { l with arrived := true, data := d } else l)
      telem := { s.telem with dumpLines := s.telem.dumpLines.map (fun l =>
        if l.id = id then { l with arrived := true, data := d } else l) } }

/-- A read is answered and leaves. -/
def State.answerRead (s : State) (a : Access) (d : Option Bytes) : State :=
  { s with accesses := s.accesses.filter (·.id != a.id) }.deliver a.ld a.leg a.tag a.load d

/-- Answer a read with poison for a line that its tile's set holds (18 R588). -/
def State.answerPoison (s : State) (a : Access) : State :=
  let r := s.readPoison a.key a.line
  r.2.answerRead a none

/-- Whether an entry is of a REMOTE tile of an FR region that has not been written, so that it has no form yet (03 R105, 16 R555). -/
def TileEntry.formless (e : TileEntry) : Bool := e.state == 4 && e.isFr && e.length == 0

/-- The plaintext line from the delivered frame lines of a read, deciphered and decoded as its entry says (06 R188). -/
def State.finishParts (s : State) (a : Access) : State :=
  let e := a.entry
  let bad := a.parts.filterMap (fun p => if p.2.isNone then some p.1 else none)
  if !bad.isEmpty then
    (if e.state = 4 then s.answerRead a none else (s.poisonFrames a.key e bad a.req).answerPoison a)
  else if e.formless then s.answerRead a (some (zeros 64))
  else
    let (ls, s) := a.parts.foldl (fun r p =>
      let z := r.2.decipher e (s.tileNumber a.key) p.1 0 (p.2.getD [])
      (tabSet r.1 p.1 z.1, z.2)) (([] : List (Nat × Bytes)), s)
    if e.frHere then
      match s.giveLine a.coded (s.frEngine (s.frDie a.key e a.line) 0) a.key e.elem e.frSlot e.frGen e.b (codedFrom e a.line ls) with
      | (some d, s) => s.answerRead a (some d)
      | (none, s) => s.answerRead a none
    else s.answerRead a (some ((tabGet ls a.line).getD []))

/-- A frame line of a read arrives; the read is answered when it has them all. -/
def State.partDone (s : State) (id f : Nat) (d : Option Bytes) : State :=
  match s.accesses.find? (·.id == id) with
  | none => s
  | some a =>
    let a := { a with parts := a.parts ++ [(f, d)] }
    let s := { s with accesses := s.accesses.map (fun b => if b.id = id then a else b) }
    if a.needs.all (fun n => a.parts.any (·.1 == n)) then s.finishParts a else s

/-! ## Entering the bank queues (14 R461, R465) -/

/-- A read of a granule that has a queued entry is served from the queue; a granule of an FR line as it was when its line's read began
(04 R138). -/
def State.forward (s : State) (r : RdReq) (w : Bytes) : State :=
  let s := s.bump (0x510 + s.granChan r.gran) 0x18 1
  if r.patrol then s
  else match s.accesses.find? (·.id == r.access) with
    | some a =>
      let f := r.gran - 16 * a.entry.location
      s.partDone a.id f (some (((tabGet a.snap f).getD w).take 64))
    | none => s

/-- A read enters its bank queue: it is forwarded, or waits there. -/
def State.enterBank (s : State) (r : RdReq) : State :=
  let ch := s.granChan r.gran
  match (s.chan ch).queuedRaw r.gran with
  | some w => s.forward r w
  | none =>
    let s := s.metRefresh ch
    s.setChan ch { s.chan ch with reads := (s.chan ch).reads ++ [{ r with since := s.now }], lastUse := s.now }

/-- A read request enters its bank queue of 8, or waits in the crossbar, where it has no effect. -/
def State.enqueueRead (s : State) (r : RdReq) : State :=
  let ch := s.granChan r.gran
  let x := s.chan ch
  if s.bankReads x (burstBank (s.granBurst r.gran)) < 8 then s.enterBank r
  else s.setChan ch { x with xbar := x.xbar ++ [r], lastUse := s.now }

/-- Requests that wait in the crossbar enter bank queues that have room, oldest first. -/
def State.fillBanks (s : State) (ch : Nat) : State :=
  let x := s.chan ch
  x.xbar.foldl (fun s r =>
    let x := s.chan ch
    if s.bankReads x (burstBank (s.granBurst r.gran)) < 8 then s.enterBank r
    else s.setChan ch { x with xbar := x.xbar ++ [r] }) (s.setChan ch { x with xbar := [] })

/-! ## Starting -/

/-- Begin a read that waits: its record, then its requests. `snap` is what the granules of an FR line stand for (04 R138). -/
def State.beginRead (s : State) (o : Asker) (dpa k : Nat) (e : TileEntry) (wait : AccWait) (snap : List (Nat × Bytes)) : Access × State :=
  let j := dpa / 64 % 1024
  let a : Access := { id := s.nextAccess, ld := o.view.ld, dpa := dpa, tag := o.tag, wait := wait, key := k, line := j
                      entry := e, parts := [], needs := e.needs j, req := o.req, load := o.load, coded := o.coded, snap := snap, leg := o.leg
                      since := s.now }
  (a, { s with accesses := s.accesses ++ [a], nextAccess := s.nextAccess + 1 })

/-- What the granules of an FR line stand for as its read begins: the write queue's, else the stored ones (04 R138, 14 R465). -/
def State.snapOf (s : State) (e : TileEntry) (j : Nat) : List (Nat × Bytes) :=
  if !e.frHere then []
  else (e.needs j).filterMap (fun f =>
    let g := 16 * e.location + f
    (((s.chan (s.granChan g)).queuedRaw g).orElse (fun _ => s.currentGranule g)).map (fun w => (f, w)))

/-- The granules of a read in T1: a granule with a queued entry is forwarded, the others go to their bank queues
(14 R461, R465). -/
def State.readNear (s : State) (o : Asker) (dpa k : Nat) (e : TileEntry) : State :=
  let (a, s) := s.beginRead o dpa k e .near (s.snapOf e (dpa / 64 % 1024))
  a.needs.foldl (fun s f => s.enqueueRead { access := a.id, gran := 16 * e.location + f, requester := o.req, since := s.now }) s

/-- What a read that completes gives a waiting access: the granule as it is now, or as it was when the read of its FR line began, so that
a line is never of parts of two writes (04 R138). -/
def State.asBegun (s : State) (a : Access) (g : Nat) (err1 err2 : List ByteErr) (d : GranRead) : GranRead :=
  match tabGet a.snap (g - 16 * a.entry.location) with
  | none => d
  | some w =>
    let c := s.obj 0x500 0x101 0
    if ((s.chan (s.granChan g)).queuedRaw g).isSome then some (w.take 64)
    else if s.currentGranule g = some w then d
    else match rsDecode c (applyErrs w err1), rsDecode c (applyErrs w err2) with
      | .data w _, _ => some (w.take 64)
      | _, .data w _ => some (w.take 64)
      | _, _ => none

/-- The LD a stored tile's moves count under: its region's owner. -/
def State.moveLd (s : State) (e : TileEntry) : Nat := ((s.region e.region).map (·.owner)).getD 0

/-- Read a line of a stored tile that is not REMOTE from its home (06 R188, R209, 10 R331, 18 R588). -/
def State.readHome (s : State) (o : Asker) (dpa k : Nat) : State :=
  let out (s : State) (d : Option Bytes) : State := s.deliver o.view.ld o.leg o.tag o.load d
  let j := dpa / 64 % 1024
  let e := s.tgt k
  if e.state = 0 then out s (some (zeros 64))
  else if s.staleKey e ∨ (s.poisonSet k).testBit j ∨ e.home = 0 ∨ (s.queuedCoded e j).isSome then
    let r := s.readLineAs o.coded k j o.req none
    out r.2 r.1
  else if e.home = 1 then s.readNear o dpa k e
  else if e.home = 2 then (s.beginRead o dpa k e .far []).2
  else if !s.spillReachable (s.moveLd e) then out (s.bump 0x700 0x22 1) none
  else
    let (a, s) := s.beginRead o dpa k e .dma []
    s.spillRead (e.location / 2 ^ 40) (e.location % 2 ^ 40) e.length (.access a.id) none

/-! ## Loads and moves into T0 (05 R184) -/

/-- The move into T0 a stored tile is in, if any. -/
def State.movesToCaddy (s : State) (k : Nat) : Option Move :=
  if (s.tgt k).state = 2 then (s.move (s.tgt k).moveTag).filter (fun m => m.dst.home == 0) else none

/-- Whether who asks is a thread's load. -/
def State.isLoad (s : State) (o : Asker) : Bool := o.load.any (fun id => s.loads.any (·.id == id))

/-- A load of a tile that moves into T0: it waits for the valid bit of its destination line, or finds it set (05 R184). A poisoned line is
answered as such (18 R588). -/
def State.loadMoving (s : State) (o : Asker) (dpa k : Nat) (m : Move) : State :=
  let j := dpa / 64 % 1024
  let e := s.tgt k
  if s.staleKey e ∨ (s.poisonSet k).testBit j then s.readHome o dpa k
  else if m.ready ∧ s.caddyLost m.dst = false then
    let r := s.readReadyLineAs o.coded k m.dst j o.req
    r.2.deliver o.view.ld o.leg o.tag o.load r.1
  else (s.beginRead o dpa k e .valid []).2

/-- The reads that wait for the valid bits of a tile's destination. -/
def State.awaiting (s : State) (k : Nat) : List Access := s.accesses.filter (fun a => decide (a.wait = .valid) && a.key == k)

/-- A load's wait for a valid bit is over (11 R391, 01A). -/
def State.validWaited (s : State) (a : Access) : State :=
  match a.load.bind (fun id => s.loads.find? (·.id == id)) with
  | some l => s.bump (0xA40 + l.thread.cluster.val) 0x1A (s.now - l.since)
  | none => s

/-- The valid bits of a move's destination are set: the loads that waited are answered from it (05 R184). -/
def State.validSet (s : State) (m : Move) : State :=
  (s.awaiting m.key).foldl (fun s a =>
    let s := s.validWaited a
    if (s.poisonSet m.key).testBit a.line then s.answerPoison a
    else
      let r := s.readReadyLineAs a.coded m.key m.dst a.line a.req
      r.2.answerRead a r.1) s

/-- A move into T0 aborted: the loads that waited are issued again to the tile's home (05 R184). -/
def State.reissueLoads (s : State) (k : Nat) : State :=
  (s.awaiting k).foldl (fun s a =>
    { s.validWaited a with accesses := s.accesses.filter (·.id != a.id) }.readHome
      { view := { ld := a.ld }, leg := a.leg, tag := a.tag, load := a.load, req := a.req, coded := a.coded } a.dpa k) s

end Sys2Proof.Machine
end

