-- ==== Sys2Proof/Machine/Moves.lean ====
section
/-!
DEFINITION. Tile moves (06 R189 to R199): records and tags, starting, copying, aborting and flipping.
-/
namespace Sys2Proof.Machine

/-! ## Records (06 R190, R219) -/

/-- The party whose share a move is of (06 R221, 10 R336): an LD, or 16 for the module's own work. -/
def partyOf (x : Region) (by_ : MoveBy) : Nat :=
  if x.shared ∨ x.owner ≥ 16 ∨ by_ = .evacuation ∨ by_ = .remote then 16 else x.owner

/-- A party's share of the mover's time and records, of 256 (06 R221). -/
def State.partyShare (s : State) (p : Nat) : Nat := if p ≥ 16 then s.obj 0x700 0x150 1 else s.obj 0x700 (0x140 + p) 0

/-- The party of a move under way. -/
def State.moveParty (s : State) (m : Move) : Nat := match s.region m.dst.region with
  | some x => partyOf x m.by_
  | none => 16

/-- A free move record for a party: 512 of the 8,191 are kept for classes 1 and 2 (06 R219), and in partitioned mode a party has its
share of them (10 R336). -/
def State.recordFor (s : State) (cls party : Nat) : Option Nat :=
  if cls ≥ 3 ∧ (s.moves.filter (fun m => decide (m.2.cls ≥ 3))).length ≥ 7679 then none
  else if s.partitioned = true ∧ (s.moves.filter (fun m => s.moveParty m.2 == party)).length ≥ 8191 * s.partyShare party / 256 then none
  else firstFree 8191 1
where
  firstFree : Nat → Nat → Option Nat
    | 0, _ => none
    | n + 1, r => if (tabGet s.moves r).isNone then some r else firstFree n (r + 1)

/-- The kinds of move and their tiers (06 R189); steeping takes T1 to T0, and T2 or T3 to T1 or T0. -/
def moveLegal (kind src dst : Nat) : Bool :=
  if kind = 1 then decide ((src = 2 ∨ src = 3) ∧ dst = 1)
  else if kind = 2 then decide ((1 ≤ src ∧ src ≤ 3 ∧ dst = 0) ∨ ((src = 2 ∨ src = 3) ∧ dst = 1))
  else if kind = 3 then decide ((src = 0 ∧ dst = 1) ∨ (src = 1 ∧ (dst = 2 ∨ dst = 3)))
  else if kind = 4 then decide ((src = 1 ∧ dst = 1) ∨ (src = 2 ∧ dst = 3) ∨ (src = 3 ∧ (dst = 2 ∨ dst = 3)))
  else if kind = 5 then decide (src = dst)
  else false

/-- Ready-form blocks of an entry. -/
def TileEntry.readyLength (e : TileEntry) : Nat := readyBlocks e.elem e.frWidth

/-- The current slots of a tile's region on an entry that leaves T2 or T3: promoted tiles drop their LL slot (05 R179). -/
def State.promoted (s : State) (e : TileEntry) : TileEntry :=
  let l := ((s.region e.region).map (·.llSlot)).getD 0xFF
  { e with llPresent := false, llSlot := if l = 0xFF then 0 else l, llBuiltin := l == 0xFF }

/-- An entry under its region's current tables: the target of a recode (04 R152, 05 R179). -/
def State.recoded (s : State) (ll : Bool) (e : TileEntry) : TileEntry :=
  match s.region e.region with
  | none => e
  | some x =>
    if ll then { e with llSlot := if x.llSlot = 0xFF then 0 else x.llSlot, llBuiltin := x.llSlot == 0xFF }
    else { e with frSlot := x.frSlot, frGen := s.slotGen false x.frSlot }

/-! ## Reading and writing whole stored forms -/

/-- The coded lines of a deciphered FR frame. -/
def frameLinesOf (e : TileEntry) (frame : Bytes) : List FrLine :=
  (List.range 1024).map (fun j => codedFrom e j ((e.needs j).map (fun f => (f, slice frame (64 * f) 64))))

/-- A stored form with the poisoned lines written as the stored form of zero (18 R591). -/
def State.zeroPoisoned (s : State) (k : Nat) (e : TileEntry) (data : Bytes) : Bytes :=
  let set := s.poisonSet k
  if set = 0 then data
  else if e.frHere then
    match s.frTableAt e.frSlot e.frGen with
    | some t => frameOf e.elem e.b e.frSlot e.frGen (s.tileNumber k)
        ((frameLinesOf e data).zipIdx.map (fun l => if set.testBit l.2 then zeroFrLine t e.elem else l.1))
    | none => data
  else ((pieces 64 data).zipIdx).flatMap (fun l => if set.testBit l.2 then zeros 64 else l.1)

/-- Whether frame lines take only poisoned lines with them. -/
def State.alreadyLost (s : State) (k : Nat) (e : TileEntry) (bad : List Nat) : Bool :=
  bad.all (fun f => e.linesLost f ||| s.poisonSet k == s.poisonSet k)

/-- Whether the trailer of an FR frame agrees with the tile map entry (04 R123); one that is lost is not looked at. -/
def State.trailerOk (s : State) (k : Nat) (e : TileEntry) (frame : Bytes) : Bool :=
  !e.isFr || s.poisonSet k == 2 ^ 1024 - 1 || (e.region == guestRegion && s.poisonSet k != 0)
    || slice frame (1024 * codedSize e.elem e.b + 1152) 16 == frTrailer e.elem e.frWidth e.frSlot e.frGen (s.tileNumber k)

/-- A frame whose trailer does not agree takes every line with it, as an unreadable trailer does (18 R587; log entry 46). -/
def State.trailerBad (s : State) (k : Nat) (e : TileEntry) (requester : Nat) : State :=
  s.poison k (2 ^ 1024 - 1) (s.foundAt e (16 * codedSize e.elem e.b + 18) requester)

/-- A tile's stored form in plaintext from its home, for work of a class; none when the read found a new error, which poisons the tile
at its home (06 R197 code 0x08, 18 R591). -/
def State.readWhole (s : State) (cls k : Nat) (e : TileEntry) (requester : Nat) (fetch : Fetcher) : Option Bytes × State :=
  let checked (d : Bytes) (s : State) : Option Bytes × State :=
    if s.trailerOk k e d then (some d, s) else (none, s.trailerBad k e requester)
  if e.home ≤ 1 then
    let (d, bad, s) := s.readFrame k e requester
    if s.alreadyLost k e bad then checked d s else (none, s.poisonFrames k e bad requester)
  else
    let (d, lost, rewrite, s) := s.readRecord cls k e fetch
    let new := lost.filter (fun l => l.1 ||| s.poisonSet k != s.poisonSet k)
    if new.isEmpty then checked d (if rewrite then s.startClean k else s)
    else (none, new.foldl (fun s l => s.poison k l.1 (foundRecord e l.2 requester)) s)

/-- The tile of its region that a stored tile is: a version's own number, or the place of its map index. -/
def State.tileOfKey (s : State) (x : Region) (k : Nat) : Nat :=
  if k ≥ 2 ^ 28 then ((tabGet s.versions (k - 2 ^ 28)).map (·.tile)).getD 0 else s.tileIn x k

/-- Where the residual of an FR line goes: the DPA of the residual bytes, in the residual region of the same owner
(04 R139); the versions of a shared tile have one place. -/
def State.residualPlace (s : State) (k : Nat) (e : TileEntry) (j : Nat) : Option Nat :=
  match s.region e.region with
  | none => none
  | some x =>
    if !x.residuals ∨ !x.isFr then none
    else (s.region x.residual).map (fun y =>
      y.base + (if e.elem = 3 then 32 else 64) * (1024 * s.tileOfKey x k + j))

/-- Recode the lines of a frame from the tile's table to its region's new one (04 R152): each line's old values and its new coding;
none when a slot does not hold the generation named (04 R149). Every decode and encode counts (04 R133, R158). -/
def State.recodeLines (s : State) (k : Nat) (e e' : TileEntry) (frame : Bytes) : Option (List (Bytes × FrLine)) × State :=
  let u (s : State) (j : Nat) : Nat := s.frEngine (s.frDie k e j) j
  match s.frTableAt e.frSlot e.frGen, s.frTableAt e'.frSlot e'.frGen with
  | some t, some t' =>
    let (ls, s) := (frameLinesOf e frame).zipIdx.foldl (fun a l =>
      let d := frDecode t e.elem l.1.idx l.1.scale
      let n := frEncode t' e.elem d
      (a.1 ++ [(d, n)], (a.2.bump (u a.2 l.2) 0x17 1).noteEncoded (u a.2 l.2) n)) (([] : List (Bytes × FrLine)), s)
    (some ls, s)
  | none, _ => (none, s.slotMismatch (u s 0) k e.frSlot)
  | _, none => (none, s.slotMismatch (u s 0) k e'.frSlot)

/-- The residuals a recode rewrites: of every line outside the poisoned set, the address of its residual and its old and new decoded
values (04 R153). -/
def State.recodedResiduals (s : State) (k : Nat) (e e' : TileEntry) (ls : List (Bytes × FrLine)) : List (Nat × Nat × Bytes × Bytes) :=
  match s.frTableAt e'.frSlot e'.frGen with
  | none => []
  | some t => ls.zipIdx.filterMap (fun l =>
      if (s.poisonSet k).testBit l.2 then none
      else (s.residualPlace k e l.2).map (fun p => (p, e.elem, l.1.1, frDecode t e.elem l.1.2.idx l.1.2.scale)))

/-- The ciphertext of a home in T0 or T1, line by line, for a move that keeps the form (01 R27): lines that are
unreadable and already poisoned go as stored. -/
def State.readKept (s : State) (e : TileEntry) (requester : Nat) : List Bytes × List Nat × State :=
  let s := if e.home = 1 then s.mergeFrame e.location else s
  (List.range e.frameLines).foldl (fun a f =>
    match a.2.2.loadReady e f requester with
    | (some d, s) => (a.1 ++ [d], a.2.1, s)
    | (none, s) =>
      let (ch, bs) := s.granPlace (16 * e.location + f)
      let raw := if e.home = 0 then memRead s.caddy (e.caddyAt f) 64 else (s.deviceGranule ch bs).take 64
      (a.1 ++ [raw], a.2.1 ++ [f], s)) ([], [], s)

/-! ## Starting (06 R191 ALLOC) -/

/-- Far-store sectors reserved for moves of a stream whose record is not yet placed (06 R191 ALLOC). -/
def State.farReserved (s : State) (stream : Nat) : Nat :=
  s.moves.foldl (fun a m => if m.2.dst.home = 2 ∧ m.2.kind ≠ 6 ∧ m.2.state ≤ 2 ∧ s.streamOf m.2.dst = stream then a + m.2.dst.length else a) 0

/-- Free segments a stream needs for what is reserved in it and `n` sectors more: 32,125 sectors is what the smallest segment holds of
the longest records (06 R191; log entry 46). -/
def State.segsNeeded (s : State) (stream n : Nat) : Nat :=
  let all := s.farReserved stream + n
  let rest := ((s.openSegment stream).map (fun g => paySectors g.2.mask - g.2.filled)).getD 0
  if all ≤ rest then 0 else ceilDiv all 32125

/-- Whether the far store can reserve `n` sectors of a stream. -/
def State.farReserve (s : State) (stream n : Nat) : Bool :=
  decide ((List.range 18).foldl (fun a t => a + s.segsNeeded t (if t = stream then n else 0)) 0 ≤ s.freeSegs)

/-- Destination space for a move: the new entry, its location reserved; none when there is none (06 R191, R193). -/
def State.reserveFor (s : State) (e : TileEntry) (kind tier : Nat) : Option TileEntry :=
  let ld := s.moveLd e
  let pay := s.payer e.region
  let base := { e with moveTag := 0, home := tier }
  let n := e.readyLength
  if tier = 0 then
    (s.freeCaddy ld n).map (fun a => { (if e.home ≥ 2 then s.promoted base else base) with location := a, length := n })
  else if tier = 1 then
    let d := { (if e.home ≥ 2 then s.promoted base else base) with length := n }
    let d := if kind = 5 then s.recoded false d else d
    if e.home = 1 ∨ (e.home = 0 ∧ pay ≥ 16) ∨ s.nearRoom pay (s.tileCharge d) then
      (s.freeFrame n).map (fun a => { d with location := a })
    else none
  else if tier = 2 then
    let m := if kind = 4 then e.length else 257
    let d := { base with location := 0, length := m }
    if (kind = 5 ∨ s.farRoom pay (s.tileCharge d)) ∧ s.farReserve (s.streamOf e) m = true then some d else none
  else
    let m := if kind = 4 then e.length else 257
    (s.freeSpill ld m).map (fun a => { base with location := a + 2 ^ 40 * ld, length := m })

/-- Whether a move waits for a free segment: a demotion or relocation into T2 at the floor (07 R245). -/
def State.waitsFloor (s : State) (kind tier : Nat) : Bool := decide (tier = 2 ∧ (kind = 3 ∨ kind = 4)) && s.farFloor

/-- The unit a move's requester is: the cadences for a schedule entry, the core of a job's request, and the mover for its own work. -/
def State.askerUnit (s : State) (by_ : MoveBy) : Nat := match by_ with
  | .schedule _ => 0x800
  | .job j c => ((s.mvReqs.find? (fun q => q.job == j && q.id == c)).map (fun q => coreUnit q.thread)).getD 0x700
  | _ => 0x700

/-- The cause of a move's wait (19 R615): its schedule entry or its job. -/
def MoveBy.cause (b : MoveBy) : Nat := match b with
  | .schedule n => n + 2 ^ 15
  | .job j _ => j
  | _ => 0xFFFF

/-- The waits of a stored tile's move end: one for a record is traced, with that record as its object (19 R615 kind 0x0A). It names the mover
as waited on only when no other party's moves held records (19 R616). -/
def State.endMoveWaits (s : State) (k r : Nat) (party : MoveBy → Nat) : State :=
  let mine := s.moveWaits.filter (fun w => w.key == k && !w.segment)
  let t := mine.foldl (fun t w =>
    let p := party w.by_
    t.traceWait 0x700 { kind := 0x0A, party := p, waiter := s.askerUnit w.by_, pos := w.pos, flags := 0, cause := w.by_.cause, object := r
                        on_ := if s.moves.all (fun m => s.moveParty m.2 == p) then 0x700 else 0xFFFF
                        start := w.since, len := s.now - w.since }) s
  { t with moveWaits := t.moveWaits.filter (·.key != k) }

/-- Start a move: the record is taken, the destination reserved and the tile MOVING with its move tag (06 R190, R191).
None when it does not start. -/
def State.startMove (s : State) (k kind tier cls : Nat) (by_ : MoveBy) : Option (Nat × State) :=
  let e := s.tgt k
  match s.region e.region with
  | none => none
  | some x =>
    let ok := (e.state = 1 ∨ e.state = 3) ∧ e.length ≠ 0 ∧ moveLegal kind e.home tier = true
      ∧ (x.tierMask.testBit tier = true ∨ kind = 5) ∧ ¬(tier = 3 ∧ x.shared = true)
      ∧ ((e.home = 3 ∨ tier = 3) → s.spillReachable x.owner = true) ∧ ¬s.waitsFloor kind tier
    if ok then
      match s.recordFor cls (partyOf x by_), s.reserveFor e kind tier with
      | some r, some d =>
        let uses := ((tabGet s.moveUses r).getD 0 + 1) % 8
        let tag := r + 8192 * uses
        let m : Move := { tag := tag, kind := kind, state := 1, cls := cls, key := k, tile := s.tileNumber k
                          ld := s.moveLd e, srcTier := e.home, dstTier := tier, dst := d, by_ := by_, start := s.now }
        let s := s.endMoveWaits k r (partyOf x)
        let s := { s with moves := tabSet s.moves r m, moveUses := tabSet s.moveUses r uses, fresh := s.fresh + 1 }
        some (r, s.setTgt k { e with state := 2, moveTag := tag })
      | _, _ => none
    else none

/-- A wait of a stored tile's move begins, for a record or for a free segment: it is counted once, however often the move is tried again
(06 R219, 07 R245). -/
def State.countWait (s : State) (k : Nat) (segment : Bool) (by_ : MoveBy) : State :=
  if s.moveWaits.any (fun w => w.key == k && w.segment == segment) then s
  else
    let pos : Option Nat := match by_ with
      | .schedule n => (tabGet s.sched n).map Sched.target
      | .job j _ => (tabGet s.jobs j).map (fun x => (s.cad x.launchCad).pos)
      | _ => none
    let w : MoveWait := { key := k, segment := segment, by_ := by_, since := s.now, pos := pos }
    { (if segment then s.bump 0x600 0x1E 1 else s.bump 0x700 0x26 1) with moveWaits := s.moveWaits ++ [w] }

/-- A move that did not start waits for a record, which classes 3 to 5 count (06 R219), or for a free segment (07 R245). -/
def State.noteWaits (s : State) (k kind tier cls : Nat) (by_ : MoveBy) : State :=
  match s.region (s.tgt k).region with
  | none => s
  | some x =>
    if (s.recordFor cls (partyOf x by_)).isNone then (if cls ≥ 3 then s.countWait k false by_ else s)
    else if s.waitsFloor kind tier then s.countWait k true by_ else s

/-! ## Recode sweeps (04 R152, 05 R179) -/

/-- Whether a sweep has still to recode a stored tile: the tile names another FR slot or generation than its region, or its record
another LL slot; a tile without a stored form has nothing to recode. -/
def State.sweepNeeds (s : State) (w : Sweep) (k : Nat) : Bool :=
  let e := s.tgt k
  match s.region w.region with
  | none => false
  | some x => decide (1 ≤ e.state ∧ e.state ≤ 3) && e.length != 0 && e.region == w.region
    && (if w.ll then decide (e.home ≥ 2) && (if x.llSlot = 0xFF then !e.llBuiltin else e.llBuiltin || e.llSlot != x.llSlot)
        else e.isFr && (e.frSlot != x.frSlot || e.frGen != s.slotGen false x.frSlot))

/-- The running sweeps leave out what needs no recode any longer; one with nothing left is done. -/
def State.settleSweeps (s : State) : State :=
  { s with sweeps := s.sweeps.map (fun w =>
      if w.2.state ≠ 1 then w
      else
        let l := w.2.left.filter (s.sweepNeeds w.2)
        (w.1, { w.2 with left := l, state := if l.isEmpty then 2 else 1 })) }

/-! ## Ends (06 R191 FLIP and RELEASE, R197, R199) -/

/-- The requester of a move learns how it ended: `none` done, or the abort code (06 R199). -/
def State.moveEnded (s : State) (r : Nat) (m : Move) (code : Option Nat) : State :=
  match m.by_ with
  | .schedule n =>
    match tabGet s.sched n with
    | some x =>
      let again := code = some 3 ∨ code = some 9 ∨ code = some 0xA
      let x := if again then { x with waiting := x.waiting ++ [m.key], unreachable := x.unreachable || code != some 9 } else x
      { s with sched := tabSet s.sched n x }.schedCheck n
    | none => s
  | .job j c =>
    let z := match code with
      | none => (0, m.tag)
      | some c => (4, c)
    let on (q : MvReq) : MvReq :=
      if code.isNone ∧ field q.bytes 2 1 ≠ m.dstTier then { q with started := false, record := 0 } else { q with done := some z }
    { s with mvReqs := s.mvReqs.map (fun q =>
        if q.job = j ∧ q.id = c ∧ q.record = r ∧ q.done.isNone then on q else q) }
  | .sweep n =>
    match tabGet s.sweeps n, code with
    | some x, none => { s with sweeps := tabSet s.sweeps n { x with left := x.left.filter (· != m.key), recoded := x.recoded + 1 } }
    | _, _ => s
  | _ => s

/-- The counter of an abort code (06 R197). -/
def abortCounter (code : Nat) : Nat :=
  if code = 1 ∨ code = 2 then 0x19 else if 3 ≤ code ∧ code ≤ 5 then 0x1A else if code = 6 ∨ code = 7 then 0x1C
  else if code = 8 ∨ code = 9 then 0x1B else if code = 0xA then 0x23 else 0x1D

/-- Whether a move is one of the built-in policy's: its own, and those of the duties it keeps (06 R196, R214). -/
def MoveBy.builtIn (b : MoveBy) : Bool := match b with
  | .policy | .evacuation | .compaction => true
  | .sweep _ => true
  | _ => false

/-- Writes that abort the built-in policy's moves of a tile in a row place it under the hold (06 R196). -/
def State.noteWriteAbort (s : State) (m : Move) (code : Nat) : State :=
  if !m.by_.builtIn ∨ (code ≠ 1 ∧ code ≠ 2) then s
  else
    let run := ((tabGet s.writeAborts m.key).map (·.1)).getD 0 + 1
    if run ≥ s.obj 0x700 0x117 0 then
      { (s.bump 0x700 0x25 1) with writeAborts := tabSet s.writeAborts m.key (0, s.epochs + 4) }
    else
      let until_ := ((tabGet s.writeAborts m.key).map (·.2)).getD 0
      { s with writeAborts := tabSet s.writeAborts m.key (run, until_) }

/-- A move of the built-in policy that completes ends its tile's run of write aborts; a hold runs on (06 R196). -/
def State.endRun (s : State) (m : Move) : State :=
  if !m.by_.builtIn then s
  else match tabGet s.writeAborts m.key with
    | some (_, until_) => { s with writeAborts := if until_ = 0 then tabDel s.writeAborts m.key else tabSet s.writeAborts m.key (0, until_) }
    | none => s

/-- Whether a tile is held back from demotion, relocation and recoding (06 R196). -/
def State.heldBack (s : State) (k : Nat) : Bool := (tabGet s.writeAborts k).any (fun w => decide (w.2 > s.epochs))

/-- Abort a move: the destination is freed and the entry is VALID, or POISONED, at the source home (06 R197). -/
def State.abortMove (s : State) (r code : Nat) : State :=
  match tabGet s.moves r with
  | none => s
  | some m =>
    let e := s.tgt m.key
    let s := { s with moves := tabDel s.moves r, farRecs := s.farRecs.filter (fun f => f.for_ ≠ RecFor.move r) }
    let s := ((s.dmaOrphan (.move r)).dmaOrphan (.readBack r)).freeHome m.dst
    let s := s.setTgt m.key { e with state := m.dst.state, moveTag := 0 }
    let s := ((s.bump 0x700 0x18 1).bump 0x700 (abortCounter code) 1).slotsOf m.dst
    ((s.noteWriteAbort m code).moveEnded r m (some code)).reissueLoads m.key

/-- A move that never started: its record is free, the tile as it was (06 R191). -/
def State.dropMove (s : State) (r : Nat) : State :=
  match tabGet s.moves r with
  | none => s
  | some m =>
    let s := { s with moves := tabDel s.moves r }.freeHome m.dst
    (s.setTgt m.key { s.tgt m.key with state := m.dst.state, moveTag := 0 }).slotsOf m.dst

/-- Abort every move that satisfies `p`. -/
def State.abortWhere (s : State) (code : Nat) (p : Move → Bool) : State :=
  (s.moves.filter (fun m => p m.2)).foldl (fun s m => s.abortMove m.1 code) s

/-- FLIP and RELEASE (06 R191, R194): one entry update installs the new home; the source space and the record are freed. -/
def State.flipMove (s : State) (r : Nat) : State :=
  match tabGet s.moves r with
  | none => s
  | some m =>
    let e : TileEntry := s.tgt m.key
    let d : TileEntry := { m.dst with moveTag := 0, recency := e.recency, frequency := e.frequency }
    let s := { s.endRun m with moves := tabDel s.moves r, farRecs := s.farRecs.filter (fun f => f.for_ ≠ RecFor.move r) }
    let s := if d.home ≤ 1 then { s with tallies := tabDel s.tallies m.key }
      else if m.kind = 4 ∧ e.home ≥ 2 then s else { s with tallies := tabSet s.tallies m.key m.coded }
    let s := s.bump 0x700 0x17 1
    let s := if decide (d.home < e.home ∧ d.home ≤ 1) then s.bump 0x700 0x1E 65536
      else if decide (e.home < d.home ∧ e.home ≤ 1) then s.bump 0x700 0x1F 65536 else s
    let s := if m.by_ = .evacuation then s.bump 0x700 0x24 1 else s
    ((((s.setTgt m.key d).freeHome { e with state := 1 }).slotsOf e).moveEnded r m none).settleSweeps

/-! ## Copying (06 R191 COPY, R192) -/

/-- A destination record in T2 or T3, sealed and stored: the move then waits to be durable. None when the destination
cannot be written (06 R197 code 0x09, R208). -/
def State.storeRecord (s : State) (r : Nat) (m : Move) (d : TileEntry) (sectors : Bytes) : Option State × State :=
  let n := sectors.length / 256
  if d.home = 2 then
    match s.appendRecord (s.streamOf d) sectors (.move r) with
    | some (f, s') =>
      (some { s' with moves := tabSet s'.moves r { m with state := 3, dst := { d with location := f, length := n } } }, s)
    | none => (none, s)
  else
    let ld := d.location / 2 ^ 40
    match s.spillWrite ld (d.location % 2 ^ 40) sectors with
    | (true, s) =>
      let s := { s with moves := tabSet s.moves r { m with state := 3, dst := { d with length := n } } }
      (some (s.spillRead ld (d.location % 2 ^ 40 + n - 1) 1 (.readBack r) none), s)
    | (false, s) => (none, s)

/-- Store a destination record, or abort: 0x09 where the far store takes it no more, 0x0A where host memory refuses it. -/
def State.storeOrAbort (s : State) (r : Nat) (m : Move) (d : TileEntry) (sectors : Bytes) : State :=
  match s.storeRecord r m d sectors with
  | (some s, _) => s.slotsOf m.dst
  | (none, s) => s.abortMove r (if d.home = 3 then 0xA else 9)

/-- Whether every granule of a frame can be written: its device, or with channel parity in force the others of its group (14 R484). -/
def State.frameWrites (s : State) (e : TileEntry) : Bool :=
  e.home = 0 || (List.range e.frameLines).all (fun f =>
    let ch := s.granChan (16 * e.location + f)
    !s.chanLost ch || (s.parityOn && !(groupMates ch).any s.chanLost))

/-- The lines of a destination in T0 or T1 are written by `put`: it is then durable, and the loads that waited for it are answered (06 R192,
05 R184). A granule that cannot be written aborts the move (06 R197 code 0x09). -/
def State.writeReady (s : State) (r : Nat) (m : Move) (d : TileEntry) (put : State → State) : State :=
  if !s.frameWrites d then s.abortMove r 9
  else
    let old := m.dst
    let m := { m with state := 3, dst := d, ready := true }
    let s := (put { s with moves := tabSet s.moves r m }).slotsOf old
    if d.home = 0 then s.validSet m else s

/-- Write the destination of a move from the source's stored form (06 R191 COPY). -/
def State.writeDest (s : State) (r : Nat) (m : Move) (d : TileEntry) (plain : Bytes) : State :=
  let k := m.key
  if d.home ≤ 1 then s.writeReady r m d (fun s => s.writeFrame k d plain)
  else
    let (z, s) := s.sealRecord k d plain
    s.storeOrAbort r { m with coded := z.coded } { d with llPresent := z.llPresent, llBuiltin := z.llBuiltin, llSlot := z.llSlot } z.sectors

/-- Whether a recode move belongs to an LL sweep (05 R179). -/
def State.sweepLl (s : State) (m : Move) : Bool := match m.by_ with
  | .sweep i => (tabGet s.sweeps i).any (·.ll)
  | _ => false

/-- A recode writes the frame under the region's current tables, and keeps what its residuals are rewritten from (04 R152, R153, 05 R179). A
slot that does not hold the generation named ends the move (04 R149; log entry 46). -/
def State.recodeDest (s : State) (r : Nat) (m : Move) (e : TileEntry) (plain : Bytes) : State :=
  let d := s.recoded (s.sweepLl m) m.dst
  if e.isFr ∧ (e.frSlot ≠ d.frSlot ∨ e.frGen ≠ d.frGen) then
    match s.recodeLines m.key e d plain with
    | (some ls, s) =>
      s.writeDest r { m with recode := s.recodedResiduals m.key e d ls } d
        (frameOf d.elem d.b d.frSlot d.frGen (s.tileNumber m.key) (ls.map (·.2)))
    | (none, s) => s.abortMove r 8
  else s.writeDest r m d plain

/-- How the mover fetches a record source: from the bytes host memory returned, or from the far store. -/
def moveFetch (e : TileEntry) (t3 : Option Bytes) : Fetcher := match t3 with
  | some b => hostFetch (e.location / 2 ^ 40) (e.location % 2 ^ 40) 0 b
  | none => farFetch e.location e.length []

/-- A move between T0 and T1: the ciphertext lines unchanged (01 R25, R27); an FR frame's trailer is compared (04 R123). -/
def State.copyKept (s : State) (r : Nat) (m : Move) (e : TileEntry) (q : Nat) : State :=
  let (ls, bad, s) := s.readKept e q
  let t := 16 * codedSize e.elem e.b + 18
  if !s.alreadyLost m.key e bad then (s.poisonFrames m.key e bad q).abortMove r 8
  else
    let (p, s) := if e.isFr then s.decipher e (s.tileNumber m.key) t 0 (nth ls t (zeros 64)) else ([], s)
    if !s.trailerOk m.key e (zeros (64 * t) ++ p) then (s.trailerBad m.key e q).abortMove r 8
    else s.writeReady r m m.dst (fun s => (ls.zipIdx).foldl (fun s l => s.storeReady m.dst l.2 l.1 q) s)

/-- A move between T2 and T3: sectors and ciphertext unchanged (01 R25, R27, 18 R591). -/
def State.copyRecord (s : State) (r : Nat) (m : Move) (e : TileEntry) (q : Nat) (fetch : Fetcher) : State :=
  match s.keptRecord m.key e fetch with
  | ((some b, _, _), s) => s.storeOrAbort r m m.dst b
  | ((none, lost, loc), s) => (s.poison m.key lost (foundRecord e loc q)).abortMove r 8

/-- A move's wait for data from another tier is counted when the data has come (06 R218; log entry 46). -/
def State.noteWait (s : State) (m : Move) (e : TileEntry) : State :=
  if e.home ≠ m.dst.home then (s.bump 0x700 0x21 (s.now - m.start)).onEntryOf m.key (Sched.transferWaits (s.now - m.start)) else s

/-- The mover reads the source and writes the destination (06 R191 COPY). `t3` are the record's bytes when the source
lies in T3. -/
def State.copyMove (s : State) (r : Nat) (m : Move) (t3 : Option Bytes) : State :=
  let e := s.tgt m.key
  let q := if m.cls ≤ 3 then 0x50 else 0x51
  let fetch := moveFetch e t3
  let s := s.noteWait m e
  if e.home ≤ 1 ∧ m.dst.home ≤ 1 ∧ m.kind ≠ 5 then s.copyKept r m e q
  else if e.home ≥ 2 ∧ m.dst.home ≥ 2 ∧ m.kind = 4 then s.copyRecord r m e q fetch
  else
    match s.readWhole m.cls m.key e q fetch with
    | (some plain, s) =>
      match tabGet s.moves r with
      | some m =>
        let plain := s.zeroPoisoned m.key e plain
        if m.kind = 5 then s.recodeDest r m e plain else s.writeDest r m m.dst plain
      | none => s
    | (none, s) => s.abortMove r 8

/-- COPY: a move past ALLOC is counted; a T3 source is fetched by DMA first. -/
def State.startCopy (s : State) (r : Nat) : State :=
  match tabGet s.moves r with
  | none => s
  | some m =>
    if m.state ≠ 1 then s
    else
      let e := s.tgt m.key
      let s := s.bump 0x700 0x16 1
      if e.home = 3 then
        let s := { s with moves := tabSet s.moves r { m with state := 2 } }
        s.spillRead (e.location / 2 ^ 40) (e.location % 2 ^ 40) e.length (.move r) none
      else s.copyMove r m none

/-! ## The order of service (05 R183, 06 R218, R220, R221) -/

/-- Whether any LD has a write held for space. -/
def State.spaceHeld (s : State) : Bool := s.held.any (fun h => h.why == .space)

/-- Whether the mover serves a move before the others that are ready for the same step: those of a better class, and the older ones of its
class, come first. In partitioned mode the order is that of a party's own share; in shared mode class 4 has its minimum while a write
is held for space. -/
def State.serves (s : State) (ready : Nat → Move → Bool) (r : Nat) (m : Move) : Bool :=
  let p := s.moveParty m
  let least := !s.partitioned && m.cls == 4 && s.obj 0x700 0x150 0 != 0 && s.spaceHeld
  !(s.partitioned && s.partyShare p == 0) && (least || (s.moves.filter (fun o => o.1 != r && ready o.1 o.2
    && (!s.partitioned || s.moveParty o.2 == p))).all (fun o => decide (m.cls < o.2.cls ∨ (m.cls = o.2.cls ∧ m.start ≤ o.2.start))))

end Sys2Proof.Machine
end

