-- ==== Sys2Proof/Machine/Wake.lean ====
section
/-!
DEFINITION. Deep idle as requests meet it: its cancellation and its end (06 R213, 17 R581, R582).
-/
namespace Sys2Proof.Machine

/-- Replace the power manager's state. -/
def State.setPower (s : State) (p : Power) : State := { s with power := p }

/-- The mover reopens every segment and aborts what it evacuates; the state is ACTIVE again (06 R213, 17 R581). -/
def State.cancelDeepIdle (s : State) : State :=
  let asked (m : Move) : Bool := m.by_ == .evacuation && decide (m.state ≤ 2)
  let s := ({ s with segStates := [] }.setObj 0x700 0x170 0 0).bump 0xD20 0x1B 1
  (s.setPower { s.power with deep := 0, lines := [] }).abortWhere 0x0E asked

/-- Deep idle ends for a cause of 17 R582: the dropped segments are to be filled, the others open. -/
def State.leaveDeepIdle (s : State) (cause : Nat) : State :=
  let segs := (s.segStates.filter (fun g => g.2 == 2)).map (fun g => (g.1, 3))
  let s := ({ s with segStates := segs }.setObj 0x700 0x170 0 0).bump 0xD20 0x1A (s.now - s.power.deepSince)
  let s := s.setPower { s.power with deep := if segs.isEmpty then 0 else 3, lines := [] }
  ((List.range 32).foldl State.wakeChannel s).raise 0xD20 0x1B3 cause

/-- A cause of 17 R582 arises: a request for deep idle is cancelled, deep idle is left. -/
def State.powerWake (s : State) (cause : Nat) : State :=
  if s.power.deep = 1 then s.cancelDeepIdle
  else if s.power.deep = 2 then s.leaveDeepIdle cause
  else s

/-- Whether no frame of some blocks is free. -/
def State.frameShort (s : State) (n : Nat) : Bool := (s.freeFrame n).isNone

/-- A write of an LD is held for space: deep idle ends when no frame of the blocks it needs is free, and a request for it also when the LD
holds more than 0700:172 (06 R213). -/
def State.heldWake (s : State) (ld blocks : Nat) : State :=
  let n := (s.held.filter (fun h => h.ld == ld && h.why == HoldFor.space)).length
  if s.power.deep = 0 ∨ s.power.deep = 3 then s
  else if s.frameShort blocks ∨ (s.power.deep = 1 ∧ n > s.obj 0x700 0x172 0) then s.powerWake 2
  else s

/-- A promotion into T1 that did not start for want of a frame ends deep idle, or a request for it (06 R213). -/
def State.promoteWake (s : State) (k : Nat) : State := if s.frameShort (s.tgt k).readyLength then s.powerWake 2 else s

/-- A host line outside ACTIVE: more than 0D20:150.02 of them in 1 ms end deep idle (17 R582). -/
def State.hostLine (s : State) : State :=
  if s.power.deep = 0 ∨ s.power.deep = 3 then s
  else
    let l := s.now :: s.power.lines.filter (fun t => decide (t + 1000000 > s.now))
    let s := s.setPower { s.power with lines := l }
    if l.length > s.obj 0xD20 0x150 2 then s.powerWake 0 else s

end Sys2Proof.Machine
end

