-- ==== Sys2Proof/Machine/DataPath.lean ====
section
/-!
DEFINITION. What an access finds (03 R95, R96, 09 R284 to R294), line reads and writes at a tile's home (01 R28, R29,
06 R188, R195), overlay copies (09 R290) and held writes.
-/
namespace Sys2Proof.Machine

/-! ## Finding the tile -/

/-- What an access finds. -/
inductive Seen where
  /-- The extent is not GRANTED (03 R95). -/
  | ungranted
  /-- A shared tile without an attachment (03 R96, 09 R284). -/
  | unattached
  /-- A job holds no reference on the region (09 R294). -/
  | noReference
  /-- A tile: its map index, the stored tile a read is served from (none reads zero), and who writes: the tile itself,
  the overlay of an attachment, or nobody. -/
  | tile (index : Nat) (key : Option Nat) (overlay : Option Nat) (writes : Bool)
deriving DecidableEq, Repr

/-- The attachment of an LD to a region, read or read-write (09 R288). -/
def State.attachOf (s : State) (ld r : Nat) : Option (Nat × Attach) :=
  s.attaches.find? (fun a => a.2.region == r && a.2.ld == ld && (a.2.kind == 1 || a.2.kind == 2))

/-- The output attachment of a job to a region (13 R450). -/
def State.outputOf (s : State) (j r : Nat) : Option (Nat × Attach) :=
  s.attaches.find? (fun a => a.2.region == r && a.2.kind == 4 && a.2.job == j)

/-- The newest version of a tile published at or below an instar: the head version in the tile map, or a version record
(09 R285, R287). -/
def State.publishedAt (s : State) (r t index base : Nat) : Option Nat :=
  let h := (tabGet s.headInst index).getD 0
  if h ≠ 0 ∧ h ≤ base ∧ (s.entry index).state ≠ 0 then some index
  else ((s.versions.filter (fun v => v.2.region == r && v.2.tile == t && v.2.owner.isNone && decide (v.2.inst ≤ base))).foldl
    (fun m v => match m with
      | none => some (v.2.inst, verKey v.1)
      | some b => if v.2.inst > b.1 then some (v.2.inst, verKey v.1) else some b) none).map (·.2)

/-- The overlay version of a tile. -/
def State.overlayOf (s : State) (att r t : Nat) : Option Nat :=
  (s.versions.find? (fun v => v.2.owner == some att && v.2.region == r && v.2.tile == t)).map (fun v => verKey v.1)

/-- R289: the overlay version, the newest published version at or below the base, or zero. -/
def State.resolve (s : State) (r t index base : Nat) (att : Option Nat) : Option Nat :=
  match att.bind (fun a => s.overlayOf a r t) with
  | some k => some k
  | none => s.publishedAt r t index base

/-- What an access of a view at a DPA finds. -/
def State.seen (s : State) (w : View) (dpa : Nat) : Seen :=
  match s.granted w.ld dpa with
  | none => .ungranted
  | some x =>
    let i := mapIndexOf x dpa
    match (s.regionAt i).bind (fun r => (s.region r).map (fun d => (r, d))) with
    | none => .unattached
    | some (r, d) =>
      if !d.shared then .tile i (some i) none true
      else
        let t := s.tileIn d i
        let own := s.attachOf w.ld r
        let rw := own.bind (fun a => if a.2.kind = 2 then some a.1 else none)
        match w.job with
        | none => match own with
          | none => .unattached
          | some (_, a) => .tile i (s.resolve r t i a.base rw) rw rw.isSome
        | some j => match s.outputOf j r with
          | some (id, a) => .tile i (s.resolve r t i a.base (some id)) (some id) true
          | none => match ((tabGet s.jobs j).bind (fun x => tabGet x.inputs r)) with
            | none => .noReference
            | some b => .tile i (s.resolve r t i b rw) rw rw.isSome

/-! ## Lookups -/

/-- Whether the check field of an entry's bytes is right (03 R104). -/
def entryChecks (b : Bytes) : Bool := crc16 (b.take 30) == field b 30 2

/-- A tile whose map entry fails its check is POISONED in every line (03 R111, 18 R587, R593): an UNWRITTEN one takes its region's
form, if it has one, with no home; a REMOTE one stays so (log entry 25). -/
def State.poisonEntry (s : State) (i : Nat) : State :=
  let (ch, bs) := s.granPlace (i / 2)
  let f : Found := { unit := 0x200, requester := 0x52, location := granLocation ch bs (i / 2), home := 1, source := ch }
  let s := s.bump 0x200 0x18 1
  if (s.entry i).state ≠ 0 then s.poison i (2 ^ 1024 - 1) f
  else
    let e := match (s.regionAt i).bind (fun r => (s.region r).map (fun x => (r, x))) with
      | some (r, x) => { s.newEntry r x 0 with length := 0 }
      | none => { s.entry i with length := 0 }
    (s.setEntry i e).poison i (2 ^ 1024 - 1) f

/-- A fill of the map cache: the map line is read from the near tier, and the check field of both its entries is looked at (03
R111). -/
def State.fillLine (s : State) (m : Nat) : State :=
  let (d, s) := s.loadGranule m 0x52
  let ok (i : Nat) : Bool := d.any (fun d => entryChecks (slice d (32 * i) 32))
  let s := if ok 0 then s else s.poisonEntry (2 * m)
  if ok 1 then s else s.poisonEntry (2 * m + 1)

/-- A map line that leaves the map cache, or that the aging scan visits, reaches the near tier with the policy fields its lookups have
changed (06 R201). -/
def State.syncLine (s : State) (m : Nat) : State :=
  let near := ((s.chan (s.granChan m)).queuedRaw m).orElse (fun _ => s.currentGranule m)
  if near.any (fun w => w.take 64 == s.mapLine m) then s else s.writeMapLine m

/-- A map-cache lookup of a map index: a hit, or a miss that fills the line; it becomes the set's most recent of 16 (03 R107, R108,
R111). -/
def State.mapLookup (s : State) (index : Nat) : State :=
  let line := index / 2
  let k := (line % 2) * 16384 + line / 2 % 16384
  let set := (tabGet s.mapCache k).getD []
  let s := if set.contains line then s.bump 0x200 0x16 1 else (s.bump 0x200 0x17 1).fillLine line
  let new := line :: set.filter (· != line)
  (new.drop 16).foldl State.syncLine { s with mapCache := tabSet s.mapCache k (new.take 16) }

/-- The policy fields of a tile's map entry on a lookup by a host or compute access (06 R200), in the cached map line only (06 R201); a
version record has none (09 R287). -/
def State.touch (s : State) (i : Nat) : State :=
  let e := s.entry i
  let now := s.obj 0x700 0x101 0
  let f := if e.recency ≠ now then Nat.min (e.frequency + 1) 255 else e.frequency
  s.putEntry i { e with recency := now, frequency := f }

/-- A map-cache lookup of a tile and the policy update. -/
def State.look (s : State) (index : Nat) : State := (s.mapLookup index).touch index

/-! ## Reading a line at once -/

/-- A stored tile in T0, T1 or T2, in plaintext, read around its poisoned lines, which come as the stored form of zero;
an error that the read finds joins the set (18 R591, R592). -/
def State.readAround (s : State) (k : Nat) (e : TileEntry) (requester : Nat) : Bytes × State :=
  if e.length = 0 then (s.zeroFrame k e, s)
  else
    let fetch := farFetch e.location e.length []
    match s.readWhole 4 k e requester fetch with
    | (some d, s) => (s.zeroPoisoned k e d, s)
    | (none, s) => match s.readWhole 4 k e requester fetch with
      | (some d, s) => (s.zeroPoisoned k e d, s)
      | (none, s) => (s.zeroFrame k e, s)

/-! ## Stored tiles that change their name -/

/-- A stored tile takes another name: a version becomes a head version, or the reverse; everything that names it follows. -/
def State.rekey (s : State) (old new : Nat) : State :=
  let f (k : Nat) : Nat := if k = old then new else k
  { s with
    moves := s.moves.map (fun m => (m.1, { m.2 with key := f m.2.key }))
    pins := s.pins.map (fun p => { p with key := f p.key })
    sched := s.sched.map (fun x => (x.1, { x.2 with waiting := x.2.waiting.map f }))
    tallies := match tabGet s.tallies old with
      | some w => tabSet (tabDel s.tallies old) new w
      | none => s.tallies
    writeAborts := match tabGet s.writeAborts old with
      | some w => tabSet (tabDel s.writeAborts old) new w
      | none => s.writeAborts
    poisons := s.poisons.map (fun p => { p with key := f p.key })
    errLog := s.errLog.map (fun e => (e.1, { e.2 with live := e.2.live.map f }))
    cleanCopies := s.cleanCopies.map (fun c => (c.1, { c.2 with key := f c.2.key }))
    accesses := s.accesses.map (fun a => { a with key := f a.key })
    channels := s.channels.map (fun c => (c.1, { c.2 with wq := c.2.wq.map (fun q => match q.body with
      | .coded x => { q with body := .coded { x with mapIndex := f x.mapIndex } }
      | .raw _ _ => q) })) }

/-- A former head version passes to the version store (09 R297). -/
def State.storeHead (s : State) (r t k : Nat) : State :=
  let e := s.entry k
  match tabGet s.headInst k with
  | none => s
  | some n =>
    if e.state = 0 then s
    else
      let v := s.nextVersion
      let x : Version := { region := r, tile := t, inst := n, owner := none, entry := e }
      ({ (s.rekey k (verKey v)) with
        versions := tabSet s.versions v x, nextVersion := v + 1, headInst := tabDel s.headInst k }).setEntry k {}

/-- An overlay version becomes the head version of its tile. -/
def State.publishTile (s : State) (r n v t : Nat) : State :=
  match (s.region r).bind (fun x => s.regionTile x t), tabGet s.versions v with
  | some k, some x =>
    let s := s.storeHead r t k
    let s := (s.rekey (verKey v) k).setEntry k x.entry
    { s with versions := tabDel s.versions v, headInst := tabSet s.headInst k n }
  | _, _ => s

/-! ## Overlay copies (09 R290, R306) -/

/-- A version of a tile copied from the version R289 gives, or from a zero frame, into a new frame in T1 under a version number.
None when it must wait for version space. -/
def State.versionCopy (s : State) (r t ver inst : Nat) (owner key : Option Nat) : Option (Nat × State) :=
  (s.region r).bind (fun x =>
    let base := match key with
      | some k => { s.tgt k with state := if (s.poisonSet k) = 0 then 1 else 3, moveTag := 0 }
      | none => s.newEntry r x 0
    let e : TileEntry := { (if base.home ≥ 2 then s.promoted base else base) with
      home := 1, inst := ver, region := r, length := base.readyLength, location := 0, recency := 0, frequency := 0 }
    if s.versions.length ≥ 8388608 ∨ !s.nearRoom (16 + r) (s.tileCharge e) then none
    else
      (s.freeFrame e.length).map (fun loc =>
        let e : TileEntry := { e with location := loc }
        let v := s.nextVersion
        let s := { s with nextVersion := v + 1, fresh := s.fresh + 1 }
        let (d, lost, s) := match key with
          | none => (s.zeroFrame (verKey v) e, 0, s)
          | some k =>
            let (d, s) := s.readAround k (s.tgt k) 0x53
            (d, s.poisonSet k, s)
        let z : Version := { region := r, tile := t, inst := inst, owner := owner, entry := { e with state := if lost = 0 then 1 else 3 } }
        let s := { s with versions := tabSet s.versions v z }
        let s := if lost = 0 ∨ lost = 2 ^ 1024 - 1 then s else s.setPoison (verKey v) lost
        (verKey v, (s.writeFrame (verKey v) e d).bump 0x900 0x19 1)))

/-- The first write of an overlay to a tile (09 R290). -/
def State.overlayCopy (s : State) (att r t : Nat) (key : Option Nat) : Option (Nat × State) :=
  (tabGet s.attaches att).bind (fun a => s.versionCopy r t a.ver 0 (some att) key)

/-- A write looked up before its overlay was published goes to the published version of its tile, which it makes where the overlay had
none (09 R295). -/
def State.lateCopy (s : State) (w : Saw) : Option (Nat × State) :=
  let t := s.tileIn ((s.region w.region).getD (defaultRegion 0)) w.index
  let head := (tabGet s.headInst w.index).getD 0
  if head = w.published then some (w.index, s)
  else match s.versions.find? (fun v => v.2.region == w.region && v.2.tile == t && v.2.owner.isNone && v.2.inst == w.published) with
    | some v => some (verKey v.1, s)
    | none =>
      (s.versionCopy w.region t w.version w.published none (s.publishedAt w.region t w.index w.base)).map (fun z =>
        if head < w.published then (w.index, z.2.publishTile w.region w.published (z.1 - 2 ^ 28) t) else z)

/-! ## Held writes -/

/-- Whether two writes go to one line, as writes to one line keep their order (04 R138): the line of the tile both saw, or of the LD's
address space. -/
def HeldWrite.sameLine (a b : HeldWrite) : Bool :=
  match a.saw, b.saw with
  | some v, some w => v.index == w.index && v.overlay == w.overlay && a.dpa / 64 % 1024 == b.dpa / 64 % 1024
  | _, _ => a.ld == b.ld && a.dpa / 64 == b.dpa / 64

/-- The near-tier requester that serves a span member: the stream port its packets come by (14 R467). -/
def State.peerRequester (s : State) (m : Nat) : Nat := 0x54 + ((tabGet s.span.routes m).map (fun r => r.1 % 4)).getD 0

/-- The near-tier requester of a write (14 R467). -/
def State.requesterOf (s : State) (x : HeldWrite) : Nat := match x.by_ with
  | .host _ _ => x.ld
  | .thread t => 0x10 + t.cluster.val
  | .peer m _ _ => s.peerRequester m
  | .mover => 0x51

/-- Whether a write replaces its whole line whatever it held: all bytes enabled, and no residual of a recode. -/
def HeldWrite.full (x : HeldWrite) : Bool := x.mask % 2 ^ 64 == 2 ^ 64 - 1 && x.recode.isNone

/-- A write completes: the host port returns its completion on the leg that carried it, none when that leg has been lost (01 R28, 15
R506, R507). -/
def State.completed (s : State) (x : HeldWrite) : State := match x.by_ with
  | .host leg tag => if leg < 2 then s.emit (.memDone x.ld leg tag) else s
  | .thread _ | .mover => s
  | .peer m tag _ => s.sendPacket m 0x21 2 (x.ld - 16) 0 tag 0 0 []

/-- Whether a near home can be demoted, or is moving already: a tier below that its mask allows has room. A demotion that only waits, for a
record, a segment or compaction, can (06 R205, R210, R219, 07 R245). -/
def State.demotable (s : State) (k : Nat) : Bool :=
  let e := s.tgt k
  let p := s.payer e.region
  let room (x : Region) (t : Nat) : Bool :=
    moveLegal 3 e.home t && x.tierMask.testBit t
      && (if t = 1 then s.nearRoom p (s.tileCharge { e with home := 1, length := e.readyLength })
          else if t = 2 then s.farRoom p 65792
          else !x.shared && s.spillReachable x.owner && decide (s.spillFree x.owner ≥ 257))
  decide (e.home ≤ 1) && (e.state == 2 || ((e.state == 1 || e.state == 3) && e.length != 0 && !s.heldBack k
    && (s.region e.region).any (fun x => x.steep != 1 && [1, 2, 3].any (room x))))

/-- Whether no tile of a payer can be demoted. -/
def State.noneDemotable (s : State) (p : Nat) : Bool :=
  (s.tileMap.map (·.1) ++ s.versions.map (fun v => verKey v.1)).all (fun k => s.payer (s.tgt k).region != p || !s.demotable k)

/-- Who pays for the tile of a held write. -/
def State.writePayer (s : State) (x : HeldWrite) : Nat := s.payer ((x.saw.map (·.region)).getD guestRegion)

/-- The writes held for space of a payer. -/
def State.spaceHeldOf (s : State) (p : Nat) : List HeldWrite := s.held.filter (fun h => h.why == .space && s.writePayer h == p)

/-- Event 0x0120 once when a payer with writes held for space comes to have no tile that can be demoted (06 R205). -/
def State.stuckCheck (s : State) (p : Nat) : State :=
  match s.spaceHeldOf p with
  | [] => { s with stuck := s.stuck.filter (· != p) }
  | h :: _ =>
    if !s.noneDemotable p then { s with stuck := s.stuck.filter (· != p) }
    else if s.stuck.contains p then s
    else { s with stuck := s.stuck ++ [p] }.raise 0x700 0x0120 h.ld

/-- Blocks of the frame a held write's tile needs. -/
def State.frameNeed (s : State) (x : HeldWrite) : Nat :=
  match x.saw.bind (fun w => (s.region w.region).map (fun r => (w.region, r))) with
  | some (r, y) => (s.newEntry r y 0).length
  | none => 64

/-- Hold a write; `again` is the reason it was held for already, which counts once. -/
def State.hold (s : State) (x : HeldWrite) (why : HoldFor) (again : Option HoldFor) : State :=
  let x := if again.isSome then x else { x with pos := (x.job.bind (fun j => (tabGet s.jobs j).map (fun y => (s.cad y.launchCad).pos))).getD 0 }
  let s := { s with held := s.held ++ [{ x with why := why }] }
  if again = some why then (if why = .space then s.heldWake x.ld (s.frameNeed x) else s)
  else match why with
    | .space =>
      ((s.bump 0x200 0x1A 1).heldWake x.ld (s.frameNeed x)).stuckCheck (s.writePayer x)
    | .poison => (s.bump 0xF80 0x1C 1).raiseLimited 0x01C7 0xF80 0x01C7 x.ld
    | _ => s

/-- The whole line mask. -/
def fullMask : Nat := 2 ^ 64 - 1

/-- A line with the enabled bytes replaced. -/
def mergeMask (mask : Nat) (old new : Bytes) : Bytes :=
  (List.range 64).map (fun i => if mask.testBit i then nth new i 0 else nth old i 0)

/-- The residual bytes of a line: its elements against their decoded values; elements a partial write left alone are
compared with their old decoded values (04 R139, R142). -/
def State.residualBytes (s : State) (e : TileEntry) (plain : Bytes) : Option Bytes :=
  (s.frTableAt e.frSlot e.frGen).map (fun t =>
    let l := frEncode t e.elem plain
    let d := frDecode t e.elem l.idx l.scale
    ((lineValues e.elem plain).zip (lineValues e.elem d)).flatMap (fun p => leBytes 2 (residualElem e.elem p.1 p.2)))

/-- The line a write leaves: the enabled bytes replaced; of a residual that a recode rewrites, bf16((d_old + r_old) − d_new) (04 R153). -/
def HeldWrite.onto (x : HeldWrite) (old : Bytes) : Bytes :=
  match x.recode with
  | none => mergeMask x.mask old x.data
  | some (ty, a, b) =>
    let o := ((List.range 64).find? x.mask.testBit).getD 0
    let r := ((lineValues ty a).zip (lineValues ty b)).zipIdx.flatMap (fun v => leBytes 2 (recodeResidual ty v.1.1 (field old (o + 2 * v.2) 2) v.1.2))
    mergeMask x.mask old (zeros o ++ r ++ zeros 64)

/-- How an attempt at a write ends: complete, or held for a reason; a residual write may follow. -/
inductive Wrote where
  | done
  | held (why : HoldFor)
  | residual (dpa : Nat) (bytes : Bytes)
deriving DecidableEq, Repr

/-- Apply a write to a line at a home in T0 or T1 that is not moving (01 R28, 04 R135, R136, 18 R589). -/
def State.applyHome (s : State) (k : Nat) (x : HeldWrite) (j : Nat) : Wrote × State :=
  let e := s.tgt k
  let full := x.full
  let lost := (s.poisonSet k).testBit j
  if lost && !full then (.done, s)
  else if lost && s.poisonRecordShort k then (.held .poison, s)
  else if !s.lineTaken e j then (.held .crossbar, s)
  else
    let (old, s) := if full then (some (zeros 64), s) else s.readReadyLine k e j (s.requesterOf x)
    match old with
    | none => (.done, s)
    | some old =>
      let d := x.onto old
      let res := (s.residualPlace k e j).bind (fun p => (s.residualBytes e d).map (fun b => (p, b)))
      let s := s.writeReadyLine k e j d (s.requesterOf x)
      let s := if lost then s.clearPoisonLine k j else s
      match res with
      | some (p, b) => (.residual p b, s)
      | none => (.done, s)

/-- The copies of a member's keys (10 R335). -/
def State.replicasOf (s : State) (m : Nat) : List (Nat × KeySlot) := s.keys.filter (fun z => z.2.origin == some m)

/-- A tile held for a member is under the copy of that member's binding of the packets' party: a striped region is private, and its key is
its owner's host key, whose binding number is the LD's (10 R323, R324, 16 R553). A copy that may be out of date is not used (10 R335). -/
def State.guestKey (s : State) (k party : Nat) (e : TileEntry) : Option TileEntry :=
  (s.span.reservations.find? (fun g => g.guest && g.block == k / 16384)).bind (fun g =>
    ((s.replicasOf g.member).find? (fun z => z.2.binding == party && !z.2.unsure)).map (fun z => { e with keySlot := z.1, keyGen := z.2.gen }))

/-- Put an UNWRITTEN tile, or one poisoned whole after its home was freed, written by a party, into a new frame of its region's current form
(03 R105, 18 R590), which may leave its former slots without a tile (04 R147); none when space is short (03 R114). -/
def State.firstFrame (s : State) (k r party inst : Nat) (lost : Nat) : Option State :=
  let s := s.freeOldHomesOf k
  match s.region r with
  | none => none
  | some x =>
    let fresh := s.newEntry r x inst
    let seen := s.tgt k
    match (if r = guestRegion then s.guestKey k party fresh else some { fresh with recency := seen.recency, frequency := seen.frequency }) with
    | none => none
    | some e =>
      if !s.nearRoom (s.payer r) (s.tileCharge { e with region := r }) then none
      else (s.newFrame k e).map (fun s =>
        (if lost = 0 then s else (s.setPoison k lost).setTgt k { s.tgt k with state := 3 }).slotsOf seen)

/-- Make a stored tile with a stale key generation POISONED in every line and free its home (10 R331). -/
def State.sweepTile (s : State) (k : Nat) : State :=
  let e := s.tgt k
  let s := if e.state = 2 then s.abortMove (e.moveTag % 8192) 8 else s
  let e := s.tgt k
  let s := { s with poisons := s.poisons.filter (·.key != k) }
  let before := e.state = 3
  let s := if before then s else s.poison k (2 ^ 1024 - 1) { unit := 0x400, home := if e.length = 0 then 0xFF else e.home }
  let s := s.freeHome e
  s.setTgt k { s.tgt k with state := 3, length := 0 }

/-- Try a write at a stored tile (06 R195, 01 R29, 18 R589, R590). One that was looked up under a key generation that has been erased
since completes under the old key, and is gone with it (10 R330). -/
def State.tryTile (s : State) (k r : Nat) (x : HeldWrite) : Wrote × State :=
  let j := x.dpa / 64 % 1024
  let full := x.full
  let e := s.tgt k
  let code := match x.by_ with
    | .thread _ => 2
    | _ => 1
  if e.state = 0 then
    match s.firstFrame k r (x.ld - 16) 0 0 with
    | some s => s.applyHome k x j
    | none => (.held .space, s.freeOldHomesOf k)
  else if s.staleKey e ∧ x.saw.any (·.keyed) then (.done, s)
  else if s.staleKey e ∧ !full then (.done, s.bump 0x400 0x18 1)
  else
    let s := if s.staleKey e then (s.bump 0x400 0x18 1).sweepTile k else s
    let e := s.tgt k
    if e.state = 3 ∧ e.length = 0 then
      if !full then (.done, s)
      else if s.poisonRecordShort k then (.held .poison, s)
      else match s.firstFrame k r (x.ld - 16) e.inst (2 ^ 1024 - 1) with
        | some s => s.applyHome k x j
        | none => (.held .space, s)
    else
      match (if e.state = 2 then s.move e.moveTag else none) with
      | some m =>
        if (m.kind = 1 ∨ m.kind = 2) ∧ m.dst.home ≤ 1 then (.held .flip, s)
        else
          let s := s.abortMove (e.moveTag % 8192) code
          let e := s.tgt k
          if e.home ≤ 1 then s.applyHome k x j
          else promote s e
      | none => if e.home ≤ 1 then s.applyHome k x j else promote s e
where
  promote (s : State) (e : TileEntry) : Wrote × State :=
    if e.home = 3 ∧ !s.spillReachable (s.moveLd e) then (.held .unreachable, s)
    else match s.startMove k 1 1 2 .hostWrite with
      | some (_, s) => (.held .flip, s)
      | none => (.held .space, s)

/-! ## Remote tiles (16 R555, R556) -/

/-- The member that holds a REMOTE tile. -/
def TileEntry.holder (e : TileEntry) : Nat := e.location % 8

/-- Send one LINE READ or LINE WRITE for a frame line; its request is remembered by its tag. -/
def State.lineRequest (s : State) (k : Nat) (e : TileEntry) (kind f : Nat) (access held : Option Nat) (data : Bytes) :
    State :=
  let tag := s.span.nextTag
  let party := s.moveLd e
  let q : RemoteReq := { id := tag, member := e.holder, kind := kind, access := access, held := held, line := f, sent := s.now }
  let s := { s with span := { s.span with nextTag := (tag + 1) % 2 ^ 32, requests := s.span.requests ++ [q] } }
  (s.sendPacket e.holder kind 1 party 0 tag (s.tileNumber k + 2 ^ 32 * f) 0 data).bump 0xC00 (if kind = 0x10 then 0x18 else 0x19) 1

/-- A REMOTE entry with its form: the FR slot and generation it took when it was first written (04 R148), its region's where it has not been
(length 0); the origin ciphers and FR-codes with its own slots (16 R555). -/
def State.remoteForm (s : State) (k : Nat) : TileEntry :=
  let e := s.entry k
  match s.regionAt k with
  | none => e
  | some r => match s.region r with
    | none => e
    | some x =>
      let n := { s.newEntry r x 0 with state := 4, location := e.location }
      if e.isFr then { n with elem := e.elem, frWidth := e.frWidth, frSlot := e.frSlot, frGen := e.frGen, length := e.readyLength }
      else if n.isFr then { n with length := 0 } else n

/-- Send the LINE WRITEs of frame lines of a tile, given in plaintext. -/
def State.sendLines (s : State) (k : Nat) (e : TileEntry) (id : Nat) (ls : List (Nat × Bytes)) : State :=
  ls.foldl (fun s l =>
    let r := s.encipher e (s.tileNumber k) l.1 0 l.2
    r.2.lineRequest k e 0x11 l.1 none (some id) r.1) s

/-- The first write to a REMOTE tile of an FR region gives it its form: the whole frame goes out, zero in every other line (03 R105, 16 R555). -/
def State.remoteFirst (s : State) (k : Nat) (e : TileEntry) (id j : Nat) (d : Bytes) : State :=
  match s.codeLine k e j d with
  | none => s
  | some (y, z) =>
    let s := s.setEntry k { s.entry k with elem := e.elem, frWidth := e.frWidth, frSlot := e.frSlot, frGen := e.frGen }
    let ls := ((pieces 64 (s.zeroFrame k e)).zipIdx).map (fun l => (l.2, if (e.needs j).contains l.2 then y.into l.2 l.1 else l.1))
    (s.noteEncoded (s.frEngine (s.frDie k e j) 0) z).sendLines k e id ls

/-- A write to a REMOTE tile: a raw full line goes out at once, the first write of an FR tile as its whole frame; any other write first
reads the frame lines it merges into. The write waits for the holder's DONE; one merge of a frame line runs at a time. -/
def State.remoteWrite (s : State) (k : Nat) (x : HeldWrite) : State :=
  let e := s.remoteForm k
  let j := x.dpa / 64 % 1024
  let id := s.nextAccess
  let shares (h : HeldWrite) : Bool := h.remote.isSome && h.ld == x.ld && h.dpa / 65536 == x.dpa / 65536
    && (e.formless || (e.needs (h.dpa / 64 % 1024)).any (e.needs j).contains)
  let busy := s.held.any shares
  let first := mergeMask x.mask (zeros 64) x.data
  let y : HeldWrite := { x with why := .remote, remote := if busy then none else some id }
  let s := { s with held := s.held ++ [if e.formless && !busy then { y with data := first } else y], nextAccess := id + 1 }
  if busy ∨ s.span.unreachable.contains e.holder then s
  else if e.formless then s.remoteFirst k e id j first
  else if x.full && !e.isFr then s.sendLines k e id [(j, x.data)]
  else (e.needs j).foldl (fun s f => s.lineRequest k e 0x10 f none (some id) []) s

/-! ## Writes -/

/-- The write of a residual that completes a line's write: its bytes within the line they fall in (04 R139, R141), in the residual region
as its owner reaches it. -/
def State.residualWrite (s : State) (x : HeldWrite) (e : TileEntry) (p : Nat) (b : Bytes) : HeldWrite :=
  let o := p % 64
  let place := (s.region e.region).bind (fun r => (s.region r.residual).bind (fun y =>
    if y.shared then none
    else (s.regionTile y ((p - y.base) / 65536)).map (fun i => (r.residual, i))))
  let saw : Option Saw := place.map (fun z =>
    let t := s.entry z.2
    { index := z.2, region := z.1, overlay := none, keyed := decide (1 ≤ t.state ∧ t.state ≤ 3) && !s.staleKey t })
  { x with dpa := p / 64 * 64, mask := (2 ^ b.length - 1) * 2 ^ o, data := zeros o ++ b ++ zeros (64 - o - b.length), job := none
           remote := none, saw := saw }

/-- What a write's lookup sees (03 R95, R110, 09 R284 to R294): the place it writes, or none for a write that is dropped and counted.
A write that is held keeps what it saw. -/
def State.lookWrite (s : State) (x : HeldWrite) : Option Saw × State :=
  match x.saw with
  | some w => (some w, s)
  | none => match s.seen { ld := x.ld, job := x.job } x.dpa with
    | .ungranted => (none, s.bump 0x200 0x19 1)
    | .unattached | .noReference => (none, s.bump 0x900 0x1D 1)
    | .tile i _ ovl writes =>
      if !writes then (none, s.bump 0x900 0x1D 1)
      else
        let s := s.look i
        let e := s.entry i
        (some { index := i, region := (s.regionAt i).getD 0, overlay := ovl
                keyed := ovl.isNone && decide (1 ≤ e.state ∧ e.state ≤ 3) && !s.staleKey e
                version := ((ovl.bind (tabGet s.attaches)).map (·.ver)).getD 0 }, s)

/-- The stored tile a write goes to. -/
inductive Target where
  /-- Its attachment has ended. -/
  | gone
  /-- A copy waits for version space. -/
  | wait
  | tile (key : Nat) (s : State)
deriving DecidableEq, Repr

/-- The stored tile that a write's lookup names: the tile itself, or its version in the overlay, made where there is none (09 R290); an
attachment that has become read-only has no overlay (09 R311). -/
def State.target (s : State) (w : Saw) : Target :=
  let made (z : Option (Nat × State)) : Target := match z with
    | some (k, s) => .tile k s
    | none => .wait
  match w.overlay with
  | none => .tile w.index s
  | some a =>
    if w.published ≠ 0 then made (s.lateCopy w)
    else match tabGet s.attaches a with
      | none => .gone
      | some y =>
        let t := s.tileIn ((s.region w.region).getD (defaultRegion 0)) w.index
        if y.kind = 1 then .gone
        else match s.overlayOf a w.region t with
        | some k => .tile k s
        | none => made (s.overlayCopy a w.region t (s.resolve w.region t w.index y.base (some a)))

/-- Hold a write whose copy finds no version space: while the mover can still demote versions of the region within its far reserve the
write waits for that (09 R306). -/
def State.holdCopy (s : State) (x : HeldWrite) (r : Nat) (again : Option HoldFor) : State :=
  if s.versions.length < 8388608 ∧ !s.noneDemotable (16 + r) then s.hold x .space again
  else
    let s := s.hold x .versions again
    if again = some .versions then s
    else (s.bump 0x900 0x1E 1).raiseLimited (0x01520000 + r) 0x900 0x0152 r

/-- One attempt at a write: applied and completed, dropped, or held (01 R28, 03 R95, R114, 06 R195, 09 R284, R290). A write behind a
held one to its line is held with it. The residual write of an FR line completes it (04 R141). -/
def State.attempt (s : State) (x : HeldWrite) (again : Option HoldFor) : Nat → State
  | 0 => s
  | n + 1 =>
    if s.contained ∨ x.mask % 2 ^ 64 = 0 then s.completed x
    else if let .peer _ _ k := x.by_ then
      match s.held.find? (fun h => h.sameLine x) with
      | some h => s.hold x h.why again
      | none => match s.tryTile k guestRegion x with
        | (.held why, s) => s.hold x why again
        | (_, s) => s.completed x
    else match s.lookWrite x with
      | (none, s) => s.completed x
      | (some w, s) =>
        let x := { x with saw := some w }
        match s.held.find? (fun h => h.sameLine x) with
        | some h => s.hold { x with remote := none } h.why again
        | none =>
          if (s.entry w.index).state = 4 ∧ w.overlay.isNone then
            (if s.span.recalls.contains w.index then s.hold x .flip again else s.remoteWrite w.index x)
          else match s.target w with
            | .gone => (s.bump 0x900 0x1D 1).completed x
            | .wait => s.holdCopy x w.region again
            | .tile k s => match s.tryTile k w.region x with
              | (.done, s) => s.completed x
              | (.held why, s) => s.hold x why again
              | (.residual p b, s) => s.attempt (s.residualWrite x (s.tgt k) p b) none n

/-- A write of a host or a thread. -/
def State.write (s : State) (x : HeldWrite) : State := s.attempt x none 3

/-- A write held for space or for versions is traced when it goes on (19 R615 kind 0x0B). -/
def State.traceHeld (s : State) (x : HeldWrite) : State :=
  let unit := if x.why = .versions then 0x900 else 0x200
  if x.why ≠ .space ∧ x.why ≠ .versions then s
  else
    let region := (x.saw.map (·.region)).getD 0
    let (waiter, slot) := match x.by_ with
      | .host _ _ => (0x110 + x.ld, 0)
      | .thread t => (coreUnit t, t.slot.val)
      | .peer _ _ _ => (0xC00, 0)
      | .mover => (0x700, 0)
    s.traceWait unit { kind := 0x0B, party := x.ld, waiter := waiter, on_ := unit, pos := if x.job.isSome then some x.pos else none
                       flags := 16 * slot, cause := x.job.getD 0xFFFF, object := region, start := x.since, len := s.now - x.since }

/-- Try the held writes that satisfy `p` again, oldest first. -/
def State.retryHeld (s : State) (p : HeldWrite → Bool) : State :=
  let mine := s.held.filter p
  mine.foldl (fun s x =>
    let t := s.attempt x (some x.why) 3
    if t.held.any (fun h => h.by_ == x.by_ && h.dpa == x.dpa && h.since == x.since) then t else t.traceHeld x)
    { s with held := s.held.filter (fun h => !p h) }

/-- Held writes that a change of space, flips, queues or records may let through. -/
def State.retryLocal (s : State) : State :=
  s.retryHeld (fun h => h.why == .flip || h.why == .space || h.why == .crossbar || h.why == .versions || h.why == .poison)

end Sys2Proof.Machine
end

