-- ==== Sys2Proof/Machine/Reads.lean ====
section
/-!
DEFINITION. Host reads under way (06 R188, R203, R209, 14 R461, 16 R555): starting, collecting parts, answering.
-/
namespace Sys2Proof.Machine

/-! ## Starting -/

/-- A demand read may promote its tile (06 R203, R214). -/
def State.demandPromote (s : State) (k : Nat) : State :=
  let e := s.tgt k
  let ld := s.moveLd e
  let shared := (s.region e.region).any Region.shared
  if (e.state = 1 ∨ e.state = 3) ∧ e.home ≥ 2 ∧ e.frequency ≥ s.obj 0x700 0x110 0
      ∧ (shared = true ∨ s.obj 0x700 (0x130 + ld) 0 = 0) then
    match s.startMove k 1 1 2 .demandRead with
    | some (_, s) => s
    | none => (s.noteWaits k 1 1 2 .demandRead).promoteWake k
  else s

/-- A read of a REMOTE tile asks its holder for each frame line; an unreachable holder's is poison (16 R555, R556). -/
def State.readRemote (s : State) (o : Asker) (dpa k : Nat) : State :=
  let e := s.remoteForm k
  if s.span.unreachable.contains e.holder then
    (s.bump 0xC00 0x1B 1).deliver o.view.ld o.leg o.tag o.load none
  else
    let (a, s) := s.beginRead o dpa k e .remote []
    a.needs.foldl (fun s f => s.lineRequest k e 0x10 f (some a.id) none []) s

/-- A line read at a DPA (06 R188, 03 R95, R105, 09 R284, 18 R588, R597). -/
def State.readAt (s : State) (o : Asker) (dpa : Nat) : State :=
  let out (s : State) (d : Option Bytes) : State := s.deliver o.view.ld o.leg o.tag o.load d
  if s.contained then out s none
  else match s.seen o.view dpa with
    | .ungranted => out (s.bump 0x200 0x19 1) none
    | .unattached | .noReference => out (s.bump 0x900 0x1D 1) none
    | .tile i key _ _ =>
      let s := s.look i
      match key with
      | none => out s (some (zeros 64))
      | some k =>
        let e := s.tgt k
        if e.state = 4 then
          (if (s.poisonSet k).testBit (dpa / 64 % 1024) then let r := s.readPoison k (dpa / 64 % 1024); out r.2 none
           else s.readRemote o dpa k)
        else match (if s.isLoad o then s.movesToCaddy k else none) with
          | some m => s.loadMoving o dpa k m
          | none =>
            let t := s.readHome o dpa k
            if s.staleKey e ∨ (s.poisonSet k).testBit (dpa / 64 % 1024) then t else t.demandPromote k

/-- A host read at a DPA, on a leg. -/
def State.hostRead (s : State) (ld leg dpa tag : Nat) : State :=
  s.readAt { view := { ld := ld }, leg := leg, tag := tag, req := ld } dpa

/-- The promotion that has read the whole record a read waits for, and written it: the record is read once for both (07 R237, its worked
example). -/
def State.copiedFrom (s : State) (a : Access) : Option Move :=
  let e := s.tgt a.key
  if e.state = 2 ∧ e.home = 2 ∧ e.location = a.entry.location then
    (s.move e.moveTag).filter (fun m => decide (m.dst.home ≤ 1) && m.ready)
  else none

/-- The far sectors of a read have arrived (07 R237, R238): the line, or poison. Poison set since its lookup is not looked at (03
R110). -/
def State.finishFar (s : State) (a : Access) (bad : List FarBad) : State :=
  if let some m := s.copiedFrom a then
    (if (s.poisonSet a.key).testBit a.line then s.answerPoison a
     else let r := s.readReadyLineAs a.coded a.key m.dst a.line a.req; r.2.answerRead a r.1)
  else match s.readRecordLineAs a.coded a.key a.entry a.line a.req (farFetch a.entry.location a.entry.length bad) with
    | (some d, s) => s.answerRead a (some d)
    | (none, s) => s.answerPoison a

/-- The record of a read has come from host memory (05 R172). -/
def State.finishDma (s : State) (a : Access) (data : Bytes) : State :=
  let e := a.entry
  match s.readRecordLineAs a.coded a.key e a.line a.req (hostFetch (e.location / 2 ^ 40) (e.location % 2 ^ 40) 0 data) with
    | (some d, s) => s.answerRead a (some d)
    | (none, s) => s.answerPoison a

end Sys2Proof.Machine
end

