-- ==== Sys2Proof/Machine/Slots.lean ====
section
/-!
DEFINITION. The slots of partitioned QoS mode (10 R336, R337): the slot map, and what of a near-tier channel a slot may issue.
-/
namespace Sys2Proof.Machine

/-! ## The slot map (10 R337) -/

/-- Slots of a round that no share takes (10 R336). -/
def State.idleSlots (s : State) : Nat :=
  256 - ((List.range 16).foldl (fun a n => a + s.obj 0x700 (0x140 + n) 0) 0 + s.obj 0x700 0x150 1)

/-- The shares of the 16 LDs, of the module and of the idle remainder: the weights of 10 R337. -/
def State.slotWeights (s : State) : List Nat :=
  (List.range 16).map (fun n => s.obj 0x700 (0x140 + n) 0) ++ [s.obj 0x700 0x150 1, s.idleSlots]

/-- One slot of smooth weighted round robin: every credit grows by its weight, the largest is served, the lower entry on a
tie. -/
def slotStep (w : List Nat) (c : List Int) : Nat × List Int :=
  let c := (c.zip w).map (fun p => p.1 + (p.2 : Int))
  let i := (List.range c.length).foldl (fun b k => if nth c k 0 > nth c b 0 then k else b) 0
  (i, c.set i (nth c i 0 - 256))

/-- The entries served in `n` slots. -/
def slotRun (w : List Nat) : Nat → List Int → List Nat
  | 0, _ => []
  | n + 1, c => let (i, c) := slotStep w c; i :: slotRun w n c

/-- The shares in force in a round of `len` ns: a write takes effect at the next round boundary (10 R337). -/
def State.roundWeights (s : State) (len : Nat) : List Nat :=
  let start := s.now / len * len
  ((s.shareLog.filter (fun x => decide (start ≤ x.1))).getLast?.map (·.2)).getD s.slotWeights

/-- Shares are about to be written: the ones until now stay in force until each resource's round ends, of which the longest takes 128 µs
(10 R336, R337). -/
def State.noteShares (s : State) : State :=
  { s with shareLog := ((s.now, s.slotWeights) :: s.shareLog).filter (fun x => decide (s.now < x.1 + 128000)) }

/-- The slot map 0000:132.00: all 0xFF in shared mode. -/
def State.slotMap (s : State) : Bytes :=
  if s.obj 0 0x131 0 = 1 then
    (slotRun (s.roundWeights 4096) 256 (List.replicate 18 0)).map (fun i => BitVec.ofNat 8 (if i = 17 then 0xFF else i))
  else List.replicate 256 0xFF

/-! ## Near-tier channels (10 R336) -/

/-- The party whose slot it is on a near-tier channel, in slots of 16 ns: an LD, 16 for the module, 17 for idle; none in shared mode. -/
def State.nearSlot (s : State) : Option Nat :=
  if s.partitioned then some (nth (slotRun (s.roundWeights 4096) 256 (List.replicate 18 0)) (s.now / 16 % 256) 17) else none

/-- The party whose work a granule access is: the host's LD; the module for the control complex, patrol and the map; else the LD
that owns the tile (log entry 47). -/
def State.granParty (s : State) (requester g : Nat) : Nat :=
  if requester < 16 then requester
  else if requester ≥ 0x58 then 16
  else match (s.tileAtGran g).bind (fun k => s.region (s.tgtRegion k)) with
    | some x => if x.shared ∨ x.owner ≥ 16 then 16 else x.owner
    | none => 16

/-- What of a channel's queues its slot may issue: in partitioned mode the slot's party's requests (10 R336; log
entry 47). -/
def State.slotView (s : State) (x : Chan) : Chan :=
  match s.nearSlot with
  | none => x
  | some p => { x with
      reads := x.reads.filter (fun r => s.granParty r.requester r.gran == p)
      wq := x.wq.filter (fun q => match q.body with
        | .raw g _ => s.granParty q.requester g == p
        | .coded e => s.granParty q.requester (16 * e.loc) == p) }

/-- The party of a requester: a host's LD, the LD of a cluster's context, else the module (14 R475). -/
def State.requesterParty (s : State) (n : Nat) : Nat :=
  if n < 16 then n
  else if n < 0x50 then (if (s.cluster (n - 16)).context < 16 then (s.cluster (n - 16)).context else 16)
  else 16

/-- Whether work of a party on the channels may go on now: in partitioned mode only in its slots (10 R336, 14 R470). -/
def State.slotFor (s : State) (party : Nat) : Bool := s.nearSlot.all (· == party)

/-- The end of a slot in partitioned mode: the banks opened in it are precharged (10 R336). -/
def State.endSlot (s : State) (ch : Nat) : State :=
  let x := s.chan ch
  if !s.partitioned ∨ x.slot = s.now / 16 then s
  else
    let s := x.openRows.foldl (fun s r => s.shutBank ch r.1) s
    s.setChan ch { x.openRows.foldl (fun x r => x.noted (.precharge r.1)) (s.chan ch) with slot := s.now / 16 }

end Sys2Proof.Machine
end

