-- ==== Sys2Proof/Machine/NearCmds.lean ====
section
/-!
DEFINITION. The near-tier commands (14 R461 to R499): the pick, refresh, row disturbance, reads, merges, retraining, repair.
-/
namespace Sys2Proof.Machine

/-! ## Refresh (14 R471 to R473) -/

/-- Whether the near tier is trained and a channel's refresh is due. -/
def State.refreshDue (s : State) (ch : Nat) : Bool :=
  let x := s.chan ch
  (s.stage == .filling || s.stage == .running) && !x.selfRefresh && decide (s.now ≥ x.nextRefresh)

/-- An all-bank refresh: every bank is precharged, the channel stalls for 410 ns, the requests that meet it are delayed, and the trackers clear
every 8,192 commands (14 R471, R472, R474). -/
def State.doRefresh (s : State) (ch : Nat) : State :=
  let s := (s.chan ch).openRows.foldl (fun s r => s.shutBank ch r.1) s
  let x := s.chan ch
  let n := x.refreshes + 1
  let y := { x.noted .refreshAll with
    refreshes := n, nextRefresh := s.refreshAfter ch x x.nextRefresh, stallUntil := s.now + 410
    trackers := if n % 8192 = 0 then [] else x.trackers
    throttles := if n % 8192 = 0 then [] else x.throttles }
  ((s.setChan ch y).bump (0x510 + ch) 0x1C 410).bump (0x510 + ch) 0x1D (x.reads.length + x.wq.length)

/-- REFRESH (14 R471). -/
def execRefresh (ch : Fin 32) (s : State) : Host.Outcome State Fault Refusal :=
  finish s (if (s.stage = .filling ∨ s.stage = .running) ∧ !(s.chan ch).selfRefresh then s.doRefresh ch else s)

/-! ## The pick (14 R462 to R469) -/

/-- The place of a requester's reads in the order of 14 R462: real-time 4, bulk 6, background 8 (14 R467). -/
def requesterOrder (n : Nat) : Nat :=
  if n ≤ 0xF ∨ n = 0x50 ∨ n = 0x52 ∨ (0x54 ≤ n ∧ n ≤ 0x57) then 4 else if n ≤ 0x53 then 6 else 8

/-- The place of a queued read: panic by age, by its port's buffer level, or its requester's level (14 R462, R468, R469). The levels are the
host port's and those of the four stream ports. -/
def State.readOrder (s : State) (r : RdReq) (host : Nat) (streams : List Nat) : Nat :=
  if r.panic ∨ (r.requester ≤ 0xF ∧ host ≥ s.obj 0x500 0x130 0)
    ∨ (0x54 ≤ r.requester ∧ r.requester ≤ 0x57 ∧ nth streams (r.requester - 0x54) 0 ≥ s.obj 0x500 0x130 1) then 3
  else requesterOrder r.requester

/-- The burst a queued read needs next: its slice's check bytes, then its data (14 R459, R461). -/
def State.readTarget (s : State) (r : RdReq) : Nat :=
  let bs := (s.granPlace r.gran).2
  if r.check then bs.1 else bs.2.1

/-- The granule and the burst a queued write needs next: the check burst to read, its data, and the check burst to write (14 R464). -/
def State.writeTarget (s : State) (q : WqEntry) : Option (Nat × Nat) := match q.body with
  | .raw g _ =>
    let bs := (s.granPlace g).2
    some (g, if q.stage = 1 then bs.1 else bs.2.1)
  | .coded _ => none

/-- Whether a burst lies in its bank's open row. -/
def Chan.hits (x : Chan) (b : Nat) : Bool := tabGet x.openRows (burstBank b) == some (burstRow b)

/-- Whether an open row may still serve page hits of a bank: no waiting request for another row has been passed the limit
of times (14 R463). -/
def State.mayHit (s : State) (ch : Nat) (x : Chan) (bank : Nat) : Bool :=
  let limit := s.obj (0x510 + ch) 0x110 0
  let lets (b n : Nat) : Bool := burstBank b != bank || x.hits b || decide (n < limit)
  x.reads.all (fun r => lets (s.readTarget r) r.bypassed) && x.wq.all (fun q => (s.writeTarget q).all (fun t => lets t.2 q.bypassed))

/-- Whether a requester may activate in a bank now (14 R476). -/
def State.mayActivate (s : State) (x : Chan) (bank n : Nat) : Bool :=
  x.throttles.all (fun t => !(t.bank == bank && t.requester == n) || decide (t.nextAt ≤ s.now))

/-- The distance of a bank from the rotating pointer. -/
def Chan.fromPointer (x : Chan) (bank : Nat) : Nat := (bank + 32 - x.pointer) % 32

/-- The first of a list whose bank is nearest to the pointer. -/
def nearestBank {α : Type} (x : Chan) (bank : α → Nat) (l : List α) : Option α :=
  l.foldl (fun m r => match m with
    | none => some r
    | some b => if x.fromPointer (bank r) < x.fromPointer (bank b) then some r else some b) none

/-- The read a level chooses: page hits before activates, banks from the pointer, oldest first within a bank. -/
def State.chooseRead (s : State) (ch : Nat) (x : Chan) (order host : Nat) (streams : List Nat) : Option RdReq :=
  let mine := x.reads.filter (fun r => s.readOrder r host streams == order)
  let bankOf (r : RdReq) : Nat := burstBank (s.readTarget r)
  match nearestBank x bankOf (mine.filter (fun r => x.hits (s.readTarget r) && (r.opened || s.mayHit ch x (bankOf r)))) with
  | some r => some r
  | none => nearestBank x bankOf (mine.filter (fun r => !x.hits (s.readTarget r) && s.mayActivate x (bankOf r) r.requester))

/-- A data access has been made to an open row: it is a page hit unless the row was opened for it, and the requests of the bank for another row
have been passed once more (14 R463). -/
def State.rowUsed (s : State) (ch bank : Nat) (opened : Bool) : State :=
  let x := s.chan ch
  let other (b : Nat) : Bool := burstBank b == bank && !x.hits b
  if opened then s
  else
    (s.setChan ch { x with
      reads := x.reads.map (fun q => if other (s.readTarget q) then { q with bypassed := q.bypassed + 1 } else q)
      wq := x.wq.map (fun q => if (s.writeTarget q).any (fun t => other t.2) then { q with bypassed := q.bypassed + 1 } else q) }).bump
        (0x510 + ch) 0x1A 1

/-- A request that a throttle made wait is issued: its wait is counted (14 R476). -/
def State.throttleWait (s : State) (ch : Nat) (since : Option Nat) : State := match since with
  | some t => s.bump (0x510 + ch) 0x24 (s.now - t)
  | none => s

/-- The requests that only a throttle makes wait from now on (14 R476). -/
def State.noteThrottled (s : State) (ch : Nat) : State :=
  let x := s.chan ch
  let held (b n : Nat) : Bool := !x.hits b && !s.mayActivate x (burstBank b) n
  if x.throttles.isEmpty then s
  else s.setChan ch { x with
    reads := x.reads.map (fun r => if r.waited.isNone && held (s.readTarget r) r.requester then { r with waited := some s.now } else r)
    wq := x.wq.map (fun q => if q.waited.isNone && (s.writeTarget q).any (fun t => held t.2 q.requester) then { q with waited := some s.now } else q) }

/-- One command for a read: a precharge of another row, an activate, its slice's check bytes, which serve every granule of the slice that is
queued, or its data. A granule that has been queued for writing meanwhile is taken from there (14 R461, R463, R465). -/
def State.issueRead (s : State) (ch : Nat) (r : RdReq) : State :=
  let x := s.chan ch
  let b := s.readTarget r
  let bank := burstBank b
  let without (f : RdReq → RdReq) : List RdReq := x.reads.map (fun q => if q = r then f q else q)
  match x.queuedRaw r.gran with
  | some w => ((s.setChan ch { x with reads := x.reads.erase r }).forward r w).fillBanks ch
  | none =>
    if x.hits b then
      if r.check then
        let s := s.setChan ch { x.noted (.read r.gran r.requester false) with
          reads := x.reads.erase r, inflight := x.inflight ++ [r], replayTimes := [], lastUse := s.now }
        ((s.rowUsed ch bank r.opened).throttleWait ch r.waited).fillBanks ch
      else s.setChan ch { x.noted (.read r.gran r.requester true) with
        reads := x.reads.map (fun q => if q.gran / 8 = r.gran / 8 then { q with check := true } else q), replayTimes := [], lastUse := s.now }
    else if (tabGet x.openRows bank).isSome then s.precharge ch bank
    else
      let s := s.setChan ch { x with reads := without (fun q => { q with opened := true, waited := none }) }
      (s.throttleWait ch r.waited).activate ch bank (burstRow b) r.requester

/-- The granules of whole slices in the queue, of which no check bytes are read (14 R464). -/
def Chan.gather (x : Chan) : Chan :=
  let has (g : Nat) : Bool := x.wq.any (fun q => match q.body with
    | .raw g' _ => g' == g && q.stage == 0
    | .coded _ => false)
  { x with wq := x.wq.map (fun q => match q.body with
      | .raw g _ => if q.stage = 0 ∧ (List.range 8).all (fun i => has (g / 8 * 8 + i)) then { q with stage := 1, whole := true } else q
      | .coded _ => q) }

/-- The write-queue entry a drain takes, as the reads of a level are: of a slice written whole the check bytes go last. -/
def State.chooseWrite (s : State) (ch : Nat) (x : Chan) : Option WqEntry :=
  let waits (g : Nat) : Bool := x.wq.any (fun q => q.whole && q.stage == 1 && (s.writeTarget q).any (fun t => t.1 / 8 == g / 8))
  let ready := x.wq.filter (fun q => (s.writeTarget q).any (fun t => !(q.whole && q.stage == 2 && waits t.1)))
  let burst (q : WqEntry) : Nat := ((s.writeTarget q).map (·.2)).getD 0
  let bankOf (q : WqEntry) : Nat := burstBank (burst q)
  match nearestBank x bankOf (ready.filter (fun q => x.hits (burst q) && (q.opened || s.mayHit ch x (bankOf q)))) with
  | some q => some q
  | none => nearestBank x bankOf (ready.filter (fun q => !x.hits (burst q) && s.mayActivate x (bankOf q) q.requester))

/-- Queued writes of a slice whose data bursts are written are done with its check burst: they leave the queue, and the devices hold them
(14 R464, R483). -/
def State.writesDone (s : State) (ch slice : Nat) : State :=
  let x := s.chan ch
  let done (q : WqEntry) : Option (Nat × Bytes × Nat) := match q.body with
    | .raw g w => if g / 8 = slice ∧ q.stage = 2 then some (g, w, q.requester) else none
    | .coded _ => none
  let s := s.setChan ch { x with wq := x.wq.filter (fun q => (done q).isNone) }.drainUpdate
  let parity (s : State) (g n : Nat) : State :=
    let pl := s.granPlace g
    if s.parityOn then s.reach (parityChan pl.1 (placeBlock s.parityOn (g / 16)).2.2.2) pl.2 g n true else s
  ((x.wq.filterMap done).foldl (fun s d => (parity s d.1 d.2.2).writeGranule d.1 d.2.1) s).retryHeld (·.why == .crossbar)

/-- One command for a queued write (14 R464). -/
def State.issueWrite (s : State) (ch : Nat) (q : WqEntry) : State :=
  let x := s.chan ch
  match s.writeTarget q with
  | none => s
  | some (g, b) =>
    let bank := burstBank b
    let with_ (p : WqEntry → Bool) (f : WqEntry → WqEntry) : List WqEntry := x.wq.map (fun e => if p e then f e else e)
    let inSlice (e : WqEntry) : Bool := (s.writeTarget e).any (fun t => t.1 / 8 == g / 8)
    let sent (c : NtCmd) (l : List WqEntry) : State :=
      s.setChan ch { x.noted c with wq := l, replayTimes := [], crcRun := 0, lastUse := s.now }
    if x.hits b then
      if q.stage = 0 then sent (.read g q.requester true) (with_ (fun e => inSlice e && e.stage == 0) (fun e => { e with stage := 1 }))
      else if q.stage = 1 then
        ((sent (.write g q.requester false) (with_ (· == q) (fun e => { e with stage := 2 }))).rowUsed ch bank q.opened).throttleWait ch q.waited
      else (sent (.write g q.requester true) x.wq).writesDone ch (g / 8)
    else if (tabGet x.openRows bank).isSome then s.precharge ch bank
    else
      let s := s.setChan ch { x with wq := with_ (· == q) (fun e => { e with opened := true, waited := none }) }
      (s.throttleWait ch q.waited).activate ch bank (burstRow b) q.requester

/-- The panic time of a channel: counted when its last panic request goes (14 R469). -/
def State.panicClock (s : State) (ch host : Nat) (streams : List Nat) : State :=
  let x := s.chan ch
  let any := x.reads.any (fun r => s.readOrder r host streams == 3)
  match any, x.panicSince with
  | true, none => s.setChan ch { x with panicSince := some s.now }
  | false, some t => (s.setChan ch { x with panicSince := none }).bump (0x510 + ch) 0x25 (s.now - t)
  | _, _ => s

/-- The neighbour row that the slot may refresh: in partitioned mode one row in a slot, in slots of the requester it is due to (14 R475). -/
def State.neighbourDue (s : State) (x : Chan) : Option Neighbour :=
  if x.neighbourSlot = s.now / 16 + 1 then none else x.neighbours.find? (fun n => s.slotFor (s.requesterParty n.requester))

/-- A neighbour row is refreshed in its bank, whose row closes. -/
def State.refreshNeighbour (s : State) (ch : Nat) (n : Neighbour) : State :=
  let s := s.shutBank ch n.bank
  let s := s.setChan ch { s.chan ch with neighbours := (s.chan ch).neighbours.erase n, neighbourSlot := s.now / 16 + 1 }
  if n.last then s.bump (0x510 + ch) 0x23 1 else s

/-- The command slot of a channel that serves: the levels of 14 R462 in order, of what its slot may issue (10 R336). -/
def State.pick (s : State) (ch host : Nat) (streams : List Nat) : State :=
  let s := s.endSlot ch
  let s := (s.setChan ch (s.chan ch).gather).noteThrottled ch
  let full := decide ((s.chan ch).wq.length ≥ 64)
  let x := s.slotView (s.chan ch)
  let drain (yes : Bool) (k : State) : State := if yes then
      match s.chooseWrite ch x with
      | some q => s.issueWrite ch q
      | none => k
    else k
  let read (order : Nat) (k : State) : State := match s.chooseRead ch x order host streams with
    | some r => s.issueRead ch r
    | none => k
  match s.neighbourDue x with
  | some n => s.refreshNeighbour ch n
  | none => drain full (read 3 (read 4 (drain x.drain (read 6 (drain true (read 8 s))))))

/-- A lost channel issues nothing to its device: its reads go to rebuild or poison, its writes to the parity (14 R484). -/
def State.pickLost (s : State) (ch : Nat) : State :=
  let x := s.slotView (s.chan ch)
  match x.reads with
  | r :: _ => (s.setChan ch { s.chan ch with reads := (s.chan ch).reads.erase r, inflight := (s.chan ch).inflight ++ [r] }).fillBanks ch
  | [] => match s.chooseWrite ch { x with openRows := [], throttles := [] } with
    | some q => match s.writeTarget q with
      | some (g, _) =>
        (s.setChan ch { s.chan ch with wq := (s.chan ch).wq.map (fun e => if e = q then { e with stage := 2 } else e) }).writesDone ch (g / 8)
      | none => s
    | none => s

/-- COMMAND_ISSUE (14 R462): a refresh that is due comes first, and nothing is issued while one stalls the channel (14 R472); a channel in
self-refresh with requests leaves it (14 R495); a channel that retrains makes its requests wait (14 R487). The command carries the buffer
levels of the host port and of the four stream ports (14 R468). -/
def execCommandIssue (ch : Fin 32) (host : Fin 17) (levels : StreamLevels) (s : State) : Host.Outcome State Fault Refusal :=
  let x := s.chan ch
  let streams := [levels.p0.val, levels.p1.val, levels.p2.val, levels.p3.val]
  let t :=
    if s.stage ≠ .running ∧ s.stage ≠ .filling then s
    else if s.chanDown ch then s.pickLost ch
    else if x.retraining ∨ s.now < x.stallUntil then s
    else if x.selfRefresh then (if x.reads.isEmpty && x.wq.isEmpty then s else s.wakeChannel ch)
    else if s.refreshDue ch then s.doRefresh ch
    else s.pick ch host streams
  finish s (t.panicClock ch host streams)

/-- REQUEST_AGING (14 R469). -/
def execRequestAging (ch : Fin 32) (s : State) : Host.Outcome State Fault Refusal :=
  let x := s.chan ch
  let old (r : RdReq) : Bool := decide (r.since + s.obj 0x500 0x131 0 < s.now)
  let t := s.setChan ch { x with reads := x.reads.map (fun r => if old r then { r with panic := true } else r) }
  finish s (if x.reads.any old then t.panicClock ch 0 [] else s)

/-! ## Reads, patrol and merges -/

/-- A granule stays uncorrectable without an access that asks for it: its tile's lines are poisoned, and where it is of no tile the RAS unit
still gets its log entry (14 R480, 18 R585, R587). -/
def State.granuleLost (s : State) (g requester : Nat) : State :=
  let (ch, bs) := s.granPlace g
  match s.tileAtGran g with
  | some k => s.poisonFrames k (s.tgt k) [g - 16 * (s.tgt k).location] requester
  | none => (s.logError { unitError 3 0 (0x510 + ch) ch with
      home := 1, requester := requester, location := granLocation ch bs g }).2

/-- A patrol read is written back corrected (14 R481). -/
def State.patrolled (s : State) (ch g : Nat) (d : GranRead) : State := match d with
  | some d => if s.chanLost ch then s else s.setDeviceGranule ch (s.granPlace g).2 (rsEncode d)
  | none => s.granuleLost g 0x59

/-- GRANULE_READ_COMPLETE (14 R479 to R481): the oldest issued read of the channel returns, with the bad bytes of its first
and second read. -/
def execGranuleReadComplete (ch : Fin 32) (err1 err2 : List ByteErr) (s : State) : Host.Outcome State Fault Refusal :=
  let x := s.chan ch
  finish s (match x.inflight with
    | [] => s
    | r :: rest =>
      let s := s.setChan ch { x with inflight := rest, crcRun := 0 }
      let queued := ((s.chan (s.granChan r.gran)).queuedRaw r.gran).isSome
      let (d, t) := s.takeGranule r.gran r.requester err1 err2
      if r.patrol then (if queued then t else t.patrolled ch r.gran d)
      else match t.accesses.find? (·.id == r.access) with
        | some a => t.partDone a.id (r.gran - 16 * a.entry.location) (s.asBegun a r.gran err1 err2 d)
        | none => if d.isSome then t else t.granuleLost r.gran r.requester)

/-- PATROL_READ (14 R481): the patrol asks for a granule of an open segment, by its block's place on the channel, blocks of parity among
them; the read queues in the background level. A block the channel does not have is a fault. -/
def execPatrolRead (ch : Fin 32) (block : Nat) (granule : Fin 16) (s : State) : Host.Outcome State Fault Refusal :=
  let g := 16 * blockAt s.parityOn ch.val block + granule.val
  if block ≥ chanBlocks then .fault .addressOutside
  else if !s.segOpen (s.granSeg g) ∨ s.stage ≠ .running then .next s
  else finish s (s.enqueueRead { access := 0, gran := g, requester := 0x59, patrol := true })

/-- The oldest coded entry of a channel's write queue. -/
def Chan.firstCoded (x : Chan) : Option (WqEntry × FrEntry) :=
  x.wq.findSome? (fun q => match q.body with
    | .coded e => some (q, e)
    | .raw _ _ => none)

/-- FR_WRITE_MERGE (14 R466): the oldest coded entry becomes granule writes, once their queues take them. -/
def execFrWriteMerge (ch : Fin 32) (s : State) : Host.Outcome State Fault Refusal :=
  let x := s.chan ch
  finish s (match x.firstCoded with
    | none => s
    | some (q, e) =>
      let form : TileEntry := { s.tgt e.mapIndex with elem := e.ty, frWidth := frCode e.width, location := e.loc, home := 1 }
      let t := s.setChan ch (Chan.drainUpdate { x with wq := x.wq.erase q })
      if s.slotFor (s.granParty q.requester (16 * e.loc)) = false then s
      else if (form.needs e.line).all (fun f => t.queueTakes (16 * e.loc + f)) then
        ((t.mergeEntry e false).slotCheck false e.slot).retryHeld (·.why == .crossbar)
      else s)

/-! ## Link errors (14 R485 to R487) -/

/-- A channel starts to retrain (14 R487). -/
def State.retrain (s : State) (ch : Nat) : State :=
  s.setChan ch { s.chan ch with retraining := true, openRows := [], crcRun := 0, replayTimes := [] }

/-- A buffered command goes on the bus again, with the activate it needs (14 R474, R485). -/
def State.replayOne (s : State) (ch : Nat) (c : NtCmd) : State :=
  let x := s.chan ch
  let transfer (g n : Nat) (check : Bool) : State :=
    let bs := (s.granPlace g).2
    let b := if check then bs.2.1 else bs.1
    if x.hits b then s else s.activateRow ch (burstBank b) (burstRow b) n
  match c with
  | .precharge bank => s.shutBank ch bank
  | .activate bank row n => s.activateRow ch bank row n
  | .read g n check => transfer g n check
  | .write g n check => transfer g n check
  | .refreshAll => x.openRows.foldl (fun s r => s.shutBank ch r.1) s

/-- CA_PARITY_ALERT (14 R485): every bank is precharged and the buffered commands are replayed; an alert with no command
since the last one is a failed replay, and four in a row within 10 µs start retraining (14 R487). -/
def execCaParityAlert (ch : Fin 32) (s : State) : Host.Outcome State Fault Refusal :=
  let x := s.chan ch
  let times := (x.replayTimes ++ [s.now]).filter (fun t => decide (t + 10000 ≥ s.now))
  let t := x.openRows.foldl (fun s r => s.shutBank ch r.1) s
  let t := x.retry.foldl (fun s c => s.replayOne ch c) t
  let t := t.setChan ch { t.chan ch with replayTimes := times }
  let t := (t.bump (0x510 + ch) 0x21 1).bump (0x510 + ch) 0x11 1
  finish s (if times.length ≥ 5 then t.retrain ch else t)

/-- A burst failed its CRC: it is transferred again, and the fourth failure in a row starts retraining (14 R486, R487). -/
def State.crcFailure (s : State) (ch : Nat) : State :=
  let x := s.chan ch
  let s := (s.setChan ch { x with crcRun := x.crcRun + 1 }).bump (0x510 + ch) 0x22 1
  if x.crcRun + 1 ≥ 4 then s.retrain ch else s

/-- READ_CRC_FAILURE (14 R486): a burst of an issued read. -/
def execReadCrcFailure (ch : Fin 32) (s : State) : Host.Outcome State Fault Refusal :=
  finish s (if (s.chan ch).inflight.isEmpty then s else s.crcFailure ch)

/-- WRITE_CRC_FAILURE (14 R486): the write is written again. -/
def execWriteCrcFailure (ch : Fin 32) (s : State) : Host.Outcome State Fault Refusal := finish s (s.crcFailure ch)

/-- RETRAINING_COMPLETE (14 R487, 18 R585). -/
def execRetrainingComplete (ch : Fin 32) (ok : Bool) (s : State) : Host.Outcome State Fault Refusal :=
  let x := s.chan ch
  finish s (if !x.retraining then s
    else
      let s := s.setChan ch { x with retraining := false }
      if ok then s.logUnit 2 4 (0x510 + ch) ch else s.loseDevice ch 0x0101 0)

/-! ## Repair (14 R489 to R491) -/

/-- The granules of a row of a bank that the check step corrects are corrected; the others stay as read (14 R490). -/
def State.correctRow (s : State) (ch bank row : Nat) : State :=
  let c := s.obj 0x500 0x101 0
  (List.range 64).foldl (fun s i =>
    let b := row * 2048 + bank * 64 + i
    let o := b % 12582912 % 18
    let bs := granuleBursts (b - o) (8 * (o / 9) + o % 9)
    if b % 12582912 ≥ 12582900 ∨ o % 9 = 8 then s
    else match rsDecode c (s.deviceGranule ch bs) with
      | .data w n => if n = 0 then s else s.setDeviceGranule ch bs w
      | .uncorrectable => s) s

/-- ROW_REMAP (14 R490): the first candidate row of the channel goes to its bank's lowest free spare row, in the module's slots (14 R470); a
bank whose spare rows have run out raises 0x0194 once, and its later candidates are logged. -/
def execRowRemap (ch : Fin 32) (s : State) : Host.Outcome State Fault Refusal :=
  let x := s.chan ch
  finish s (match x.candidates with
    | [] => s
    | (bank, row) :: rest =>
      let k := 65536 * bank + row
      let taken := x.remap.filterMap (fun m => if m.1 / 65536 = bank then some m.2 else none)
      if s.slotFor 16 = false then s
      else if (tabGet x.remap k).isSome then s.setChan ch { x with candidates := rest, corrected := tabDel x.corrected k }
      else match firstBelow 64 (fun i => !taken.contains i) with
        | none =>
          let t := s.setChan ch { x with candidates := rest, corrected := tabDel x.corrected k, spent := bank :: x.spent }
          if x.spent.contains bank then t.logUnit 1 0 (0x510 + ch) ch else t.raise (0x510 + ch) 0x0194 bank
        | some sp =>
          let s := (s.setChan ch { x with candidates := rest, corrected := tabDel x.corrected k }).correctRow ch bank row
          let b := row * 2048 + bank * 64
          let src := nearKey ch b 0
          let dst := nearKey ch ((3007 + sp) * 2048 + bank * 64) 0
          let s := { s with near := memWrite s.near dst (memRead s.near src 4096) }
          let s := s.setChan ch { s.chan ch with remap := tabSet x.remap k sp }
          let m : RepairEntry := { kind := 1, unit := ch, bank := bank, row := row, spare := sp }
          let s := { s with repairMap := s.repairMap ++ [m], repairSeq := s.repairSeq + 1 }
          s.raise (0x510 + ch) 0x0192 (row + 65536 * bank))

/-! ## Temperature and timing (14 R473, R499) -/

/-- A device's temperature is held against the threshold: the interval halves or returns, with event 0x0193 (14 R473). -/
def State.feelHeat (s : State) (ch : Nat) (celsius : Int) : State :=
  let x := s.chan ch
  let thr : Int := sextNat 8 (s.obj 0x500 0x103 0)
  let hot := if celsius ≥ thr then true else if celsius ≤ thr - 5 then false else x.hot
  let x' := { x with temperature := celsius, hot := hot }
  let x' := if hot = x.hot then x' else { x' with nextRefresh := s.refreshAfter ch x' s.now }
  let t := s.setChan ch x'
  if hot = x.hot then t else t.raise (0x510 + ch) 0x0193 (b2n hot)

/-- DEVICE_TEMPERATURE_CHANGE (14 R473). -/
def execDeviceTemperatureChange (ch : Fin 32) (celsius : Int) (s : State) : Host.Outcome State Fault Refusal :=
  finish s (s.feelHeat ch celsius)

/-- A write of the high-temperature threshold, which is live: every device is held against it (14 R473). -/
def State.heatWrite (s : State) (v : Nat) : State :=
  (List.range 32).foldl (fun s ch => s.feelHeat ch (s.chan ch).temperature) (s.setObj 0x500 0x103 0 v)

/-- TIMING_RECENTRE (14 R499): a small update changes timing only; a large one starts retraining. -/
def execTimingRecentre (ch : Fin 32) (large : Bool) (s : State) : Host.Outcome State Fault Refusal :=
  finish s (if large && !s.chanLost ch then s.retrain ch else s)

end Sys2Proof.Machine
end

