-- ==== Sys2Proof/Machine/Policy.lean ====
section
/-!
DEFINITION. The built-in policy and evacuation (06 R203 to R205, R210 to R214, 08 R267, 09 R287): which moves the mover may start of its
own, of which tile, and in which class.
-/
namespace Sys2Proof.Machine

/-! ## Thresholds (06 R203) -/

/-- Whether a payer's charge in a tier has reached a percentage of its share. -/
def State.reaches (s : State) (p tier pct : Nat) : Bool := decide (100 * s.charge p tier ≥ pct * s.shareOf p tier)

/-- A policy threshold 0700:110 to 0700:116. -/
def State.threshold (s : State) (o : Nat) : Nat := s.obj 0x700 o 0

/-- The age of a tile in epochs (06 R200). -/
def State.ageOf (s : State) (e : TileEntry) : Nat := (s.obj 0x700 0x101 0 + 256 - e.recency) % 256

/-- Demotion of a payer's T1 tiles starts at the share 0700:112 and goes on until its charge has fallen to 0700:113 (06 R203). -/
def State.watermark (s : State) (p : Nat) : State :=
  let low := decide (100 * s.charge p 1 ≤ s.threshold 0x113 * s.shareOf p 1)
  let rest := s.demoting.filter (· != p)
  if s.demoting.contains p then (if low then { s with demoting := rest } else s)
  else if s.reaches p 1 (s.threshold 0x112) && !low then { s with demoting := rest ++ [p] } else s

/-- Every payer: the LDs and the shared regions. -/
def State.payers (s : State) : List Nat := List.range 16 ++ s.shareds.map (fun x => 16 + x.1)

/-! ## Victims (06 R204, 08 R267, 09 R287) -/

/-- Whether the built-in policy still serves a tile's region: a shared one, or an LD's without a policy job (06 R214). -/
def State.builtIn (s : State) (x : Region) : Bool := x.shared || s.obj 0x700 (0x130 + x.owner) 0 == 0

/-- Whether a payer's charge has come to its whole share, the backstop of 06 R214. -/
def State.backstop (s : State) (p tier : Nat) : Bool := s.reaches p tier 100

/-- Every stored tile: map entries and versions. -/
def State.storedTiles (s : State) : List Nat := s.tileMap.map (·.1) ++ s.versions.map (fun v => verKey v.1)

/-- Whether a stored tile may be chosen to leave a tier for want of room: at home there, with a tier below in its mask, without steep hint
0x01, not held back, and not pinned unless the backstop acts. -/
def State.mayLeave (s : State) (p tier k : Nat) : Bool :=
  let e := s.tgt k
  (e.state == 1 || e.state == 3) && e.length != 0 && e.home == tier && s.payer e.region == p && !s.heldBack k
  && (s.backstop p tier || !s.pins.any (·.key == k))
  && (s.region e.region).any (fun x => x.steep != 1
      && (List.range 4).any (fun t => decide (tier < t) && x.tierMask.testBit t && !(t == 3 && x.shared)))

/-- The place of a stored tile in the order of demotion: versions that are not head versions first (09 R287), then steep hint 0x03, greatest
age, lowest frequency, lowest logical tile number (06 R204). -/
def State.victimRank (s : State) (k : Nat) : Nat :=
  let e := s.tgt k
  b2n (decide (k < 2 ^ 28)) * 2 ^ 60 + b2n ((s.region e.region).all (·.steep != 3)) * 2 ^ 56 + (255 - s.ageOf e) * 2 ^ 48
    + e.frequency * 2 ^ 40 + s.tileNumber k

/-- Whether a demotion's destination has room (06 R204): the far share, which from 0700:114 on counts as full (06 R203), or the spill
area, where a demotion that finds no run waits for compaction (06 R210). -/
def State.tierRoom (s : State) (k tier : Nat) (water : Bool) : Bool :=
  let e := s.tgt k
  let p := s.payer e.region
  if tier = 2 then s.farRoom p 65792 && !(water && s.reaches p 2 (s.threshold 0x114))
  else decide (s.spillFree (s.moveLd e) ≥ if e.home = 2 then e.length else 257)

/-- The tier a demotion from T1 goes to: the highest below that the mask allows and whose share has room (06 R204). -/
def State.demoteTier (s : State) (k : Nat) (water : Bool) : Option Nat :=
  (s.region (s.tgt k).region).bind (fun x =>
    [2, 3].find? (fun t => x.tierMask.testBit t && !(t == 3 && x.shared) && s.tierRoom k t water))

/-- Whether a stored tile can leave a tier for one with room. -/
def State.leaves (s : State) (p tier k : Nat) : Bool :=
  s.mayLeave p tier k && (if tier = 1 then (s.demoteTier k true).isSome
    else (s.region (s.tgt k).region).any (fun x => x.tierMask.testBit 3 && !x.shared) && s.tierRoom k 3 true)

/-- Whether a stored tile is the next victim of its payer in a tier: the first in order of those that can leave it. -/
def State.isVictim (s : State) (p tier k : Nat) : Bool :=
  s.leaves p tier k && s.storedTiles.all (fun j => !s.leaves p tier j || decide (s.victimRank k ≤ s.victimRank j))

/-! ## What the built-in policy may start (06 R203, R204, R214) -/

/-- Whether the built-in policy starts a move of a stored tile. -/
def State.policyMay (s : State) (k kind tier : Nat) : Bool :=
  let e := s.tgt k
  let p := s.payer e.region
  match s.region e.region with
  | none => false
  | some x =>
    let own := s.builtIn x
    if kind = 1 then own && decide (e.frequency ≥ s.threshold 0x110)
    else if kind = 2 then own && tier == 0 && e.home == 1 && x.steep == 2 && decide (e.frequency ≥ s.threshold 0x111)
    else if e.home = 0 then
      kind == 3 && ((s.cluster (e.location % 64)).draining || (own && decide (s.ageOf e ≥ s.threshold 0x116) && x.steep != 1
        && !s.heldBack k && !s.pins.any (·.key == k)))
    else if e.home = 1 then
      kind == 3 && (s.backstop p 1 || (own && (s.demoting.contains p || !(s.spaceHeldOf p).isEmpty)))
        && s.isVictim p 1 k && s.demoteTier k true == some tier
    else if e.home = 2 then
      kind == 4 && tier == 3 && (s.backstop p 2 || (own && s.reaches p 2 (s.threshold 0x114))) && s.isVictim p 2 k
    else kind == 4 && tier == 2 && own && !s.reaches p 2 (s.threshold 0x115) && !s.heldBack k

/-! ## Evacuation before partial-array self-refresh (06 R211) -/

/-- Whether a tile at home in T1 has a block in segments 2 to 7. -/
def State.inHighSegments (s : State) (e : TileEntry) : Bool :=
  e.home == 1 && e.length != 0 && decide (e.location + e.length > 2 * segBlocks s.parityOn)

/-- Whether evacuation may take a stored tile now. -/
def State.evacuable (s : State) (k : Nat) : Bool :=
  let e := s.tgt k
  (e.state == 1 || e.state == 3) && s.inHighSegments e

/-- The place of a stored tile in the order of relocation: steep hint 0x01 first, then ascending age. -/
def State.evacRank (s : State) (k : Nat) : Nat :=
  let e := s.tgt k
  b2n ((s.region e.region).all (·.steep != 1)) * 2 ^ 16 + s.ageOf e

/-- Whether evacuation starts a move of a stored tile: while a frame is free in segments 0 and 1 a relocation of the first tile in order,
then a demotion under the tier choice of 06 R204, whatever the watermarks and holds. -/
def State.evacuates (s : State) (k kind tier : Nat) : Bool :=
  let frame (j : Nat) : Bool := (s.freeFrame (s.tgt j).readyLength).isSome
  s.evacuable k &&
    (if kind = 4 then tier == 1 && frame k && s.storedTiles.all (fun j => !s.evacuable j || !frame j || decide (s.evacRank k ≤ s.evacRank j))
     else kind == 3 && s.storedTiles.all (fun j => !s.evacuable j || !frame j) && s.demoteTier k false == some tier)

/-! ## Compaction (06 R210) -/

/-- Whether an LD's spill area is compacted: no run takes a record that could come to it, of the longest length or of one in T2, although
enough sectors are free (06 R210). -/
def State.compacts (s : State) (ld : Nat) : Bool :=
  let inT2 := (s.storedTiles.map s.tgt).filterMap (fun e => if e.home = 2 ∧ s.moveLd e = ld ∧ e.length ≠ 0 then some e.length else none)
  (257 :: inT2).eraseDups.any (fun n => (s.freeSpill ld n).isNone && decide (s.spillFree ld ≥ n))

/-! ## Who asks (05 R183) -/

/-- Who asks for a move of a kind, and its class in 05 R183: a recode belongs to the region's running sweep; deep idle evacuates; a
relocation within T3 is compaction; the rest is the built-in policy's. None when none of them asks. -/
def State.moveAsker (s : State) (k kind tier : Nat) : Option (MoveBy × Nat) :=
  let e := s.tgt k
  if kind = 5 then
    if s.heldBack k then none
    else (s.sweeps.find? (fun w => w.2.region == e.region && w.2.state == 1 && w.2.left.contains k && s.sweepNeeds w.2 k)).map
      (fun w => (.sweep w.1, 5))
  else if s.obj 0x700 0x170 0 = 1 ∧ s.evacuates k kind tier = true then some (.evacuation, 4)
  else if kind = 4 ∧ e.home = 3 ∧ tier = 3 then (if !s.heldBack k && s.compacts (s.moveLd e) then some (.compaction, 4) else none)
  else if !s.policyMay k kind tier then none
  else some (.policy, if kind = 1 then 2 else if kind = 2 then 3 else if kind = 3 then 4 else 5)

end Sys2Proof.Machine
end

