-- ==== Sys2Proof/Machine/MoverCmds.lean ====
section
/-!
DEFINITION. The mover's commands (06 R189 to R213): moves, T3 reads and their retries, DMA completions, discarded homes, aging.
-/
namespace Sys2Proof.Machine

/-! ## Held writes and moves -/

/-- The stored tile a held write goes to. -/
def State.heldKey (s : State) (x : HeldWrite) : Option Nat :=
  match x.by_ with
  | .peer _ _ k => some k
  | _ => match s.seen { ld := x.ld, job := x.job } x.dpa with
    | .tile i _ none _ => some i
    | .tile i _ (some a) _ =>
      let r := (s.regionAt i).getD 0
      s.overlayOf a r (s.tileIn ((s.region r).getD (defaultRegion r)) i)
    | _ => none

/-- Writes held for a flip go on once their tile no longer moves (06 R195). -/
def State.retryFlips (s : State) : State :=
  s.retryHeld (fun h => h.why == .flip && (match s.heldKey h with
    | some k => (s.tgt k).state != 2
    | none => true))

/-- After a promotion aborted under cause 0x08 the partial writes that waited for it complete unapplied (06 R199, 04 R136). -/
def State.dropPartial (s : State) (k : Nat) : State :=
  let mine (h : HeldWrite) : Bool := h.why == .flip && s.heldKey h == some k && h.mask % 2 ^ 64 != fullMask
  (s.held.filter mine).foldl State.completed { s with held := s.held.filter (fun h => !mine h) }

/-- What follows a step of a move that may have ended it: new lines of its tile lost drop the partial writes that wait for it (06 R199), and
the others go on. -/
def State.afterMove (before s : State) (r : Nat) : State :=
  match tabGet before.moves r, tabGet s.moves r with
  | some m, none => (if before.poisonSet m.key = s.poisonSet m.key then s else s.dropPartial m.key).retryFlips
  | _, _ => s

/-- What follows a copy: a promotion whose destination could not be written is issued again at once, and the writes that wait go on waiting
(06 R199). -/
def State.afterCopy (before s : State) (r : Nat) : State :=
  match tabGet before.moves r, tabGet s.moves r with
  | some m, none =>
    let again := if m.kind = 1 ∧ m.by_ ≠ .evacuation ∧ (s.tgt m.key).state ≠ 2 ∧ before.poisonSet m.key = s.poisonSet m.key then
        s.startMove m.key 1 1 m.cls m.by_ else none
    match again with
    | some (_, s) => s
    | none => State.afterMove before s r
  | _, _ => s

/-- Whether a control core runs: ONLINE, or TEST. -/
def State.coresServe (s : State) : Bool := (unitRun 0xD10 8).any (fun u => (s.unit u).own == 1 || (s.unit u).own == 2)

/-- Whether a control core restarts or is halted, or none runs: policy, schedule-entry and evacuation moves pause (06 R198,
18 R595, 19 R622). -/
def State.policyPaused (s : State) : Bool :=
  (List.range 8).any (fun k => (s.ctl k).restarting || (s.ctl k).halt != 0) || !s.coresServe

/-- ALLOC (06 R191): the mover starts a move of a tile when its requester may ask for it and there is space; one that waits is counted, and
a promotion that finds no frame ends deep idle (06 R213). -/
def execMoveAlloc (ask : MoveAsk) (s : State) : Host.Outcome State Fault Refusal :=
  let k := ask.mapIndex
  finish s (if s.contained ∨ s.policyPaused then s
    else
      let s := s.watermark (s.payer (s.tgt k).region)
      match s.moveAsker k ask.kind ask.tier with
      | none => s
      | some (b, cls) => match s.startMove k ask.kind ask.tier cls b with
        | some (_, s) => s
        | none =>
          let s := s.noteWaits k ask.kind ask.tier cls b
          if ask.kind = 1 then s.promoteWake k else s)

/-- COPY (06 R191): an ALLOCed move is copied in its turn; a T3 source is read by DMA first. -/
def execMoveCopy (record : Nat) (s : State) : Host.Outcome State Fault Refusal :=
  finish s (match tabGet s.moves record with
    | none => s
    | some m =>
      if s.contained ∨ !s.serves (fun _ o => o.state == 1 && o.kind != 6) record m then s
      else State.afterCopy s (s.startCopy record) record)

/-- Whether a move's destination is durable under its tier's rule (06 R192). -/
def State.moveDurable (s : State) (r : Nat) (m : Move) : Bool :=
  m.state == 3 && (if m.dst.home = 2 then
      s.farRecs.any (fun f => decide (f.for_ = RecFor.move r) && s.recDurable f)
    else m.ready)

/-- Write the residuals of a recode: writes of the region's owner that nobody waits for, each computed from the residual it replaces
(04 R153). -/
def State.writeResiduals (s : State) (m : Move) : State :=
  m.recode.foldl (fun s p =>
    let (a, ty, old, new) := p
    let n := 2 * lineElems ty
    s.write { why := .flip, ld := m.ld, dpa := a / 64 * 64, mask := (2 ^ n - 1) * 2 ^ (a % 64), data := zeros 64, by_ := .mover
              since := s.now, recode := some (ty, old, new) }) s

/-- CONFIRM (06 R192, R194, R191 FLIP and RELEASE): the destination is durable, the entry flips in its turn, the source space and the
record are freed, residuals of a recode are rewritten, and writes that waited for the flip apply at the new home. -/
def execMoveConfirm (record : Nat) (s : State) : Host.Outcome State Fault Refusal :=
  finish s (match tabGet s.moves record with
    | none => s
    | some m =>
      if s.contained ∨ !s.moveDurable record m ∨ !s.serves s.moveDurable record m then s
      else if s.caddyLost m.dst then (s.caddyFails (m.dst.caddyAt 0) (64 * m.dst.frameLines) 0x17).abortMove record 9
      else ((s.flipMove record).writeResiduals m).retryFlips)

/-! ## T3 reads (06 R208, R209, 15 R531, R532) -/

/-- Whether something that waits on a DMA read has none outstanding: it waits for the retry. -/
def State.dmaWaits (s : State) (f : DmaFor) : Bool := !s.dmas.any (fun d => d.for_ = f)

/-- Whether a record has a sector on a page. -/
def onPage (e : TileEntry) (n p : Nat) : Bool :=
  e.home == 3 && e.length != 0 && e.location / 2 ^ 40 == n
    && decide (e.location % 2 ^ 40 / 8192 ≤ p ∧ p ≤ (e.location % 2 ^ 40 + e.length - 1) / 8192)

/-- Every tile with a sector on a page is POISONED and its home freed (06 R208, 18 R590). -/
def State.poisonPage (s : State) (n p : Nat) : State :=
  let ks := s.tileMap.filterMap (fun e => if onPage e.2 n p ∧ 1 ≤ e.2.state ∧ e.2.state ≤ 3 then some e.1 else none)
  ks.foldl (fun s k =>
    let e := s.entry k
    let s := if e.state = 2 then s.abortMove (e.moveTag % 8192) 0xA else s
    let e := s.entry k
    let s := { s with poisons := s.poisons.filter (·.key != k) }
    let s := if e.state = 3 then s
      else s.poison k (2 ^ 1024 - 1) { unit := 0x700, location := Nat.max e.location (2 ^ 40 * n + 8192 * p), home := 3 }
    (s.freeHome e).setEntry k { s.entry k with state := 3, length := 0 }) s

/-- The last sector of a record in T3, which the mover reads back (06 R192). -/
def TileEntry.lastSector (e : TileEntry) : TileEntry := { e with location := e.location + e.length - 1, length := 1 }

/-- A read of T3 that waits for its retry: what it is for, with the record's place. -/
def State.retryable (s : State) (n p : Nat) : List (DmaFor × TileEntry) :=
  let l := s.accesses.filterMap (fun a => if a.wait = .dma then some (DmaFor.access a.id, a.entry) else none)
    ++ s.moves.filterMap (fun m => if m.2.state = 2 then some (DmaFor.move m.1, s.tgt m.2.key)
        else if m.2.state = 3 ∧ m.2.dst.home = 3 ∧ !m.2.ready then some (DmaFor.readBack m.1, m.2.dst.lastSector) else none)
    ++ s.mvReqs.filterMap (fun q => if q.started && q.done.isNone && q.data.isNone then (q.reads.map (fun e => (DmaFor.request q.id, e))) else none)
  l.filter (fun x => onPage x.2 n p && s.dmaWaits x.1)

/-- A read of T3 has failed for good: what asked for it is answered (06 R208). -/
def State.readFailed (s : State) (f : DmaFor) : State :=
  match f with
  | .access id => match s.accesses.find? (·.id == id) with
    | some a => s.answerPoison a
    | none => s
  | .request id => { s with mvReqs := s.mvReqs.map (fun q => if q.id = id then { q with done := some (5, 0) } else q) }
  | .readBack r => State.afterMove s (s.abortMove r 0xA) r
  | _ => s

/-- A page's retry has failed: its tiles are poisoned, and what waited for them is answered or dropped (06 R208). -/
def State.pageFailed (s : State) (n p : Nat) (fs : List DmaFor) : State :=
  let ks := s.moves.filterMap (fun m => if onPage (s.tgt m.2.key) n p then some m.2.key else none)
  let t := fs.foldl State.readFailed (s.poisonPage n p)
  (ks.foldl State.dropPartial t).retryFlips

/-- An LD's T3 tiles have become unreachable: reads that wait for a retry are answered so, and their tiles stay as they are (06 R209). -/
def State.spillLost (s : State) (n : Nat) : State :=
  let waits := s.accesses.filter (fun a => a.wait == .dma && s.moveLd a.entry == n && s.dmaWaits (.access a.id))
  let s := waits.foldl (fun s a => (s.bump 0x700 0x22 1).answerRead a none) s
  let asks (q : MvReq) : Bool := q.started && q.done.isNone && q.data.isNone && q.reads.isSome && jobLd q.job == n && s.dmaWaits (.request q.id)
  { (s.bump 0x700 0x22 (s.mvReqs.filter asks).length) with
    mvReqs := s.mvReqs.map (fun q => if asks q then { q with done := some (5, 0) } else q) }

/-- T3_READ_RETRY (06 R208): the reads on a page that failed are issued again, once, while the LD may issue requests (06 R207); where that fails too, or a translation is refused
again, the page has failed. -/
def execT3ReadRetry (ld : Fin 16) (page : Nat) (ok : Bool) (s : State) : Host.Outcome State Fault Refusal :=
  let fs := s.retryable ld page
  finish s (if fs.isEmpty then s
    else if !s.spillReachable ld then s.spillLost ld
    else if !ok then s.pageFailed ld page (fs.map (·.1))
    else
      let t := fs.foldl (fun s f => s.spillRead ld (f.2.location % 2 ^ 40) f.2.length f.1 (some page)) s
      let left := (fs.map (·.1)).filter t.dmaWaits
      if left.isEmpty then t else t.pageFailed ld page left)

/-- T3_REACHABLE_AGAIN (06 R209): the writes held for an LD's T3 tiles go on. -/
def execT3ReachableAgain (ld : Fin 16) (s : State) : Host.Outcome State Fault Refusal :=
  finish s (if s.spillReachable ld then s.retryHeld (fun h => h.why == .unreachable && h.ld == ld.val) else s)

/-- Whether a completion of a DMA read is dropped: an old generation, or an LD that may not issue requests (15 R531, R532). -/
def State.dmaDropped (s : State) (d : Dma) (gen : Bool) : Bool :=
  d.gen != gen || d.gen != (s.ld d.ld).tagGen || !(s.ld d.ld).busMaster || (s.ld d.ld).d3hot

/-- A mover request's read of T3 has ended: its data, or poison (06 R209, R216). -/
def State.requestRead (s : State) (id : Nat) (data : Option Bytes) : State :=
  let on (q : MvReq) : MvReq := match data with
    | some b => { q with data := some b }
    | none => { q with done := some (5, 0) }
  { s with mvReqs := s.mvReqs.map (fun q => if q.id = id then on q else q) }

/-- Set a bit of an LD's Status register (15 R512). -/
def State.statusBit (s : State) (n b : Nat) : State :=
  let l := s.ld n
  s.setLd n { l with cfg := memPut l.cfg (6 + b / 8) (BitVec.ofNat 8 (setBit (memByte l.cfg (6 + b / 8)).toNat (b % 8) true)) }

/-- DMA_COMPLETION (15 R531, R532): the data goes to what asked for it. A completion without data is poisoned, and a
failed read (15 R512 bit 8). -/
def execDmaCompletion (dma : Nat) (gen : Bool) (data : Option Bytes) (s : State) : Host.Outcome State Fault Refusal :=
  finish s (match s.dmas.find? (·.id == dma) with
    | none => s
    | some d =>
      let t := { s with dmas := s.dmas.filter (·.id != dma) }
      if s.dmaDropped d gen then
        let t := t.bump (0x110 + d.ld) 0x1A 1
        match d.for_ with
        | .access id => match t.accesses.find? (·.id == id) with
          | some a => t.answerRead a none
          | none => t
        | .request id => t.requestRead id none
        | _ => t
      else
        let t := if data.isSome then t else t.statusBit d.ld 8
        match d.for_ with
        | .access id => match t.accesses.find? (·.id == id), data with
          | some a, some b => t.finishDma a b
          | _, _ => t
        | .load id => { t with loads := t.loads.map (fun l => if l.id = id then { l with arrived := true, data := data } else l) }
        | .request id => t.requestRead id data
        | .readBack r => match tabGet t.moves r with
          | none => t
          | some m =>
            let a := m.dst.location % 2 ^ 40 + m.dst.length - 1
            let good := match data with
              | some b => some (crc32c (b.take 256)) == tabGet t.t3crcs (spillKey d.ld a)
              | none => false
            if good then { t with moves := tabSet t.moves r { m with ready := true } }
            else State.afterMove s ((t.pageUnusable d.ld (a / 8192)).abortMove r 0xA) r
        | .move r => match tabGet t.moves r, data with
          | some m, some b => State.afterCopy s (t.copyMove r m (some b)) r
          | _, _ => t)

/-- DMA_COMPLETION_TIMEOUT (06 R208, 15 R532): the read is gone; what waited for it waits for the retry, and after a retry the page has
failed. -/
def execDmaCompletionTimeout (dma : Nat) (s : State) : Host.Outcome State Fault Refusal :=
  finish s (match s.dmas.find? (·.id == dma) with
    | none => s
    | some d =>
      let t := { s with dmas := s.dmas.filter (·.id != dma) }
      let t := t.bump (0x110 + d.ld) (if d.gen = (s.ld d.ld).tagGen then 0x1B else 0x1A) 1
      if s.dmaDropped d d.gen then
        match d.for_ with
        | .access id => match t.accesses.find? (·.id == id) with
          | some a => t.answerRead a none
          | none => t
        | .request id => t.requestRead id none
        | _ => t
      else match d.for_ with
        | .load id => { t with loads := t.loads.map (fun l => if l.id = id then { l with arrived := true, data := none } else l) }
        | f => match d.retry with
          | some p => t.pageFailed d.ld p [f]
          | none => t)

/-! ## Discarded homes, held writes, aging -/

/-- The class an old home is freed in (03 R102): 4 while the payer has writes held for space. -/
def State.oldClass (s : State) (o : OldHome) : Nat := if (s.spaceHeldOf o.payer).isEmpty then 5 else 4

/-- DISCARDED_HOME_FREE (03 R102): one old home is freed in its class and its charge falls; in class 5 other homes of class 4 and the
moves that wait to be copied in a better class go first (06 R218, R220). -/
def execDiscardedHomeFree (index : Nat) (s : State) : Host.Outcome State Fault Refusal :=
  finish s (match s.oldHomes[index]? with
    | none => s
    | some o =>
      if s.oldClass o = 5 ∧ (s.oldHomes.any (fun p => s.oldClass p == 4)
          || s.moves.any (fun m => m.2.state == 1 && decide (m.2.cls < 5))) then s
      else s.freeOldHome index)

/-- HELD_WRITE_RELEASE (03 R114): the writes of an LD held for space are tried again, oldest first. -/
def execHeldWriteRelease (ld : Fin 16) (s : State) : Host.Outcome State Fault Refusal :=
  finish s (s.retryHeld (fun h => h.why == .space && h.ld == ld.val))

/-- VERSION_SPACE_FREED (09 R306): the copies of a region held for version space are tried again. -/
def execVersionSpaceFreed (region : Nat) (s : State) : Host.Outcome State Fault Refusal :=
  finish s (s.retryHeld (fun h => h.why == .versions && (match s.seen { ld := h.ld, job := h.job } h.dpa with
    | .tile i _ _ _ => s.regionAt i == some region
    | _ => true)))

/-- POISON_RECORD_FREED (18 R589): a record is free; the writes held for one are tried again. -/
def execPoisonRecordFreed (s : State) : Host.Outcome State Fault Refusal :=
  finish s (if s.poisons.length < 65536 then s.retryHeld (fun h => h.why == .poison) else s)

/-- AGING_EPOCH_TICK (06 R200). -/
def execAgingEpochTick (s : State) : Host.Outcome State Fault Refusal :=
  finish s ({ s.setObj 0x700 0x101 0 ((s.obj 0x700 0x101 0 + 1) % 256) with epochs := s.epochs + 1 })

/-- AGING_SCAN (06 R201, R202): an entry aged 64 or more is set to that age and its frequency halves; the map line it visits reaches the near
tier. -/
def execAgingScan (mapIndex : Nat) (s : State) : Host.Outcome State Fault Refusal :=
  let e := s.entry mapIndex
  let now := s.obj 0x700 0x101 0
  let age := (now + 256 - e.recency) % 256
  finish s ((if e.state = 0 ∨ e.state = 4 ∨ age < 64 then s
    else s.putEntry mapIndex { e with recency := (now + 192) % 256, frequency := e.frequency / 2 }).syncLine (mapIndex / 2))

/-- Whether segments 2 to 7 hold no home and no move destination (06 R212). -/
def State.highSegmentsEmpty (s : State) : Bool :=
  (s.homesIn 1).all (fun h => decide (h.1 + h.2 ≤ 2 * segBlocks s.parityOn))

end Sys2Proof.Machine
end

