-- ==== Sys2Proof/Machine/FarCmds.lean ====
section
/-!
DEFINITION. The far tier's commands (07 R223 to R245, R652, 20 R632): modules, stripes, seals, losses, cleaning.
-/
namespace Sys2Proof.Machine

/-- Replace a far port. -/
def State.setFarPort (s : State) (p : Nat) (x : FarPort) : State := { s with farPorts := tabSet s.farPorts p x }

/-! ## Settling (07 R239, R241) -/

/-- Whether a segment names a port. -/
def State.segsName (s : State) (p : Nat) : Bool := s.segs.any (fun g => g.2.mask.testBit p)

/-- A port no segment names any longer reaches the OFFLINE it was asked for, and its reset is driven low (07 R239, R241,
20 R632); one whose module was removed reads ABSENT (02 R41; log entry 43). -/
def State.farPortSettle (s : State) (p : Nat) : State :=
  let own := s.farOwn p
  let x := s.farPort p
  if s.segsName p then s
  else if (own = 6 ∨ own = 4 ∨ own = 5) ∧ s.requested (0x610 + p) = 3 then
    (s.setOwn (0x610 + p) 3 1).setFarPort p { x with released := false, active := false }
  else if own = 6 ∧ x.present = false then s.setOwn (0x610 + p) 0 3
  else s

/-- The far tier's own state stays DEGRADED for a loss until no segment names a FAILED port (07 R239). -/
def State.farSettle (s : State) : State :=
  let s := (List.range 8).foldl State.farPortSettle s
  if (s.unit 0x600).own = 5 ∧ (s.unit 0x600).reason = 3 ∧ (List.range 8).all (fun p => s.farOwn p != 6 || !s.segsName p) then s.setOwn 0x600 1 0 else s

/-! ## Closing segments (07 R236, R652) -/

/-- Where a re-appended record goes: the new location in what it was written for. -/
def State.relocateRec (s : State) (f : FarRec) (loc : Nat) : State :=
  match f.for_ with
  | .move r => match tabGet s.moves r with
    | some m => { s with moves := tabSet s.moves r { m with dst := { m.dst with location := loc } } }
    | none => s
  | .cleaning i => match tabGet s.cleanCopies i with
    | some c => { s with cleanCopies := tabSet s.cleanCopies i { c with new := loc } }
    | none => s
  | .arrival m t _ =>
    let on (x : MoveIn) : MoveIn := if x.source = m ∧ x.tile = t then
      { x with placed := x.placed.map (fun p => (p.1, p.2.1, { p.2.2 with location := loc })) } else x
    { s with span := { s.span with movesIn := s.span.movesIn.map on } }

/-- The remote move of a tile that has come ends, and the source learns how: confirmed, or refused with the abort code (16 R562). -/
def State.endArrival (s : State) (m tile status code : Nat) : State :=
  let mine (x : MoveIn) : Bool := x.source == m && x.tile == tile
  let t := { s with span := { s.span with movesIn := s.span.movesIn.filter (fun x => !mine x) } }
  match s.span.movesIn.find? mine with
  | some x => match x.placed with
    | some p => t.sendPacket m 0x21 2 x.party status p.1 code 0 []
    | none => t
  | none => s

/-- A tile held for a member takes a new home in place of the one it had (16 R562). -/
def State.installGuest (s : State) (k : Nat) (e : TileEntry) : State :=
  let s := if (s.entry k).state = 2 then s.abortMove ((s.entry k).moveTag % 8192) 1 else s
  ((s.unpoison k).freeHome (s.entry k)).setTgt k e

/-- A record that cannot be placed again: its move aborts under cause 0x09, its copy is dropped (07 R236). -/
def State.dropRec (s : State) (f : FarRec) : State :=
  match f.for_ with
  | .move r => State.afterMove s (s.abortMove r 9) r
  | .cleaning i => { s with cleanCopies := tabDel s.cleanCopies i }
  | .arrival m t _ => s.endArrival m t 2 9

/-- Append records again, in full, in a segment of their stream opened without a port (07 R236, R652). -/
def State.appendAgain (s : State) (stream : Nat) (fs : List FarRec) (but : Nat) : State :=
  fs.foldl (fun s f => match s.appendBut (some but) stream f.data f.for_ with
    | some (loc, s) => s.relocateRec f loc
    | none => s.dropRec f) { s with farRecs := s.farRecs.filter (fun f => !fs.contains f) }

/-- The CRC entries of the stripes of a segment that stay. -/
def Seg.keepStripes (x : Seg) (keep : Nat → Bool) : List (Nat × Nat) :=
  x.crcs.filter (fun c => keep (c.1 / stripeSectors x.mask))

/-- Close an open segment for a member that failed or drains (07 R652): what is not acknowledged is appended again, and the summary stripe
is written with pad CRCs for the sectors that hold no record; a segment that was closed already writes its summary stripe anew. -/
def State.closeLost (s : State) (g but : Nat) : State :=
  match s.seg g with
  | none => s
  | some x =>
    if x.state ≠ 1 then s
    else
      let redo := s.farRecs.filter (fun f => f.sector / 131072 == g && !s.recDurable f)
      let y := { x with closed := true, gather := [], issued := [], crcs := x.keepStripes x.acked.contains
                        filled := x.acked.length * stripeSectors x.mask }
      let s := s.issueStripe g y 63 (summaryArea g y y.filled)
      s.appendAgain x.stream redo but

/-- Close every segment not yet sealed that names a port. -/
def State.closeSegmentsOf (s : State) (p : Nat) : State :=
  (s.segs.filter (fun g => g.2.state == 1 && g.2.mask.testBit p)).foldl (fun s g => s.closeLost g.1 p) s

/-- The chunks of a failed module are lost in every segment that names it (07 R239). -/
def State.loseChunks (s : State) (p : Nat) : State :=
  { s with segs := s.segs.map (fun g => (g.1, if g.2.mask.testBit p then { g.2 with lost := g.2.lost ||| 2 ^ p } else g.2)) }

/-- Far charges of every LD and far reserves of shared regions (07 R240). -/
def State.farNeeded (s : State) : Nat :=
  (List.range 16).foldl (fun a n => a + s.charge n 2) 0 + s.shareds.foldl (fun a x => a + x.2.farReserve) 0

/-- A far module is lost (07 R239, R240). -/
def State.loseFar (s : State) (p : Nat) : State :=
  if !s.farServes p then s
  else
    let s := ((s.setFarPort p { s.farPort p with active := false }).setOwn (0x610 + p) 6 3).setOwn 0x600 5 3
    let s := (s.loseChunks p).closeSegmentsOf p
    let s := s.logUnit 2 2 (0x610 + p) p
    let s := if s.farCapacity.2.2 < s.farNeeded then s.raise 0x600 0x0131 0 else s
    s.farSettle

/-! ## Modules (07 R223 to R225, 20 R632) -/

/-- FAR_PRESENCE_STABLE (20 R632): FpPERST_N is released once training has ended and the port is asked to serve; without a far reference,
which a module powered up without HREFCLK does not have, none is (20 R629). -/
def execFarPresenceStable (port : Fin 8) (s : State) : Host.Outcome State Fault Refusal :=
  let x := s.farPort port
  let go := (s.stage == .filling || s.stage == .running) && s.requested (0x610 + port) != 3
    && s.farRef
  finish s (if s.stage = .off then s
    else s.setFarPort port { x with present := true, released := go, releasedAt := if go then s.now else x.releasedAt })

/-- FAR_LINK_TRAINING_TIMEOUT (07 R225 step 1): a released port without a link reads ABSENT. -/
def execFarLinkTrainingTimeout (port : Fin 8) (s : State) : Host.Outcome State Fault Refusal :=
  finish s (if (s.farPort port).released ∧ !s.farServes port then (s.setOwn (0x610 + port) 0 4).farSettle else s)

/-- The number of the row of 07 R223 a far module fails, if any. -/
def farRefused (m : FarModuleInfo) : Option Nat :=
  match m.failed with
  | some r => some r
  | none =>
    if !((m.width == 8 || m.width == 4) && (m.rate == 64 || m.rate == 32)) then some 2
    else if !decide (137438953472 ≤ m.capacity ∧ m.capacity ≤ 1099511627776) then some 3
    else none

/-- FAR_MEMORY_ACTIVE (07 R224, R225): a module that meets 07 R223 passes to the requested ONLINE or TEST, or goes straight to an
OFFLINE asked for meanwhile (02 R50, 07 R241); another is refused with event 0x0130. -/
def execFarMemoryActive (port : Fin 8) (m : FarModuleInfo) (s : State) : Host.Outcome State Fault Refusal :=
  let x := s.farPort port
  finish s (if !x.released ∨ s.farServes port then s
    else
      let x := { x with capacity := m.capacity, width := m.width, rate := m.rate
                        ids := m.vendor.toNat + 65536 * m.device.toNat, serial := m.serial.take 8 }
      let lo := farKey port 0
      let s := { s with farMem := s.farMem.filter (fun c => !decide (lo ≤ c.1 ∧ c.1 < lo + 2 ^ 41)) }
      match farRefused m with
      | some r => (((s.setFarPort port { x with refused := true, active := false }).setOwn (0x610 + port) 6 0x0100).raise
          (0x610 + port) 0x0130 r).farPortSettle port
      | none => if s.requested (0x610 + port) = 3 then
          ((s.setFarPort port { x with refused := false, released := false, active := false }).setOwn (0x610 + port) 3 1).farSettle
        else
          ((s.setFarPort port { x with refused := false, active := true }).setOwn (0x610 + port)
            (if s.requested (0x610 + port) = 2 then 2 else 1) 0).farSettle)

/-- FAR_MODULE_REMOVED (20 R632): lost as by 07 R239; the port then has no module, and reads ABSENT once no segment names it (02 R41;
log entry 43). -/
def execFarModuleRemoved (port : Fin 8) (s : State) : Host.Outcome State Fault Refusal :=
  let lo := farKey port 0
  finish s (
    let s := (s.loseFar port).setFarPort port {}
    let s := (if s.farOwn port = 3 then s.setOwn (0x610 + port) 0 3 else s.farPortSettle port).farSettle
    { s with farMem := s.farMem.filter (fun c => !decide (lo ≤ c.1 ∧ c.1 < lo + 2 ^ 41)) })

/-- FAR_LINK_DOWN (07 R239). -/
def execFarLinkDown (port : Fin 8) (s : State) : Host.Outcome State Fault Refusal :=
  finish s (if s.farServes port then
      let s := s.setFarPort port { s.farPort port with recovering := false }
      (s.bump (0x610 + port) 0x35 1).loseFar port
    else s)

/-- FAR_COMPLETION_TIMEOUT (07 R239); suspended while the port recovers from a reference switch (20 R630). -/
def execFarCompletionTimeout (port : Fin 8) (s : State) : Host.Outcome State Fault Refusal :=
  finish s (if s.farServes port ∧ !(s.farPort port).recovering then (s.bump (0x610 + port) 0x34 1).loseFar port else s)

/-- FAR_LINK_RETRAINED (20 R630): the link is back in L0. -/
def execFarLinkRetrained (port : Fin 8) (s : State) : Host.Outcome State Fault Refusal :=
  finish s (s.setFarPort port { s.farPort port with recovering := false })

/-! ## Stripes and segments (07 R234 to R236) -/

/-- FLUSH_TIMEOUT (07 R234): the stream's gathering stripe is padded and written. -/
def execFlushTimeout (stream : Fin 18) (s : State) : Host.Outcome State Fault Refusal :=
  finish s (match s.openSegment stream with
    | some (g, _) => s.flushStripe g
    | none => s)

/-- Cleaning copies whose record is durable. -/
def State.cleanDurable (s : State) : State :=
  let fin (f : FarRec) : Bool := match f.for_ with
    | .cleaning _ => s.recDurable f
    | _ => false
  let ids := (s.farRecs.filter fin).filterMap (fun f => match f.for_ with
    | .cleaning i => some i
    | _ => none)
  { s with
    farRecs := s.farRecs.filter (fun f => !fin f)
    cleanCopies := s.cleanCopies.map (fun c => if ids.contains c.1 then (c.1, { c.2 with durable := true }) else c) }

/-- Records from span members that are durable become the homes of their tiles, and the moves are confirmed (06 R192, 16 R562). -/
def State.arrivals (s : State) : State :=
  s.farRecs.foldl (fun s f => match f.for_ with
    | .arrival m t k =>
      if !s.recDurable f then s
      else
        let s := { s with farRecs := s.farRecs.filter (· != f) }
        match (s.span.movesIn.find? (fun x => x.source == m && x.tile == t)).bind (·.placed) with
        | some p => if p.2.1 = k then (s.installGuest k p.2.2).endArrival m t 0 0 else s
        | none => s
    | _ => s) s

/-- STRIPE_WRITE_ACK (07 R235): every chunk write of a stripe is acknowledged; its records become durable. -/
def execStripeWriteAck (stripe : Nat) (s : State) : Host.Outcome State Fault Refusal :=
  let g := stripe / 64
  let k := stripe % 64
  finish s (match s.seg g with
    | none => s
    | some x => match x.issued.find? (fun i => i.1 == k && k != 63) with
      | none => s
      | some (_, d) =>
        let s := s.setSeg g { x with issued := x.issued.filter (·.1 != k), acked := x.acked ++ [k] }
        (s.storeStripe x stripe d).cleanDurable.arrivals)

/-- SEGMENT_SEAL (07 R235): the summary stripe is acknowledged by every member that is not FAILED. -/
def execSegmentSeal (segment : Nat) (s : State) : Host.Outcome State Fault Refusal :=
  finish s (match s.seg segment with
    | none => s
    | some x => match x.issued.find? (·.1 == 63) with
      | none => s
      | some (_, d) =>
        let y := { x with issued := x.issued.filter (·.1 != 63), summarised := true, state := 2, sealedAt := s.now }
        (s.setSeg segment y).storeStripe x (64 * segment + 63) d)

/-- CHUNK_WRITE_FAILURE (07 R236): every record with a sector in the stripe is appended again in a segment without the failing port; the copies
in the stripe never become durable. The stream has one open segment (07 R232): the failing one is closed, its stripe left out. -/
def execChunkWriteFailure (stripe : Nat) (port : Fin 8) (s : State) : Host.Outcome State Fault Refusal :=
  let g := stripe / 64
  let k := stripe % 64
  finish s (match s.seg g with
    | none => s
    | some x =>
      if !x.mask.testBit port ∨ !x.issued.any (fun i => i.1 == k && k != 63) then s
      else
        let redo := s.farRecs.filter (fun f => f.sector / 131072 == g && (s.recStripes f).2.contains k)
        let y := { x with issued := x.issued.filter (·.1 != k), crcs := x.keepStripes (· != k), acked := x.acked }
        ((s.setSeg g y).closeSegment g (stripeSectors x.mask)).appendAgain x.stream redo port)

/-- FAR_SECTOR_READ_COMPLETE (07 R237, R238): the sectors of a read arrive, some of them bad. -/
def execFarSectorReadComplete (access : Nat) (bad : List FarBad) (s : State) : Host.Outcome State Fault Refusal :=
  finish s (match s.accesses.find? (fun a => a.id == access && decide (a.wait = .far)) with
    | none => s
    | some a => s.finishFar a bad)

/-! ## Cleaning (07 R242 to R245) -/

/-- Whether cleaning runs for want of free segments (07 R245). -/
def State.cleaningStarts (s : State) : Bool := decide (256 * s.freeSegs < s.obj 0x600 0x131 0 * s.usableSegs)

/-- Whether a segment comes before another in the order of 07 R242. -/
def State.cleanBefore (s : State) (a b : Nat × Seg) : Bool :=
  let ba := s.segRestripes a.2
  let bb := s.segRestripes b.2
  if ba != bb then ba
  else
    let la := s.liveSectors a.1
    let lb := s.liveSectors b.1
    if la ≠ lb then decide (la < lb) else decide (a.2.seqNo < b.2.seqNo)

/-- The segment to clean (07 R242). -/
def State.cleanChoice (s : State) : Option Nat :=
  let ok := s.segs.filter (fun g => (g.2.state == 2 || g.2.state == 3) && (s.segRestripes g.2 || s.cleaningStarts)
    && s.liveSectors g.1 != 0)
  (ok.foldl (fun m g => match m with
    | none => some g
    | some b => if s.cleanBefore g b then some g else some b) none).map (·.1)

/-- The stored tiles whose record lies in a segment. -/
def State.tilesIn (s : State) (g : Nat) : List Nat :=
  let mine (e : TileEntry) : Bool := e.home == 2 && e.location / 131072 == g && (e.state == 1 || e.state == 3) && e.length != 0
  s.tileMap.filterMap (fun e => if mine e.2 then some e.1 else none)
    ++ s.versions.filterMap (fun v => if mine v.2.entry then some (verKey v.1) else none)

/-- CLEANING_COPY (07 R242, R243): the live records of the chosen segment are copied to their stream's open segment; a guest record waits for
room in the guest reserve (07 R246). -/
def execCleaningCopy (s : State) : Host.Outcome State Fault Refusal :=
  finish s (match s.cleanChoice with
    | none => s
    | some g => match s.seg g with
      | none => s
      | some x =>
        (s.tilesIn g).foldl (fun s k =>
          let n := s.nextCopy
          let e := s.tgt k
          let t := if e.region = guestRegion ∧ s.farRoom guestPayer (256 * e.length) = false then s else s.startClean k
          if t.nextCopy > n then t.bump 0x600 0x1C (s.tgt k).length else t) (s.setSeg g { x with state := 3 }))

/-- CLEANING_FLIP (07 R243): a durable copy becomes the home if the entry still names the old record; a MOVING tile makes
it wait. -/
def execCleaningFlip (index : Nat) (s : State) : Host.Outcome State Fault Refusal :=
  finish s (match tabGet s.cleanCopies index with
    | none => s
    | some c =>
      let e := s.tgt c.key
      if !c.durable ∨ e.state = 2 then s
      else
        let s := { s with cleanCopies := tabDel s.cleanCopies index }
        if e.home = 2 ∧ e.location = c.old ∧ (e.state = 1 ∨ e.state = 3) ∧ e.length = c.length then
          s.setTgt c.key { e with location := c.new }
        else s.bump 0x600 0x1D 1)

/-- SEGMENT_FREE (07 R244). -/
def execSegmentFree (segment : Nat) (s : State) : Host.Outcome State Fault Refusal :=
  finish s (match s.seg segment with
    | none => s
    | some x =>
      if (x.state = 2 ∨ x.state = 3) ∧ s.segIdle segment then
        let s := { s with segs := tabDel s.segs segment }
        ((if x.state = 3 then s.bump 0x600 0x1B 1 else s).farSettle).retryHeld (fun h => h.why == .space)
      else s)

end Sys2Proof.Machine
end

