-- ==== Sys2Proof/Machine/Reply.lean ====
section
/-!
DEFINITION. Answers of the dictionary server: the status codes of 02 R76 and who sends a request (02 R62).
-/
namespace Sys2Proof.Machine

/-! ## Status codes -/

/-- NO_OBJECT. -/
def stNoObject : Nat := 2
/-- RIGHTS. -/
def stRights : Nat := 4
/-- LENGTH. -/
def stLength : Nat := 5
/-- RANGE. -/
def stRange : Nat := 6
/-- BUSY. -/
def stBusy : Nat := 7
/-- NO_RESOURCE. -/
def stNoResource : Nat := 0x0C
/-- FLASH. -/
def stFlash : Nat := 0x10

/-- What a write does: a status other than OK, which changes nothing (02 R76), or the state after it. -/
abbrev Reply := Except Nat State

/-- Who sends a request: the LD whose mailbox it came by, or the role of a session (02 R62). -/
structure Sender where
  ld : Option Nat := none
  fm : Bool := false
  svc : Bool := false
  obs : Bool := false
deriving DecidableEq, Repr

/-- Whether a sender may act for an LD: the fabric manager, or that LD. -/
def Sender.mayActFor (w : Sender) (n : Nat) : Bool := w.fm || w.ld == some n

/-- The first refusal whose condition holds, else the state. -/
def checks (cs : List (Bool × Nat)) (ok : State) : Reply :=
  match cs.find? (·.1) with
  | some c => .error c.2
  | none => .ok ok

/-- The replies to the entries of one write, each executed on what the last left: of refusals the first by the kinds of 02 R647, fields
before the states of what they name, stands. -/
def Reply.also (z : Reply) (s : State) (f : State → Reply) : Reply :=
  match z with
  | .ok t => f t
  | .error c => match f s with
    | .error d => .error (if d = stRange then d else c)
    | .ok _ => .error c

/-- A write of bytes of a table of fixed entries: each entry it touches is written whole by `f`, whose old bytes `old` gives. -/
def State.writeTable (s : State) (size off : Nat) (b : Bytes) (old : State → Nat → Bytes) (f : State → Nat → Bytes → Reply) : Reply :=
  if b.isEmpty then .ok s
  else (List.range ((off + b.length - 1) / size - off / size + 1)).foldl (fun z i =>
    let n := off / size + i
    let lo := Nat.max off (size * n)
    let hi := Nat.min (off + b.length) (size * n + size)
    z.also s (fun t => f t n (patch (old t n) (lo - size * n) ((b.drop (lo - off)).take (hi - lo))))) (.ok s)

end Sys2Proof.Machine
end

