-- ==== Sys2Proof/Machine/Instars.lean ====
section
/-!
DEFINITION. Shared regions (09 R281 to R315): instars and their counts, attachments, publishing, salvage, the instar commands.
-/
namespace Sys2Proof.Machine

/-! ## Instars (09 R285, R303 to R305) -/

/-- The sharing entry of a region. -/
def State.sharedOf (s : State) (r : Nat) : Option Shared := tabGet s.shareds r
/-- Replace the sharing entry of a region. -/
def State.setShared (s : State) (r : Nat) (x : Shared) : State := { s with shareds := tabSet s.shareds r x }

/-- A retained instar. -/
def State.instOf (s : State) (r n : Nat) : Option Inst := s.insts.find? (fun i => i.region == r && i.number == n)

/-- The reference count of an instar: attachments at it, jobs that hold it, 1 for the head (09 R303). -/
def State.instCount (s : State) (r n : Nat) : Nat :=
  (s.attaches.filter (fun a => a.2.region == r && a.2.base == n)).length
  + (s.jobs.filter (fun j => tabGet j.2.inputs r == some n)).length
  + b2n ((s.sharedOf r).any (·.head == n))

/-- Free a version: its home, its poison and its record. A read still under way goes on under the tile's map index. -/
def State.freeVersion (s : State) (v : Nat) : State :=
  match tabGet s.versions v with
  | none => s
  | some x =>
    let k := verKey v
    let s := if x.entry.state = 2 then s.abortMove (x.entry.moveTag % 8192) 7 else s
    let s := (s.freeHome (s.tgt k)).unpoison k
    let i := ((s.region x.region).bind (fun r => s.regionTile r x.tile)).getD 0
    let s := { s with accesses := s.accesses.map (fun (a : Access) => if a.key = k then { a with key := i } else a) }
    { s with versions := tabDel s.versions v, writeAborts := tabDel s.writeAborts k }.slotsOf x.entry

/-- The next newer instar that published a tile after instar `i`. -/
def State.nextPublished (s : State) (r t i : Nat) : Option Nat :=
  let head := match (s.region r).bind (fun x => s.regionTile x t) with
    | some k => (tabGet s.headInst k).toList
    | none => []
  let recs := s.versions.filterMap (fun v =>
    if v.2.region = r ∧ v.2.tile = t ∧ v.2.owner.isNone then some v.2.inst else none)
  ((head ++ recs).filter (fun n => decide (n > i))).foldl (fun m n => match m with
    | none => some n
    | some b => some (Nat.min b n)) none

/-- Whether a replaced version is still needed: some retained instar from its own up to its successor's (09 R304). -/
def State.versionNeeded (s : State) (x : Version) : Bool :=
  match s.nextPublished x.region x.tile x.inst with
  | none => true
  | some j => s.insts.any (fun k => k.region == x.region && decide (x.inst ≤ k.number ∧ k.number < j))

/-- Reclaim the instars of a region whose count is 0 and that no late copy reads (09 R295), and free the versions no retained instar needs (09 R303, R304). -/
def State.reclaim (s : State) (r : Nat) : State :=
  let late (n : Nat) : Bool := s.held.any (fun h => h.saw.any (fun w => w.region == r && w.published != 0 && w.base == n))
  let gone := s.insts.filter (fun i => i.region == r && s.instCount r i.number == 0 && !late i.number)
  let s := { s with insts := s.insts.filter (fun i => !gone.contains i) }.bump 0x900 0x1B gone.length
  (s.versions.filter (fun v => v.2.region == r && v.2.owner.isNone && !s.versionNeeded v.2)).foldl
    (fun s v => (s.freeVersion v.1).bump 0x900 0x1C 1) s

/-! ## Attachments (09 R288 to R293, R307 to R311) -/

/-- The overlay versions of an attachment: version and tile, ascending by tile. -/
def State.overlay (s : State) (att : Nat) : List (Nat × Nat) :=
  (s.versions.filter (fun v => v.2.owner == some att)).foldl (fun l v => ins v.2.tile v.1 l) []
where
  ins (t v : Nat) : List (Nat × Nat) → List (Nat × Nat)
    | [] => [(v, t)]
    | (w, u) :: l => if t < u then (v, t) :: (w, u) :: l else (w, u) :: ins t v l

/-- Drop the overlay versions of the tiles that `p` holds for; how many. -/
def State.dropOverlay (s : State) (att : Nat) (p : Nat → Bool) : Nat × State :=
  let vs := (s.overlay att).filter (fun v => p v.2)
  (vs.length, vs.foldl (fun s v => s.freeVersion v.1) s)

/-- End an attachment as by DETACH: the overlay goes and the base's count falls (09 R293). -/
def State.endAttach (s : State) (att : Nat) : State :=
  match tabGet s.attaches att with
  | none => s
  | some a =>
    let s := (s.dropOverlay att (fun _ => true)).2
    ({ s with attaches := tabDel s.attaches att }.reclaim a.region).retryFlips

/-- The detail of an attachment's event: the region and the LD. -/
def attachDetail (a : Attach) : Nat := a.region % 4096 + 4096 * a.ld

/-- An LD's attachments on a function-level reset, a hot reset or an unbinding: read-write ones enter salvage, read-only
ones end (09 R308). -/
def State.salvage (s : State) (ld : Nat) : State :=
  (s.attaches.filter (fun a => a.2.ld == ld && (a.2.kind == 1 || a.2.kind == 2))).foldl (fun s a =>
    if a.2.kind = 1 then s.endAttach a.1
    else
      let x : Attach := { a.2 with kind := 3, since := s.now + s.obj 0x900 0x110 0 }
      ({ s with attaches := tabSet s.attaches a.1 x }.bump 0x900 0x1F 1).raiseFor [ld] 0x900 0x0150 (attachDetail x)) s

/-- A salvaged overlay expires or is discarded (09 R309). -/
def State.endSalvage (s : State) (att : Nat) : State :=
  match tabGet s.attaches att with
  | none => s
  | some a =>
    if a.kind ≠ 3 then s
    else ((s.endAttach att).bump 0x900 0x20 1).raiseFor [a.ld] 0x900 0x0151 (attachDetail a)

/-- The lowest free attachment number of 4,096 (09 R315). -/
def State.freeAttach (s : State) : Option Nat := firstBelow 4096 (fun i => (tabGet s.attaches i).isNone)

/-- A new read-write attachment takes a version number from the region's counter (09 R286). -/
def State.drawVersion (s : State) (r : Nat) : Nat × State :=
  match s.sharedOf r with
  | some x => (x.counter, s.setShared r { x with counter := x.counter + 1 })
  | none => (0, s)

/-! ## Publishing (09 R295 to R300) -/

/-- The instar that published a tile's newest version, 0 for none. -/
def State.newestPublished (s : State) (r t : Nat) : Nat :=
  match (s.region r).bind (fun x => s.regionTile x t) with
  | some k => (tabGet s.headInst k).getD 0
  | none => 0

/-- Put a number into an ascending list. -/
def insAsc (n : Nat) : List Nat → List Nat
  | [] => [n]
  | m :: l => if n < m then n :: m :: l else if n = m then m :: l else m :: insAsc n l

/-- The tiles an overlay changes, ascending: those it has versions of, and those whose copy a held write still waits for (09 R295, R306). -/
def State.changedTiles (s : State) (att r : Nat) : List Nat :=
  let made := (s.overlay att).map (·.2)
  let x := (s.region r).getD (defaultRegion 0)
  let waits := s.held.filterMap (fun h => h.saw.bind (fun w =>
    if w.overlay = some att ∧ w.published = 0 then some (s.tileIn x w.index) else none))
  waits.foldl (fun l t => insAsc t l) made

/-- The conflicting tiles of an overlay (09 R296). -/
def State.conflictsOf (s : State) (att : Nat) (a : Attach) : List Nat :=
  if (s.sharedOf a.region).any (·.mode == 0) then
    (s.changedTiles att a.region).filter (fun t => decide (s.newestPublished a.region t > a.base))
  else []

/-- A new head instar (09 R285, R297). -/
def State.newHead (s : State) (r publisher changed stamp : Nat) : Nat × State :=
  match s.sharedOf r with
  | none => (0, s)
  | some x =>
    let n := x.head + 1
    let i : Inst := { region := r, number := n, publisher := publisher, changed := changed, stamp := stamp, time := s.now }
    (n, ({ s with insts := s.insts ++ [i] }.setShared r { x with head := n }).bump 0x900 0x17 1)

/-- A write looked up before an overlay was published belongs to the published overlay (09 R295). -/
def HeldWrite.publishedAs (att n base : Nat) (h : HeldWrite) : HeldWrite :=
  { h with saw := h.saw.map (fun w => if w.overlay = some att ∧ w.published = 0 then { w with published := n, base := base } else w) }

/-- How a PUBLISH ends. -/
inductive Published where
  | done (n : Nat) (readOnly : Bool)
  | conflict (tiles : List Nat)
  | tableFull
deriving DecidableEq, Repr

/-- Publish the overlay of an attachment; a job's attachment ends with the publish (09 R296 to R300, 13 R451). -/
def State.publish (s : State) (att : Nat) (a : Attach) (stamp : Nat) : Published × State :=
  let l := s.conflictsOf att a
  if !l.isEmpty then (.conflict l, s.bump 0x900 0x18 1)
  else if s.insts.length ≥ 4096 then (.tableFull, s)
  else
    let vs := s.overlay att
    let (n, s) := s.newHead a.region (if a.kind = 4 then 0xFE else a.ld) (s.changedTiles att a.region).length stamp
    let s := vs.foldl (fun s v => s.publishTile a.region n v.1 v.2) s
    let s := { s with held := s.held.map (HeldWrite.publishedAs att n a.base) }
    if a.kind = 4 then (.done n false, { s with attaches := tabDel s.attaches att }.reclaim a.region)
    else
      let out := (s.sharedOf a.region).any (fun x => decide (x.counter ≥ 0xFFFFFFFF))
      if out then
        (.done n true, { s with attaches := tabSet s.attaches att { a with base := n, kind := 1, ver := 0 } }.reclaim a.region)
      else
        let (v, s) := s.drawVersion a.region
        (.done n false, { s with attaches := tabSet s.attaches att { a with base := n, ver := v } }.reclaim a.region)

/-! ## Result objects (09 R298, R314) -/

/-- Write an LD's result object. -/
def State.setResult (s : State) (ld cmd res r inst count : Nat) (listed : List Nat) : State :=
  let b := leBytes 1 cmd ++ leBytes 1 res ++ leBytes 2 r ++ leBytes 4 inst ++ leBytes 4 count ++ leBytes 4 listed.length
    ++ leBytes 4 (nth listed 0 0) ++ zeros 4 ++ leBytes 8 s.now
  { s with results := tabSet s.results ld b }

/-- Write an LD's conflict list, up to 16,384 tiles, and its result. -/
def State.setConflicts (s : State) (ld cmd res r base : Nat) (all shown : List Nat) : State :=
  let shown := shown.take 16384
  { s with conflicts := tabSet s.conflicts ld shown }.setResult ld cmd res r base all.length shown

/-- PUBLISH of an LD's attachment, with its result object; whether it was done. -/
def State.publishBy (s : State) (ld att : Nat) (a : Attach) (stamp : Nat) : Bool × State :=
  match s.publish att a stamp with
  | (.conflict l, s) => (false, s.setConflicts ld 4 1 a.region a.base l l)
  | (.tableFull, s) => (false, s.setResult ld 4 2 a.region a.base 0 [])
  | (.done n ro, s) => (true, s.setResult ld 4 (if ro then 4 else 0) a.region n 0 [])

/-! ## The instar commands (09 R312, R313) -/

/-- The fields of an instar command. -/
structure InstarCmd where
  op : Nat
  access : Nat
  region : Nat
  ld : Nat
  inst : Nat
  first : Nat
  count : Nat
  stamp : Nat
  reserved : Bool
deriving DecidableEq, Repr

/-- Read a 32-byte instar command. -/
def instarCmdOf (b : Bytes) : InstarCmd :=
  { op := field b 0 1, access := field b 1 1, region := field b 2 2, ld := field b 4 1, inst := field b 8 4
    first := field b 12 4, count := field b 16 4, stamp := field b 24 8
    reserved := field b 5 3 != 0 || field b 20 4 != 0 }

/-- Whether every extent of a region is GRANTED in a member's table with the shared bit (09 R283). -/
def State.memberHolds (s : State) (x : Region) (ld : Nat) : Bool :=
  (List.range ((x.base + x.length - 1) / 2 ^ 30 - x.base / 2 ^ 30 + 1)).all (fun i =>
    match s.extent x.owner (x.base / 2 ^ 30 + i) with
    | some e => (s.extentsOf ld).any (fun m => m.2.dla == e.dla && m.2.state == 2 && m.2.shared)
    | none => false)

/-- Whether a sender is a member of a region, or holds write right. -/
def State.memberRight (s : State) (w : Sender) (r : Nat) (write : Bool) : Bool :=
  match w.ld, s.sharedOf r with
  | some n, some x => x.readMask.testBit n && (!write || x.writeMask.testBit n)
  | _, _ => false

/-- The named instar of a region, 0 for the head. -/
def State.namedInst (s : State) (r n : Nat) : Nat := if n = 0 then ((s.sharedOf r).map (·.head)).getD 0 else n

/-- Checks that every command of a member passes first, in the order of R313: the rows RIGHTS, then RANGE. -/
def State.memberChecks (s : State) (w : Sender) (c : InstarCmd) (write : Bool) : List (Bool × Nat) :=
  [ (!s.memberRight w c.region false, stRights), (write && !s.memberRight w c.region true, stRights),
    ((s.sharedOf c.region).isNone, stRange), (c.reserved || c.ld != 0, stRange),
    (c.op != 1 && c.access != 0, stRange) ]

/-- The attachment of the sender, which exists after the checks. -/
def State.senderAttach (s : State) (w : Sender) (r : Nat) : Nat × Attach :=
  (s.attachOf (w.ld.getD 0) r).getD (0, { region := 0, ld := 0, kind := 1, base := 0, keyGen := 0, since := 0 })

/-- Whether the sender has no attachment to a region. -/
def State.noAttach (s : State) (w : Sender) (r : Nat) : Bool := (s.attachOf (w.ld.getD 0) r).isNone

/-- ATTACH (09 R288, R313). -/
def State.imAttach (s : State) (w : Sender) (c : InstarCmd) : Reply :=
  let r := c.region
  let ld := w.ld.getD 0
  let n := s.namedInst r c.inst
  let rw := c.access == 2
  let x := (s.region r).getD (defaultRegion 0)
  let go : State :=
    let id := s.freeAttach.getD 0
    let (v, s) := if rw then s.drawVersion r else (0, s)
    let a : Attach := { region := r, ld := ld, kind := if rw then 2 else 1, base := n, ver := v, keyGen := x.keyGen, since := s.now }
    { s with attaches := tabSet s.attaches id a }.bump 0x900 0x16 1
  checks (s.memberChecks w c rw ++
    [ (c.access != 1 && c.access != 2, stRange), ((s.instOf r n).isNone, stRange), (!s.memberHolds x ld, stRange),
      (!s.noAttach w r, stBusy), (s.freeAttach.isNone, stNoResource),
      (rw && (s.sharedOf r).any (fun x => decide (x.counter ≥ 0xFFFFFFFF)), stNoResource) ]) go

/-- DETACH (09 R293). -/
def State.imDetach (s : State) (w : Sender) (c : InstarCmd) : Reply :=
  checks (s.memberChecks w c false ++ [(s.noAttach w c.region, stRange)]) (s.endAttach (s.senderAttach w c.region).1)

/-- ADVANCE (09 R292). -/
def State.imAdvance (s : State) (w : Sender) (c : InstarCmd) : Reply :=
  let n := s.namedInst c.region c.inst
  let (id, a) := s.senderAttach w c.region
  checks (s.memberChecks w c false ++ [(s.noAttach w c.region, stRange), ((s.instOf c.region n).isNone, stRange)])
    ({ s with attaches := tabSet s.attaches id { a with base := n } }.reclaim c.region)

/-- PUBLISH (09 R295). -/
def State.imPublish (s : State) (w : Sender) (c : InstarCmd) : Reply :=
  let (id, a) := s.senderAttach w c.region
  checks (s.memberChecks w c true ++
    [(s.noAttach w c.region || a.kind != 2, stRange), (c.inst != a.base, stRange)])
    (s.publishBy a.ld id a c.stamp).2

/-- Whether a tile range lies outside a region. -/
def Region.rangeOut (x : Region) (first count : Nat) : Bool := count == 0 || decide (first + count > x.tiles)

/-- REVERT (09 R292). -/
def State.imRevert (s : State) (w : Sender) (c : InstarCmd) : Reply :=
  let (id, a) := s.senderAttach w c.region
  let x := (s.region c.region).getD (defaultRegion 0)
  let (n, t) := s.dropOverlay id (fun t => decide (c.first ≤ t ∧ t < c.first + c.count))
  checks (s.memberChecks w c true ++ [(s.noAttach w c.region, stRange), (x.rangeOut c.first c.count, stRange)])
    ((t.bump 0x900 0x1A n).setResult a.ld 5 0 c.region a.base 0 []).retryFlips

/-- LIST CONFLICTS (09 R298). -/
def State.imListConflicts (s : State) (w : Sender) (c : InstarCmd) : Reply :=
  let (id, a) := s.senderAttach w c.region
  let x := (s.region c.region).getD (defaultRegion 0)
  let l := s.conflictsOf id a
  checks (s.memberChecks w c false ++ [(s.noAttach w c.region, stRange), (x.rangeOut c.first 1, stRange)])
    (s.setConflicts a.ld 6 0 c.region a.base l (l.filter (fun t => decide (c.first ≤ t))))

/-- The first salvaged overlay of an LD in a region. -/
def State.salvaged (s : State) (ld r : Nat) : Option (Nat × Attach) :=
  s.attaches.find? (fun a => a.2.region == r && a.2.ld == ld && a.2.kind == 3)

/-- SALVAGE REATTACH (09 R310): the sender's own LD's salvaged overlay. -/
def State.imReattach (s : State) (w : Sender) (c : InstarCmd) : Reply :=
  let r := c.region
  let z := s.salvaged (w.ld.getD 0) r
  let gen := ((s.region r).map (·.keyGen)).getD 0
  let go : State := match z with
    | some (id, a) => { s with attaches := tabSet s.attaches id { a with kind := 2, since := s.now } }.bump 0x900 0x16 1
    | none => s
  checks ([ (!s.memberRight w r false, stRights), (!s.memberRight w r true, stRights),
            (z.any (fun a => a.2.keyGen != gen), stRights),
            ((s.sharedOf r).isNone, stRange), (c.reserved || c.ld != 0 || c.access != 0, stRange),
            (!s.noAttach w r, stBusy), (z.isNone, stRange) ]) go

/-- SALVAGE DISCARD (09 R309). -/
def State.imDiscard (s : State) (w : Sender) (c : InstarCmd) : Reply :=
  let z := s.salvaged c.ld c.region
  checks [ (!w.fm, stRights), ((s.sharedOf c.region).isNone, stRange), (c.reserved || c.access != 0 || decide (c.ld ≥ 16), stRange),
           (z.isNone, stRange) ] (match z with
    | some (id, _) => s.endSalvage id
    | none => s)

/-- FORCE DETACH (09 R313). -/
def State.imForce (s : State) (w : Sender) (c : InstarCmd) : Reply :=
  let z := s.attachOf c.ld c.region
  checks [ (!w.fm, stRights), ((s.sharedOf c.region).isNone, stRange), (c.reserved || c.access != 0 || decide (c.ld ≥ 16), stRange),
           (z.isNone, stRange) ] (match z with
    | some (id, _) => s.endAttach id
    | none => s)

/-- A write of the instar command member (09 R312). -/
def State.instarCommand (s : State) (w : Sender) (b : Bytes) : Reply :=
  let c := instarCmdOf b
  if c.op = 1 then s.imAttach w c
  else if c.op = 2 then s.imDetach w c
  else if c.op = 3 then s.imAdvance w c
  else if c.op = 4 then s.imPublish w c
  else if c.op = 5 then s.imRevert w c
  else if c.op = 6 then s.imListConflicts w c
  else if c.op = 0x10 then s.imReattach w c
  else if c.op = 0x11 then s.imDiscard w c
  else if c.op = 0x12 then s.imForce w c
  else .error stRange

/-! ## The shared region table (09 R282, R301, R311, R315) -/

/-- Reserves of every shared region but one, in a tier. -/
def State.reservesBut (s : State) (r tier : Nat) : Nat :=
  s.shareds.foldl (fun a x => if x.1 = r then a else a + (if tier = 1 then x.2.nearReserve else x.2.farReserve)) 0

/-- Near or far shares of every LD but one, and the guest reserve (16 R556). -/
def State.sharesBut (s : State) (ld tier : Nat) : Nat :=
  s.obj 0xC00 0x130 (tier - 1) + (List.range 16).foldl (fun a n => if n = ld then a else a + s.obj 0x200 (0x200 + n) (tier - 1)) 0

/-- The bytes of a shared region entry (09 R315). -/
def State.sharedEntry (s : State) (r : Nat) : Bytes :=
  match s.sharedOf r with
  | none => zeros 64
  | some x => leBytes 1 x.mode ++ leBytes 1 1 ++ leBytes 2 x.readMask ++ leBytes 2 x.writeMask ++ zeros 2 ++ leBytes 4 x.head
      ++ leBytes 4 x.counter ++ leBytes 8 x.nearReserve ++ leBytes 8 x.farReserve
      ++ leBytes 4 (s.insts.filter (·.region == r)).length ++ leBytes 4 (s.attaches.filter (·.2.region == r)).length ++ zeros 24

/-- The fabric manager's fields of a shared region entry zeroed: what a write must leave alone. -/
def sharedFixed (b : Bytes) : Bytes := patch (patch b 0 (zeros 1)) 2 (zeros 4) |> fun b => patch b 16 (zeros 16)

/-- An attached LD whose right a mask change removes: its attachment ends with event 0x0153, or stays read-only with no event (09 R311,
R316). -/
def State.maskChange (s : State) (r : Nat) (x : Shared) : State :=
  (s.attaches.filter (fun a => a.2.region == r && (a.2.kind == 1 || a.2.kind == 2))).foldl (fun s a =>
    if !x.readMask.testBit a.2.ld then
      (s.endAttach a.1).raiseFor [a.2.ld] 0x900 0x0153 (attachDetail a.2)
    else if a.2.kind = 2 ∧ !x.writeMask.testBit a.2.ld then
      let s := (s.dropOverlay a.1 (fun _ => true)).2
      { s with attaches := tabSet s.attaches a.1 { a.2 with kind := 1, ver := 0 } }.retryFlips
    else s) s

/-- Whether every read-mask bit set anew lies in the use mask of the region's key (10 R324). -/
def State.maskAllowed (s : State) (r : Nat) (x y : Shared) : Bool :=
  let use : Nat := match s.region r with
    | some d => ((s.keys.find? (fun (z : Nat × KeySlot) => z.2.origin.isNone && z.2.kind == d.keyKind && z.2.binding == d.keyBinding)).map (fun z => z.2.useMask)).getD 0
    | none => 0
  (List.range 16).all (fun n => !y.readMask.testBit n || x.readMask.testBit n || use.testBit n)

/-- The new contents of one entry of 0900:150 (09 R282, R301, R315, 03 R115, 10 R324). -/
def State.writeSharedEntry (s : State) (r : Nat) (b : Bytes) : Reply :=
  let old := s.sharedEntry r
  if b = old then .ok s
  else match s.sharedOf r with
    | none => .error stRange
    | some x =>
      let y : Shared := { x with mode := field b 0 1, readMask := field b 2 2, writeMask := field b 4 2
                                 nearReserve := field b 16 8, farReserve := field b 24 8 }
      let held := s.versions.any (fun v => v.2.region == r && v.2.owner.isSome)
      checks [ (sharedFixed b != sharedFixed old, stRange), (decide (y.mode > 1), stRange),
               (y.writeMask &&& y.readMask != y.writeMask, stRange), (!s.maskAllowed r x y, stRange),
               (decide (s.reservesBut r 1 + y.nearReserve + s.sharesBut 16 1 > s.obj 0x200 0x101 0), stRange),
               (decide (s.reservesBut r 2 + y.farReserve + s.sharesBut 16 2 > s.farAssignable), stRange),
               (y.mode != x.mode && held, stBusy) ]
        ((s.setShared r y).maskChange r y)

/-- A write of bytes of 0900:150: each entry it touches, whole (09 R315). -/
def State.writeSharedTable (s : State) (off : Nat) (b : Bytes) : Reply :=
  s.writeTable 64 off b State.sharedEntry State.writeSharedEntry

/-! ## Tables as read (09 R315) -/

/-- An attachment entry. -/
def State.attachEntry (s : State) (i : Nat) : Bytes :=
  match tabGet s.attaches i with
  | none => zeros 32
  | some a => leBytes 2 a.region ++ leBytes 1 a.ld ++ leBytes 1 (if a.kind = 4 then 2 else a.kind) ++ leBytes 4 a.base
      ++ leBytes 4 a.ver ++ leBytes 4 (s.overlay i).length ++ leBytes 2 a.keyGen ++ zeros 6 ++ leBytes 8 a.since

/-- An instar entry. -/
def State.instEntry (s : State) (i : Nat) : Bytes :=
  match s.insts[i]? with
  | none => zeros 32
  | some x => leBytes 2 x.region ++ leBytes 1 x.publisher ++ leBytes 1 (b2n ((s.sharedOf x.region).any (·.head == x.number)))
      ++ leBytes 4 x.number ++ leBytes 4 (s.instCount x.region x.number) ++ leBytes 4 x.changed ++ leBytes 8 x.stamp ++ leBytes 8 x.time

end Sys2Proof.Machine
end

