-- ==== Sys2Proof/Machine/Regions.lean ====
section
/-!
DEFINITION. Region descriptors and the region commands (03 R96 to R103), codec slots and recode sweeps as commands
(04 R144 to R155, 05 R177, R179), shares (03 R115 to R118).
-/
namespace Sys2Proof.Machine

/-! ## Descriptors (03 R98) -/

/-- Read a region descriptor; the reserved fields come apart. -/
def regionOf (b : Bytes) : Region :=
  { base := field b 0 8, length := field b 8 8, owner := field b 16 1, codec := field b 17 1, elem := field b 18 1
    flags := field b 19 1, frSlot := field b 20 1, llSlot := field b 21 1, residual := field b 22 2
    keyBinding := field b 24 4, keyGen := field b 28 2, keyKind := field b 30 1, layout := field b 32 1, stripe := field b 33 1
    tierMask := field b 34 1, steep := field b 35 1 }

/-- The bytes of a descriptor. -/
def Region.bytes (x : Region) : Bytes :=
  leBytes 8 x.base ++ leBytes 8 x.length ++ leBytes 1 x.owner ++ leBytes 1 x.codec ++ leBytes 1 x.elem ++ leBytes 1 x.flags
    ++ leBytes 1 x.frSlot ++ leBytes 1 x.llSlot ++ leBytes 2 x.residual ++ leBytes 4 x.keyBinding ++ leBytes 2 x.keyGen
    ++ leBytes 1 x.keyKind ++ zeros 1 ++ leBytes 1 x.layout ++ leBytes 1 x.stripe ++ leBytes 1 x.tierMask ++ leBytes 1 x.steep
    ++ zeros 28

/-! ## Checks (03 R100) -/

/-- The key slot that holds a binding, ACTIVE or ERASING. -/
def State.bindingSlot (s : State) (kind binding : Nat) : Option (Nat × KeySlot) :=
  s.keys.find? (fun z => z.2.origin.isNone && z.2.kind == kind && z.2.binding == binding)

/-- Whether a KEYREF is usable for a region (10 R324). -/
def State.keyUsable (s : State) (x : Region) : Bool :=
  match s.bindingSlot x.keyKind x.keyBinding with
  | none => false
  | some (_, z) => z.gen == x.keyGen && (if x.shared then x.keyKind == 1 && z.useMask.testBit x.owner
      else x.keyKind == 0 && x.keyBinding == x.owner)

/-- Whether a codec slot may be named by a region: it holds a table and its owner is the region's owner, or FM for a
shared region. -/
def State.slotUsable (s : State) (ll : Bool) (n : Nat) (x : Region) : Bool :=
  decide (n < 64) && s.slotState ll n != 0 && s.slotOwner ll n == (if x.shared then 0xFE else x.owner)

/-- The fields that R100 refuses with RANGE on CREATE and MODIFY alike. -/
def State.badFields (s : State) (b : Bytes) (x : Region) : Bool :=
  let res := s.declared x.residual
  !([0, 1, 0x10, 0x11].contains x.codec) || decide (x.elem > 3) || decide (x.flags ≥ 8) || decide (x.owner ≥ 16)
  || decide (x.keyKind > 1) || decide (x.layout > 1) || decide (x.tierMask ≥ 16) || decide (x.steep > 3)
  || (x.isFr && x.elem == 0) || (!x.isFr && x.frSlot != 0xFF) || (x.isFr && !s.slotUsable false x.frSlot x)
  || (x.llSlot != 0xFF && !s.slotUsable true x.llSlot x) || (!x.residuals && x.residual != 0xFFFF)
  || !s.keyUsable x || !x.tierMask.testBit 1 || !(membersOf x.stripe).all s.spanMembers.contains || decide (x.stripe ≥ 256)
  || (x.layout == 0 && x.stripe != 0) || (x.layout == 1 && x.stripe == 0) || (x.layout == 1 && x.shared)
  || field b 31 1 != 0 || !allZero (slice b 36 28)
  || (x.residuals && (!x.isFr || (match res with
      | none => true
      | some y => y.owner != x.owner || y.elem != 1 || y.isFr || y.length != (if x.elem = 3 then x.length / 2 else x.length))))

/-- Whether every tile of a range lies in the owner's GRANTED extents of the right kind. -/
def State.rangeGranted (s : State) (x : Region) (shared : Bool) : Bool :=
  decide (x.base + x.length ≤ 2 ^ 44) &&
  (List.range ((x.base + x.length - 1) / 2 ^ 30 - x.base / 2 ^ 30 + 1)).all (fun i =>
    match s.extent x.owner (x.base / 2 ^ 30 + i) with
    | some e => e.state == 2 && e.shared == shared
    | none => false)

/-- Whether two ranges overlap. -/
def overlaps (a la b lb : Nat) : Bool := decide (a < b + lb ∧ b < a + la)

/-- The map indices of a range's tiles that are not UNWRITTEN. -/
def State.writtenIn (s : State) (x : Region) : List Nat :=
  s.tileMap.filterMap (fun e => match s.dpaOf x.owner e.1 with
    | some d => if e.2.state ≠ 0 ∧ x.base ≤ d ∧ d < x.base + x.length then some e.1 else none
    | none => none)

/-- The tiles of a region that are not UNWRITTEN. -/
def State.regionWritten (s : State) (r : Nat) (x : Region) : List Nat :=
  if r < 16 then s.tileMap.filterMap (fun e => if e.2.state ≠ 0 ∧ s.regionAt e.1 = some r then some e.1 else none)
  else s.writtenIn x

/-! ## Effects -/

/-- A region names its codec slots: a RETIRING slot returns to READY (04 R147). -/
def State.nameSlots (s : State) (x : Region) : State :=
  let s := if x.isFr then s.slotCheck false x.frSlot else s
  s.slotCheck true x.llSlot

/-- A region no longer names its codec slots (04 R147). -/
def State.unnameSlots (s : State) (x : Region) : State :=
  let s := if x.isFr then s.slotUnnamed false x.frSlot else s
  s.slotUnnamed true x.llSlot

/-- Writes held for tiles that are being discarded complete against the old data, which is gone (03 R102). -/
def State.dropHeld (s : State) (tiles : Nat → Bool) : State :=
  let mine (h : HeldWrite) : Bool := h.remote.isNone && h.saw.any (fun w => tiles w.index)
  (s.held.filter mine).foldl State.completed { s with held := s.held.filter (fun h => !mine h) }

/-- The DLA extents of a declared region. -/
def State.regionDlas (s : State) (x : Region) : List Nat :=
  (List.range ((x.base + x.length - 1) / 2 ^ 30 - x.base / 2 ^ 30 + 1)).filterMap (fun i =>
    (s.extent x.owner (x.base / 2 ^ 30 + i)).map (·.dla))

/-- Send RESERVE for a DLA extent to a member; region 0xFFFF gives the reservation up (16 R554; log entry 19). -/
def State.sendReserve (s : State) (m dla region : Nat) (wait : Bool) : State :=
  let tag := s.span.nextTag
  let q : RemoteReq := { id := tag, member := m, kind := 8, sent := s.now, reserve := some dla }
  let qs := if wait then s.span.requests ++ [q] else s.span.requests
  let s := { s with span := { s.span with nextTag := (tag + 1) % 2 ^ 32, requests := qs } }
  s.sendPacket m 8 0 0x10 0 tag dla region []

/-- The other members of a stripe. -/
def State.stripeOthers (s : State) (x : Region) : List Nat := (membersOf x.stripe).filter (· != s.span.member)

/-- The member that holds tile `t` of a striped region (16 R553). -/
def Region.holderOf (x : Region) (t : Nat) : Nat := let m := membersOf x.stripe; nth m (t % m.length) 0

/-- The tiles another member holds read REMOTE (16 R554). -/
def State.markRemote (s : State) (r : Nat) (x : Region) : State :=
  (List.range x.tiles).foldl (fun s t =>
    let h := x.holderOf t
    if h = s.span.member then s
    else match s.regionTile x t with
      | some i => s.setEntry i { state := 4, location := h, region := r }
      | none => s) s

/-- Make every tile of a region UNWRITTEN (03 R102, 06 R197 code 0x07). -/
def State.discardRegion (s : State) (r : Nat) (x : Region) : State :=
  let ks := s.regionWritten r x
  let s := s.abortWhere 7 (fun m => ks.contains m.key)
  let s := s.dropHeld (fun i => s.regionAt i == some r)
  (ks.foldl State.discardTile s).settleSweeps.retryLocal

/-- Make every tile of a shared region UNWRITTEN and publish the zero instar (03 R102). -/
def State.discardShared (s : State) (r : Nat) (x : Region) : State :=
  let n := (s.regionWritten r x).length
  let s := (s.discardRegion r x).bump 0x900 0x1C n
  (s.newHead r 0xFF n 0).2.reclaim r

/-- A shared region begins: instar 1 is the head, no members, strict (09 R281). -/
def State.beginShared (s : State) (r : Nat) : State :=
  let i : Inst := { region := r, number := 1, publisher := 0xFF, changed := 0, stamp := 0, time := s.now }
  { s with insts := s.insts ++ [i] }.setShared r
    { mode := 0, readMask := 0, writeMask := 0, nearReserve := 0, farReserve := 0, head := 1 }

/-- A shared region ends: its sharing entry, its instars and its version records go. -/
def State.endShared (s : State) (r : Nat) : State :=
  let s := (s.versions.filter (fun v => v.2.region == r)).foldl (fun s v => s.freeVersion v.1) s
  { s with shareds := tabDel s.shareds r, insts := s.insts.filter (fun i => i.region != r) }

/-- Put a new region in force. -/
def State.beginRegion (s : State) (r : Nat) (x : Region) : State :=
  let s := { s with regions := tabSet s.regions r x }.nameSlots x
  if x.shared then s.beginShared r else if x.layout = 1 then s.markRemote r x else s

/-- A running sweep of a region is cancelled. -/
def Sweep.cancelFor (w : Sweep) (r : Nat) : Sweep := if w.region = r ∧ w.state = 1 then { w with state := 3 } else w

/-- Remove a region and everything it holds (03 R102, R651). -/
def State.removeRegion (s : State) (r : Nat) (x : Region) : State :=
  let s := if x.shared then (s.discardShared r x).endShared r else s.discardRegion r x
  let s := if x.layout = 1 then
      (s.stripeOthers x).foldl (fun s m => (s.regionDlas x).foldl (fun s d => s.sendReserve m d 0xFFFF false) s) s
    else s
  ({ s with regions := tabDel s.regions r, sweeps := s.sweeps.map (fun (w : Nat × Sweep) => (w.1, w.2.cancelFor r)) }).unnameSlots x

/-- After a DISCARD the other members of a stripe hold the tiles again, UNWRITTEN (log entry 19). -/
def State.renewStripe (s : State) (r : Nat) (x : Region) : State :=
  if x.layout ≠ 1 then s
  else ((s.stripeOthers x).foldl (fun s m => (s.regionDlas x).foldl (fun s d =>
    (s.sendReserve m d 0xFFFF false).sendReserve m d r false) s) s).markRemote r x

/-! ## The commands (03 R99 to R102) -/

/-- The rights rows of R100. -/
def State.regionRights (s : State) (w : Sender) (op id : Nat) (x : Region) : List (Bool × Nat) :=
  let old := s.declared id
  [ (old.any (fun y => !w.mayActFor y.owner), stRights), (decide (op ≤ 2) && !w.mayActFor x.owner, stRights),
    (((decide (op ≤ 2) && x.shared) || old.any Region.shared) && !w.fm, stRights) ]

/-- Fields of the command itself that must be 0. -/
def regionReserved (b : Bytes) : Bool := field b 1 1 != 0 || field b 4 4 != 0

/-- CREATE. A striped region whose tiles other members hold waits for their reservations (16 R554). A shared region for whose instar 1 the
table of 09 R305 has no room is answered NO_RESOURCE, as in MODIFY (log entry 45). -/
def State.regionCreate (s : State) (w : Sender) (b : Bytes) : Reply :=
  let id := field b 2 2
  let d := slice b 8 64
  let x := regionOf d
  let misaligned := x.base % 65536 != 0 || x.length % 65536 != 0 || x.length == 0
  let clash := s.regions.any (fun y => decide (y.1 ≥ 16 ∧ y.1 ≠ id) && y.2.owner == x.owner && overlaps x.base x.length y.2.base y.2.length)
  let others := s.stripeOthers x
  let go : State :=
    if x.layout = 1 ∧ !others.isEmpty then
      let asks := others.flatMap (fun m => (s.regionDlas x).map (fun e => (m, e)))
      let z : WaitCreate := { path := none, region := id, desc := x, waiting := asks, made := [] }
      asks.foldl (fun s a => s.sendReserve a.1 a.2 id true) { s with span := { s.span with creates := s.span.creates ++ [z] } }
    else s.beginRegion id x
  checks (s.regionRights w 1 id x ++
    [ (regionReserved b, stRange), (decide (id < 16 ∨ id ≥ 4096), stRange), (misaligned, stRange),
      (decide (x.owner ≥ 16), stRange), (!s.rangeGranted x x.shared, stRange), (clash, stRange),
      (s.badFields d x, stRange), ((s.declared id).isSome || s.span.creates.any (fun c => c.region == id), stBusy),
      (!(s.writtenIn x).isEmpty, stBusy), (x.layout == 1 && others.any s.span.unreachable.contains, stBusy),
      (x.shared && decide (s.insts.length ≥ 4096), stNoResource) ]) go

/-- The width a region's FR slot gives. -/
def State.frWidthOf (s : State) (x : Region) : Nat := if x.isFr then ((s.frTable x.frSlot).map (·.width)).getD 0 else 0

/-- MODIFY. -/
def State.regionModify (s : State) (w : Sender) (b : Bytes) : Reply :=
  let id := field b 2 2
  let d := slice b 8 64
  let x := regionOf d
  let y := (s.declared id).getD (defaultRegion 0)
  let some? := !(s.regionWritten id y).isEmpty
  let fixed := x.base != y.base || x.length != y.length || x.owner != y.owner || x.layout != y.layout || x.stripe != y.stripe
  let onlySix := { x with codec := y.codec, elem := y.elem, frSlot := y.frSlot, llSlot := y.llSlot
                          tierMask := y.tierMask, steep := y.steep } == y
  let coded := x.codec != y.codec || x.elem != y.elem || x.keyKind != y.keyKind || x.keyBinding != y.keyBinding
    || x.keyGen != y.keyGen || x.shared != y.shared || x.residual != y.residual
  let go : State :=
    let s := { s with regions := tabSet s.regions id x }
    let s := if x.shared ∧ !y.shared then s.beginShared id else if y.shared ∧ !x.shared then s.endShared id else s
    (s.unnameSlots y).nameSlots x
  checks (s.regionRights w 2 id x ++
    [ ((s.declared id).isNone, stNoObject), (regionReserved b, stRange), (s.badFields d x, stRange), (fixed, stRange),
      (decide (id < 16) && !onlySix, stRange), (coded && some?, stBusy),
      (some? && x.frSlot != y.frSlot && s.frWidthOf x != s.frWidthOf y, stBusy),
      (x.shared && !y.shared && decide (s.insts.length ≥ 4096), stNoResource) ]) go

/-- Whether a shared region is in use (03 R100). -/
def State.sharedInUse (s : State) (r : Nat) : Bool :=
  s.attaches.any (fun a => a.2.region == r) || s.jobs.any (fun j => (tabGet j.2.inputs r).isSome)

/-- DELETE. -/
def State.regionDelete (s : State) (w : Sender) (b : Bytes) : Reply :=
  let id := field b 2 2
  let x := (s.declared id).getD (defaultRegion 0)
  checks (s.regionRights w 3 id x ++
    [ ((s.declared id).isNone, stNoObject), (regionReserved b, stRange), (decide (id < 16), stRange),
      (x.shared && s.sharedInUse id, stBusy) ]) (s.removeRegion id x)

/-- DISCARD. -/
def State.regionDiscard (s : State) (w : Sender) (b : Bytes) : Reply :=
  let id := field b 2 2
  let x := (s.declared id).getD (defaultRegion 0)
  checks (s.regionRights w 4 id x ++
    [ ((s.declared id).isNone, stNoObject), (regionReserved b, stRange), (x.shared && s.sharedInUse id, stBusy) ])
    (if x.shared then s.discardShared id x else (s.discardRegion id x).renewStripe id x)

/-- A write of the region command member (03 R99). -/
def State.regionCommand (s : State) (w : Sender) (b : Bytes) : Reply :=
  match field b 0 1 with
  | 1 => s.regionCreate w b
  | 2 => s.regionModify w b
  | 3 => s.regionDelete w b
  | 4 => s.regionDiscard w b
  | _ => .error stRange

/-! ## Codec slots (04 R146, R150, 05 R177) -/

/-- The image bytes of a codec slot as written. -/
def State.slotImage (s : State) (ll : Bool) (n len : Nat) : Bytes := s.blob 0x300 (slotObj ll n) 8 0 len

/-- Whether nothing refers to a codec slot. -/
def State.slotIdle (s : State) (ll : Bool) (n : Nat) : Bool :=
  s.slotTiles ll n + s.slotFlight ll n == 0 && s.slotPointers ll n == 0

/-- The generation after one (04 R146). -/
def nextGen (g : Nat) : Nat := if g ≥ 0xFFFF then 1 else g + 1

/-- Put an image in force in a slot. -/
def State.loadSlot (s : State) (ll : Bool) (n : Nat) (image : Bytes) : State :=
  let g := nextGen (s.slotGen ll n)
  let s := (s.setObj 0x300 (slotObj ll n) 1 1).setObj 0x300 (slotObj ll n) 2 g
  if ll then { s with llTables := tabSet s.llTables n image } else { s with frTables := tabSet s.frTables n image }

/-- Whether a sender is a codec slot's owner. -/
def State.ownsSlot (s : State) (w : Sender) (ll : Bool) (n : Nat) : Bool :=
  let o := s.slotOwner ll n
  (w.fm && o == 0xFE) || (w.ld == some o)

/-- A write of an FR slot's commit member (04 R146). -/
def State.frCommit (s : State) (w : Sender) (n v : Nat) : Reply :=
  let image := if v = 0xFF then s.slotImage false n 528 else tableImage (defaultTable v)
  checks [ (v != 0xFF && decide (v > 8), stRange), (!s.ownsSlot w false n, stRights),
           (v == 0xFF && (frTableOf image).isNone, stRange), (!s.slotIdle false n, stBusy) ]
    (let s := s.loadSlot false n image
     if v = 0xFF then s else s.setBlob 0x300 (slotObj false n) 8 0 image)

/-- A write of an LL slot's commit member (05 R177). -/
def State.llCommit (s : State) (w : Sender) (n v : Nat) : Reply :=
  let image := s.slotImage true n 2072
  checks [ (v != 0xFF, stRange), (!s.ownsSlot w true n, stRights), ((llTablesOf image).isNone, stRange),
           (!s.slotIdle true n, stBusy) ] (s.loadSlot true n image)

/-- A write of a codec slot's owner member by the fabric manager (04 R150). -/
def State.slotOwnerWrite (s : State) (ll : Bool) (n v : Nat) : Reply :=
  checks [ (decide (v ≥ 16) && v != 0xFE && v != 0xFF, stRange), (!s.slotIdle ll n, stBusy) ]
    (let o := slotObj ll n
     let s := (s.setObj 0x300 o 0 v).setObj 0x300 o 1 0
     let lo := okey 0x300 o 8 * 2 ^ 30
     { s with blobs := s.blobs.filter (fun c => !decide (lo ≤ c.1 ∧ c.1 < lo + 2 ^ 30)) })

/-! ## Recode sweeps (04 R152 to R155, 05 R179) -/

/-- The stored tiles a sweep is to recode. -/
def State.sweepTiles (s : State) (w : Sweep) : List Nat :=
  (s.tileMap.map (·.1) ++ s.versions.map (fun v => verKey v.1)).filter (s.sweepNeeds w)

/-- A write of the recode member: region, command, five reserved bytes (04 R155, 05 R179). -/
def State.recodeWrite (s : State) (w : Sender) (b : Bytes) : Reply :=
  let r := field b 0 2
  let op := field b 2 1
  let ll := decide (op ≥ 3)
  let x := (s.declared r).getD (defaultRegion 0)
  let start := op == 1 || op == 3
  let mine := s.sweeps.find? (fun z => z.2.region == r && z.2.state == 1)
  let free := firstBelow 16 (fun i => (tabGet s.sweeps i).all (fun z => z.state != 1))
  let go : State := if start then
      let z : Sweep := { region := r, state := 1, ll := ll, left := [], recoded := 0 }
      { s with sweeps := tabSet s.sweeps (free.getD 0) { z with left := s.sweepTiles z } }.settleSweeps
    else match mine with
      | some (i, z) =>
        if z.ll ≠ ll then s
        else
        let s := { s with sweeps := tabSet s.sweeps i { z with state := 3 } }
        s.abortWhere 0x0D (fun m => decide (m.by_ = .sweep i) && m.state != 3)
      | none => s
  checks [ (decide (op = 0 ∨ op > 4), stRange),
           ((s.declared r).any (fun x => !w.mayActFor x.owner || (x.shared && !w.fm)), stRights),
           ((s.declared r).isNone, stNoObject), (!allZero (slice b 3 5), stRange), (start && x.layout == 1, stRange),
           (start && x.shared && (s.attaches.any (fun a => a.2.region == r && decide (a.2.kind ≤ 2))
              || decide ((s.insts.filter (fun i => i.region == r)).length > 1)), stBusy),
           (start && mine.isSome, stBusy), (start && free.isNone, stNoResource) ] go

/-- An entry of the sweep table 0300:141. -/
def Sweep.bytes (z : Sweep) : Bytes :=
  leBytes 2 z.region ++ leBytes 1 z.state ++ zeros 1 ++ leBytes 4 z.remaining ++ leBytes 8 z.recoded

/-! ## Shares (03 R115 to R118) -/

/-- The overcommit condition of an LD with its share of a tier replaced. -/
def State.shareKeeps (s : State) (ld near far rho : Nat) : Bool :=
  overcommitOk (s.logicalTiles ld) (near / 65536 + far / 65792) rho (s.spillCounted ld)

/-- Whether every LD's charges lie within its shares. -/
def State.chargesFit (s : State) : Bool :=
  (List.range 16).all (fun n => decide (s.charge n 1 ≤ s.shareOf n 1 ∧ s.charge n 2 ≤ s.shareOf n 2))

/-- The mover leaves DRAINING of reason 0x0100 for its requested state once every LD's charges lie within its shares (03 R115). -/
def State.moverSettle (s : State) : State :=
  let u := s.unit 0x700
  if u.own = 4 ∧ u.reason = 0x100 ∧ s.chargesFit then s.setOwn 0x700 (if s.requested 0x700 = 3 then 4 else s.requested 0x700) 1
  else s

/-- After an accepted reduction of a share that charges exceed, the mover shows DRAINING with reason 0x0100 (03 R115). -/
def State.moverDrain (s : State) : State :=
  let u := s.unit 0x700
  if u.own = 0 ∨ u.own = 6 ∨ (u.own = 4 ∧ u.reason = 0x100) ∨ s.chargesFit then s else s.setOwn 0x700 4 0x100

/-- A write of an LD's near (tier 1) or far (tier 2) share (03 R115). -/
def State.shareWrite (s : State) (ld tier v : Nat) : Reply :=
  let near := if tier = 1 then v else s.shareOf ld 1
  let far := if tier = 2 then v else s.shareOf ld 2
  let lim := if tier = 1 then s.obj 0x200 0x101 0 else s.farAssignable
  let priv := (s.extentsOf ld).any (fun e => !e.2.shared && (e.2.state == 1 || e.2.state == 2))
  checks [ (decide (s.sharesBut ld tier + v + s.reservesBut 4096 tier > lim), stRange),
           (!s.shareKeeps ld near far (s.obj 0x200 (0x200 + ld) 2), stBusy),
           (tier == 1 && decide (v < 4194304) && priv, stBusy) ]
    ((let t := s.setObj 0x200 (0x200 + ld) (tier - 1) v
      if v < s.obj 0x200 (0x200 + ld) (tier - 1) then t.moverDrain else t.moverSettle).retryHeld (fun h => h.why == .space && h.ld == ld))

/-- A write of an LD's overcommit ratio (03 R117, R120). -/
def State.ratioWrite (s : State) (ld v : Nat) : Reply :=
  checks [ (decide (v < 256 ∨ v > 1024), stRange), (!s.shareKeeps ld (s.shareOf ld 1) (s.shareOf ld 2) v, stBusy) ]
    (s.setObj 0x200 (0x200 + ld) 2 v)

end Sys2Proof.Machine
end

