-- ==== Sys2Proof/Machine/Keys.lean ====
section
/-!
DEFINITION. The key store (10 R323 to R335): key slots, key commands, the erase sweep, keys sent to span members.
-/
namespace Sys2Proof.Machine

/-! ## The random generator (10 R325) -/

/-- Draw `n` bytes; the generator reseeds after every 2^20 requests. -/
def State.draw (s : State) (n : Nat) : Bytes × State :=
  let v := Config.drawn s.fresh
  let uses := s.drbgUses + 1
  let s := { s with fresh := s.fresh + 1, drbgUses := if uses ≥ 1048576 then 0 else uses }
  let s := if uses ≥ 1048576 then s.setObj 0x400 0x100 0 (s.obj 0x400 0x100 0 + 1) else s
  (leBytes n v, s)

/-! ## AES key wrap (RFC 3394, 10 R335) -/

/-- One step of the wrap: the register A, the blocks, the step number. -/
def wrapStep (ks : List (List Nat)) (n : Nat) (a : Bytes × List Bytes) (t : Nat) : Bytes × List Bytes :=
  let i := t % n
  let b := (aesEnc ks ((a.1 ++ nth a.2 i []).map (·.toNat))).map (BitVec.ofNat 8)
  (xorBytes (b.take 8) (beBytes 8 (t + 1)), a.2.set i (b.drop 8))

/-- Wrap a key. -/
def keyWrap (kek key : Bytes) : Bytes :=
  let n := key.length / 8
  let (a, r) := (List.range (6 * n)).foldl (wrapStep (aesKeys kek) n) (List.replicate 8 0xA6, pieces 8 key)
  a ++ r.flatten

/-- One step of the unwrap. -/
def unwrapStep (ks : List (List Nat)) (n : Nat) (t : Nat) (a : Bytes × List Bytes) : Bytes × List Bytes :=
  let i := t % n
  let b := (aesDec ks ((xorBytes a.1 (beBytes 8 (t + 1)) ++ nth a.2 i []).map (·.toNat))).map (BitVec.ofNat 8)
  (b.take 8, a.2.set i (b.drop 8))

/-- Unwrap a key; none when its check value is wrong. -/
def keyUnwrap (kek w : Bytes) : Option Bytes :=
  let n := w.length / 8 - 1
  let (a, r) := (List.range (6 * n)).foldr (unwrapStep (aesKeys kek) n) (w.take 8, pieces 8 (w.drop 8))
  if a = List.replicate 8 0xA6 then some r.flatten else none

/-! ## Slots -/

/-- Replace a key slot. -/
def State.setKey (s : State) (i : Nat) (z : KeySlot) : State := { s with keys := tabSet s.keys i z }

/-- The host key of an LD is created when a host is first bound to it after fundamental reset (10 R323). -/
def State.createHostKey (s : State) (n : Nat) : State :=
  if (s.key n).isSome ∨ s.drbgFailed then s
  else
    let (k, s) := s.draw 64
    let s := s.setKey n { state := 1, kind := 0, gen := 1, binding := n, useMask := 2 ^ n, key := k, created := s.now }
    match s.region n with
    | some x => { s with regions := tabSet s.regions n { x with keyGen := 1 } }
    | none => s

/-- The region descriptors that name a binding. -/
def State.keyRegions (s : State) (z : KeySlot) : List (Nat × Region) :=
  s.regions.filter (fun r => z.origin.isNone && r.2.keyKind == z.kind && r.2.keyBinding == z.binding)

/-- Whether an entry carries a key slot. -/
def carriesKey (slot : Nat) (e : TileEntry) : Bool := decide (1 ≤ e.state ∧ e.state ≤ 3) && e.keySlot == slot

/-- Tiles and version records that carry a key and whose homes are not freed. -/
def State.keyTiles (s : State) (slot : Nat) : Nat :=
  (s.tileMap.filter (fun e => carriesKey slot e.2 && e.2.length != 0)).length
  + (s.versions.filter (fun v => carriesKey slot v.2.entry && v.2.entry.length != 0)).length

/-- An entry of 0400:150 (10 R354). -/
def State.keyEntry (s : State) (i : Nat) : Bytes :=
  match s.key i with
  | none => zeros 32
  | some z => leBytes 1 z.state ++ leBytes 1 z.kind ++ leBytes 2 z.gen ++ leBytes 4 z.binding ++ leBytes 2 z.useMask ++ zeros 2
      ++ leBytes 4 (s.keyRegions z).length ++ leBytes 8 (s.keyTiles i) ++ leBytes 8 z.created

/-- Send a binding to a span member, wrapped under the pair's transfer key; generation 0 and no data destroys it
(10 R335, 16 R547; log entry 20). -/
def State.sendKey (s : State) (m : Nat) (z : KeySlot) (gone : Bool) : State :=
  match tabGet s.span.transferKeys m with
  | none => s
  | some k => if gone then s.sendPacket m 7 0 0x10 0 0 z.binding 0 []
    else
      let w := keyWrap k z.key
      s.sendPacket m 7 0 0x10 0 0 z.binding z.gen (w ++ zeros ((16 - w.length % 16) % 16))

/-- The span members that hold a copy of a binding: the stripes of the regions that name it, and the targets of their
running evacuations. -/
def State.keyMembers (s : State) (z : KeySlot) : List Nat :=
  s.peers.filter (fun m => (s.keyRegions z).any (fun r => (r.2.layout == 1 && r.2.stripe.testBit m)
    || s.span.evacs.any (fun e => e.2.region == r.1 && e.2.member == m && e.2.cmd == 1 && e.2.state != 0)))

/-! ## The commands (10 R328 to R331) -/

/-- The slot of a binding by its number alone: host keys are 0 to 15, region keys from 0x100. -/
def State.namedKey (s : State) (b : Nat) : Option (Nat × KeySlot) := s.keys.find? (fun z => z.2.origin.isNone && z.2.binding == b)

/-- CREATE REGION KEY. -/
def State.createKey (s : State) (w : Sender) (b : Bytes) : Reply :=
  let free := (List.range 4080).find? (fun i => (s.key (16 + i)).isNone)
  let go : State :=
    let (k, s) := s.draw 64
    let n := s.nextBinding
    let s := s.setKey (16 + free.getD 0) { state := 1, kind := 1, gen := 1, binding := n, useMask := field b 2 2, key := k
                                           created := s.now }
    { s with nextBinding := n + 1 }.setObj 0x400 0x141 0 (n + 2 ^ 32 + 2 ^ 48)
  checks [ (!w.fm, stRights), (field b 1 1 != 0 || field b 4 4 != 0 || field b 8 8 != 0, stRange), (s.drbgFailed, stBusy),
           (free.isNone, stNoResource) ] go

/-- What ERASE does at once (10 R330). -/
def State.eraseKey (s : State) (i : Nat) (z : KeySlot) : State :=
  let (k, s) := s.draw 64
  let y : KeySlot := { z with state := 2, gen := nextGen z.gen, key := k, shadow := some z.key, sweeping := true }
  let rs := (s.keyRegions z).map (·.1)
  let onRegion (r : Nat × Region) : Nat × Region := if rs.contains r.1 then (r.1, { r.2 with keyGen := y.gen }) else r
  let onAttach (a : Nat × Attach) : Nat × Attach :=
    if rs.contains a.2.region ∧ a.2.kind ≠ 3 then (a.1, { a.2 with keyGen := y.gen }) else a
  let s := { s with regions := s.regions.map onRegion, attaches := s.attaches.map onAttach }
  let s := (s.setKey i y).raiseFor (if z.kind = 0 then [z.binding] else []) 0x400 0x0161 z.binding
  (s.keyMembers y).foldl (fun s m => s.sendKey m y false) s

/-- ERASE. -/
def State.keyErase (s : State) (w : Sender) (b : Bytes) : Reply :=
  let n := field b 4 4
  let z := s.namedKey n
  checks [ (!(w.fm || (decide (n < 16) && w.ld == some n)), stRights), (field b 1 3 != 0 || field b 8 8 != 0, stRange),
           (z.isNone, stRange), (z.any (fun z => z.2.state == 2), stBusy), (s.drbgFailed, stBusy) ]
    (match z with
     | some (i, z) => s.eraseKey i z
     | none => s)

/-- SET USE MASK. -/
def State.setUseMask (s : State) (w : Sender) (b : Bytes) : Reply :=
  let z := s.namedKey (field b 4 4)
  let mask := field b 2 2
  let named (y : KeySlot) : Bool := (s.keyRegions y).any (fun r => (s.sharedOf r.1).any (fun x =>
    (List.range 16).any (fun n => y.useMask.testBit n && !mask.testBit n && x.readMask.testBit n)))
  checks [ (!w.fm, stRights), (field b 1 1 != 0 || field b 8 8 != 0, stRange), (z.isNone, stRange),
           (z.any (fun z => z.2.kind == 0), stRange), (z.any (fun z => named z.2), stBusy) ]
    (match z with
     | some (i, z) => s.setKey i { z with useMask := mask }
     | none => s)

/-- DESTROY. -/
def State.keyDestroy (s : State) (w : Sender) (b : Bytes) : Reply :=
  let z := s.namedKey (field b 4 4)
  let used (i : Nat) : Bool := s.tileMap.any (fun e => carriesKey i e.2) || s.versions.any (fun v => carriesKey i v.2.entry)
  checks [ (!w.fm, stRights), (field b 1 3 != 0 || field b 8 8 != 0, stRange), (z.isNone, stRange),
           (z.any (fun z => z.2.kind == 0), stRange),
           (z.any (fun z => z.2.state == 2 || !(s.keyRegions z.2).isEmpty || used z.1), stBusy) ]
    (match z with
     | some (i, z) => s.peers.foldl (fun s m => s.sendKey m z true) { s with keys := tabDel s.keys i }
     | none => s)

/-- A write of the key command member (10 R328, R329). -/
def State.keyCommand (s : State) (w : Sender) (b : Bytes) : Reply :=
  match field b 0 1 with
  | 1 => s.createKey w b
  | 2 => s.keyErase w b
  | 3 => s.setUseMask w b
  | 4 => s.keyDestroy w b
  | _ => .error stRange

/-! ## After an ERASE (10 R330, R331) -/

/-- Whether an access looked up before the ERASE, a held write among them, or a move still uses a slot's old key. -/
def State.shadowUsed (s : State) (i : Nat) (z : KeySlot) : Bool :=
  s.accesses.any (fun a => a.entry.keySlot == i && a.entry.state != 4 && a.entry.keyGen != z.gen)
  || s.moves.any (fun m => m.2.dst.keySlot == i)
  || s.held.any (fun h => h.saw.any (fun w => w.keyed && (s.entry w.index).keySlot == i && s.staleKey (s.entry w.index)))

/-- SHADOW_ZEROISE (10 R330): the last access and move under the old key have ended. -/
def execShadowZeroise (slot : Nat) (s : State) : Host.Outcome State Fault Refusal :=
  finish s (match s.key slot with
    | some z => if z.state = 2 ∧ !s.shadowUsed slot z then s.setKey slot { z with state := 1, shadow := none } else s
    | none => s)

/-- Whether the sweep still has to reach an entry: the key at an older generation, not yet swept. -/
def sweepsEntry (i : Nat) (z : KeySlot) (e : TileEntry) : Bool :=
  carriesKey i e && e.keyGen != z.gen && !(e.state == 3 && e.length == 0)

/-- The next stored tile the sweep reaches. -/
def State.nextSwept (s : State) (i : Nat) (z : KeySlot) : Option Nat :=
  match s.tileMap.find? (fun e => sweepsEntry i z e.2) with
  | some e => some e.1
  | none => (s.versions.find? (fun v => sweepsEntry i z v.2.entry)).map (fun v => verKey v.1)

/-- ERASE_SWEEP_STEP (10 R331): the next tile or version record is set POISONED and its home freed; event 0x0165 when none
is left. -/
def execEraseSweepStep (slot : Nat) (s : State) : Host.Outcome State Fault Refusal :=
  finish s (match s.key slot with
    | none => s
    | some z =>
      if !z.sweeping then s
      else match s.nextSwept slot z with
        | some k => (s.sweepTile k).retryFlips
        | none => (s.setKey slot { z with sweeping := false }).raiseFor (if z.kind = 0 then [z.binding] else []) 0x400 0x0165 z.binding)

/-- ENTROPY_HEALTH_FAILURE (10 R325). -/
def execEntropyHealthFailure (s : State) : Host.Outcome State Fault Refusal :=
  finish s ({ s with drbgFailed := true }.setOwn 0x400 6 3)

end Sys2Proof.Machine
end

