-- ==== Sys2Proof/Machine/VectorOps.lean ====
section
/-!
DEFINITION. Vector arithmetic on register values: lanes, conversions, reductions, compares (11 R370 to R374, 12 R409 to
R414).
-/
namespace Sys2Proof.Machine

/-- The signed value of an element. -/
def VTy.signed (y : VTy) (a : Nat) : Int := sextNat y.bits a
/-- An integer wrapped into an element (11 R374). -/
def VTy.wrap (y : VTy) (i : Int) : Nat := wrapInt y.bits i
/-- The rounding an rm bit selects (12 R409). -/
def rmOf (b : Bool) : Rm := if b then .rtz else .rne

/-- Lane by lane: active lanes take `f vs1 vs2 vd`, the others keep vd (12 R409). -/
def vLanes (y : VTy) (p : U64) (f : Nat → Nat → Nat → Nat × Flags) (a b d : BitVec 512) : BitVec 512 × Flags :=
  let la := laneList y a
  let lb := laneList y b
  let ld := laneList y d
  let r := (List.range y.lanes).map (fun i =>
    if laneOn y p i then f (nth la i 0) (nth lb i 0) (nth ld i 0) else (nth ld i 0, {}))
  (ofLanes y (r.map (·.1)), flagsOf r)

/-- A result with no flags. -/
def plain (v : Nat) : Nat × Flags := (v, {})

/-- Sum of two elements (12 R410). -/
def elAdd (y : VTy) (rm : Rm) (a b : Nat) : Nat × Flags :=
  match y.fmt with
  | some f => f.add rm a b
  | none => plain ((a + b) % 2 ^ y.bits)
/-- Difference of two elements. -/
def elSub (y : VTy) (rm : Rm) (a b : Nat) : Nat × Flags :=
  match y.fmt with
  | some f => f.sub rm a b
  | none => plain (y.wrap ((a : Int) - b))
/-- Product of two elements; integers keep the low bits. -/
def elMul (y : VTy) (rm : Rm) (a b : Nat) : Nat × Flags :=
  match y.fmt with
  | some f => f.mul rm a b
  | none => plain (a * b % 2 ^ y.bits)
/-- a·b + c, or c − a·b with `neg`, with one rounding. -/
def elFma (y : VTy) (rm : Rm) (neg : Bool) (a b c : Nat) : Nat × Flags :=
  match y.fmt with
  | some f => f.fma rm neg a b c
  | none => plain (y.wrap ((c : Int) + (if neg then -1 else 1) * (a * b : Nat)))
/-- Minimum or maximum (11 R372; signed for integers). -/
def elMinMax (y : VTy) (max : Bool) (a b : Nat) : Nat × Flags :=
  match y.fmt with
  | some f => f.finish .rne ((if max then FVal.max else FVal.min) (f.decode a) (f.decode b))
  | none => plain (if (decide (y.signed a < y.signed b)) != max then a else b)
/-- Quotient, FP only. -/
def elDiv (y : VTy) (rm : Rm) (a b : Nat) : Nat × Flags :=
  match y.fmt with
  | some f => f.div rm a b
  | none => plain 0
/-- Square root, FP only. -/
def elSqrt (y : VTy) (rm : Rm) (a : Nat) : Nat × Flags :=
  match y.fmt with
  | some f => f.sqrt rm a
  | none => plain 0
/-- Absolute value; integers wrap at the minimum, a NaN gives the canonical NaN (11 R370). -/
def elAbs (y : VTy) (a : Nat) : Nat × Flags :=
  match y.fmt with
  | some f => plain (if (f.decode a).isNan then f.nan else a % 2 ^ (f.eb + f.mb))
  | none => plain (y.wrap (if y.signed a < 0 then -(y.signed a) else y.signed a))
/-- Negation. -/
def elNeg (y : VTy) (a : Nat) : Nat × Flags :=
  match y.fmt with
  | some f => plain (if (f.decode a).isNan then f.nan else a ^^^ 2 ^ (f.eb + f.mb))
  | none => plain (y.wrap (-(y.signed a)))
/-- A signed saturating sum of integers (11 R374). -/
def elSat (y : VTy) (v : Int) : Nat × Flags :=
  let hi : Int := 2 ^ (y.bits - 1) - 1
  let lo : Int := -(2 ^ (y.bits - 1))
  plain (y.wrap (if v > hi then hi else if v < lo then lo else v))
/-- A shift of an integer element by an amount modulo the lane width (12 R410). -/
def elShift (y : VTy) (right arith : Bool) (a b : Nat) : Nat × Flags :=
  let n := b % y.bits
  plain (if !right then (a <<< n) % 2 ^ y.bits
    else if arith then y.wrap (y.signed a >>> n) else a >>> n)

/-- A compare of two elements: 0 equal, 1 less, 2 less or equal, 3 unordered, 4 less unsigned (12 R410, R411). -/
def elCompare (y : VTy) (op : Nat) (a b : Nat) : Bool × Flags :=
  match y.fmt with
  | some f =>
    let va := f.decode a
    let vb := f.decode b
    let un := va.isNan || vb.isNan
    let c := va.cmp vb
    let r := if op = 3 then un else if un then false
      else if op = 0 then c == 0 else if op = 1 then decide (c < 0) else decide (c ≤ 0)
    (r, compareFlags (op == 1 || op == 2) va vb)
  | none =>
    let r := if op = 0 then a == b else if op = 1 then decide (y.signed a < y.signed b)
      else if op = 2 then decide (y.signed a ≤ y.signed b) else if op = 4 then decide (a < b) else false
    (r, {})

/-- A compare of two registers into a predicate: a lane that is off gives 0 (12 R411). -/
def vCompare (y : VTy) (op : Nat) (p : U64) (a b : BitVec 512) : U64 × Flags :=
  let la := laneList y a
  let lb := laneList y b
  let r := (List.range y.lanes).map (fun i =>
    if laneOn y p i then elCompare y op (nth la i 0) (nth lb i 0) else (false, {}))
  (ofLaneBits y (r.map (·.1)), r.foldl (fun f x => f.or x.2) {})

/-! ## Reductions (11 R374, 12 R411) -/

/-- One level of the tree: lane 2i with lane 2i + 1. -/
def pairUp (f : Nat → Nat → Nat × Flags) : List Nat → List (Nat × Flags)
  | a :: b :: r => f a b :: pairUp f r
  | [a] => [(a, {})]
  | [] => []

/-- The tree of sums: `n` levels. -/
def reduceTree (f : Nat → Nat → Nat × Flags) : Nat → List Nat → Flags → Nat × Flags
  | 0, l, fl => (nth l 0 0, fl)
  | n + 1, l, fl => let q := pairUp f l; reduceTree f n (q.map (·.1)) (fl.or (flagsOf q))

/-- Lane 0 of a register with a value, the other lanes 0. -/
def lane0 (y : VTy) (v : Nat) : BitVec 512 := BitVec.ofNat 512 (v % 2 ^ y.bits)

/-- VREDADD: a lane that is off counts as +0. -/
def vReduceAdd (y : VTy) (rm : Rm) (p : U64) (a : BitVec 512) : BitVec 512 × Flags :=
  let l := (laneList y a).zipIdx.map (fun e => if laneOn y p e.2 then e.1 else 0)
  let (v, f) := reduceTree (elAdd y rm) (bitLen y.lanes - 1) l {}
  (lane0 y v, f)

/-- VREDMAX and VREDMIN leave out the lanes that are off; with none on the result is the canonical NaN or 0. -/
def vReduceMinMax (y : VTy) (max : Bool) (p : U64) (a : BitVec 512) : BitVec 512 × Flags :=
  match (laneList y a).zipIdx.filterMap (fun e => if laneOn y p e.2 then some e.1 else none) with
  | [] => (lane0 y ((y.fmt.map Fmt.nan).getD 0), {})
  | e :: r =>
    let (v, f) := r.foldl (fun acc x => let q := elMinMax y max acc.1 x; (q.1, acc.2.or q.2)) (elMinMax y max e e)
    (lane0 y v, f)

/-! ## Conversions (11 R371, 12 R412) -/

/-- One element from type `s` to type `d`. A conversion that is not to a wider format takes ±Inf beyond range; an
integer wraps modulo 2^n (11 R374). -/
def elConvert (s d : VTy) (rm : Rm) (a : Nat) : Nat × Flags :=
  match s.fmt, d.fmt with
  | some f, some g =>
    if g.eb ≥ f.eb && g.mb ≥ f.mb && g != f && !g.e4m3 then g.ofVal rm false (f.decode a)
    else g.ofVal rm (rm == .rtz) (f.decode a)
  | some f, none => let r := (f.decode a).toInt rm d.bits; (d.wrap r.1, r.2)
  | none, some g => g.ofInt rm false (s.signed a)
  | none, none =>
    plain (d.wrap (s.signed a))

/-- VCVT of a register (12 R412): a wider destination reads a half of vs1, a narrower one fills a half of vd. A change
of lane count by more than a factor of two reads or fills a part of the half that the spec does not name. -/
def vConvert (st dt : Nat) (s d : VTy) (half : Bool) (rm : Rm) (p : U64) (a old : BitVec 512) : BitVec 512 × Flags :=
  let la := laneList s a
  let lo := laneList d old
  let hb := b2n half
  let part (few many : Nat) : Nat := hb * (many / 2) + (Config.convertPart st dt half % (many / 2 / few)) * few
  let r := (List.range d.lanes).map (fun i =>
    let src : Option Nat :=
      if d.bytes = s.bytes then some i
      else if d.bytes > s.bytes then some (part d.lanes s.lanes + i)
      else
        let b := part s.lanes d.lanes
        if b ≤ i ∧ i < b + s.lanes then some (i - b) else none
    match src with
    | some j => if laneOn d p i then elConvert s d rm (nth la j 0) else (nth lo i 0, {})
    | none => (nth lo i 0, {}))
  (ofLanes d (r.map (·.1)), flagsOf r)

/-! ## Moves between lanes -/

/-- Active lanes take the value of `f` at their number; the others keep vd. -/
def vIndexed (y : VTy) (p : U64) (f : Nat → Nat) (d : BitVec 512) : BitVec 512 :=
  let ld := laneList y d
  ofLanes y ((List.range y.lanes).map (fun i => if laneOn y p i then f i else nth ld i 0))

/-- A scalar in every lane (12 R413). -/
def vSplat (y : VTy) (x : U64) : BitVec 512 := ofLanes y (List.replicate y.lanes (x.toNat % 2 ^ y.bits))

end Sys2Proof.Machine
end

