-- ==== Sys2Proof/Machine/Jobs.lean ====
section
/-!
DEFINITION. Jobs (13 R437 to R456): descriptors, placing, scrubbing, starting, exceptions, waits, ends of a run; the thread
address view (11 R360 to R363).
-/
namespace Sys2Proof.Machine

/-! ## Descriptors (13 R440) -/

/-- The image's DPA. -/
def Job.image (x : Job) : Nat := field x.desc 0 8
/-- The image's length. -/
def Job.imageLen (x : Job) : Nat := field x.desc 8 4
/-- The entry: a byte offset into the code. -/
def Job.entry (x : Job) : Nat := field x.desc 12 4
/-- Clusters asked for. -/
def Job.wanted (x : Job) : Nat := field x.desc 16 1
/-- Threads per cluster. -/
def Job.perCluster (x : Job) : Nat := field x.desc 17 1
/-- Whether it is a policy job. -/
def Job.policy (x : Job) : Bool := (field x.desc 18 1).testBit 0
/-- Whether its host window is a virtual address. -/
def Job.virtual (x : Job) : Bool := (field x.desc 18 1).testBit 1
/-- The output region, 0xFFFF for none. -/
def Job.output (x : Job) : Nat := field x.desc 20 2
/-- The host window's address. -/
def Job.hostAddr (x : Job) : Nat := field x.desc 24 8
/-- The host window's length. -/
def Job.hostLen (x : Job) : Nat := field x.desc 32 8
/-- The time limit. -/
def Job.timeLimit (x : Job) : Nat := field x.desc 40 8
/-- The wait limit. -/
def Job.waitLimit (x : Job) : Nat := field x.desc 48 8
/-- The stop position. -/
def Job.stopPos (x : Job) : Nat := field x.desc 56 8
/-- The threads of a run. -/
def Job.threadCount (x : Job) : Nat := x.clusters.length * x.perCluster

/-- A job slot that is not EMPTY. -/
def State.job (s : State) (j : Nat) : Option Job := (tabGet s.jobs j).filter (·.state != 0)
/-- Replace a job slot. -/
def State.setJob (s : State) (j : Nat) (x : Job) : State := { s with jobs := tabSet s.jobs j x }
/-- A thread by its number: 64 × cluster + 16 × core + slot. -/
def State.thread (s : State) (t : Nat) : Option Thread := tabGet s.threads t
/-- Replace a thread. -/
def State.setThread (s : State) (t : Nat) (x : Thread) : State := { s with threads := tabSet s.threads t x }

/-- The position of a cadence. -/
def State.position (s : State) (c : Nat) : Nat := (s.cad c).pos

/-! ## The thread address view (11 R360, R361) -/

/-- The bytes of a cluster's caddy window. -/
def State.windowSize (s : State) (c : Nat) : Nat := (3072 - s.homeBlocks c) * 1024
/-- The thread address of byte 0 of a cluster's window. -/
def windowBase (c : Nat) : Nat := 0x400000000000 + c * 0x400000
/-- The address in `State.caddy` of byte `w` of a cluster's window. -/
def State.windowKey (s : State) (c w : Nat) : Nat := c * 2 ^ 22 + s.homeBlocks c * 1024 + w

/-- Where a thread address leads. -/
inductive Place where
  | dpa (a : Nat)
  | window (c w : Nat)
  | host (off : Nat)
  | nowhere
deriving DecidableEq, Repr

/-- Where `n` bytes at a thread address of job `j` lead. -/
def State.place (s : State) (j : Nat) (x : Job) (a n : Nat) : Place :=
  if a + n ≤ 0x100000000000 then .dpa a
  else if windowBase 0 ≤ a ∧ a < windowBase 64 then
    let c := (a - windowBase 0) / 0x400000
    let w := (a - windowBase 0) % 0x400000
    if w + n ≤ s.windowSize c ∧ (s.cluster c).job = some j then .window c w else .nowhere
  else if 0x800000000000 ≤ a ∧ a + n ≤ 0x800000000000 + x.hostLen then .host (a - 0x800000000000)
  else .nowhere

/-- Whether the check of a line that bytes of a window lie on fails (11 R365). -/
def State.windowBad (s : State) (c w n : Nat) : Bool := !(caddyLines s.caddyBad (s.windowKey c w) n).isEmpty

/-- A read of a window fails its check: it is counted (11 R392). -/
def State.windowFail (s : State) (c w n : Nat) : State := s.caddyFails (s.windowKey c w) n 0x16

/-- Bytes of a window. -/
def State.windowRead (s : State) (c w n : Nat) : Bytes := memRead s.caddy (s.windowKey c w) n

/-- The trace kind, unit waited on and object of a thread's wait (19 R615; log entry 22). -/
def waitTrace (c : Nat) (cad : Nat) : TWait → Option (Nat × Nat × Nat)
  | .none => none
  | .barrier n _ => some (1, 0xA40 + c, n)
  | .array => some (3, 0xA40 + c, 0)
  | .position _ => some (4, 0x810 + cad, 0)
  | .mover _ => some (5, 0x700, 0)
  | .notEqual _ _ => some (6, 0xA40 + c, 0)

/-- Lines of a core's L1 go, and loads of such lines under way are not placed in it (11 R385, R386). -/
def State.l1Drop (s : State) (c core : Nat) (p : Nat → Bool) : State :=
  let x := s.cluster c
  let mine (l : Load) : Bool := l.thread.cluster.val == c && l.thread.core.val == core && p (l.addr / 64)
  { (s.setCluster c { x with l1 := x.l1.filter (fun l => !(l.1 == core && p l.2.1)) }) with
    loads := s.loads.map (fun l => if mine l then { l with keep := false } else l) }

/-- Waits that end as an acquire fence at job scope (12 R426). -/
def TWait.acquires : TWait → Bool
  | .notEqual _ _ => true
  | .barrier _ job => job
  | _ => false

/-- A thread's wait ends: its condition holds, or its job stops (12 R430, 19 R615). -/
def State.endWait (s : State) (t : Nat) (x : Thread) (stop : Bool) : State :=
  let unit := 0x1000 + t / 16
  let cad := ((s.job x.job).map (·.launchCad)).getD 0
  let s := match waitTrace (t / 64) cad x.wait with
    | none => s
    | some (kind, on_, object) =>
      s.traceWait unit { kind := kind, party := jobLd x.job, waiter := unit, on_ := on_, pos := some x.waitPos
                         flags := 16 * (t % 16) + b2n stop, cause := x.job, object := object, start := x.waitSince
                         len := s.now - x.waitSince }
  let s := if x.wait.acquires then s.l1Drop (t / 64) (t / 16 % 4) (fun _ => true) else s
  s.setThread t { x with wait := .none }

/-- End the waits of the threads that `p` holds for. -/
def State.endWaits (s : State) (p : Thread → Bool) (stop : Bool) : State :=
  (s.threads.filter (fun t => t.2.wait != .none && p t.2)).foldl (fun s t => s.endWait t.1 t.2 stop) s

/-- The threads that wait on a window location wake when it differs (12 R426, WAITNE). -/
def State.wakeWindow (s : State) (c : Nat) : State :=
  let wakes (x : Thread) : Bool := match x.wait with
    | .notEqual a v => decide (windowBase c ≤ a ∧ a < windowBase (c + 1)) && leNat (s.windowRead c (a - windowBase c) 8) != v
    | _ => false
  s.endWaits wakes false

/-- Write bytes of a window. -/
def State.windowWrite (s : State) (c w : Nat) (b : Bytes) : State :=
  (s.caddyWrite (s.windowKey c w) b).wakeWindow c

/-! ## Ends of a run (13 R447 to R451) -/

/-- The job of a thread number. -/
def State.jobOf (s : State) (t : Nat) : Option Nat := (s.thread t).map (·.job)

/-- The queue entries of a job. -/
def State.jobEntries (s : State) (x : Job) : List QEntry := x.clusters.flatMap (fun c => (s.cluster c).queue)

/-- Whether a load is a thread's own; a tile fetch belongs to the array queue. -/
def Load.isThread (l : Load) : Bool := match l.kind with
  | .fetch _ _ => false
  | _ => true

/-- Loads are dropped: their data serves nothing when it comes. -/
def State.dropLoads (s : State) (mine : Load → Bool) : State :=
  let ids := (s.loads.filter mine).map (·.id)
  let s := (s.accesses.filter (fun a => decide (a.wait = .valid) && a.load.any ids.contains)).foldl State.validWaited s
  let s := { s with loads := s.loads.filter (fun l => !mine l)
                    accesses := s.accesses.filter (fun a => !a.load.any ids.contains) }
  ids.foldl (fun s i => s.dmaOrphan (.load i)) s

/-- Release the array lookup of a cluster (11 R378). -/
def State.releaseLookup (s : State) (c : Nat) : State :=
  match (s.cluster c).lookup with
  | none => s
  | some l => (s.setCluster c { s.cluster c with lookup := none }).slotCheck false l.slot

/-- The clusters of a run are free again. -/
def State.freeClusters (s : State) (j : Nat) (x : Job) : State :=
  let s := x.clusters.foldl (fun s c =>
    let s := s.releaseLookup c
    s.setCluster c { s.cluster c with job := none, queue := [], barriers := [], lastQueue := s.now }) s
  { s with threads := s.threads.filter (fun t => t.2.job != j) }

/-- The job's output attachment. -/
def State.jobOutput (s : State) (j : Nat) : Option (Nat × Attach) :=
  s.attaches.find? (fun a => a.2.kind == 4 && a.2.job == j)

/-- The result header of a run (13 R451). -/
def resultHeader (j : Nat) (x : Job) (inst : Nat) : Bytes :=
  leBytes 2 0x4A52 ++ leBytes 1 1 ++ leBytes 1 (jobLd j) ++ leBytes 4 inst ++ leBytes 8 x.launchPos ++ leBytes 2 j ++ zeros 6
    ++ leBytes 8 x.started ++ leBytes 8 x.lastExit ++ leBytes 4 x.runs ++ zeros 20

/-- A run is over: its references fall, its slot is LOADED again, its clusters are free (13 R447, R448). -/
def State.closeRun (s : State) (j : Nat) (x : Job) (status inst : Nat) : State :=
  let rs := x.inputs.map (·.1)
  let s := s.freeClusters j x
  let ran := x.started ≠ 0 ∨ x.header ≠ 0
  let y : Job := { x with state := 1, status := status, inst := inst, inputs := [], barriers := [], header := 0, clusters := []
                          runTime := if ran then Nat.min ((s.now - x.started) / 1000) 0xFFFFFFFF else 0 }
  let s := rs.foldl State.reclaim (s.setJob j y)
  if status = 0 then s.bump 0xA00 0x1F 1
  else (s.bump 0xA00 0x20 1).raiseFor [jobLd j] 0xA00 0x0180 (j + 65536 * status)

/-- Write the result header into the overlay (13 R451 step 1): line 0 of the region, at the DPA the job's LD reaches it by (09 R283). -/
def State.sendHeader (s : State) (j : Nat) (x : Job) (a : Attach) : State :=
  let n := ((s.sharedOf a.region).map (·.head)).getD 0 + 1
  let i := ((s.region a.region).bind (fun r => s.regionTile r 0)).getD 0
  let c := nth x.clusters 0 0
  let w : HeldWrite := { why := .flip, ld := jobLd j, dpa := (s.dpaOf (jobLd j) i).getD 0, mask := fullMask, data := resultHeader j x n
                         by_ := .thread ⟨Fin.ofNat 64 c, 0, 0⟩, since := s.now, job := some j
                         saw := some { index := i, region := a.region, overlay := (s.jobOutput j).map (·.1), version := a.ver } }
  (s.setJob j { x with header := n }).write w

/-- Finish a run that ends with status 0x00: its header and its publish. It waits while a write of the job is held. -/
def State.finishDone (s : State) (j : Nat) (x : Job) : State :=
  match s.jobOutput j with
  | none => s.closeRun j x 0 0
  | some (_, a) =>
    let n := ((s.sharedOf a.region).map (·.head)).getD 0 + 1
    let s := if x.header = n then s else s.sendHeader j x a
    if s.held.any (fun h => h.job == some j) then s
    else match s.jobOutput j, s.job j with
      | some (id, a), some x =>
        match s.publish id a x.launchPos with
        | (.done n _, s) => s.closeRun j x 0 n
        | (_, s) => (s.endAttach id).closeRun j x 0x13 0
      | _, _ => s

/-- Finish a run that ends with another status: the output overlay is discarded (13 R448). -/
def State.finishOther (s : State) (j : Nat) (x : Job) : State :=
  let s := match s.jobOutput j with
    | some (id, _) => s.endAttach id
    | none => s
  s.closeRun j x x.status 0

/-- Whether every queue entry, mover request, load and atomic of a run has ended (12 R433). -/
def State.runQuiet (s : State) (j : Nat) (x : Job) : Bool :=
  (s.jobEntries x).isEmpty && !s.mvReqs.any (fun q => q.job == j) && !s.loads.any (fun l => s.jobOf (ThreadKey l.thread) == some j)

/-- Follow a run: done when every thread has ended and nothing of it is under way (13 R447). -/
def State.jobCheck (s : State) (j : Nat) : State :=
  match s.job j with
  | none => s
  | some x =>
    if x.state = 4 ∧ s.runQuiet j x then
      (if x.status = 0 then s.finishDone j x else s.finishOther j x)
    else if x.state = 3 ∧ s.runQuiet j x ∧ s.threads.all (fun t => t.2.job != j || t.2.ended) then
      let y : Job := { x with state := 4, status := 0, endPos := s.position x.launchCad }
      (s.setJob j y).finishDone j y
    else s

/-- Stop a waiting or running run with a status (13 R447, 12 R433): its threads stop, queue entries that have not started
are dropped, and the run ends when the rest has. -/
def State.stopRun (s : State) (j status : Nat) : State :=
  match s.job j with
  | none => s
  | some x =>
    if x.state = 2 ∨ x.state = 3 then
      let y : Job := { x with state := 4, status := status, endPos := s.position x.launchCad, lastExit := s.now }
      let s := (s.endWaits (fun t => t.job == j) true).setJob j y
      let s := y.clusters.foldl (fun s c => s.setCluster c { s.cluster c with queue := (s.cluster c).queue.filter (·.running) }) s
      s.jobCheck j
    else s

/-! ## Exceptions (12 R433 to R435) -/

/-- The exception record (12 R435). -/
def exceptionRecord (code cluster thread : Nat) (deferred : Bool) (word pc addr pos : Nat) : Bytes :=
  leBytes 1 code ++ leBytes 1 cluster ++ leBytes 1 thread ++ leBytes 1 (b2n deferred)
    ++ leBytes 4 word ++ leBytes 8 pc ++ leBytes 8 addr ++ leBytes 8 pos

/-- An exception of a thread: the first one of a run is recorded and the run stops (12 R435). -/
def State.except (s : State) (t : ThreadId) (code : Nat) (deferred : Bool) (word pc addr : Nat) : State :=
  match s.jobOf (ThreadKey t) with
  | none => s
  | some j => match s.job j with
    | none => s
    | some x =>
      if x.state ≠ 3 then s
      else
        let r := exceptionRecord code t.cluster.val (16 * t.core.val + t.slot.val) deferred word pc addr (s.position x.launchCad)
        (s.setJob j { x with record := r }).stopRun j code

/-! ## Reading an image (13 R438) -/

/-- A line of an LD's DPA as a read at once gives it: none for poison. What host memory holds of a record in T3 and what a span member
answers for a tile it holds is outside the module: free bytes, of which a record passes the checks of every record, or none (log entry
21). -/
def State.lineNow (s : State) (w : View) (dpa req : Nat) : Option Bytes × State :=
  match s.seen w dpa with
  | .tile i key _ _ =>
    let s := s.mapLookup i
    match key with
    | none => (some (zeros 64), s)
    | some k =>
      let e := s.tgt k
      let j := dpa / 64 % 1024
      let out := Config.outsideLine s.fresh dpa
      let t : State := { s with fresh := s.fresh + 1 }
      if e.local ∨ s.staleKey e ∨ (s.poisonSet k).testBit j then s.readLine k j req none
      else if e.state = 4 then
        (if s.span.unreachable.contains e.holder then (none, s.bump 0xC00 0x1B 1) else (out.map (fun b => slice b 0 64), t))
      else if !s.spillReachable (s.moveLd e) then (none, s.bump 0x700 0x22 1)
      else match out with
        | some b => t.readRecordLineAs false k e j req (hostFetch (e.location / 2 ^ 40) (e.location % 2 ^ 40) 0 b)
        | none => (none, t)
  | _ => (none, s)

/-- A run of lines of an LD's DPA, or the first address that is not readable. -/
def State.linesNow (s : State) (w : View) (dpa n req : Nat) : (Nat ⊕ Bytes) × State :=
  (List.range n).foldl (fun a i => match a.1 with
    | .inl _ => a
    | .inr b => match a.2.lineNow w (dpa + 64 * i) req with
      | (some d, s) => (.inr (b ++ d), s)
      | (none, s) => (.inl (dpa + 64 * i), s)) (.inr [], s)

/-- Whether a range lies in private regions of an LD with codec class 0x00 or 0x01. -/
def State.rawPrivate (s : State) (ld dpa n : Nat) : Bool :=
  (List.range ((dpa + n - 1) / 65536 - dpa / 65536 + 1)).all (fun i =>
    match s.seen { ld := ld } ((dpa / 65536 + i) * 65536) with
    | .tile k _ _ _ => match (s.regionAt k).bind s.region with
      | some r => !r.shared && r.owner == ld && decide (r.codec ≤ 1)
      | none => false
    | _ => false)

/-- Whether a job image meets 13 R438. -/
def imageOk (b : Bytes) : Bool :=
  let n := b.length
  let co := field b 8 4
  let cl := field b 12 4
  let wo := field b 16 4
  let wl := field b 20 4
  field b 0 4 == 0x4A4F4249 && field b 4 1 == 1 && allZero (slice b 5 3) && co % 64 == 0 && decide (co ≥ 64) && cl % 4 == 0
  && wo % 64 == 0 && wl % 64 == 0 && (wl != 0 || wo == 0) && field b 24 4 % 64 == 0 && decide (co + cl ≤ n) && decide (wo + wl ≤ n)
  && allZero (slice b 36 28) && field b 32 4 == crc32c (b.drop 64)

/-- Whether a region may be the output of a job of an LD (13 R449). -/
def State.outputOk (s : State) (ld r : Nat) : Bool :=
  match s.region r, s.sharedOf r with
  | some d, some x => x.mode == 1 && decide (d.codec ≤ 1) && x.writeMask.testBit ld
  | _, _ => false

/-! ## Commands (13 R441, R442) -/

/-- The fields of a job descriptor that R440 bounds. -/
def descBad (d : Bytes) : Bool :=
  field d 0 8 % 64 != 0 || decide (field d 8 4 < 64 ∨ field d 8 4 > 16777216) || field d 12 4 % 4 != 0
  || decide (field d 16 1 < 1 ∨ field d 16 1 > 64) || decide (field d 17 1 < 1 ∨ field d 17 1 > 64)
  || decide (field d 18 1 > 3) || field d 19 1 != 0 || field d 22 2 != 0
  || field d 24 8 % 4096 != 0 || field d 32 8 % 4096 != 0

/-- LOAD. -/
def State.jobLoad (s : State) (w : Sender) (b : Bytes) : Reply :=
  let j := field b 2 2
  let d := slice b 8 64
  let ld := jobLd j
  let x : Job := { state := 1, desc := d }
  let inPlace := !descBad d && s.rawPrivate ld x.image x.imageLen
  let (img, t) := if inPlace then s.linesNow { ld := ld } x.image (ceilDiv x.imageLen 64) 0x53 else (.inl 0, s)
  let lost := img.isLeft
  let image := (img.elim (fun _ => []) id).take x.imageLen
  let bad := !inPlace || lost || !imageOk image || decide (x.entry ≥ field image 12 4)
    || (x.policy && (x.wanted != 1 || s.obj 0x700 (0x130 + ld) 1 == 0xFF))
    || (x.output != 0xFFFF && !s.outputOk ld x.output)
  checks [ (w.fm || w.ld != some ld, stRights), (field b 1 1 != 0 || field b 4 4 != 0 || bad, stRange),
           ((s.job j).any (fun y => y.state != 1), stBusy) ] (t.setJob j x)

/-- UNLOAD. -/
def State.jobUnload (s : State) (w : Sender) (b : Bytes) : Reply :=
  let j := field b 2 2
  checks [ (w.fm || w.ld != some (jobLd j), stRights), ((s.job j).isNone, stNoObject),
           (field b 1 1 != 0 || field b 4 4 != 0, stRange), ((s.job j).any (fun y => y.state != 1), stBusy) ]
    { s with jobs := tabDel s.jobs j }

/-- STOP. -/
def State.jobStopCmd (s : State) (w : Sender) (b : Bytes) : Reply :=
  let j := field b 2 2
  checks [ (!w.mayActFor (jobLd j), stRights), ((s.job j).isNone, stNoObject), (field b 1 1 != 0 || field b 4 4 != 0, stRange) ]
    (s.stopRun j 0x12)

/-- A write of the job command member (13 R441). -/
def State.jobCommand (s : State) (w : Sender) (b : Bytes) : Reply :=
  match field b 0 1 with
  | 1 => s.jobLoad w b
  | 2 => s.jobUnload w b
  | 3 => s.jobStopCmd w b
  | _ => .error stRange

/-! ## Firing, placing, starting (13 R443 to R445) -/

/-- The place of the next job that fires among those that wait. -/
def State.nextTurn (s : State) : Nat := s.jobs.foldl (fun a j => Nat.max a (j.2.turn + 1)) 0

/-- A launch entry fires: false when the job is not LOADED (13 R444). -/
def State.fireJob (s : State) (j cad : Nat) : Bool × State :=
  match s.job j with
  | some x =>
    if x.state = 1 then
      let y : Job := { x with state := 2, firedAt := s.now, turn := s.nextTurn, launchPos := s.position cad, launchCad := cad
                              clusters := [], placedCount := 0, started := 0, record := [], exits := 0, lastExit := 0, endPos := 0, inst := 0, header := 0 }
      (true, (s.powerWake 1).setJob j y)
    else (false, s.bump 0xA00 0x21 1)
  | none => (false, s.bump 0xA00 0x21 1)

/-- Whether a cluster may take a job of an LD now (11 R366, 13 R445). -/
def State.clusterFree (s : State) (c ld : Nat) (pool : Bool) : Bool :=
  let x := s.cluster c
  s.obj (0xA40 + c) 0x100 0 == (if pool then 0xFF else ld) && x.job.isNone && !x.draining && !x.scrubbing
  && s.clusterServes c

/-- The clusters a waiting job would be placed on; none while too few are free. -/
def State.placement (s : State) (j : Nat) (x : Job) : Option (List Nat) :=
  let ld := jobLd j
  let shared := s.obj 0 0x131 0 == 0
  if x.policy then
    let c := s.obj 0x700 (0x130 + ld) 1
    if s.clusterFree c ld false ∨ (shared ∧ s.clusterFree c ld true) then some [c] else none
  else
    let own := (List.range 64).filter (fun c => s.clusterFree c ld false)
    let pool := if shared then (List.range 64).filter (fun c => s.clusterFree c ld true) else []
    let l := (own ++ pool).take x.wanted
    if l.length = x.wanted then some l else none

/-- Whether a cluster is on its way through a changed assignment or home area: it waits for demotions, or scrubs after them with no job
placed on it (11 R367). -/
def Cluster.changing (x : Cluster) : Bool := x.draining || (x.scrubbing && x.job.isNone)

/-- Begin a scrub of a cluster for a new context (11 R368); the home area is zeroed when it holds no LD's T0 homes. -/
def State.beginScrub (s : State) (c upTo : Nat) (home : Bool) : State :=
  let s := s.startClock c
  s.setCluster c { s.cluster c with scrubbing := true, scrubStart := s.now, scrubTo := upTo, scrubHome := home }

/-- Whether no job that fired earlier waits for clusters it could take now (13 R445). -/
def State.firstWaiting (s : State) (x : Job) : Bool :=
  s.jobs.all (fun y => y.2.state != 2 || !y.2.clusters.isEmpty || decide (x.turn ≤ y.2.turn) || (s.placement y.1 y.2).isNone)

/-- JOB_PLACEMENT (13 R445). -/
def execJobPlacement (j : Fin 1024) (s : State) : Host.Outcome State Fault Refusal :=
  finish s (match s.job j with
    | none => s
    | some x =>
      if s.contained ∨ x.state ≠ 2 ∨ !x.clusters.isEmpty ∨ !s.firstWaiting x then s
      else match s.placement j x with
        | none => s
        | some l =>
          let ld := jobLd j
          let s := (s.setJob j { x with clusters := l, placedCount := l.length }).bump 0xA00 0x22 (s.now - x.firedAt)
          l.foldl (fun s c =>
            let s := s.startClock c
            let s := s.setCluster c { s.cluster c with job := some j.val }
            if (s.cluster c).context = ld then s else s.beginScrub c ld (s.obj (0xA40 + c) 0x100 0 != ld)) s)

/-- The threads of a run, at the entry with fresh registers (12 R393, 13 R443, R445). -/
def startThreads (j : Nat) (x : Job) (pc : Nat) (ts : List (Nat × Thread)) : List (Nat × Thread) :=
  x.clusters.zipIdx.foldl (fun ts m => (List.range x.perCluster).foldl (fun ts t =>
    tabSet ts (64 * m.1 + 16 * (t % 4) + t / 4) (Thread.fresh j (m.2 * x.perCluster + t) (BitVec.ofNat 64 pc))) ts) ts

/-- Shared inputs of a run: every region its LD is attached to, at the LD's base, but the job's output region, which the job
reaches through its own attachment (09 R294, 13 R450). -/
def State.inputsOf (s : State) (ld output : Nat) : List (Nat × Nat) :=
  (s.attaches.filter (fun a => a.2.ld == ld && (a.2.kind == 1 || a.2.kind == 2) && a.2.region != output)).foldl
    (fun l a => tabSet l a.2.region a.2.base) []

/-- Open the output attachment of a run (13 R450); none when the region does not meet R449, or the attachment table or the
version counter is used up. -/
def State.openOutput (s : State) (j : Nat) (x : Job) : Option State :=
  if x.output = 0xFFFF then some s
  else if !s.outputOk (jobLd j) x.output then none
  else match s.freeAttach, s.sharedOf x.output with
    | some id, some z =>
      if z.counter ≥ 0xFFFFFFFF then none
      else
        let (v, s) := s.drawVersion x.output
        let a : Attach := { region := x.output, ld := jobLd j, kind := 4, base := z.head, ver := v
                            keyGen := ((s.region x.output).map (·.keyGen)).getD 0, since := s.now, job := j }
        some { s with attaches := tabSet s.attaches id a }
    | _, _ => none

/-- Copy the window data of an image into every placed cluster's window (13 R443 step 4). -/
def State.copyWindow (s : State) (x : Job) (off dest : Nat) (data : Bytes) : State :=
  if data.isEmpty then s else x.clusters.foldl (fun s c => if off = 0 then s else s.windowWrite c dest data) s

/-- Poison in the job image at the start (13 R443): status 0x06; its record names the run's first cluster, thread 0, no word and the
entry's pc (DESIGN CHOICE, log entry 49). -/
def State.imageLost (s : State) (j : Nat) (x : Job) (a : Nat) : State :=
  let r := exceptionRecord 6 (nth x.clusters 0 0) 0 false 0 (x.image + x.entry) a (s.position x.launchCad)
  (s.setJob j { x with record := r }).stopRun j 6

/-- Steps 4 and 5 of 13 R443 for a placed job whose clusters have scrubbed. -/
def State.startRun (s : State) (j : Nat) (x : Job) : State :=
  let ld := jobLd j
  match s.linesNow { ld := ld } x.image 1 0x53 with
  | (.inl a, s) => s.imageLost j x a
  | (.inr h, s) =>
    let wo := field h 16 4
    let wl := field h 20 4
    let dest := field h 24 4
    if x.clusters.any (fun c => decide (s.windowSize c < field h 28 4 ∨ (wl ≠ 0 ∧ s.windowSize c < dest + wl))) then s.stopRun j 0x16
    else match s.linesNow { ld := ld } (x.image + wo) (if wo = 0 then 0 else wl / 64) 0x53 with
      | (.inl a, s) => s.imageLost j x a
      | (.inr data, s) =>
        match (s.copyWindow x wo dest data).openOutput j x with
        | none => s.stopRun j 0x17
        | some s =>
          let y : Job := { x with state := 3, runs := (x.runs + 1) % 2 ^ 32, started := s.now, inputs := s.inputsOf ld x.output, records := [] }
          let s := (s.setJob j y).bump 0xA00 0x1E 1
          { s with threads := startThreads j y (x.image + field h 8 4 + x.entry) s.threads }

/-- JOB_THREADS_START (13 R443 steps 4 and 5). -/
def execJobThreadsStart (j : Fin 1024) (s : State) : Host.Outcome State Fault Refusal :=
  finish s (match s.job j with
    | none => s
    | some x =>
      if s.contained ∨ x.state ≠ 2 ∨ x.clusters.isEmpty ∨ x.clusters.any (fun c => (s.cluster c).scrubbing) then s else s.startRun j x)

/-- JOB_TIME_LIMIT (13 R447 status 0x10). -/
def execJobTimeLimit (j : Fin 1024) (s : State) : Host.Outcome State Fault Refusal :=
  finish s (match s.job j with
    | some x => if x.state = 3 ∧ x.timeLimit ≠ 0 then s.stopRun j 0x10 else s
    | none => s)

/-- Whether something of a run may have waited: a thread waits, a load is outstanding, or every leg is down while the run has a
host window (12 R430, 13 R446). -/
def State.jobWaits (s : State) (j : Nat) (x : Job) : Bool :=
  s.threads.any (fun t => t.2.job == j && t.2.wait != .none) || s.loads.any (fun l => s.jobOf (ThreadKey l.thread) == some j)
  || (s.allLegsDown && x.hostLen != 0)

/-- JOB_WAIT_LIMIT (13 R447 status 0x14): something of the run waits. -/
def execJobWaitLimit (j : Fin 1024) (s : State) : Host.Outcome State Fault Refusal :=
  finish s (match s.job j with
    | some x => if x.state = 3 ∧ x.waitLimit ≠ 0 ∧ s.jobWaits j x = true then s.stopRun j 0x14 else s
    | none => s)

/-! ## Clusters (11 R366 to R368, 17 R575) -/

/-- T0 homes that an assignment or a home area leaves outside: the stored tiles in the cluster (11 R367). -/
def State.clusterTiles (s : State) (c keep : Nat) : List Nat :=
  let out (e : TileEntry) : Bool := e.home == 0 && e.length != 0 && e.state != 0 && e.state != 4 && e.location % 64 == c
    && decide (e.location / 64 + e.length > keep)
  s.tileMap.filterMap (fun e => if out e.2 then some e.1 else none)
    ++ s.versions.filterMap (fun v => if out v.2.entry then some (verKey v.1) else none)

/-- Moves on their way into a cluster's home area that a new one leaves outside. -/
def State.clusterMoves (s : State) (c keep : Nat) : List (Nat × Move) :=
  s.moves.filter (fun m => m.2.dst.home == 0 && m.2.dst.length != 0 && m.2.dst.location % 64 == c
    && decide (m.2.dst.location / 64 + m.2.dst.length > keep))

/-- Demote T0 homes to T1 in class 4 (11 R367). -/
def State.demoteAll (s : State) (ks : List Nat) : State :=
  ks.foldl (fun s k => match s.startMove k 3 1 4 .policy with
    | some (_, s) => s
    | none => s) s

/-- Whether a cluster runs no job and holds no T0 home, none on its way included. -/
def State.clusterEmpty (s : State) (c : Nat) : Bool :=
  (s.cluster c).job.isNone && (s.clusterTiles c 0).isEmpty && (s.clusterMoves c 0).isEmpty

/-- The state a cluster passes to when the work of a changed assignment, or of a request, is done (02 R50, R646, 11 R367): DRAINING lasts
while an OFFLINE that was asked for still waits for its job and its T0 homes, and a divergence ends (02 R55). -/
def State.clusterSettle (s : State) (c : Nat) : State :=
  let u := 0xA40 + c
  let x := s.unit u
  if (s.cluster c).changing || !(x.own == 4 || (x.own == 5 && x.reason == 2)) then s
  else if s.requested u ≠ 3 then s.setOwn u (s.requested u) 1
  else if s.clusterEmpty c then s.setOwn u 3 1
  else s.demoteAll (s.clusterTiles c 0)

/-- SCRUB_COMPLETE (11 R368). -/
def execScrubComplete (cluster : Fin 64) (s : State) : Host.Outcome State Fault Refusal :=
  let c := cluster.val
  let x := s.cluster c
  let lo := c * 2 ^ 22
  let from_ := if x.scrubHome && !x.draining then lo else lo + s.homeBlocks c * 1024
  finish s (if !x.scrubbing then s
    else
      let s := s.releaseLookup c
      let y : Cluster := { job := x.job, draining := x.draining, scrubHome := x.draining && x.scrubHome, context := x.scrubTo, nextEntry := x.nextEntry, lastQueue := x.lastQueue }
      let s := { (s.setCluster c y) with
        caddy := s.caddy.filter (fun m => !decide (from_ ≤ m.1 ∧ m.1 < lo + 2 ^ 22))
        caddyBad := s.caddyBad.filter (fun l => !decide (from_ ≤ 16 * l ∧ 16 * l < lo + 2 ^ 22))
        threads := s.threads.filter (fun t => t.1 / 64 != c) }
      let s : State := ((s.bump (0xA40 + c) 0x1B 1).bump (0xA40 + c) 0x1C (s.now - x.scrubStart)).raise (0xA40 + c) 0x0170 x.scrubTo
      s.clusterSettle c)

/-- A changed assignment or home area: the cluster drains the T0 homes left outside and the moves that lead there, or scrubs at once
(11 R367, R368). A change of the LD that is not done yet still scrubs the home area. -/
def State.reassign (s : State) (c : Nat) (changed : Bool) : State :=
  let home := changed || ((s.cluster c).draining && (s.cluster c).scrubHome)
  let keep := if home then 0 else s.homeBlocks c
  let out := s.clusterTiles c keep
  if out.isEmpty ∧ (s.clusterMoves c keep).isEmpty then s.beginScrub c (s.obj (0xA40 + c) 0x100 0) home
  else ((s.setCluster c { s.cluster c with draining := true, scrubHome := home }).setOwn (0xA40 + c) 4 1).demoteAll out

/-- A cluster that waits for demotions scrubs once they are done; homes that a move has brought there meanwhile are demoted too
(11 R367). -/
def State.drainClusters (s : State) : State :=
  (s.clusters.filter (fun c => c.2.draining)).foldl (fun s c =>
    let keep := if c.2.scrubHome then 0 else s.homeBlocks c.1
    let out := s.clusterTiles c.1 keep
    if out.isEmpty ∧ (s.clusterMoves c.1 keep).isEmpty then
      (s.setCluster c.1 { s.cluster c.1 with draining := false }).beginScrub c.1 (s.obj (0xA40 + c.1) 0x100 0) c.2.scrubHome
    else s.demoteAll out) s

/-- A write of a cluster's assignment (11 R366, R367). -/
def State.assignWrite (s : State) (c v : Nat) : Reply :=
  checks [ (decide (v ≥ 16) && v != 0xFF, stRange), ((s.cluster c).job.isSome, stBusy) ]
    (let u := 0xA40 + c
     let changed := s.obj u 0x100 0 != v
     let s := (s.setObj u 0x100 0 v).setObj u 5 0 v
     if changed then s.reassign c true else s)

/-- A write of a cluster's home blocks (11 R363, R367). -/
def State.homeBlocksWrite (s : State) (c v : Nat) : Reply :=
  checks [ (decide (v > 3072) || v % 64 != 0, stRange), ((s.cluster c).job.isSome, stBusy) ]
    (let changed := s.homeBlocks c != v
     let s := s.setObj (0xA40 + c) 0x101 0 v
     if changed then s.reassign c false else s)

/-- CLUSTER_CLOCK_STOP (17 R575): a cluster without a running job stops its clock. The restart counts how long it
stood (19 R606). -/
def execClusterClockStop (cluster : Fin 64) (s : State) : Host.Outcome State Fault Refusal :=
  let x := s.cluster cluster
  finish s (if x.job.isNone ∧ x.queue.isEmpty ∧ !x.scrubbing ∧ x.clockOn then
      s.setCluster cluster { x with clockOn := false, clockStop := s.now }
    else s)

end Sys2Proof.Machine
end

