-- ==== Sys2Proof/Machine/ExtentCmds.lean ====
section
/-!
DEFINITION. Dynamic capacity (03 R89 to R94, R650, R651): offers, responses, releases; the mailbox's answers (15 R528).
-/
namespace Sys2Proof.Machine

/-! ## Answers -/

/-- CXL return codes (log entry 18). -/
def retSuccess : Nat := 0
/-- Invalid Input. -/
def retInvalid : Nat := 2
/-- Unsupported. -/
def retUnsupported : Nat := 3
/-- Busy. -/
def retBusy : Nat := 6
/-- Resources Exhausted. -/
def retExhausted : Nat := 0x1D

/-- Whether a host is bound to an LD (15 R509). -/
def State.bound (s : State) (ld : Nat) : Bool := (s.unit (0x110 + ld)).own != 0

/-- The mailbox registers after a command: its return code, payload and payload length (log entry 24). -/
def Ld.mailboxPut (l : Ld) (code : Nat) (payload : Bytes) : Ld :=
  let bar := memWrite (memWrite l.bar 0x21014 (leBytes 2 code)) 0x21020 payload
  { l with bar := memWrite bar 0x2100A (leBytes 3 payload.length) }

/-- The mailbox answers a command; the doorbell interrupt of CXL 3.1 is bit 1 of mailbox control (15 R522). -/
def State.mailboxAnswer (s : State) (ld code : Nat) (payload : Bytes) : State :=
  let s := (s.setLd ld ((s.ld ld).mailboxPut code payload)).emit (.mailbox ld code payload)
  if (memByte (s.ld ld).bar 0x21004).toNat.testBit 1 then s.signal ld 0 else s

/-- A mailbox command: nothing before Mailbox Interface Ready (17 R566), Unsupported on an LD that no host is bound to
(15 R509). -/
def State.mailboxDo (s : State) (ld : Nat) (f : State → Nat × Bytes × State) : State :=
  if s.stage ≠ .running ∨ (s.ld ld).flr then s
  else if !s.bound ld then s.mailboxAnswer ld retUnsupported []
  else
    let (code, payload, t) := f s
    t.mailboxAnswer ld code payload

/-- A fabric manager API command: Busy before CXL.mem is enabled (17 R566). -/
def State.fmApiDo (s : State) (f : State → Nat × State) : State :=
  if s.stage ≠ .running then s.emit (.fmApi retBusy)
  else
    let (code, t) := f s
    t.emit (.fmApi code)

/-- The tag of a DLA extent and the place of the extent in the tag's list; 0 when it has none (03 R90). -/
def State.tagOf (s : State) (dla : Nat) : Nat × Nat :=
  match s.tags.find? (fun t => t.2.contains dla) with
  | some t => (t.1, t.2.idxOf dla)
  | none => (0, 0)

/-- An extent as CXL 3.1 lists it: start DPA, length, tag, sequence among the tag's extents (log entry 24). -/
def State.extentRecord (s : State) (ld ext : Nat) : Bytes :=
  let t := ((s.extent ld ext).map (fun x => s.tagOf x.dla)).getD (0, 0)
  leBytes 8 (ext * 2 ^ 30) ++ leBytes 8 (2 ^ 30) ++ leBytes 16 t.1 ++ leBytes 2 t.2 ++ zeros 6

/-- The dynamic capacity events of CXL 3.1 (15 R521): 0 Add, 2 Forced Removal, 3 Capacity Released. The record's body is
its part from offset 48, and the time after it. -/
def State.dcEvent (s : State) (ld kind ext : Nat) : State :=
  (s.emit (.dcEvent ld kind ext)).logRecord ld 4
    (leBytes 1 kind ++ zeros 7 ++ s.extentRecord ld ext ++ zeros 32 ++ leBytes 8 s.now)

/-- The list of an LD's GRANTED extents changes. -/
def State.extentsChanged (s : State) (ld : Nat) : State := s.setLd ld { s.ld ld with extGen := ((s.ld ld).extGen + 1) % 2 ^ 32 }

/-! ## Allocation (03 R90, R91) -/

/-- Insert a number into an ascending list. -/
def insertNat (n : Nat) : List Nat → List Nat
  | [] => [n]
  | m :: r => if n ≤ m then n :: m :: r else m :: insertNat n r

/-- A list of numbers in ascending order. -/
def sortNat (l : List Nat) : List Nat := l.foldr insertNat []

/-- The tag's DLA extents, none while the tag is not bound: no LD holds one of them (03 R90). -/
def State.boundTag (s : State) (tag : Nat) : Option (List Nat) :=
  match tabGet s.tags tag with
  | some l => if s.extents.any (fun e => l.contains e.2.dla) then some l else none
  | none => none

/-- The map block a DLA extent holds now. -/
def State.blockOf (s : State) (dla : Nat) : Option Nat :=
  (s.extents.find? (fun e => e.2.dla == dla)).map (fun e => e.2.block)

/-- Whether a DLA extent is free: not held, not bound to a tag, not reserved for a member. One of a tag that stays bound is kept for the
tag when its last holder is gone: 03 R90 reuses it (log entry 45). -/
def State.dlaFree (s : State) (dla : Nat) : Bool :=
  !s.extents.any (fun e => e.2.dla == dla) && !s.span.reservations.any (fun r => r.guest && r.dla == dla)
  && !s.tags.any (fun t => t.2.contains dla && (s.boundTag t.1).isSome)

/-- Whether a map block is free. -/
def State.blockFree (s : State) (b : Nat) : Bool :=
  !s.extents.any (fun e => e.2.block == b) && !s.span.reservations.any (fun r => r.guest && r.block == b)

/-- The lowest free DLA extent; a member of a span of more than one takes the numbers that are its own modulo 8
(16 R553). -/
def State.lowestDla (s : State) : Option Nat :=
  firstBelow 32768 (fun d => s.dlaFree d && (decide (popCount 8 s.span.mask ≤ 1) || d % 8 == s.span.member))

/-- The lowest free map block. -/
def State.lowestBlock (s : State) : Option Nat := firstBelow 16384 s.blockFree

/-- Set every tile of a map block to UNWRITTEN. -/
def State.clearBlock (s : State) (b : Nat) : State :=
  let s := (s.tileMap.filter (fun e => e.1 / 16384 == b)).foldl (fun s e => s.setEntry e.1 {}) s
  { s with headInst := s.headInst.filter (fun e => e.1 / 16384 != b) }

/-- Put one offered extent into the table, with a given DLA extent or the lowest free one: none when space runs out. -/
def State.offerOne (s : State) (ld dpa : Nat) (dla : Option Nat) (shared : Bool) : Option (Nat × State) :=
  match (dla <|> s.lowestDla) with
  | none => none
  | some d =>
    match s.blockOf d with
    | some b => some (d, { s with extents := tabSet s.extents (extKey ld dpa) { state := 1, dla := d, block := b, shared := shared } })
    | none => match s.lowestBlock with
      | none => none
      | some b =>
        let s := s.clearBlock b
        some (d, { s with extents := tabSet s.extents (extKey ld dpa) { state := 1, dla := d, block := b, shared := shared } })

/-- The offered extents of a tag, by ascending DPA extent number. -/
def tagExtents (l : List OfferExtent) (tag : Nat) : List Nat :=
  sortNat ((l.filter (fun x => x.tag == some tag)).map (·.dpa))

/-- Allocate an offer in ascending order of DPA extent; `bound` gives the DLA extents of tags bound before it. -/
def State.offerAll (s : State) (ld : Nat) (l : List OfferExtent) (bound : Nat → Option (List Nat)) : Option State :=
  (sortNat (l.map (·.dpa))).foldl (fun z d => match z with
    | none => none
    | some s => match (l.find? (fun x => x.dpa == d)).bind (·.tag) with
      | none => (s.offerOne ld d none false).map (·.2)
      | some tag => match bound tag with
        | some dlas =>
          (s.offerOne ld d (dlas[((tagExtents l tag).takeWhile (fun e => e != d)).length]?) true).map (·.2)
        | none => (s.offerOne ld d none true).map (fun r =>
            { r.2 with tags := tabSet r.2.tags tag ((tabGet r.2.tags tag).getD [] ++ [r.1]) })) (some s)

/-- Initiate Dynamic Capacity Add (03 R90, R91, R650). -/
def State.offer (s : State) (ld : Nat) (l : List OfferExtent) : Nat × State :=
  let ds := l.map (·.dpa)
  let tags := (l.filterMap (·.tag)).eraseDups
  let invalid := ds.eraseDups.length != ds.length || ds.any (fun d => decide (d ≥ 16384))
    || tags.any (fun t => (s.boundTag t).any (fun b => b.length != (tagExtents l t).length))
  let priv := (l.filter (fun x => x.tag.isNone)).length
  let near := s.obj 0x200 (0x200 + ld) 0
  let full := ds.any (fun d => (s.extent ld d).isSome)
    || (priv != 0 && (decide (near < 4194304)
      || !overcommitOk (s.logicalTiles ld + 16384 * priv) (s.guaranteed ld) (s.obj 0x200 (0x200 + ld) 2) (s.spillCounted ld)))
  if invalid then (retInvalid, s)
  else
    let unbound := tags.filter (fun t => (s.boundTag t).isNone)
    let s0 := { s with tags := s.tags.filter (fun t => !unbound.contains t.1) }
    match full, s0.offerAll ld l s.boundTag with
    | false, some t => (retSuccess, (sortNat ds).foldl (fun t d => t.dcEvent ld 0 d) t)
    | _, _ => (retExhausted, s.bump 0x200 0x1B 1)

/-- INITIATE_DYNAMIC_CAPACITY_ADD (03 R90). -/
def execInitiateDynamicCapacityAdd (ld : Fin 16) (extents : List OfferExtent) (s : State) : Host.Outcome State Fault Refusal :=
  finish s (s.fmApiDo (fun s => s.offer ld extents))

/-- The map indices of an extent's tiles that are listed. -/
def State.blockTiles (s : State) (b : Nat) : List Nat := s.tileMap.filterMap (fun e => if e.1 / 16384 = b then some e.1 else none)

/-- Free the homes of a DLA extent's tiles, if no other LD holds it (03 R92, R94 step 2). -/
def State.freeBlock (s : State) (ld ext : Nat) (x : ExtEntry) : State :=
  if s.extents.any (fun e => e.1 != extKey ld ext && e.2.dla == x.dla) then s
  else
    let s := (s.blockTiles x.block).foldl (fun s k => (s.discardTile k).freeOldHomesOf k) s
    s.oldHomes.foldl (fun s o => if o.mapIndex / 16384 = x.block then s.freeOldHomesOf o.mapIndex else s) s.settleSweeps

/-- An OFFERED extent passes to NONE (03 R92, R650). -/
def State.withdrawOffer (s : State) (ld ext : Nat) (x : ExtEntry) : State :=
  let s := s.freeBlock ld ext x
  { s with extents := tabDel s.extents (extKey ld ext) }

/-- ADD_DYNAMIC_CAPACITY_RESPONSE (03 R92): the extents it does not accept pass to NONE. -/
def State.dcResponse (s : State) (ld : Nat) (accepted : List Nat) : Nat × State :=
  let offered := (s.extentsOf ld).filter (fun e => e.2.state == 1)
  if accepted.any (fun a => !offered.any (fun e => e.1 == a)) then (retInvalid, s)
  else (retSuccess, offered.foldl (fun s e =>
    let s := s.extentsChanged ld
    if accepted.contains e.1 then { s with extents := tabSet s.extents (extKey ld e.1) { e.2 with state := 2 } }
    else s.withdrawOffer ld e.1 e.2) s)

/-- ADD_DYNAMIC_CAPACITY_RESPONSE. -/
def execAddDynamicCapacityResponse (ld : Fin 16) (accepted : List Nat) (s : State) : Host.Outcome State Fault Refusal :=
  finish s (s.mailboxDo ld (fun s => ((s.dcResponse ld accepted).1, [], (s.dcResponse ld accepted).2)))

/-! ## Releases (03 R93, R94, R650, R651) -/

/-- Whether a declared region of an LD, or a shared region it reaches, has a tile in an extent. -/
def State.regionIn (s : State) (x : ExtEntry) (r : Nat × Region) : Bool :=
  decide (r.1 ≥ 16) && (s.regionDlas r.2).contains x.dla

/-- An extent passes to RELEASING (03 R93, R94): the writes the tile mapper holds complete normally, and with them the moves they wait
for; the other moves of its tiles are aborted. -/
def State.beginRelease (s : State) (ld ext : Nat) (x : ExtEntry) : State :=
  let s := { s with extents := tabSet s.extents (extKey ld ext) { x with state := 3 } }.extentsChanged ld
  s.abortWhere 6 (fun m => m.key / 16384 == x.block && !s.held.any (fun h => h.saw.any (fun w => w.index == m.key)))

/-- RELEASE_DYNAMIC_CAPACITY (03 R93, R650). -/
def State.dcRelease (s : State) (ld : Nat) (exts : List Nat) : Nat × State :=
  let bad (e : Nat) : Bool := (s.extent ld e).all (fun x => x.state != 2)
  let declared (e : Nat) : Bool := match s.extent ld e with
    | some x => s.regions.any (s.regionIn x)
    | none => false
  if exts.any bad then (retInvalid, s)
  else if exts.any declared then (retBusy, s)
  else (retSuccess, exts.foldl (fun s e => match s.extent ld e with
    | some x => if x.state = 2 then s.beginRelease ld e x else s
    | none => s) s)

/-- RELEASE_DYNAMIC_CAPACITY. -/
def execReleaseDynamicCapacity (ld : Fin 16) (extents : List Nat) (s : State) : Host.Outcome State Fault Refusal :=
  finish s (s.mailboxDo ld (fun s => ((s.dcRelease ld extents).1, [], (s.dcRelease ld extents).2)))

/-- Runs that hold an instar of a shared region, or have it as their output, end with status 0x12 and publish nothing
(03 R651). -/
def State.endRunsOf (s : State) (r : Nat) : State :=
  let uses (x : Job) : Bool := (tabGet x.inputs r).isSome || (decide (x.state ≥ 2) && x.output == r)
  (s.jobs.filter (fun j => uses j.2)).foldl (fun s j =>
    if j.2.state = 4 then
      if j.2.status = 0 then (s.setJob j.1 { j.2 with status := 0x12, inputs := tabDel j.2.inputs r }).jobCheck j.1
      else s.setJob j.1 { j.2 with inputs := tabDel j.2.inputs r }
    else (s.setJob j.1 { j.2 with inputs := tabDel j.2.inputs r }).stopRun j.1 0x12) s

/-- A shared region whose owner's extent is released by force goes with everything that hangs on it (03 R651). -/
def State.dropShared (s : State) (r : Nat) (x : Region) : State :=
  let s := s.endRunsOf r
  let s := (s.attaches.filter (fun a => a.2.region == r)).foldl (fun s a => s.endAttach a.1) s
  s.removeRegion r x

/-- The regions a forced release removes, and the attachments it ends (03 R651). -/
def State.forceRegions (s : State) (ld : Nat) (x : ExtEntry) : State :=
  (s.regions.filter (s.regionIn x)).foldl (fun s r =>
    if r.2.shared then
      if r.2.owner = ld then s.dropShared r.1 r.2
      else (s.attaches.filter (fun a => a.2.region == r.1 && a.2.ld == ld && (a.2.kind == 1 || a.2.kind == 2))).foldl
        (fun s a => s.endAttach a.1) s
    else if r.2.owner = ld then s.removeRegion r.1 r.2 else s) s

/-- FORCED_RELEASE (03 R93, R650, R651): OFFERED extents pass to NONE, RELEASING ones stay. -/
def State.forceRelease (s : State) (ld : Nat) (exts : List Nat) : Nat × State :=
  if exts.any (fun e => (s.extent ld e).isNone) then (retInvalid, s)
  else
    let mine := exts.filterMap (fun e => (s.extent ld e).map (fun x => (e, x)))
    let s := mine.foldl (fun s e => if e.2.state = 2 then s.forceRegions ld e.2 else s) s
    (retSuccess, mine.foldl (fun s e =>
      if e.2.state = 1 then s.withdrawOffer ld e.1 e.2
      else if e.2.state = 2 then (s.beginRelease ld e.1 e.2).dcEvent ld 2 e.1 else s) s)

/-- FORCED_RELEASE. -/
def execForcedRelease (ld : Fin 16) (extents : List Nat) (s : State) : Host.Outcome State Fault Refusal :=
  finish s (s.fmApiDo (fun s => s.forceRelease ld extents))

/-- Steps 2 to 4 of R94 for a RELEASING extent that no access uses any more. -/
def State.endRelease (s : State) (ld ext : Nat) (x : ExtEntry) : State :=
  let s := (s.abortWhere 6 (fun m => m.key / 16384 == x.block)).freeBlock ld ext x
  let s := { s with extents := tabDel s.extents (extKey ld ext) }
  let s := { s with tags := s.tags.filter (fun t => (s.boundTag t.1).isSome) }
  ((s.dcEvent ld 3 ext).retryLocal).moverSettle

/-- EXTENT_RELEASE_COMPLETE (03 R94): no access of the LD to the extent remains. -/
def execExtentReleaseComplete (ld : Fin 16) (extent : Nat) (s : State) : Host.Outcome State Fault Refusal :=
  finish s (match s.extent ld extent with
    | none => s
    | some x =>
      let busy := s.accesses.any (fun a => a.ld == ld.val && a.dpa / 2 ^ 30 == extent)
        || s.held.any (fun h => h.ld == ld.val && h.dpa / 2 ^ 30 == extent)
      if x.state ≠ 3 ∨ busy then s else s.endRelease ld extent x)

end Sys2Proof.Machine
end

