-- ==== Sys2Proof/Machine/Dump.lean ====
section
/-!
DEFINITION. Tensor dumps (19 R618 to R620).
-/
namespace Sys2Proof.Machine

/-- A watch entry. -/
def State.watch (s : State) (n : Nat) : Bytes := memRead s.telem.watches (64 * n) 64

/-- A dump's status. -/
def State.dump (s : State) (n : Nat) : Dump := (tabGet s.telem.dumps n).getD { state := 0 }

/-- Replace a dump's status. -/
def State.setDump (s : State) (n : Nat) (d : Dump) : State := { s with telem := { s.telem with dumps := tabSet s.telem.dumps n d } }

/-- A dump fails with a reason; its lines are dropped (19 R620). -/
def State.failDump (s : State) (n reason : Nat) : State :=
  let d := s.dump n
  let ids := (s.telem.dumpLines.filter (·.watch == n)).map (·.id)
  let s := { s with telem := { s.telem with dumpLines := s.telem.dumpLines.filter (·.watch != n) }
                    accesses := s.accesses.filter (fun a => !a.load.any ids.contains) }
  let s := ids.foldl (fun s i => s.dmaOrphan (.load i)) s
  (s.setDump n { d with state := 3, reason := reason, end_ := s.now, running := false }).bump 0xF00 0x1D 1

/-- The DPA at which an LD reaches tile `t` of a region. -/
def State.tileDpa (s : State) (ld : Nat) (x : Region) (t : Nat) : Option Nat := (s.regionTile x t).bind (s.dpaOf ld)

/-- Start reading a dump's lines, as a host read of the owner LD would (19 R619). -/
def State.startDump (s : State) (n ld pos : Nat) (w : Bytes) (x : Region) : State :=
  let first := field w 16 4
  let s := s.setDump n { state := 1, pos := pos, started := s.now, running := true, watch := w }
  (List.range (field w 20 4 * 1024)).foldl (fun s i =>
    let id := s.nextLoad
    let l : DumpLine := { id := id, watch := n, line := i }
    let s := { s with nextLoad := id + 1, telem := { s.telem with dumpLines := s.telem.dumpLines ++ [l] } }
    match s.tileDpa ld x (first + i / 1024) with
    | some d => s.readAt { view := { ld := ld }, load := some id, req := 0x51 } (d + 64 * (i % 1024))
    | none => s.deliver ld 0 0 (some id) none) s

/-- A schedule entry with action 0x06 fires (19 R618 to R620). -/
def State.fireDump (s : State) (n pos : Nat) : State :=
  let w := s.watch n
  let ld := n / 4
  let step := field w 8 8
  let d := s.dump n
  if !(field w 2 1).testBit 0 ∨ (step ≠ 0xFFFFFFFFFFFFFFFF ∧ step ≠ pos / 2 ^ 24) then s
  else if d.running then s.setDump n { d with state := 4 }
  else match s.region (field w 0 2) with
    | none => s
    | some x =>
      if field w 16 4 + field w 20 4 > x.tiles then s
      else if !(s.ld ld).busMaster then (s.setDump n { state := 1, pos := pos }).failDump n 1
      else s.startDump n ld pos w x

end Sys2Proof.Machine
end

