-- ==== Sys2Proof/Machine/Cadence.lean ====
section
/-!
DEFINITION. Cadences, schedule entries and steeping (08 R251 to R280).
-/
namespace Sys2Proof.Machine

/-! ## Layers and leads (08 R261 to R272) -/

/-- Replace a cadence. -/
def State.setCad (s : State) (c : Nat) (x : Cad) : State := { s with cads := tabSet s.cads c x }

/-- The mode of a cadence (08 R253). -/
def State.cadMode (s : State) (c : Nat) : Nat := s.obj (0x810 + c) 0x101 0
/-- Layers per step. -/
def State.layersOf (s : State) (c : Nat) : Nat := s.obj (0x810 + c) 0x110 0

/-- The layer class of a layer (08 R261). -/
def State.layerClass (s : State) (c layer : Nat) : Nat :=
  let m := s.blob (0x810 + c) 0x111 0 0 64
  match (List.range 16).find? (fun i => decide (field m (4 * i) 2 ≥ layer)) with
  | some i => field m (4 * i + 2) 1 % 8
  | none => 7

/-- The smoothed time of a layer class. -/
def State.layerTime (s : State) (c k : Nat) : Nat := s.obj (0x810 + c) 0x112 k

/-- A measurement moves the class's time by an eighth of the difference, rounded toward zero (08 R262). -/
def smoothed (tau m : Nat) : Nat := if tau = 0 then m else if m ≥ tau then tau + (m - tau) / 8 else tau - (tau - m) / 8

/-- The issue position for a lead (08 R269). -/
def issuePosition (n target lam : Nat) : Nat :=
  let s := posStep target
  let l := posLayer target
  if l ≥ lam then posAt s (l - lam)
  else if n ≠ 0 ∧ s > 0 then posAt (s - 1) (l + n - lam)
  else if s = 0 ∧ n ≠ 0 then 0
  else posAt s 0

/-- The stored tiles of an entry's range that its LD reaches. -/
def State.rangeKeys (s : State) (ld : Nat) (x : Sched) : List Nat :=
  (List.range x.opB).filterMap (fun i => match s.seen { ld := ld } (x.opA + 65536 * i) with
    | .tile _ key _ _ => key
    | _ => none)

/-- Whether a stored tile is homed in a slower tier than a steep's destination, or a faster one than a demote's; a poisoned tile without a home
has ended its move (08 R275). -/
def State.wantsMove (s : State) (x : Sched) (k : Nat) : Bool :=
  let e := s.tgt k
  decide (1 ≤ e.state ∧ e.state ≤ 3) && e.length != 0 && (if x.steeps then decide (e.home > x.dest) else decide (e.home < x.dest))

/-- The steep tally: stored bytes of the tiles homed in tiers 1, 2, 3 and their coded bytes (08 R271). -/
def State.tally (s : State) (n : Nat) (x : Sched) : Nat × Nat × Nat × Nat :=
  if !x.steeps ∨ !x.armed then (0, 0, 0, 0)
  else ((s.rangeKeys (schedLd n) x).filter (s.wantsMove x)).foldl (fun a k =>
    let e := s.tgt k
    if e.home = 1 then (a.1 + 1024 * e.length, a.2)
    else
      let c := (tabGet s.tallies k).getD 0
      if e.home = 2 then (a.1, a.2.1 + 256 * e.length, a.2.2.1, a.2.2.2 + c)
      else (a.1, a.2.1, a.2.2.1 + 256 * e.length, a.2.2.2 + c)) (0, 0, 0, 0)

/-- The 48 bytes of a steep tally. -/
def State.tallyBytes (s : State) (n : Nat) : Bytes :=
  let t := s.tally n (s.entryOf n)
  leBytes 8 t.1 ++ leBytes 8 t.2.1 ++ leBytes 8 t.2.2.1 ++ leBytes 8 t.2.2.2 ++ zeros 16

/-- The planning rate of a source tier in MB/s (08 R272). -/
def State.planRate (s : State) (ld tier : Nat) : Nat :=
  let a := if s.obj 0 0x131 0 = 0 then s.obj 0x800 0x120 (tier - 1) else s.obj 0x700 (0x140 + ld) 0
  let ports := ((List.range 8).filter (fun p => s.farOwn p == 1)).length
  let full := if tier = 1 then 5120000
    else if tier = 2 then 60500 * (ports - 1)
    else if s.obj 0x100 0x100 1 = 0 then (if (s.leg 0).up then 121000 else 0)
    else 60500 * ((List.range 2).filter (fun k => (s.leg k).up)).length
  full * a / 256

/-- Nanoseconds that bytes take at a rate; a tier without a rate takes longer than any lead reaches. -/
def transferNs (bytes rate : Nat) : Nat := if bytes = 0 then 0 else if rate = 0 then 2 ^ 64 else bytes * 1000 / rate

/-- The lead of a steep entry, and whether it is capped (08 R270). -/
def State.lead (s : State) (n : Nat) (x : Sched) : Nat × Bool :=
  let c := x.cad
  let u := 0x810 + c
  let nl := s.layersOf c
  let lmax := if x.leadLimit ≠ 0 then x.leadLimit else s.obj u 0x113 0
  let lmax := if nl ≠ 0 then Nat.min lmax nl else lmax
  if x.fixed then (lmax, false)
  else
    let t := s.tally n x
    let ld := schedLd n
    let tx := (if x.dest = 0 then transferNs t.1 (s.planRate ld 1) else 0)
      + transferNs t.2.1 (s.planRate ld 2) + transferNs t.2.2.1 (s.planRate ld 3)
    let td := t.2.2.2 * 1000 / (2 * Nat.max 1 (s.obj 0x300 0x121 0) * 24000)
    let need := s.obj 0x800 0x121 0 + Nat.max tx td
    let need := need + need * s.obj 0x800 0x122 0 / 256 + x.delta
    go s c nl x.target lmax need lmax 1 0
where
  go (s : State) (c nl target lmax need : Nat) : Nat → Nat → Nat → Nat × Bool
    | 0, _, _ => (lmax, true)
    | f + 1, k, sum =>
      let tau := s.layerTime c (s.layerClass c (posLayer (issuePosition nl target k)))
      if tau = 0 then (lmax, false)
      else if sum + tau ≥ need then (k, false)
      else go s c nl target lmax need f (k + 1) (sum + tau)

/-- How many layers a target lies ahead of a position; none when it does not reach it. -/
def layersAhead (nl pos target : Nat) : Option Nat :=
  if posStep target = posStep pos then
    (if posLayer target ≥ posLayer pos then some (posLayer target - posLayer pos) else none)
  else if posStep target > posStep pos ∧ nl ≠ 0 then
    some ((posStep target - posStep pos) * nl + posLayer target - posLayer pos)
  else none

/-- Whether an entry waits to fire. -/
def Sched.ready (x : Sched) : Bool := x.armed && !x.issued && !x.done

/-- Recompute the lead of an entry whose target is within its limit, or has been passed (08 R269). -/
def State.relead (s : State) (n : Nat) (x : Sched) : State :=
  let pos := (s.cad x.cad).pos
  let nl := s.layersOf x.cad
  let lmax := if x.leadLimit ≠ 0 then x.leadLimit else s.obj (0x810 + x.cad) 0x113 0
  let lmax := if nl ≠ 0 then Nat.min lmax nl else lmax
  let within := decide (x.target ≤ pos) || (layersAhead nl pos x.target).any (fun a => decide (a ≤ lmax))
  if within then s.setEntryOf n { x with lam := some (s.lead n x) } else s

/-! ## Firing (08 R266, R273) -/

/-- The fire position of an entry (08 R266). -/
def State.firePosition (s : State) (x : Sched) : Nat :=
  match x.steeps, x.lam with
  | true, some l => Nat.min x.target (issuePosition (s.layersOf x.cad) x.target l.1)
  | _, _ => x.target

/-- A tile that an entry steeps is pinned until the cadence first reaches the layer after the target's, if it has not yet (08 R267). -/
def State.pin (s : State) (k n : Nat) (x : Sched) : State :=
  let until_ := posAt (posStep x.target) 0 + (posLayer x.target + 1) * 256
  if (s.cad x.cad).pos ≥ until_ then s else { s with pins := s.pins ++ [{ key := k, entry := n, cad := x.cad, until_ := until_ }] }

/-- Start the move of one tile of an entry; a tile that cannot start yet waits (08 R266, R275). -/
def State.pumpTile (s : State) (n : Nat) (x : Sched) (k : Nat) : State :=
  let keep (s : State) (y : Sched) : State := s.setEntryOf n { y with waiting := y.waiting ++ [k] }
  let e := s.tgt k
  let ld := s.moveLd e
  let masked := !(s.region e.region).any (fun r => r.tierMask.testBit x.dest)
  if !s.wantsMove x k ∨ masked then s
  else if e.state = 2 then keep s (s.entryOf n)
  else
    let cls := x.cls
    let (kind, tier) := if x.steeps then (2, x.dest) else if e.home = 0 then (3, 1) else if e.home = 1 then (3, x.dest) else (4, x.dest)
    match s.startMove k kind tier cls (.schedule n) with
    | some (_, s) =>
      if tier ≠ x.dest then keep s (s.entryOf n)
      else if x.steeps then s.pin k n x else s
    | none =>
      let y := s.entryOf n
      if e.home = 3 ∧ !s.spillReachable ld then keep s { y with unreachable := true }
      else if (s.recordFor cls (((s.region e.region).map (fun r => partyOf r (.schedule n))).getD ld)).isNone ∨ s.waitsFloor kind tier = true then
        keep (s.noteWaits k kind tier cls (.schedule n)) y
      else keep s { y with noSpace := true }

/-- Start the waiting moves of an entry; while a control core restarts they pause (06 R198). -/
def State.pump (s : State) (n : Nat) : State :=
  let x := s.entryOf n
  if x.waiting.isEmpty then s
  else if s.policyPaused then s.setEntryOf n { x with restart := true }
  else if s.contained then s
  else
    let s := s.setEntryOf n { x with waiting := [] }
    (x.waiting.foldl (fun s k => s.pumpTile n x k) s).schedCheck n

/-- A publish action (09 R302). -/
def State.firePublish (s : State) (n : Nat) (x : Sched) : Bool × State :=
  let ld := schedLd n
  match s.attachOf ld x.opA with
  | some (id, a) =>
    if a.kind = 2 then s.publishBy ld id a x.target
    else (false, s.setResult ld 4 3 x.opA a.base 0 [])
  | none => (false, s.setResult ld 4 3 x.opA 0 0 [])

/-- An entry fires (08 R266). -/
def State.fire (s : State) (n at_ : Nat) : State :=
  let x := s.entryOf n
  let c := x.cad
  let s := (s.bump (0x810 + c) 0x1B 1).powerWake 1
  let x : Sched := { x with issued := true, status := 2, issuePos := at_ }
  let last (ok : Bool) (s : State) : State := (s.setEntryOf n { s.entryOf n with status := if ok then 2 else 5 }).schedCheck n
  if x.action ≤ 2 then
    let l := x.lam.getD (s.lead n x)
    let s := s.setEntryOf n { x with lead := l.1, capped := l.2, waiting := (s.rangeKeys (schedLd n) x).filter (s.wantsMove x) }
    let s := if l.2 then s.raise (0x810 + c) 0x0142 n else s
    s.pump n
  else if x.action = 3 then
    let s := s.setEntryOf n { x with waiting := (s.rangeKeys (schedLd n) x).filter (s.wantsMove x) }
    (s.pump n).schedCheck n
  else
    let s := s.setEntryOf n x
    if x.action = 4 then
      let r := s.fireJob x.opA c
      last r.1 r.2
    else if x.action = 5 then
      let r := s.firePublish n x
      last r.1 r.2
    else if x.action = 6 then last true (s.fireDump x.opB (s.cad c).pos)
    else last true (s.freezeTrigger 2)

/-- Insert an entry by fire position, then index. -/
def insertFire (p n : Nat) : List (Nat × Nat) → List (Nat × Nat)
  | [] => [(p, n)]
  | (q, m) :: r => if p < q ∨ (p = q ∧ n < m) then (p, n) :: (q, m) :: r else (q, m) :: insertFire p n r

/-- The entries of a cadence that fire at its position, in order (08 R266). -/
def State.firing (s : State) (c : Nat) : List (Nat × Nat) :=
  (s.sched.filter (fun x => x.2.ready && x.2.cad == c && decide (s.firePosition x.2 ≤ (s.cad c).pos))).foldl
    (fun l x => insertFire (s.firePosition x.2) x.1 l) []

/-- Raise an entry's unfinished moves to class 1 (06 R218, 08 R273). -/
def State.raiseMoves (s : State) (n : Nat) : State :=
  let mine (m : Move) : Bool := m.by_ == .schedule n && decide (m.cls > 1)
  let k := (s.moves.filter (fun m => mine m.2)).length
  let up (m : Nat × Move) : Nat × Move := (m.1, if mine m.2 then { m.2 with cls := 1 } else m.2)
  { s with moves := s.moves.map up }.bump 0x700 0x20 k

/-- The cadence has reached the target of an issued steep: it is late when anything is unfinished (08 R273). -/
def State.reachTarget (s : State) (n : Nat) : State :=
  let x := s.entryOf n
  let open_ := !x.waiting.isEmpty || s.moves.any (fun m => m.2.by_ == .schedule n)
  if open_ then
    let s := s.setEntryOf n { x with reachedAt := some s.now, late := true, status := 3 }
    let s := s.setCad x.cad { s.cad x.cad with lateSeen := true }
    (s.raiseMoves n).pump n
  else (s.setEntryOf n { x with reachedAt := some s.now }).schedCheck n

/-! ## Advancing (08 R254, R258 to R262, R267) -/

/-- Measure the layer that an advance leaves (08 R262). -/
def State.measureLayer (s : State) (c p : Nat) : State :=
  let x := s.cad c
  let old := x.pos
  match x.layerSince with
  | some t =>
    if posStep p = posStep old ∧ posLayer p = posLayer old + 1 ∧ !x.lateSeen then
      let k := s.layerClass c (posLayer old)
      s.setObj (0x810 + c) 0x112 k (smoothed (s.layerTime c k) (s.now - t))
    else s
  | none => s

/-- Send an advance to the span members (16 R558). -/
def State.propagate (s : State) (c p : Nat) : State :=
  if s.cadMode c = 4 then s
  else s.peers.foldl (fun s m => s.sendPacket m 5 0 0x10 0 0 p c (leBytes 8 s.now ++ zeros 8)) s

/-- Release what waits for a position: pins, POSWAIT, stop positions (08 R267, 12 R426, 13 R447). -/
def State.positionReached (s : State) (c : Nat) : State :=
  let p := (s.cad c).pos
  let s := { s with pins := s.pins.filter (fun q => !(q.cad == c && decide (q.until_ ≤ p))) }
  let waits (t : Thread) : Bool := match t.wait with
    | .position q => decide (q ≤ p) && (s.job t.job).any (·.launchCad == c)
    | _ => false
  let s := s.endWaits waits false
  let stops := s.jobs.filter (fun j => (j.2.state == 2 || j.2.state == 3) && j.2.launchCad == c && j.2.stopPos != 0
    && decide (j.2.stopPos ≤ p))
  stops.foldl (fun s j => s.stopRun j.1 0x11) s

/-- A cadence that lost its source resumes on the next advance it receives (08 R260; log entry 47). -/
def State.resumeCad (s : State) (c : Nat) : State :=
  let x := s.unit (0x810 + c)
  if x.own = 5 ∧ x.reason = 0x100 then s.setOwn (0x810 + c) (if s.requested (0x810 + c) = 2 then 2 else 1) 0 else s

/-- Apply an advance to one cadence (08 R254). -/
def State.advanceOne (s : State) (c p : Nat) : State :=
  let s := s.resumeCad c
  let x := s.cad c
  let u := 0x810 + c
  if p ≤ x.pos then s.bump u 0x17 1
  else
    let layer := posAt (posStep p) (posLayer p) ≠ posAt (posStep x.pos) (posLayer x.pos)
    let s := if layer then s.measureLayer c p else s
    let late := s.sched.any (fun e => e.2.cad == c && e.2.late)
    let y : Cad := { x with pos := p, lastAdvance := s.now, layerSince := if layer then some s.now else x.layerSince
                            lateSeen := if layer then late else x.lateSeen }
    let s := (s.setCad c y).bump u 0x16 1
    let s := if layer then
        (s.sched.filter (fun e => e.2.ready && e.2.steeps && e.2.cad == c)).foldl (fun s e => s.relead e.1 e.2) s
      else s
    let s := (s.firing c).foldl (fun s f => s.fire f.2 f.1) s
    let due := s.sched.filter (fun e => e.2.steeps && e.2.issued && !e.2.done && e.2.reachedAt.isNone && e.2.cad == c
      && decide (e.2.target ≤ p))
    let s := due.foldl (fun s e => s.reachTarget e.1) s
    let s := (s.sched.filter (fun e => e.2.cad == c && e.2.issued && !e.2.done)).foldl (fun s e => s.schedCheck e.1) s
    (s.positionReached c).propagate c p

/-- An advance of a cadence, and of the local cadences that follow it (08 R254, R260). -/
def State.advance (s : State) (c p : Nat) : State :=
  let before := (s.cad c).pos
  let s := s.advanceOne c p
  if p ≤ before then s
  else (List.range 64).foldl (fun s d =>
    if s.cadMode d = 4 ∧ s.obj (0x810 + d) 0x102 0 = 256 * s.span.member + c then s.advanceOne d p else s) s

/-- A driven advance: ignored and counted while the driven mode is not enabled (08 R255, 12 R428); in chrysalis the cadence
holds its position (16 R561). -/
def State.drivenAdvance (s : State) (c p : Nat) : State :=
  if s.cadMode c = 1 ∨ s.cadMode c = 3 then (if s.chrysalis then s else s.advance c p) else s.bump (0x810 + c) 0x17 1

/-- A rewind: armed entries are evaluated against the new position and nothing fires (08 R256). -/
def State.rewindTo (s : State) (c p : Nat) : State :=
  let s := (s.setCad c { s.cad c with pos := p, lastAdvance := s.now, layerSince := none }).bump (0x810 + c) 0x18 1
  (s.sched.filter (fun e => e.2.ready && e.2.steeps && e.2.cad == c)).foldl (fun s e =>
    (s.setEntryOf e.1 { e.2 with lam := none }).relead e.1 { e.2 with lam := none }) s

/-- Marker entry `m` (08 R258). -/
def State.marker (s : State) (m : Nat) : Bytes := memRead s.markers (16 * m) 16

/-- The advances that a host read of a line brings, by ascending marker index (08 R259). -/
def State.markedAdvance (s : State) (ld dpa : Nat) : State :=
  (List.range 256).foldl (fun s i =>
    let b := s.marker (256 * ld + i)
    let c := field b 8 1
    let f := field b 9 1
    if !s.chrysalis ∧ f.testBit 0 ∧ field b 0 8 / 64 = dpa / 64 ∧ (s.cadMode c = 2 ∨ s.cadMode c = 3) then
      let step := posStep (s.cad c).pos + b2n (f.testBit 1)
      s.advance c (posAt step (field b 10 2) + field b 12 1)
    else s) s

/-- Waiting moves of every entry are tried again as space, records and tiles come free, those of a better class first (06 R218). -/
def State.pumpAll (s : State) : State :=
  [1, 3, 4].foldl (fun s c => (s.sched.filter (fun e => !e.2.waiting.isEmpty && e.2.cls == c)).foldl (fun s e => s.pump e.1) s) s

/-! ## Writes (08 R251, R253, R263 to R265) -/

/-- Whether an entry that is being armed is refused (08 R251, R263 to R265). -/
def State.badEntry (s : State) (n : Nat) (b : Bytes) : Bool :=
  let ld := schedLd n
  let x : Sched := { bytes := b }
  let act := x.action
  let nl := s.layersOf x.cad
  let tiles := (List.range x.opB).map (fun i => x.opA + 65536 * i)
  decide (x.cad / 4 ≠ ld) || decide (act = 0 ∨ act > 7) || decide (field b 1 1 ≥ 8) || field b 5 3 != 0 || field b 28 4 != 0
  || (if act = 3 then decide (x.tier = 0 ∨ x.tier > 3) else x.tier != 0)
  || (nl != 0 && decide (posLayer x.target ≥ nl))
  || (if act ≤ 3 then x.opA % 65536 != 0 || decide (x.opB = 0 ∨ x.opB > 1048576)
        || tiles.any (fun d => match s.seen { ld := ld } d with
            | .tile _ _ _ _ => false
            | _ => true)
      else if act = 4 then decide (x.opA ≥ 1024) || jobLd x.opA != ld || x.opB != 0
      else if act = 5 then !((s.sharedOf x.opA).any (fun z => z.writeMask.testBit ld)) || x.opB != 0
      else if act = 6 then x.opA != 0 || decide (x.opB ≥ 64) || x.opB / 4 != ld
      else x.opA != 0 || x.opB != 0)

/-- The new 32 bytes of one entry (08 R265). -/
def State.writeEntry (s : State) (n : Nat) (b : Bytes) : Reply :=
  let x := s.entryOf n
  let y : Sched := { x with bytes := b }
  if b = x.bytes then .ok s
  else if x.armed then
    if field b 1 1 ≥ 8 then .error stRange
    else if patch b 1 (zeros 1) ≠ patch x.bytes 1 (zeros 1) then .error stBusy
    else if y.armed then .ok (s.setEntryOf n y)
    else .ok (s.setEntryOf n { y with status := 0, lam := none, issued := false, done := false, waiting := [], late := false
                                      reachedAt := none })
  else if y.armed then
    if s.badEntry n b then .error stRange
    else .ok (s.setEntryOf n { y with status := 1, lam := none, issued := false, done := false, waiting := [], late := false
                                      reachedAt := none, noSpace := false, unreachable := false, restart := false
                                      decodeWait := 0, transferWait := 0 })
  else .ok (s.setEntryOf n y)

/-- Whether a sender may write bytes of a table whose LDs have slices of `slice` bytes each (08 R279, 02 R44). -/
def Sender.inSlice (w : Sender) (slice off len : Nat) : Bool :=
  w.fm || (match w.ld with
    | some n => decide (slice * n ≤ off ∧ off + len ≤ slice * n + slice)
    | none => false)

/-- Whether a write of a table of entries of `size` bytes, `slice` bytes for each LD, writes the cadence byte at `at_` of an
entry with another LD's cadence (08 R251); an entry that the write leaves all zero is cleared and names none (log entry 37). `old` gives
an entry's bytes. -/
def namesOther (size slice at_ off : Nat) (b : Bytes) (old : Nat → Bytes) : Bool :=
  (List.range ((off + b.length) / size + 1 - off / size)).any (fun i =>
    let n := off / size + i
    let lo := Nat.max off (size * n)
    let hi := Nat.min (off + b.length) (size * n + size)
    let new := patch (old n) (lo - size * n) ((b.drop (lo - off)).take (hi - lo))
    let c := (nth new at_ 0).toNat
    decide (off ≤ size * n + at_ ∧ size * n + at_ < off + b.length ∧ c < 64 ∧ c / 4 ≠ size * n / slice) && !allZero new)

/-- A write of the schedule table (08 R251, R265, R279). -/
def State.scheduleWrite (s : State) (w : Sender) (off : Nat) (b : Bytes) : Reply :=
  if !w.inSlice 32768 off b.length then .error stRights
  else if namesOther 32 32768 2 off b (fun n => slice (s.entryOf n).bytes 0 32) then .error stRange
  else s.writeTable 32 off b (fun s n => slice (s.entryOf n).bytes 0 32) (fun s n e => s.writeEntry n e)

/-- A write of the marker table (08 R251, R258). -/
def State.markerWrite (s : State) (w : Sender) (off : Nat) (b : Bytes) : Reply :=
  let put (s : State) (n : Nat) (e : Bytes) : Reply :=
    checks [ (!allZero e && ((e.getD 9 0).toNat % 2 == 1 && field e 8 1 / 4 != n / 256 || field e 0 8 % 64 != 0 || decide (field e 9 1 ≥ 4)
                || field e 13 3 != 0), stRange) ] { s with markers := memWrite s.markers (16 * n) e }
  if !w.inSlice 4096 off b.length then .error stRights
  else if namesOther 16 4096 8 off b s.marker then .error stRange
  else s.writeTable 16 off b (fun s n => s.marker n) put

/-- A write of a cadence's mode (08 R253). -/
def State.modeWrite (s : State) (w : Sender) (c v : Nat) : Reply :=
  checks [ (!w.fm && (decide (v = 4) || s.cadMode c == 4), stRights), (decide (v > 4), stRange) ] (s.setObj (0x810 + c) 0x101 0 v)

/-- A write of a cadence's propagation source: a propagated cadence is none, be it this module's or, as its own objects say, another
member's (08 R260; log entry 26). -/
def State.sourceWrite (s : State) (c v : Nat) : Reply :=
  let o := 0x810 + v % 256
  let mode := if v / 256 = s.span.member then s.cadMode (v % 256) else Config.memberValue s.fresh (v / 256) (o * 4096 + 0x101) 0 % 5
  checks [ (v != 0xFFFF && decide (v / 256 ≥ 8 ∨ v % 256 ≥ 64 ∨ mode = 4), stRange) ]
    (State.setObj { s with fresh := s.fresh + 1 } (0x810 + c) 0x102 0 v)

/-- A write of 8 bytes of a position line of an LD. -/
def State.lineWrite (s : State) (ld k off v : Nat) : State :=
  let c := 4 * ld + k
  if off = 0 then s.drivenAdvance c v else s.rewindTo c v

/-- POSITION_ADVANCE (08 R255): a write of the advance field of the LD's position line for the cadence. -/
def execPositionAdvance (ld : Fin 16) (cadence : Fin 64) (pos : U64) (s : State) : Host.Outcome State Fault Refusal :=
  finish s (if cadence.val / 4 = ld.val ∧ (s.ld ld).memSpace then s.lineWrite ld (cadence.val % 4) 0 pos.toNat else s)

/-- REWIND (08 R256): a write of the rewind field. -/
def execRewind (ld : Fin 16) (cadence : Fin 64) (pos : U64) (s : State) : Host.Outcome State Fault Refusal :=
  finish s (if cadence.val / 4 = ld.val ∧ (s.ld ld).memSpace then s.lineWrite ld (cadence.val % 4) 8 pos.toNat else s)

end Sys2Proof.Machine
end

