-- ==== Sys2Proof/Machine/Issue.lean ====
section
/-!
DEFINITION. Issuing a Gaisk instruction (11 R357, 12 R393 to R399, R432 to R435): whether the thread can, the checks that
come before every effect, and how an instruction ends. A command carries the instruction; the model fetches nothing
(log entry 2).
-/
namespace Sys2Proof.Machine

/-! ## Who is ready (11 R357) -/

/-- The x and v registers that the register fields of a word name. -/
def namedRegs (w : Nat) : List Nat × List Nat :=
  let major := bits w 6 0
  let a := bits w 11 7
  let b := bits w 16 12
  let c := bits w 21 17
  if major = 0x01 ∨ major = 0x14 ∨ major = 0x50 then ([a, b, c], [])
  else if major = 0x03 ∨ major = 0x61 then ([a], [])
  else if major = 0x12 ∨ major = 0x13 then ([bits w 15 11], [bits w 10 7])
  else if major = 0x20 then ([], [bits w 10 7, bits w 14 11, bits w 18 15])
  else if major = 0x21 then ([bits w 19 15], [bits w 10 7, bits w 14 11])
  else if major = 0x22 then ([bits w 20 16], [])
  else if major = 0x30 then ([bits w 14 10, bits w 19 15], [])
  else ([a, b], [])

/-- Whether an outstanding load writes a register that a word names; x0 holds nothing. -/
def LoadKind.blocks (k : LoadKind) (w : Nat) : Bool :=
  match k with
  | .scalar rd _ _ | .atomic rd _ _ _ _ => rd != 0 && (namedRegs w).1.contains rd
  | .vector vd _ _ => (namedRegs w).2.contains vd
  | .fetch _ _ => false

/-- The loads of a thread that are outstanding; tile fetches belong to the array queue. -/
def State.loadsOf (s : State) (t : ThreadId) : List Load :=
  s.loads.filter (fun l => l.thread == t && l.isThread)

/-- Whether a write of a thread is still held. -/
def State.storesHeld (s : State) (t : ThreadId) : Bool := s.held.any (fun h => h.by_ == .thread t)

/-- Whether the next instruction of a thread can issue: it runs, waits for nothing, no load is to write a register
that the word names, and no atomic with acquire order is pending (11 R388). -/
def State.threadReady (s : State) (t : ThreadId) (x : Thread) (j : Job) (w : Nat) : Bool :=
  j.state == 3 && !x.ended && x.wait == .none && !(s.cluster t.cluster).scrubbing
  && !(s.loadsOf t).any (fun l => l.kind.blocks w || l.acquires)

/-! ## Running -/

/-- How an instruction comes out at issue: it cannot issue yet, it raises a precise exception, or it is done. -/
inductive Ran where
  | stall
  | trap (code addr : Nat)
  /-- An exception of an access that a counter of a unit counts as well (03 R95, 09 R294). -/
  | counted (unit counter code addr : Nat)
  /-- An exception after an answer from outside that stays with the module (15 R526). -/
  | trapped (s : State) (code addr : Nat)
  | ran (s : State)
deriving DecidableEq, Repr

/-- What an instruction knows of its thread. -/
structure Ctx where
  t : ThreadId
  /-- The thread's number. -/
  k : Nat
  /-- The job's number. -/
  jn : Nat
  job : Job
  x : Thread
  word : Nat

/-- The LD of the job. -/
def Ctx.ld (c : Ctx) : Nat := jobLd c.jn
/-- The near-tier requester of the cluster (14 R467). -/
def Ctx.req (c : Ctx) : Nat := 0x10 + c.t.cluster.val
/-- How the job sees DPA. -/
def Ctx.view (c : Ctx) : View := { ld := c.ld, job := some c.jn }

/-- The thread passes to the next instruction. -/
def Thread.step (x : Thread) : Thread := { x with pc := x.pc + 4 }

/-- The instruction is done and leaves its thread so. -/
def State.ranWith (s : State) (c : Ctx) (x : Thread) : Ran := .ran (s.setThread c.k x)

/-- Whether a thread may fetch at an address: its DPA range, or its own cluster's window (12 R432). -/
def State.fetchable (s : State) (t : ThreadId) (pc : Nat) : Bool :=
  decide (pc + 4 ≤ 0x100000000000)
  || decide (windowBase t.cluster ≤ pc ∧ pc + 4 ≤ windowBase t.cluster + s.windowSize t.cluster)

/-- Issue a word to a thread: its effect is `f`; the core counts what it issues (11 R391). An instruction that cannot issue
now leaves everything as it is. -/
def State.issue (s : State) (t : ThreadId) (w : Nat) (f : State → Ctx → Ran) : State :=
  let k := ThreadKey t
  match s.thread k with
  | none => s
  | some x => match s.job x.job with
    | none => s
    | some j =>
      let pc := x.pc.toNat
      if s.contained ∨ !s.threadReady t x j w then s
      else if pc % 4 ≠ 0 then s.except t 3 false w pc pc
      else if !s.fetchable t pc then s.except t 4 false w pc pc
      else if !wordLegal w then s.except t 1 false w pc 0
      else match f s { t := t, k := k, jn := x.job, job := j, x := x, word := w } with
        | .stall => s
        | .trap code a => s.except t code false w pc a
        | .counted u n code a => (s.bump u n 1).except t code false w pc a
        | .trapped s code a => s.except t code false w pc a
        | .ran s => s.bump (coreUnit t) 0x16 1

/-- ILLEGAL_INSTRUCTION: a thread fetches a word that is not an instruction (12 R399). A word that is one is taken as
never fetched here: its own command issues it. -/
def execIllegalInstruction (t : ThreadId) (word : U32) (s : State) : Host.Outcome State Fault Refusal :=
  finish s (if wordLegal word.toNat then s else s.issue t word.toNat (fun _ _ => .stall))

end Sys2Proof.Machine
end

