-- ==== Sys2Proof/Machine/Scalar.lean ====
section
/-!
DEFINITION. The scalar group (12 R401 to R403) and the control group (12 R396, R397, R431, R432).
-/
namespace Sys2Proof.Machine

/-! ## Arithmetic (12 R401, R402) -/

/-- 1 for true, 0 for false. -/
def flag (b : Bool) : U64 := if b then 1 else 0

/-- The high 64 bits of the signed product. -/
def mulHigh (a b : U64) : U64 := BitVec.ofInt 64 (a.toInt * b.toInt / 2 ^ 64)

/-- The signed quotient toward zero; a divisor of 0 gives all ones, the overflow wraps (12 R402). -/
def divSigned (a b : U64) : U64 := if b = 0 then BitVec.allOnes 64 else BitVec.ofInt 64 (a.toInt.tdiv b.toInt)

/-- The signed remainder with the sign of rs1; a divisor of 0 gives rs1 (12 R402). -/
def remSigned (a b : U64) : U64 := if b = 0 then a else BitVec.ofInt 64 (a.toInt.tmod b.toInt)

/-- Trailing zero bits. -/
def trailing (a : U64) : Nat := ((List.range 64).find? (fun i => a.toNat.testBit i)).getD 64

/-- An instruction of format S3 that writes rd (12 R401). -/
def State.scalarOp (s : State) (t : ThreadId) (func : Nat) (rd rs1 rs2 : BitVec 5) (f : U64 → U64 → U64) : State :=
  s.issue t (wordS3 0x01 func rd rs1 rs2) (fun s c => s.ranWith c (c.x.wx rd (f (c.x.rx rs1) (c.x.rx rs2))).step)

/-- An instruction of format SI that writes rd (12 R403). -/
def State.scalarImm (s : State) (t : ThreadId) (func : Nat) (rd rs1 : BitVec 5) (imm : BitVec 12) (f : U64 → U64 → U64) : State :=
  s.issue t (wordSI 0x02 func rd rs1 imm) (fun s c => s.ranWith c (c.x.wx rd (f (c.x.rx rs1) (imm.signExtend 64))).step)

/-- ADD (12 R401). -/
def execGAdd (t : ThreadId) (rd rs1 rs2 : BitVec 5) (s : State) : Host.Outcome State Fault Refusal :=
  finish s (s.scalarOp t 0x000 rd rs1 rs2 (fun a b => a + b))

/-- SUB (12 R401). -/
def execGSub (t : ThreadId) (rd rs1 rs2 : BitVec 5) (s : State) : Host.Outcome State Fault Refusal :=
  finish s (s.scalarOp t 0x001 rd rs1 rs2 (fun a b => a - b))

/-- AND (12 R401). -/
def execGAnd (t : ThreadId) (rd rs1 rs2 : BitVec 5) (s : State) : Host.Outcome State Fault Refusal :=
  finish s (s.scalarOp t 0x002 rd rs1 rs2 (fun a b => a &&& b))

/-- OR (12 R401). -/
def execGOr (t : ThreadId) (rd rs1 rs2 : BitVec 5) (s : State) : Host.Outcome State Fault Refusal :=
  finish s (s.scalarOp t 0x003 rd rs1 rs2 (fun a b => a ||| b))

/-- XOR (12 R401). -/
def execGXor (t : ThreadId) (rd rs1 rs2 : BitVec 5) (s : State) : Host.Outcome State Fault Refusal :=
  finish s (s.scalarOp t 0x004 rd rs1 rs2 (fun a b => a ^^^ b))

/-- SLL (12 R401). -/
def execGSll (t : ThreadId) (rd rs1 rs2 : BitVec 5) (s : State) : Host.Outcome State Fault Refusal :=
  finish s (s.scalarOp t 0x005 rd rs1 rs2 (fun a b => a <<< (b.toNat % 64)))

/-- SRL (12 R401). -/
def execGSrl (t : ThreadId) (rd rs1 rs2 : BitVec 5) (s : State) : Host.Outcome State Fault Refusal :=
  finish s (s.scalarOp t 0x006 rd rs1 rs2 (fun a b => a >>> (b.toNat % 64)))

/-- SRA (12 R401). -/
def execGSra (t : ThreadId) (rd rs1 rs2 : BitVec 5) (s : State) : Host.Outcome State Fault Refusal :=
  finish s (s.scalarOp t 0x007 rd rs1 rs2 (fun a b => a.sshiftRight (b.toNat % 64)))

/-- SLT (12 R401). -/
def execGSlt (t : ThreadId) (rd rs1 rs2 : BitVec 5) (s : State) : Host.Outcome State Fault Refusal :=
  finish s (s.scalarOp t 0x008 rd rs1 rs2 (fun a b => flag (a.slt b)))

/-- SLTU (12 R401). -/
def execGSltu (t : ThreadId) (rd rs1 rs2 : BitVec 5) (s : State) : Host.Outcome State Fault Refusal :=
  finish s (s.scalarOp t 0x009 rd rs1 rs2 (fun a b => flag (a.ult b)))

/-- MIN (12 R401). -/
def execGMin (t : ThreadId) (rd rs1 rs2 : BitVec 5) (s : State) : Host.Outcome State Fault Refusal :=
  finish s (s.scalarOp t 0x00A rd rs1 rs2 (fun a b => if a.slt b then a else b))

/-- MAX (12 R401). -/
def execGMax (t : ThreadId) (rd rs1 rs2 : BitVec 5) (s : State) : Host.Outcome State Fault Refusal :=
  finish s (s.scalarOp t 0x00B rd rs1 rs2 (fun a b => if a.slt b then b else a))

/-- MINU (12 R401). -/
def execGMinu (t : ThreadId) (rd rs1 rs2 : BitVec 5) (s : State) : Host.Outcome State Fault Refusal :=
  finish s (s.scalarOp t 0x00C rd rs1 rs2 (fun a b => if a.ult b then a else b))

/-- MAXU (12 R401). -/
def execGMaxu (t : ThreadId) (rd rs1 rs2 : BitVec 5) (s : State) : Host.Outcome State Fault Refusal :=
  finish s (s.scalarOp t 0x00D rd rs1 rs2 (fun a b => if a.ult b then b else a))

/-- MUL (12 R401). -/
def execGMul (t : ThreadId) (rd rs1 rs2 : BitVec 5) (s : State) : Host.Outcome State Fault Refusal :=
  finish s (s.scalarOp t 0x010 rd rs1 rs2 (fun a b => a * b))

/-- MULH (12 R401). -/
def execGMulh (t : ThreadId) (rd rs1 rs2 : BitVec 5) (s : State) : Host.Outcome State Fault Refusal :=
  finish s (s.scalarOp t 0x011 rd rs1 rs2 (fun a b => mulHigh a b))

/-- MULHU (12 R401). -/
def execGMulhu (t : ThreadId) (rd rs1 rs2 : BitVec 5) (s : State) : Host.Outcome State Fault Refusal :=
  finish s (s.scalarOp t 0x012 rd rs1 rs2 (fun a b => BitVec.ofNat 64 (a.toNat * b.toNat / 2 ^ 64)))

/-- DIV (12 R401). -/
def execGDiv (t : ThreadId) (rd rs1 rs2 : BitVec 5) (s : State) : Host.Outcome State Fault Refusal :=
  finish s (s.scalarOp t 0x014 rd rs1 rs2 (fun a b => divSigned a b))

/-- DIVU (12 R401). -/
def execGDivu (t : ThreadId) (rd rs1 rs2 : BitVec 5) (s : State) : Host.Outcome State Fault Refusal :=
  finish s (s.scalarOp t 0x015 rd rs1 rs2 (fun a b => if b = 0 then BitVec.allOnes 64 else a / b))

/-- REM (12 R401). -/
def execGRem (t : ThreadId) (rd rs1 rs2 : BitVec 5) (s : State) : Host.Outcome State Fault Refusal :=
  finish s (s.scalarOp t 0x016 rd rs1 rs2 (fun a b => remSigned a b))

/-- REMU (12 R401). -/
def execGRemu (t : ThreadId) (rd rs1 rs2 : BitVec 5) (s : State) : Host.Outcome State Fault Refusal :=
  finish s (s.scalarOp t 0x017 rd rs1 rs2 (fun a b => if b = 0 then a else a % b))

/-- CLZ (12 R401). -/
def execGClz (t : ThreadId) (rd rs1 rs2 : BitVec 5) (s : State) : Host.Outcome State Fault Refusal :=
  finish s (s.scalarOp t 0x018 rd rs1 rs2 (fun a _ => BitVec.ofNat 64 (64 - bitLen a.toNat)))

/-- CTZ (12 R401). -/
def execGCtz (t : ThreadId) (rd rs1 rs2 : BitVec 5) (s : State) : Host.Outcome State Fault Refusal :=
  finish s (s.scalarOp t 0x019 rd rs1 rs2 (fun a _ => BitVec.ofNat 64 (trailing a)))

/-- POPC (12 R401). -/
def execGPopc (t : ThreadId) (rd rs1 rs2 : BitVec 5) (s : State) : Host.Outcome State Fault Refusal :=
  finish s (s.scalarOp t 0x01A rd rs1 rs2 (fun a _ => BitVec.ofNat 64 (popCount 64 a.toNat)))

/-- ADDI (12 R403). -/
def execGAddi (t : ThreadId) (rd rs1 : BitVec 5) (imm : BitVec 12) (s : State) : Host.Outcome State Fault Refusal :=
  finish s (s.scalarImm t 0 rd rs1 imm (fun a b => a + b))

/-- ANDI (12 R403). -/
def execGAndi (t : ThreadId) (rd rs1 : BitVec 5) (imm : BitVec 12) (s : State) : Host.Outcome State Fault Refusal :=
  finish s (s.scalarImm t 1 rd rs1 imm (fun a b => a &&& b))

/-- ORI (12 R403). -/
def execGOri (t : ThreadId) (rd rs1 : BitVec 5) (imm : BitVec 12) (s : State) : Host.Outcome State Fault Refusal :=
  finish s (s.scalarImm t 2 rd rs1 imm (fun a b => a ||| b))

/-- XORI (12 R403). -/
def execGXori (t : ThreadId) (rd rs1 : BitVec 5) (imm : BitVec 12) (s : State) : Host.Outcome State Fault Refusal :=
  finish s (s.scalarImm t 3 rd rs1 imm (fun a b => a ^^^ b))

/-- SLLI (12 R403). -/
def execGSlli (t : ThreadId) (rd rs1 : BitVec 5) (imm : BitVec 12) (s : State) : Host.Outcome State Fault Refusal :=
  finish s (s.scalarImm t 4 rd rs1 imm (fun a b => a <<< (b.toNat % 64)))

/-- SRLI (12 R403). -/
def execGSrli (t : ThreadId) (rd rs1 : BitVec 5) (imm : BitVec 12) (s : State) : Host.Outcome State Fault Refusal :=
  finish s (s.scalarImm t 5 rd rs1 imm (fun a b => a >>> (b.toNat % 64)))

/-- SRAI (12 R403). -/
def execGSrai (t : ThreadId) (rd rs1 : BitVec 5) (imm : BitVec 12) (s : State) : Host.Outcome State Fault Refusal :=
  finish s (s.scalarImm t 6 rd rs1 imm (fun a b => a.sshiftRight (b.toNat % 64)))

/-- SLTI (12 R403). -/
def execGSlti (t : ThreadId) (rd rs1 : BitVec 5) (imm : BitVec 12) (s : State) : Host.Outcome State Fault Refusal :=
  finish s (s.scalarImm t 7 rd rs1 imm (fun a b => flag (a.slt b)))

/-- LUI (12 R403). -/
def execGLui (t : ThreadId) (rd : BitVec 5) (imm : BitVec 20) (s : State) : Host.Outcome State Fault Refusal :=
  finish s (s.issue t (wordSU 0x03 rd imm) (fun s c =>
    s.ranWith c (c.x.wx rd ((imm ++ (0 : BitVec 12)).signExtend 64)).step))

/-! ## Branches and jumps (12 R431) -/

/-- A branch: taken, the pc moves by the offset. -/
def State.branchOp (s : State) (t : ThreadId) (cond : Nat) (rs1 rs2 : BitVec 5) (off : BitVec 12) (f : U64 → U64 → Bool) : State :=
  s.issue t (wordB cond rs1 rs2 off) (fun s c =>
    s.ranWith c (if f (c.x.rx rs1) (c.x.rx rs2) then { c.x with pc := c.x.pc + 4 * off.signExtend 64 } else c.x.step))

/-- BEQ (12 R431). -/
def execGBeq (t : ThreadId) (rs1 rs2 : BitVec 5) (off : BitVec 12) (s : State) : Host.Outcome State Fault Refusal :=
  finish s (s.branchOp t 0 rs1 rs2 off (fun a b => a == b))

/-- BNE (12 R431). -/
def execGBne (t : ThreadId) (rs1 rs2 : BitVec 5) (off : BitVec 12) (s : State) : Host.Outcome State Fault Refusal :=
  finish s (s.branchOp t 1 rs1 rs2 off (fun a b => a != b))

/-- BLT (12 R431). -/
def execGBlt (t : ThreadId) (rs1 rs2 : BitVec 5) (off : BitVec 12) (s : State) : Host.Outcome State Fault Refusal :=
  finish s (s.branchOp t 2 rs1 rs2 off (fun a b => a.slt b))

/-- BGE (12 R431). -/
def execGBge (t : ThreadId) (rs1 rs2 : BitVec 5) (off : BitVec 12) (s : State) : Host.Outcome State Fault Refusal :=
  finish s (s.branchOp t 3 rs1 rs2 off (fun a b => !a.slt b))

/-- BLTU (12 R431). -/
def execGBltu (t : ThreadId) (rs1 rs2 : BitVec 5) (off : BitVec 12) (s : State) : Host.Outcome State Fault Refusal :=
  finish s (s.branchOp t 4 rs1 rs2 off (fun a b => a.ult b))

/-- BGEU (12 R431). -/
def execGBgeu (t : ThreadId) (rs1 rs2 : BitVec 5) (off : BitVec 12) (s : State) : Host.Outcome State Fault Refusal :=
  finish s (s.branchOp t 5 rs1 rs2 off (fun a b => !a.ult b))

/-- JAL (12 R431). -/
def execGJal (t : ThreadId) (rd : BitVec 5) (imm : BitVec 20) (s : State) : Host.Outcome State Fault Refusal :=
  finish s (s.issue t (wordSU 0x61 rd imm) (fun s c =>
    s.ranWith c { c.x.wx rd (c.x.pc + 4) with pc := c.x.pc + 4 * imm.signExtend 64 }))

/-- JALR (12 R431). -/
def execGJalr (t : ThreadId) (rd rs1 : BitVec 5) (imm : BitVec 12) (s : State) : Host.Outcome State Fault Refusal :=
  finish s (s.issue t (wordSI 0x62 0 rd rs1 imm) (fun s c =>
    s.ranWith c { c.x.wx rd (c.x.pc + 4) with pc := (c.x.rx rs1 + imm.signExtend 64) &&& ~~~(3 : U64) }))

/-! ## Special registers (12 R396, R397) -/

/-- The value of a special register. -/
def State.special (s : State) (c : Ctx) (n : Nat) : U64 :=
  let v : Nat :=
    if n = 0x000 then c.x.index
    else if n = 0x001 then c.job.threadCount
    else if n = 0x002 then c.t.cluster.val
    else if n = 0x003 then c.t.core.val
    else if n = 0x004 then c.t.slot.val
    else if n = 0x005 then c.ld
    else if n = 0x006 then c.jn
    else if n = 0x010 then c.x.status
    else if n = 0x011 then Config.cycles s.fresh
    else if n = 0x012 then s.now
    else if n = 0x013 then c.job.launchPos
    else if n = 0x014 then s.position c.job.launchCad
    else if n = 0x020 then windowBase c.t.cluster
    else if n = 0x021 then s.windowSize c.t.cluster
    else if n = 0x022 then 0x800000000000
    else c.job.hostLen
  BitVec.ofNat 64 v

/-- SRR (12 R396). The count of cycles is a free value (log entry 5). -/
def execGSrr (t : ThreadId) (rd rs1 : BitVec 5) (imm : BitVec 12) (s : State) : Host.Outcome State Fault Refusal :=
  finish s (s.issue t (wordSI 0x63 0 rd rs1 imm) (fun s c =>
    State.ranWith (if imm.toNat = 0x011 then { s with fresh := s.fresh + 1 } else s) c (c.x.wx rd (s.special c imm.toNat)).step))

/-- SRW: the status word is the one register it writes (12 R396, R397). -/
def execGSrw (t : ThreadId) (rd rs1 : BitVec 5) (imm : BitVec 12) (s : State) : Host.Outcome State Fault Refusal :=
  finish s (s.issue t (wordSI 0x63 1 rd rs1 imm) (fun s c =>
    s.ranWith c { c.x with status := statusWritten (c.x.rx rs1) }.step))

/-! ## Ends (12 R431, 13 R447) -/

/-- EXIT: the thread ends; the run ends when every thread has. -/
def execGExit (t : ThreadId) (rd rs1 : BitVec 5) (imm : BitVec 12) (s : State) : Host.Outcome State Fault Refusal :=
  finish s (s.issue t (wordSI 0x63 2 rd rs1 imm) (fun s c =>
    if !(s.loadsOf c.t).isEmpty then .stall
    else
      let s := s.setThread c.k { c.x with ended := true }
      let s := s.setJob c.jn { c.job with exits := c.job.exits + 1, lastExit := s.now }
      .ran (s.jobCheck c.jn)))

/-- NOP. -/
def execGNop (t : ThreadId) (rd rs1 : BitVec 5) (imm : BitVec 12) (s : State) : Host.Outcome State Fault Refusal :=
  finish s (s.issue t (wordSI 0x63 3 rd rs1 imm) (fun s c => s.ranWith c c.x.step))

/-- STOP raises the user-stop exception (12 R434). -/
def execGStop (t : ThreadId) (rd rs1 : BitVec 5) (imm : BitVec 12) (s : State) : Host.Outcome State Fault Refusal :=
  finish s (s.issue t (wordSI 0x63 4 rd rs1 imm) (fun _ _ => .trap 0x0F imm.toNat))

/-- IFLUSH: there is no instruction cache whose contents could show (log entry 2). -/
def execGIflush (t : ThreadId) (rd rs1 : BitVec 5) (imm : BitVec 12) (s : State) : Host.Outcome State Fault Refusal :=
  finish s (s.issue t (wordSI 0x63 5 rd rs1 imm) (fun s c => s.ranWith c c.x.step))

end Sys2Proof.Machine
end

