-- ==== Sys2Proof/Machine/GMemory.lean ====
section
/-!
DEFINITION. The memory group (12 R404 to R408, 11 R360 to R362, R384 to R390): loads, stores, atomics, fences, and the
completion of loads.
-/
namespace Sys2Proof.Machine

/-! ## Order of one thread's accesses (11 R384, R385) -/

/-- Whether an outstanding load of the thread reads a line of the thread's address space, or an atomic of it is pending. -/
def State.lineLoading (s : State) (t : ThreadId) (a : Nat) : Bool :=
  (s.loadsOf t).any (fun l => l.addr / 64 == a / 64 || (match l.kind with
    | .atomic _ _ _ _ _ => true
    | _ => false))

/-- Whether a write to a DPA line of the LD is still held. -/
def State.lineHeld (s : State) (ld a : Nat) : Bool := s.held.any (fun h => h.ld == ld && h.dpa / 64 == a / 64)

/-- The unit whose wait for tile data is traced: the far tier, the host port, the stream ports, or none (19 R615 kind
0x02). -/
def State.slowUnit (s : State) (w : View) (a : Nat) : Option Nat × Nat :=
  match s.seen w a with
  | .tile _ (some k) _ _ =>
    let e := s.tgt k
    let u := if e.state = 4 then some 0xC00 else if e.home = 2 then some 0x600 else if e.home = 3 then some 0x100
      else if e.state = 2 then some 0x700 else none
    (u, s.tileNumber k)
  | _ => (none, 0)

/-- A new outstanding load of the thread. -/
def State.newLoad (s : State) (c : Ctx) (kind : LoadKind) (a : Nat) : Nat × State :=
  let id := s.nextLoad
  let (u, tile) := if a < 0x100000000000 then s.slowUnit c.view a else (none, 0)
  let l : Load := { id := id, thread := c.t, kind := kind, addr := a, pc := c.x.pc.toNat, word := c.word, since := s.now
                    pos := s.position c.job.launchCad, waitedOn := u, tile := tile }
  (id, { s with loads := s.loads ++ [l], nextLoad := id + 1 })

/-- Whether the job's access finds a shared region it holds no reference on (09 R294). -/
def State.noRef (s : State) (c : Ctx) (a : Nat) : Bool := s.seen c.view a == .noReference

/-- The host address of a place in the host window, by the cluster's own entries (11 R368) or the host port's; none is a refused translation (13 R446, 15 R526). -/
def State.hostAddr (s : State) (c : Ctx) (off : Nat) : Option Nat × State :=
  let va := c.job.hostAddr + off
  if !c.job.virtual then (some va, s)
  else match if (s.ld c.ld).atsEnable then tabGet (s.cluster c.t.cluster).pages (va / 4096) else none with
    | some p => (some (p * 4096 + va % 4096), s)
    | none => match s.translate c.ld va with
      | (some h, s) =>
        let x := s.cluster c.t.cluster
        (some h, s.setCluster c.t.cluster { x with pages := (va / 4096, h / 4096) :: x.pages })
      | (none, s) => (none, s)

/-- Whether the LD may issue host-window accesses (15 R531). -/
def State.mayMaster (s : State) (ld : Nat) : Bool := (s.ld ld).busMaster && !(s.ld ld).d3hot && !(s.ld ld).flr

/-! ## Loads -/

/-- A load's value as its register takes it (12 R404). -/
def loadValue (size : Nat) (signed : Bool) (b : Bytes) : U64 :=
  let v := leNat (b.take size)
  if signed then BitVec.ofInt 64 (sextNat (8 * size) v) else BitVec.ofNat 64 v

/-- A vector load keeps the bytes whose predicate bit is 0. -/
def maskBytes (mask : Nat) (old new : Bytes) : Bytes :=
  (List.range 64).map (fun i => if mask.testBit i then nth new i 0 else nth old i 0)

/-- A load's data reaches its register. -/
def Thread.loaded (x : Thread) (k : LoadKind) (b : Bytes) : Thread :=
  match k with
  | .scalar rd size signed => x.wx (BitVec.ofNat 5 rd) (loadValue size signed b)
  | .vector vd mask _ =>
    let r := BitVec.ofNat 4 vd
    x.wv r (ofVecBytes (maskBytes mask (vecBytes (x.rv r)) b))
  | _ => x

/-- The function of an array-queue entry: an AOP code, or 16 + a TFETCH code. -/
def QEntry.func (e : QEntry) : Nat := if bits e.word 6 0 = 0x40 then 16 + bits e.word 20 18 else bits e.word 27 24
/-- The lines of TFETCH. -/
def QEntry.count (e : QEntry) : Nat := bits e.b 27 16 + 1

/-- Whether a tile fetch of the thread has yet to read a line: its lines are thread loads (11 R382, R384). -/
def State.fetchPending (s : State) (t : ThreadId) (a : Nat) : Bool :=
  let read (e : QEntry) (l : Load) : Bool := l.thread.cluster == t.cluster && l.addr / 64 == a / 64 && l.arrived
    && (match l.kind with
      | .fetch n _ => n == e.id
      | _ => false)
  (s.cluster t.cluster).queue.any (fun e => e.thread == t && decide (e.func ≥ 16 ∧ e.a / 64 ≤ a / 64 ∧ a / 64 < e.a / 64 + e.count)
    && !s.loads.any (read e))

/-- Whether an access of a thread to a DPA line must wait for an earlier one of its own (11 R384). -/
def State.lineBusy (s : State) (c : Ctx) (a : Nat) : Bool := s.lineLoading c.t a || s.fetchPending c.t a

/-- A line in the L1 of the thread's core, when the load is served from it (11 R385). -/
def State.l1Read (s : State) (c : Ctx) (d : Nat) : Option Bytes × State :=
  match (s.cluster c.t.cluster).l1.find? (fun l => l.1 == c.t.core.val && l.2.1 == d / 64) with
  | none => (none, s)
  | some l => (if Config.l1Serves s.fresh then some l.2.2 else none, { s with fresh := s.fresh + 1 })

/-- A line that a load has read is placed in the L1 of the core, which holds 64 KiB (11, its first table). -/
def State.l1Fill (s : State) (l : Load) (b : Bytes) : State :=
  let c := l.thread.cluster.val
  let n := l.thread.core.val
  let x := s.cluster c
  let rest := x.l1.filter (fun y => !(y.1 == n && y.2.1 == l.addr / 64))
  let full := (rest.filter (fun y => y.1 == n)).length ≥ 1024
  let placed := l.keep && (match l.kind with
    | .vector _ _ place => place
    | _ => true)
  if !placed then s
  else s.setCluster c { x with l1 := (if full then rest.eraseP (fun y => y.1 == n) else rest) ++ [(n, l.addr / 64, b)] }

/-- The core's L1 loses a line, or all (11 R385, R386). -/
def State.l1Forget (s : State) (t : ThreadId) (p : Nat → Bool) : State := s.l1Drop t.cluster t.core p

/-- An atomic's effect on the core's L1: its line is not kept, and with acquire order none is (11 R388). -/
def State.l1Atomic (s : State) (t : ThreadId) (order a : Nat) : State :=
  s.l1Forget t (fun n => order % 2 == 1 || n == a / 64)

/-- A load of `n` bytes at a thread address (12 R404): a window answers at once, DPA and the host window through a load
that completes later. -/
def State.loadOp (s : State) (c : Ctx) (kind : LoadKind) (a n : Nat) : Ran :=
  if a % n ≠ 0 then .trap 2 a
  else match s.place c.jn c.job a n with
    | .nowhere => .trap 4 a
    | .window cl w =>
      let s := s.startClock cl
      if s.windowBad cl w n then .trapped (s.windowFail cl w n) 5 a
      else s.ranWith c (c.x.loaded kind (s.windowRead cl w n)).step
    | .dpa d =>
      if s.lineBusy c a ∨ s.storesHeld c.t ∧ s.lineHeld c.ld d then .stall
      else if s.noRef c d then .counted 0x900 0x1D 4 a
      else match s.l1Read c d with
        | (some b, s) => s.ranWith c (c.x.loaded kind (b.drop (d % 64))).step
        | (none, s) =>
          let (id, s) := s.newLoad c kind a
          .ran ((s.setThread c.k c.x.step).readAt { view := c.view, load := some id, req := c.req } d)
    | .host off =>
      if !s.mayMaster c.ld then .trap 0x0E a
      else if s.allLegsDown ∨ s.lineLoading c.t a then .stall
      else match s.hostAddr c off with
        | (none, s) => .trapped s 4 a
        | (some h, s) =>
          let (id, s) := s.newLoad c kind a
          .ran ((s.setThread c.k c.x.step).dmaSend c.ld (.load id) [(h, n)]
            (if c.job.virtual then pagesOf (c.job.hostAddr + off) n else []) none)

/-- The address of formats SI and M. -/
def Ctx.addrI (c : Ctx) (rs1 : BitVec 5) (imm : BitVec 12) : Nat := (c.x.rx rs1 + imm.signExtend 64).toNat
/-- The address of format VM. -/
def Ctx.addrV (c : Ctx) (rs1 : BitVec 5) (imm : BitVec 11) : Nat := (c.x.rx rs1 + 64 * imm.signExtend 64).toNat

/-- A scalar load. -/
def State.scalarLoad (s : State) (t : ThreadId) (func size : Nat) (signed : Bool) (rd rs1 : BitVec 5) (imm : BitVec 12) : State :=
  s.issue t (wordSI 0x10 func rd rs1 imm)
    (fun s c => s.loadOp c (.scalar rd.toNat size signed) (c.addrI rs1 imm) size)

/-- A vector load. -/
def State.vectorLoad (s : State) (t : ThreadId) (func : Nat) (vd : BitVec 4) (rs1 : BitVec 5) (pm : BitVec 3) (imm : BitVec 11) : State :=
  s.issue t (wordVM 0x12 func vd rs1 pm imm)
    (fun s c => s.loadOp c (.vector vd.toNat (c.x.rp pm).toNat (func == 0)) (c.addrV rs1 imm) 64)

/-- LB (12 R404). -/
def execGLb (t : ThreadId) (rd rs1 : BitVec 5) (imm : BitVec 12) (s : State) : Host.Outcome State Fault Refusal :=
  finish s (s.scalarLoad t 0 1 true rd rs1 imm)

/-- LH (12 R404). -/
def execGLh (t : ThreadId) (rd rs1 : BitVec 5) (imm : BitVec 12) (s : State) : Host.Outcome State Fault Refusal :=
  finish s (s.scalarLoad t 1 2 true rd rs1 imm)

/-- LW (12 R404). -/
def execGLw (t : ThreadId) (rd rs1 : BitVec 5) (imm : BitVec 12) (s : State) : Host.Outcome State Fault Refusal :=
  finish s (s.scalarLoad t 2 4 true rd rs1 imm)

/-- LD (12 R404). -/
def execGLd (t : ThreadId) (rd rs1 : BitVec 5) (imm : BitVec 12) (s : State) : Host.Outcome State Fault Refusal :=
  finish s (s.scalarLoad t 3 8 true rd rs1 imm)

/-- LBU (12 R404). -/
def execGLbu (t : ThreadId) (rd rs1 : BitVec 5) (imm : BitVec 12) (s : State) : Host.Outcome State Fault Refusal :=
  finish s (s.scalarLoad t 4 1 false rd rs1 imm)

/-- LHU (12 R404). -/
def execGLhu (t : ThreadId) (rd rs1 : BitVec 5) (imm : BitVec 12) (s : State) : Host.Outcome State Fault Refusal :=
  finish s (s.scalarLoad t 5 2 false rd rs1 imm)

/-- LWU (12 R404). -/
def execGLwu (t : ThreadId) (rd rs1 : BitVec 5) (imm : BitVec 12) (s : State) : Host.Outcome State Fault Refusal :=
  finish s (s.scalarLoad t 6 4 false rd rs1 imm)

/-- VLD (12 R404). -/
def execGVld (t : ThreadId) (vd : BitVec 4) (rs1 : BitVec 5) (pm : BitVec 3) (imm : BitVec 11) (s : State) :
    Host.Outcome State Fault Refusal :=
  finish s (s.vectorLoad t 0 vd rs1 pm imm)

/-- VLDNT (12 R404). -/
def execGVldnt (t : ThreadId) (vd : BitVec 4) (rs1 : BitVec 5) (pm : BitVec 3) (imm : BitVec 11) (s : State) :
    Host.Outcome State Fault Refusal :=
  finish s (s.vectorLoad t 1 vd rs1 pm imm)

/-! ## Stores -/

/-- A store of bytes under byte enables at a thread address (12 R404, R405). -/
def State.storeOp (s : State) (c : Ctx) (a n mask : Nat) (b : Bytes) : Ran :=
  if a % n ≠ 0 then .trap 2 a
  else match s.place c.jn c.job a n with
    | .nowhere => .trap 4 a
    | .window cl w =>
      let s := s.startClock cl
      let old := s.windowRead cl w n
      let new := (List.range n).map (fun i => if mask.testBit i then nth b i 0 else nth old i 0)
      .ran ((s.setThread c.k c.x.step).windowWrite cl w new)
    | .dpa d =>
      if s.lineBusy c a then .stall
      else if s.noRef c d then .counted 0x900 0x1D 4 a
      else
        let s := s.l1Forget c.t (· == d / 64)
        let o := d % 64
        let h : HeldWrite := { why := .flip, ld := c.ld, dpa := d / 64 * 64, mask := mask * 2 ^ o
                               data := slice (zeros o ++ b.take n) 0 64, by_ := .thread c.t, since := s.now, job := some c.jn }
        .ran ((s.setThread c.k c.x.step).write h)
    | .host off =>
      if !s.mayMaster c.ld then .trap 0x0E a
      else if s.allLegsDown ∨ s.lineLoading c.t a then .stall
      else match s.hostAddr c off with
        | (none, s) => .trapped s 4 a
        | (some h, s) =>
          let runs := (List.range n).filter mask.testBit
          let s := if runs.length = n then s.dmaPut c.ld h b
            else runs.foldl (fun s i => s.dmaPut c.ld (h + i) [nth b i 0]) s
          .ran (s.setThread c.k c.x.step)

/-- A scalar store. -/
def State.scalarStore (s : State) (t : ThreadId) (func size : Nat) (rd rs1 : BitVec 5) (imm : BitVec 12) : State :=
  s.issue t (wordSI 0x11 func rd rs1 imm)
    (fun s c => s.storeOp c (c.addrI rs1 imm) size (2 ^ size - 1) (leBytes size (c.x.rx rd).toNat))

/-- SB (12 R404). -/
def execGSb (t : ThreadId) (rd rs1 : BitVec 5) (imm : BitVec 12) (s : State) : Host.Outcome State Fault Refusal :=
  finish s (s.scalarStore t 0 1 rd rs1 imm)

/-- SH (12 R404). -/
def execGSh (t : ThreadId) (rd rs1 : BitVec 5) (imm : BitVec 12) (s : State) : Host.Outcome State Fault Refusal :=
  finish s (s.scalarStore t 1 2 rd rs1 imm)

/-- SW (12 R404). -/
def execGSw (t : ThreadId) (rd rs1 : BitVec 5) (imm : BitVec 12) (s : State) : Host.Outcome State Fault Refusal :=
  finish s (s.scalarStore t 2 4 rd rs1 imm)

/-- SD (12 R404). -/
def execGSd (t : ThreadId) (rd rs1 : BitVec 5) (imm : BitVec 12) (s : State) : Host.Outcome State Fault Refusal :=
  finish s (s.scalarStore t 3 8 rd rs1 imm)

/-- VST: a predicate of all zeros makes no access (12 R405). -/
def execGVst (t : ThreadId) (vd : BitVec 4) (rs1 : BitVec 5) (pm : BitVec 3) (imm : BitVec 11) (s : State) :
    Host.Outcome State Fault Refusal :=
  finish s (s.issue t (wordVM 0x13 0 vd rs1 pm imm) (fun s c =>
    if c.x.rp pm = 0 then s.ranWith c c.x.step
    else s.storeOp c (c.addrV rs1 imm) 64 (c.x.rp pm).toNat (vecBytes (c.x.rv vd))))

/-! ## Atomics (12 R406, R407, 11 R388 to R390) -/

/-- The new value of a location, and the flags of AFADD. `n` is the size in bytes. -/
def atomicNew (op n old x cmp : Nat) : Nat × Flags :=
  let m := 2 ^ (8 * n)
  let so := sextNat (8 * n) old
  let sx := sextNat (8 * n) x
  let x := x % m
  if op = 0 then plain ((old + x) % m)
  else if op = 1 then plain (old &&& x)
  else if op = 2 then plain (old ||| x)
  else if op = 3 then plain (old ^^^ x)
  else if op = 4 then plain (if so < sx then old else x)
  else if op = 5 then plain (if so < sx then x else old)
  else if op = 6 then plain (Nat.min old x)
  else if op = 7 then plain (Nat.max old x)
  else if op = 8 then plain x
  else if op = 9 then plain (if old = cmp % m then x else old)
  else if n = 2 then bf16.add .rne old x else fp32.add .rne old x

/-- The thread takes the old value and AFADD's flags. -/
def Thread.atomicDone (t : Thread) (rd old : Nat) (f : Flags) : Thread :=
  (t.wx (BitVec.ofNat 5 rd) (BitVec.ofNat 64 old)).accrue f

/-- A promotion for the atomic, as a write's (01 R29). -/
def State.atomicPromote (s : State) (k : Nat) : State :=
  match s.startMove k 1 1 2 .hostWrite with
  | some (_, s) => s
  | none => s

/-- How a DPA atomic finds its location. -/
inductive AtomicTry where
  | counted (unit counter code addr : Nat)
  | trap (code addr : Nat)
  /-- It waits for a flip or a promotion; the state has asked for it. -/
  | wait (s : State)
  | done (old : Nat) (f : Flags) (s : State)
deriving DecidableEq, Repr

/-- Try a DPA atomic at the home of its location (11 R388, R390). -/
def State.atomicTry (s : State) (v : View) (t : ThreadId) (op n a x cmp : Nat) : AtomicTry :=
  let act (s : State) (writes : Bool) : AtomicTry :=
    match s.lineNow v a (0x10 + t.cluster.val) with
    | (none, _) => .trap 6 (a / 64 * 64)
    | (some line, s) =>
      let o := a % 64
      let old := field line o n
      let (new, f) := atomicNew op n old x cmp
      let h : HeldWrite := { why := .flip, ld := v.ld, dpa := a / 64 * 64, mask := (2 ^ n - 1) * 2 ^ o
                             data := patch line o (leBytes n new), by_ := .thread t, since := s.now, job := v.job }
      .done old f (if writes then s.write h else s.bump 0x900 0x1D 1)
  match s.seen v a with
  | .noReference => .counted 0x900 0x1D 4 a
  | .ungranted => .counted 0x200 0x19 6 (a / 64 * 64)
  | .unattached => .counted 0x900 0x1D 6 (a / 64 * 64)
  | .tile i key ovl writes =>
    if ((s.regionAt i).bind s.region).any Region.isFr then .trap 8 a
    else match key with
      | none => act s writes
      | some k =>
        let e := s.tgt k
        let copies := ovl.any (fun _ => k < 2 ^ 28 || (tabGet s.versions (k - 2 ^ 28)).any (·.owner.isNone))
        if e.state = 4 then .trap 4 a
        else if (s.poisonSet k).testBit (a / 64 % 1024) then .trap 6 (a / 64 * 64)
        else if s.lineHeld v.ld a then .wait s
        else if copies then act s writes
        else if e.state = 2 then
          let up := s.moves.any (fun m => m.2.key == k && decide (m.2.dstTier < m.2.srcTier ∧ m.2.dstTier ≤ 1))
          if up then .wait s
          else
            let s := (s.moves.filter (fun m => m.2.key == k)).foldl (fun s m => s.abortMove m.1 2) s
            if e.home ≥ 2 then .wait (s.atomicPromote k) else act s writes
        else if e.home ≥ 2 then .wait (s.atomicPromote k)
        else act s writes

/-- An atomic at a thread address. -/
def State.atomicOp (s : State) (c : Ctx) (op n a rd : Nat) (order : Nat) (x cmp : Nat) : Ran :=
  if a % n ≠ 0 then .trap 2 a
  else match s.place c.jn c.job a n with
    | .nowhere => .trap 4 a
    | .host _ => .trap 4 a
    | .window cl w =>
      if order ≥ 2 ∧ (!(s.loadsOf c.t).isEmpty ∨ s.storesHeld c.t) then .stall
      else
        let s := s.startClock cl
        let bad := s.windowBad cl w n
        let old := leNat (s.windowRead cl w n)
        let (new, f) := atomicNew op n old x cmp
        let s := if order % 2 = 1 then s.l1Forget c.t (fun _ => true) else s
        if bad then .trapped (s.windowFail cl w n) 5 a
        else .ran ((s.setThread c.k (c.x.atomicDone rd old f).step).windowWrite cl w (leBytes n new))
    | .dpa d =>
      if s.lineBusy c a ∨ (order ≥ 2 ∧ (!(s.loadsOf c.t).isEmpty ∨ s.storesHeld c.t)) then .stall
      else match s.atomicTry c.view c.t op n d x cmp with
        | .trap code addr => .trap code addr
        | .counted u n code addr => .counted u n code addr
        | .done old f s => (s.l1Atomic c.t order a).ranWith c (c.x.atomicDone rd old f).step
        | .wait s =>
          let (id, s) := (s.l1Atomic c.t order a).newLoad c (.atomic rd op n x cmp) a
          let late (l : Load) : Load := if l.id = id then { l with acquires := order % 2 == 1, keep := false } else l
          { s with loads := s.loads.map late }.ranWith c c.x.step

/-- An atomic instruction: the size field gives 2, 4 or 8 bytes. -/
def State.atomicInstr (s : State) (t : ThreadId) (op : Nat) (rd rs1 rs2 : BitVec 5) (order size : BitVec 2) : State :=
  s.issue t (wordAT op rd rs1 rs2 order size) (fun s c =>
    s.atomicOp c op (2 ^ (size.toNat + 1)) (c.x.rx rs1).toNat rd.toNat order.toNat (c.x.rx rs2).toNat (c.x.rx rd).toNat)

/-- AADD (12 R406). -/
def execGAadd (t : ThreadId) (rd rs1 rs2 : BitVec 5) (order size : BitVec 2) (s : State) : Host.Outcome State Fault Refusal :=
  finish s (s.atomicInstr t 0x0 rd rs1 rs2 order size)

/-- AAND (12 R406). -/
def execGAand (t : ThreadId) (rd rs1 rs2 : BitVec 5) (order size : BitVec 2) (s : State) : Host.Outcome State Fault Refusal :=
  finish s (s.atomicInstr t 0x1 rd rs1 rs2 order size)

/-- AOR (12 R406). -/
def execGAor (t : ThreadId) (rd rs1 rs2 : BitVec 5) (order size : BitVec 2) (s : State) : Host.Outcome State Fault Refusal :=
  finish s (s.atomicInstr t 0x2 rd rs1 rs2 order size)

/-- AXOR (12 R406). -/
def execGAxor (t : ThreadId) (rd rs1 rs2 : BitVec 5) (order size : BitVec 2) (s : State) : Host.Outcome State Fault Refusal :=
  finish s (s.atomicInstr t 0x3 rd rs1 rs2 order size)

/-- AMIN (12 R406). -/
def execGAmin (t : ThreadId) (rd rs1 rs2 : BitVec 5) (order size : BitVec 2) (s : State) : Host.Outcome State Fault Refusal :=
  finish s (s.atomicInstr t 0x4 rd rs1 rs2 order size)

/-- AMAX (12 R406). -/
def execGAmax (t : ThreadId) (rd rs1 rs2 : BitVec 5) (order size : BitVec 2) (s : State) : Host.Outcome State Fault Refusal :=
  finish s (s.atomicInstr t 0x5 rd rs1 rs2 order size)

/-- AMINU (12 R406). -/
def execGAminu (t : ThreadId) (rd rs1 rs2 : BitVec 5) (order size : BitVec 2) (s : State) : Host.Outcome State Fault Refusal :=
  finish s (s.atomicInstr t 0x6 rd rs1 rs2 order size)

/-- AMAXU (12 R406). -/
def execGAmaxu (t : ThreadId) (rd rs1 rs2 : BitVec 5) (order size : BitVec 2) (s : State) : Host.Outcome State Fault Refusal :=
  finish s (s.atomicInstr t 0x7 rd rs1 rs2 order size)

/-- ASWAP (12 R406). -/
def execGAswap (t : ThreadId) (rd rs1 rs2 : BitVec 5) (order size : BitVec 2) (s : State) : Host.Outcome State Fault Refusal :=
  finish s (s.atomicInstr t 0x8 rd rs1 rs2 order size)

/-- ACAS (12 R406). -/
def execGAcas (t : ThreadId) (rd rs1 rs2 : BitVec 5) (order size : BitVec 2) (s : State) : Host.Outcome State Fault Refusal :=
  finish s (s.atomicInstr t 0x9 rd rs1 rs2 order size)

/-- AFADD (12 R406). -/
def execGAfadd (t : ThreadId) (rd rs1 rs2 : BitVec 5) (order size : BitVec 2) (s : State) : Host.Outcome State Fault Refusal :=
  finish s (s.atomicInstr t 0xA rd rs1 rs2 order size)

/-! ## Completion of a load -/

/-- The wait for a load's tile data is traced when it ends (19 R615 kind 0x02). -/
def State.traceLoad (s : State) (l : Load) (j : Nat) : State :=
  match l.waitedOn with
  | none => s
  | some u => s.traceWait (coreUnit l.thread)
      { kind := 2, party := jobLd j, waiter := coreUnit l.thread, on_ := u, pos := some l.pos
        flags := 16 * l.thread.slot.val, cause := j, object := l.tile, start := l.since, len := s.now - l.since }

/-- A load ends with its line, its host data, or poison. -/
def State.endLoad (s : State) (l : Load) (d : Option Bytes) : State :=
  let k := ThreadKey l.thread
  match s.thread k with
  | none => s
  | some x =>
    let s := { s with loads := s.loads.filter (·.id != l.id) }.traceLoad l x.job
    match d with
    | some b =>
      if l.addr < 0x100000000000 then (s.l1Fill l b).setThread k (x.loaded l.kind (b.drop (l.addr % 64)))
      else s.setThread k (x.loaded l.kind b)
    | none => s.except l.thread 6 false l.word l.pc (l.addr / 64 * 64)

/-- A pending atomic is tried again. -/
def State.retryAtomic (s : State) (l : Load) (rd op n x cmp : Nat) : State :=
  let k := ThreadKey l.thread
  match s.thread k with
  | none => s
  | some th =>
    match s.atomicTry { ld := jobLd th.job, job := some th.job } l.thread op n l.addr x cmp with
    | .wait s => s
    | .counted u n code a =>
      ({ s with loads := s.loads.filter (·.id != l.id) }.bump u n 1).except l.thread code false l.word l.pc a
    | .trap code a =>
      { s with loads := s.loads.filter (·.id != l.id) }.except l.thread code false l.word l.pc a
    | .done old f s =>
      let s := ({ s with loads := s.loads.filter (·.id != l.id) }.traceLoad l th.job).l1Atomic l.thread (b2n l.acquires) l.addr
      s.setThread k (th.atomicDone rd old f)

/-- THREAD_LOAD_COMPLETE (11 R362, 06 R195): a thread's load whose data has come ends. `data` is what host memory returns
for a load through the host window whose DMA read is outstanding. -/
def execThreadLoadComplete (load : Nat) (data : Option Bytes) (s : State) : Host.Outcome State Fault Refusal :=
  finish s (match s.loads.find? (·.id == load) with
    | none => s
    | some l => match l.kind with
      | .fetch _ _ => s
      | .atomic rd op n x cmp => s.retryAtomic l rd op n x cmp
      | _ =>
        if l.arrived then s.endLoad l l.data
        else if l.addr ≥ 0x800000000000 then
          if s.dmas.any (fun d => d.for_ == DmaFor.load load) then
            { s with dmas := s.dmas.filter (fun d => d.for_ != DmaFor.load load) }.endLoad l data
          else s
        else s)

/-! ## Fences (12 R408, 11 R386) -/

/-- Whether earlier accesses of the thread are yet to be performed at a scope: its array-queue entries, which work on the window and
the accumulators, and beyond the cluster its loads and held stores (11 R386). -/
def State.unperformed (s : State) (t : ThreadId) (scope : Nat) : Bool :=
  (s.cluster t.cluster).queue.any (·.thread == t) || (scope != 0 && (!(s.loadsOf t).isEmpty || s.storesHeld t))

/-- FENCE: a release or full fence waits for the thread's earlier accesses; an acquire or full fence at job or system scope invalidates
the core's L1. -/
def execGFence (t : ThreadId) (scope kind : BitVec 2) (s : State) : Host.Outcome State Fault Refusal :=
  finish s (s.issue t (wordFN scope kind) (fun s c =>
    if kind ≠ 2 ∧ s.unperformed c.t scope.toNat = true then .stall
    else (if scope ≠ 0 ∧ kind ≠ 1 then s.l1Forget c.t (fun _ => true) else s).ranWith c c.x.step))

end Sys2Proof.Machine
end

