-- ==== Sys2Proof/Machine/GVector.lean ====
section
/-!
DEFINITION. The vector and predicate groups (12 R409 to R414, 11 R370 to R375).
-/
namespace Sys2Proof.Machine

/-! ## Shapes -/

/-- The vector unit of the thread's core is busy for some cycles (11 R391, object 018). -/
def State.vectorCycles (s : State) (t : ThreadId) (n : Nat) : State := s.bump (coreUnit t) 0x18 n

/-- An instruction of format V: `f` gives the new vd and the flags from vs1, vs2 and vd. -/
def State.vectorOp (s : State) (t : ThreadId) (func cycles : Nat) (vd vs1 vs2 : BitVec 4) (pm ty : BitVec 3) (rm : Bool)
    (f : U64 → BitVec 512 → BitVec 512 → BitVec 512 → BitVec 512 × Flags) : State :=
  s.issue t (wordV func vd vs1 vs2 pm ty rm) (fun s c =>
    let r := f (c.x.rp pm) (c.x.rv vs1) (c.x.rv vs2) (c.x.rv vd)
    (s.vectorCycles t cycles).ranWith c ((c.x.wv vd r.1).accrue r.2).step)

/-- An instruction of format V that compares into the predicate vd[2:0] (12 R410, R411). -/
def State.compareOp (s : State) (t : ThreadId) (func op : Nat) (vd vs1 vs2 : BitVec 4) (pm ty : BitVec 3) (rm : Bool) : State :=
  s.issue t (wordV func vd vs1 vs2 pm ty rm) (fun s c =>
    let r := vCompare (vty ty) op (c.x.rp pm) (c.x.rv vs1) (c.x.rv vs2)
    (s.vectorCycles t 1).ranWith c ((c.x.wp (vd.truncate 3) r.1).accrue r.2).step)

/-- An instruction of format VX: `f` gives the new vd and the flags from vs1, the scalar and vd (12 R413). -/
def State.vectorScalar (s : State) (t : ThreadId) (func : Nat) (vd vs1 : BitVec 4) (rs2 : BitVec 5) (pm ty : BitVec 3)
    (f : U64 → BitVec 512 → U64 → BitVec 512 → BitVec 512 × Flags) : State :=
  s.issue t (wordVX func vd vs1 rs2 pm ty) (fun s c =>
    let r := f (c.x.rp pm) (c.x.rv vs1) (c.x.rx rs2) (c.x.rv vd)
    (s.vectorCycles t 1).ranWith c ((c.x.wv vd r.1).accrue r.2).step)

/-- An instruction of format P that writes pd (12 R414). -/
def State.predicateOp (s : State) (t : ThreadId) (func : Nat) (pd ps1 ps2 : BitVec 3) (rs : BitVec 5)
    (f : U64 → U64 → U64) : State :=
  s.issue t (wordP func pd ps1 ps2 rs) (fun s c => s.ranWith c (c.x.wp pd (f (c.x.rp ps1) (c.x.rp ps2))).step)

/-- VPERM: lane i takes lane vs2[i] modulo the lane count. -/
def vPermute (y : VTy) (p : U64) (a b d : BitVec 512) : BitVec 512 :=
  vIndexed y p (fun i => nth (laneList y a) (nth (laneList y b) i 0 % y.lanes) 0) d

/-- VSLDN and VSLUP: the lanes move by the scalar, zeros come in. -/
def vSlide (y : VTy) (down : Bool) (p : U64) (a : BitVec 512) (x : U64) (d : BitVec 512) : BitVec 512 :=
  let n := x.toNat % 2 ^ y.bits
  vIndexed y p (fun i =>
    if down then nth (laneList y a) (i + n) 0 else if i < n then 0 else nth (laneList y a) (i - n) 0) d

/-! ## VOP (12 R410) -/

/-- VADD (12 R410). -/
def execGVadd (t : ThreadId) (vd vs1 vs2 : BitVec 4) (pm ty : BitVec 3) (rm : Bool) (s : State) :
    Host.Outcome State Fault Refusal :=
  finish s (s.vectorOp t 0x00 1 vd vs1 vs2 pm ty rm (fun p a b d => vLanes (vty ty) p (fun a b _ => elAdd (vty ty) (rmOf rm) a b) a b d))

/-- VSUB (12 R410). -/
def execGVsub (t : ThreadId) (vd vs1 vs2 : BitVec 4) (pm ty : BitVec 3) (rm : Bool) (s : State) :
    Host.Outcome State Fault Refusal :=
  finish s (s.vectorOp t 0x01 1 vd vs1 vs2 pm ty rm (fun p a b d => vLanes (vty ty) p (fun a b _ => elSub (vty ty) (rmOf rm) a b) a b d))

/-- VMUL (12 R410). -/
def execGVmul (t : ThreadId) (vd vs1 vs2 : BitVec 4) (pm ty : BitVec 3) (rm : Bool) (s : State) :
    Host.Outcome State Fault Refusal :=
  finish s (s.vectorOp t 0x02 1 vd vs1 vs2 pm ty rm (fun p a b d => vLanes (vty ty) p (fun a b _ => elMul (vty ty) (rmOf rm) a b) a b d))

/-- VFMA (12 R410). -/
def execGVfma (t : ThreadId) (vd vs1 vs2 : BitVec 4) (pm ty : BitVec 3) (rm : Bool) (s : State) :
    Host.Outcome State Fault Refusal :=
  finish s (s.vectorOp t 0x03 1 vd vs1 vs2 pm ty rm (fun p a b d => vLanes (vty ty) p (fun a b c => elFma (vty ty) (rmOf rm) false a b c) a b d))

/-- VFNMA (12 R410). -/
def execGVfnma (t : ThreadId) (vd vs1 vs2 : BitVec 4) (pm ty : BitVec 3) (rm : Bool) (s : State) :
    Host.Outcome State Fault Refusal :=
  finish s (s.vectorOp t 0x04 1 vd vs1 vs2 pm ty rm (fun p a b d => vLanes (vty ty) p (fun a b c => elFma (vty ty) (rmOf rm) true a b c) a b d))

/-- VMIN (12 R410). -/
def execGVmin (t : ThreadId) (vd vs1 vs2 : BitVec 4) (pm ty : BitVec 3) (rm : Bool) (s : State) :
    Host.Outcome State Fault Refusal :=
  finish s (s.vectorOp t 0x05 1 vd vs1 vs2 pm ty rm (fun p a b d => vLanes (vty ty) p (fun a b _ => elMinMax (vty ty) false a b) a b d))

/-- VMAX (12 R410). -/
def execGVmax (t : ThreadId) (vd vs1 vs2 : BitVec 4) (pm ty : BitVec 3) (rm : Bool) (s : State) :
    Host.Outcome State Fault Refusal :=
  finish s (s.vectorOp t 0x06 1 vd vs1 vs2 pm ty rm (fun p a b d => vLanes (vty ty) p (fun a b _ => elMinMax (vty ty) true a b) a b d))

/-- VDIV (12 R410, 11 R373). -/
def execGVdiv (t : ThreadId) (vd vs1 vs2 : BitVec 4) (pm ty : BitVec 3) (rm : Bool) (s : State) :
    Host.Outcome State Fault Refusal :=
  finish s (s.vectorOp t 0x07 8 vd vs1 vs2 pm ty rm (fun p a b d => vLanes (vty ty) p (fun a b _ => elDiv (vty ty) (rmOf rm) a b) a b d))

/-- VSQRT (12 R410, 11 R373). -/
def execGVsqrt (t : ThreadId) (vd vs1 vs2 : BitVec 4) (pm ty : BitVec 3) (rm : Bool) (s : State) :
    Host.Outcome State Fault Refusal :=
  finish s (s.vectorOp t 0x08 8 vd vs1 vs2 pm ty rm (fun p a b d => vLanes (vty ty) p (fun a _ _ => elSqrt (vty ty) (rmOf rm) a) a b d))

/-- VRCP (12 R410, 11 R373). -/
def execGVrcp (t : ThreadId) (vd vs1 vs2 : BitVec 4) (pm ty : BitVec 3) (rm : Bool) (s : State) :
    Host.Outcome State Fault Refusal :=
  finish s (s.vectorOp t 0x09 1 vd vs1 vs2 pm ty rm (fun p a b d => vLanes (vty ty) p (fun a _ _ => EstFn.rcp.eval a) a b d))

/-- VRSQRT (12 R410, 11 R373). -/
def execGVrsqrt (t : ThreadId) (vd vs1 vs2 : BitVec 4) (pm ty : BitVec 3) (rm : Bool) (s : State) :
    Host.Outcome State Fault Refusal :=
  finish s (s.vectorOp t 0x0A 1 vd vs1 vs2 pm ty rm (fun p a b d => vLanes (vty ty) p (fun a _ _ => EstFn.rsqrt.eval a) a b d))

/-- VEXP2 (12 R410, 11 R373). -/
def execGVexp2 (t : ThreadId) (vd vs1 vs2 : BitVec 4) (pm ty : BitVec 3) (rm : Bool) (s : State) :
    Host.Outcome State Fault Refusal :=
  finish s (s.vectorOp t 0x0B 1 vd vs1 vs2 pm ty rm (fun p a b d => vLanes (vty ty) p (fun a _ _ => EstFn.exp2.eval a) a b d))

/-- VLOG2 (12 R410, 11 R373). -/
def execGVlog2 (t : ThreadId) (vd vs1 vs2 : BitVec 4) (pm ty : BitVec 3) (rm : Bool) (s : State) :
    Host.Outcome State Fault Refusal :=
  finish s (s.vectorOp t 0x0C 1 vd vs1 vs2 pm ty rm (fun p a b d => vLanes (vty ty) p (fun a _ _ => EstFn.log2.eval a) a b d))

/-- VSINPI (12 R410, 11 R373). -/
def execGVsinpi (t : ThreadId) (vd vs1 vs2 : BitVec 4) (pm ty : BitVec 3) (rm : Bool) (s : State) :
    Host.Outcome State Fault Refusal :=
  finish s (s.vectorOp t 0x0D 1 vd vs1 vs2 pm ty rm (fun p a b d => vLanes (vty ty) p (fun a _ _ => EstFn.sinPi.eval a) a b d))

/-- VCOSPI (12 R410, 11 R373). -/
def execGVcospi (t : ThreadId) (vd vs1 vs2 : BitVec 4) (pm ty : BitVec 3) (rm : Bool) (s : State) :
    Host.Outcome State Fault Refusal :=
  finish s (s.vectorOp t 0x0E 1 vd vs1 vs2 pm ty rm (fun p a b d => vLanes (vty ty) p (fun a _ _ => EstFn.cosPi.eval a) a b d))

/-- VTANH (12 R410, 11 R373). -/
def execGVtanh (t : ThreadId) (vd vs1 vs2 : BitVec 4) (pm ty : BitVec 3) (rm : Bool) (s : State) :
    Host.Outcome State Fault Refusal :=
  finish s (s.vectorOp t 0x0F 1 vd vs1 vs2 pm ty rm (fun p a b d => vLanes (vty ty) p (fun a _ _ => EstFn.tanh.eval a) a b d))

/-- VCVT (12 R410, R412, 11 R371): vs2[2:0] is the source type, vs2[3] the half. -/
def execGVcvt (t : ThreadId) (vd vs1 vs2 : BitVec 4) (pm ty : BitVec 3) (rm : Bool) (s : State) :
    Host.Outcome State Fault Refusal :=
  finish s (s.vectorOp t 0x10 1 vd vs1 vs2 pm ty rm (fun p a _ d =>
    vConvert (vs2.toNat % 8) ty.toNat (vty (vs2.truncate 3)) (vcvtTy ty) (vs2.toNat.testBit 3) (rmOf rm) p a d))

/-- VSEL: every lane is written (12 R410). -/
def execGVsel (t : ThreadId) (vd vs1 vs2 : BitVec 4) (pm ty : BitVec 3) (rm : Bool) (s : State) :
    Host.Outcome State Fault Refusal :=
  finish s (s.vectorOp t 0x11 1 vd vs1 vs2 pm ty rm (fun p a b _ => (vIndexed (vty ty) p (nth (laneList (vty ty) a) · 0) b, {})))

/-- VPERM (12 R410). -/
def execGVperm (t : ThreadId) (vd vs1 vs2 : BitVec 4) (pm ty : BitVec 3) (rm : Bool) (s : State) :
    Host.Outcome State Fault Refusal :=
  finish s (s.vectorOp t 0x12 1 vd vs1 vs2 pm ty rm (fun p a b d => (vPermute (vty ty) p a b d, {})))

/-- VREDADD (12 R410, R411, 11 R374). -/
def execGVredadd (t : ThreadId) (vd vs1 vs2 : BitVec 4) (pm ty : BitVec 3) (rm : Bool) (s : State) :
    Host.Outcome State Fault Refusal :=
  finish s (s.vectorOp t 0x13 1 vd vs1 vs2 pm ty rm (fun p a _ _ => vReduceAdd (vty ty) (rmOf rm) p a))

/-- VREDMAX (12 R410, R411). -/
def execGVredmax (t : ThreadId) (vd vs1 vs2 : BitVec 4) (pm ty : BitVec 3) (rm : Bool) (s : State) :
    Host.Outcome State Fault Refusal :=
  finish s (s.vectorOp t 0x14 1 vd vs1 vs2 pm ty rm (fun p a _ _ => vReduceMinMax (vty ty) true p a))

/-- VREDMIN (12 R410, R411). -/
def execGVredmin (t : ThreadId) (vd vs1 vs2 : BitVec 4) (pm ty : BitVec 3) (rm : Bool) (s : State) :
    Host.Outcome State Fault Refusal :=
  finish s (s.vectorOp t 0x15 1 vd vs1 vs2 pm ty rm (fun p a _ _ => vReduceMinMax (vty ty) false p a))

/-- VAND (12 R410). -/
def execGVand (t : ThreadId) (vd vs1 vs2 : BitVec 4) (pm ty : BitVec 3) (rm : Bool) (s : State) :
    Host.Outcome State Fault Refusal :=
  finish s (s.vectorOp t 0x18 1 vd vs1 vs2 pm ty rm (fun p a b d => vLanes (vty ty) p (fun a b _ => plain (a &&& b)) a b d))

/-- VOR (12 R410). -/
def execGVor (t : ThreadId) (vd vs1 vs2 : BitVec 4) (pm ty : BitVec 3) (rm : Bool) (s : State) :
    Host.Outcome State Fault Refusal :=
  finish s (s.vectorOp t 0x19 1 vd vs1 vs2 pm ty rm (fun p a b d => vLanes (vty ty) p (fun a b _ => plain (a ||| b)) a b d))

/-- VXOR (12 R410). -/
def execGVxor (t : ThreadId) (vd vs1 vs2 : BitVec 4) (pm ty : BitVec 3) (rm : Bool) (s : State) :
    Host.Outcome State Fault Refusal :=
  finish s (s.vectorOp t 0x1A 1 vd vs1 vs2 pm ty rm (fun p a b d => vLanes (vty ty) p (fun a b _ => plain (a ^^^ b)) a b d))

/-- VSLL (12 R410). -/
def execGVsll (t : ThreadId) (vd vs1 vs2 : BitVec 4) (pm ty : BitVec 3) (rm : Bool) (s : State) :
    Host.Outcome State Fault Refusal :=
  finish s (s.vectorOp t 0x1B 1 vd vs1 vs2 pm ty rm (fun p a b d => vLanes (vty ty) p (fun a b _ => elShift (vty ty) false false a b) a b d))

/-- VSRL (12 R410). -/
def execGVsrl (t : ThreadId) (vd vs1 vs2 : BitVec 4) (pm ty : BitVec 3) (rm : Bool) (s : State) :
    Host.Outcome State Fault Refusal :=
  finish s (s.vectorOp t 0x1C 1 vd vs1 vs2 pm ty rm (fun p a b d => vLanes (vty ty) p (fun a b _ => elShift (vty ty) true false a b) a b d))

/-- VSRA (12 R410). -/
def execGVsra (t : ThreadId) (vd vs1 vs2 : BitVec 4) (pm ty : BitVec 3) (rm : Bool) (s : State) :
    Host.Outcome State Fault Refusal :=
  finish s (s.vectorOp t 0x1D 1 vd vs1 vs2 pm ty rm (fun p a b d => vLanes (vty ty) p (fun a b _ => elShift (vty ty) true true a b) a b d))

/-- VSADD (12 R410, 11 R374). -/
def execGVsadd (t : ThreadId) (vd vs1 vs2 : BitVec 4) (pm ty : BitVec 3) (rm : Bool) (s : State) :
    Host.Outcome State Fault Refusal :=
  finish s (s.vectorOp t 0x1E 1 vd vs1 vs2 pm ty rm (fun p a b d => vLanes (vty ty) p (fun a b _ => elSat (vty ty) ((vty ty).signed a + (vty ty).signed b)) a b d))

/-- VSSUB (12 R410, 11 R374). -/
def execGVssub (t : ThreadId) (vd vs1 vs2 : BitVec 4) (pm ty : BitVec 3) (rm : Bool) (s : State) :
    Host.Outcome State Fault Refusal :=
  finish s (s.vectorOp t 0x1F 1 vd vs1 vs2 pm ty rm (fun p a b d => vLanes (vty ty) p (fun a b _ => elSat (vty ty) ((vty ty).signed a - (vty ty).signed b)) a b d))

/-- VCMPEQ (12 R410, R411). -/
def execGVcmpeq (t : ThreadId) (vd vs1 vs2 : BitVec 4) (pm ty : BitVec 3) (rm : Bool) (s : State) :
    Host.Outcome State Fault Refusal :=
  finish s (s.compareOp t 0x20 0 vd vs1 vs2 pm ty rm)

/-- VCMPLT (12 R410, R411). -/
def execGVcmplt (t : ThreadId) (vd vs1 vs2 : BitVec 4) (pm ty : BitVec 3) (rm : Bool) (s : State) :
    Host.Outcome State Fault Refusal :=
  finish s (s.compareOp t 0x21 1 vd vs1 vs2 pm ty rm)

/-- VCMPLE (12 R410, R411). -/
def execGVcmple (t : ThreadId) (vd vs1 vs2 : BitVec 4) (pm ty : BitVec 3) (rm : Bool) (s : State) :
    Host.Outcome State Fault Refusal :=
  finish s (s.compareOp t 0x22 2 vd vs1 vs2 pm ty rm)

/-- VCMPUN (12 R410, R411). -/
def execGVcmpun (t : ThreadId) (vd vs1 vs2 : BitVec 4) (pm ty : BitVec 3) (rm : Bool) (s : State) :
    Host.Outcome State Fault Refusal :=
  finish s (s.compareOp t 0x23 3 vd vs1 vs2 pm ty rm)

/-- VCMPLTU (12 R410, R411). -/
def execGVcmpltu (t : ThreadId) (vd vs1 vs2 : BitVec 4) (pm ty : BitVec 3) (rm : Bool) (s : State) :
    Host.Outcome State Fault Refusal :=
  finish s (s.compareOp t 0x24 4 vd vs1 vs2 pm ty rm)

/-- VABS (12 R410). -/
def execGVabs (t : ThreadId) (vd vs1 vs2 : BitVec 4) (pm ty : BitVec 3) (rm : Bool) (s : State) :
    Host.Outcome State Fault Refusal :=
  finish s (s.vectorOp t 0x25 1 vd vs1 vs2 pm ty rm (fun p a b d => vLanes (vty ty) p (fun a _ _ => elAbs (vty ty) a) a b d))

/-- VNEG (12 R410). -/
def execGVneg (t : ThreadId) (vd vs1 vs2 : BitVec 4) (pm ty : BitVec 3) (rm : Bool) (s : State) :
    Host.Outcome State Fault Refusal :=
  finish s (s.vectorOp t 0x26 1 vd vs1 vs2 pm ty rm (fun p a b d => vLanes (vty ty) p (fun a _ _ => elNeg (vty ty) a) a b d))

/-! ## VOPX (12 R413) -/

/-- VADDX (12 R413). -/
def execGVaddx (t : ThreadId) (vd vs1 : BitVec 4) (rs2 : BitVec 5) (pm ty : BitVec 3) (s : State) :
    Host.Outcome State Fault Refusal :=
  finish s (s.vectorScalar t 0x00 vd vs1 rs2 pm ty (fun p a x d => vLanes (vty ty) p (fun a b _ => elAdd (vty ty) .rne a b) a (vSplat (vty ty) x) d))

/-- VSUBX (12 R413). -/
def execGVsubx (t : ThreadId) (vd vs1 : BitVec 4) (rs2 : BitVec 5) (pm ty : BitVec 3) (s : State) :
    Host.Outcome State Fault Refusal :=
  finish s (s.vectorScalar t 0x01 vd vs1 rs2 pm ty (fun p a x d => vLanes (vty ty) p (fun a b _ => elSub (vty ty) .rne a b) a (vSplat (vty ty) x) d))

/-- VMULX (12 R413). -/
def execGVmulx (t : ThreadId) (vd vs1 : BitVec 4) (rs2 : BitVec 5) (pm ty : BitVec 3) (s : State) :
    Host.Outcome State Fault Refusal :=
  finish s (s.vectorScalar t 0x02 vd vs1 rs2 pm ty (fun p a x d => vLanes (vty ty) p (fun a b _ => elMul (vty ty) .rne a b) a (vSplat (vty ty) x) d))

/-- VFMAX (12 R413). -/
def execGVfmax (t : ThreadId) (vd vs1 : BitVec 4) (rs2 : BitVec 5) (pm ty : BitVec 3) (s : State) :
    Host.Outcome State Fault Refusal :=
  finish s (s.vectorScalar t 0x03 vd vs1 rs2 pm ty (fun p a x d => vLanes (vty ty) p (fun a b c => elFma (vty ty) .rne false a b c) a (vSplat (vty ty) x) d))

/-- VBCAST (12 R413). -/
def execGVbcast (t : ThreadId) (vd vs1 : BitVec 4) (rs2 : BitVec 5) (pm ty : BitVec 3) (s : State) :
    Host.Outcome State Fault Refusal :=
  finish s (s.vectorScalar t 0x08 vd vs1 rs2 pm ty (fun p _ x d => (vIndexed (vty ty) p (nth (laneList (vty ty) (vSplat (vty ty) x)) · 0) d, {})))

/-- VINS (12 R413). -/
def execGVins (t : ThreadId) (vd vs1 : BitVec 4) (rs2 : BitVec 5) (pm ty : BitVec 3) (s : State) :
    Host.Outcome State Fault Refusal :=
  finish s (s.vectorScalar t 0x09 vd vs1 rs2 pm ty (fun p _ x d =>
    (vIndexed (vty ty) p (fun i => if i = 0 then x.toNat % 2 ^ (vty ty).bits else nth (laneList (vty ty) d) i 0) d, {})))

/-- VEXT: the rs2 field names the x register that takes lane 0 of vs1, zero-extended (12 R413). -/
def execGVext (t : ThreadId) (vd vs1 : BitVec 4) (rs2 : BitVec 5) (pm ty : BitVec 3) (s : State) :
    Host.Outcome State Fault Refusal :=
  finish s (s.issue t (wordVX 0x0A vd vs1 rs2 pm ty) (fun s c =>
    (s.vectorCycles t 1).ranWith c (c.x.wx rs2 (BitVec.ofNat 64 (nth (laneList (vty ty) (c.x.rv vs1)) 0 0))).step))

/-- VSLDN (12 R413). -/
def execGVsldn (t : ThreadId) (vd vs1 : BitVec 4) (rs2 : BitVec 5) (pm ty : BitVec 3) (s : State) :
    Host.Outcome State Fault Refusal :=
  finish s (s.vectorScalar t 0x0B vd vs1 rs2 pm ty (fun p a x d => (vSlide (vty ty) true p a x d, {})))

/-- VSLUP (12 R413). -/
def execGVslup (t : ThreadId) (vd vs1 : BitVec 4) (rs2 : BitVec 5) (pm ty : BitVec 3) (s : State) :
    Host.Outcome State Fault Refusal :=
  finish s (s.vectorScalar t 0x0C vd vs1 rs2 pm ty (fun p a x d => (vSlide (vty ty) false p a x d, {})))

/-- VIOTA (12 R413). -/
def execGViota (t : ThreadId) (vd vs1 : BitVec 4) (rs2 : BitVec 5) (pm ty : BitVec 3) (s : State) :
    Host.Outcome State Fault Refusal :=
  finish s (s.vectorScalar t 0x10 vd vs1 rs2 pm ty (fun p _ _ d => (vIndexed (vty ty) p (fun i => i) d, {})))

/-! ## POP (12 R414) -/

/-- PAND (12 R414). -/
def execGPand (t : ThreadId) (pd ps1 ps2 : BitVec 3) (rs : BitVec 5) (s : State) : Host.Outcome State Fault Refusal :=
  finish s (s.predicateOp t 0 pd ps1 ps2 rs (fun a b => a &&& b))

/-- POR (12 R414). -/
def execGPor (t : ThreadId) (pd ps1 ps2 : BitVec 3) (rs : BitVec 5) (s : State) : Host.Outcome State Fault Refusal :=
  finish s (s.predicateOp t 1 pd ps1 ps2 rs (fun a b => a ||| b))

/-- PXOR (12 R414). -/
def execGPxor (t : ThreadId) (pd ps1 ps2 : BitVec 3) (rs : BitVec 5) (s : State) : Host.Outcome State Fault Refusal :=
  finish s (s.predicateOp t 2 pd ps1 ps2 rs (fun a b => a ^^^ b))

/-- PANDN (12 R414). -/
def execGPandn (t : ThreadId) (pd ps1 ps2 : BitVec 3) (rs : BitVec 5) (s : State) : Host.Outcome State Fault Refusal :=
  finish s (s.predicateOp t 3 pd ps1 ps2 rs (fun a b => a &&& ~~~b))

/-- PFROMX: pd = x[rs] (12 R414). -/
def execGPfromx (t : ThreadId) (pd ps1 ps2 : BitVec 3) (rs : BitVec 5) (s : State) : Host.Outcome State Fault Refusal :=
  finish s (s.issue t (wordP 4 pd ps1 ps2 rs) (fun s c => s.ranWith c (c.x.wp pd (c.x.rx rs)).step))

/-- PTOX: x[rs] = pd (12 R414). -/
def execGPtox (t : ThreadId) (pd ps1 ps2 : BitVec 3) (rs : BitVec 5) (s : State) : Host.Outcome State Fault Refusal :=
  finish s (s.issue t (wordP 5 pd ps1 ps2 rs) (fun s c => s.ranWith c (c.x.wx rs (c.x.rp pd)).step))

end Sys2Proof.Machine
end

