-- ==== Sys2Proof/Machine/GArray.lean ====
section
/-!
DEFINITION. The array and tile-fetch groups (12 R415 to R425, 11 R358, R376 to R383): the array queue, what an entry reads
and writes, and what it does when it runs.
-/
namespace Sys2Proof.Machine

/-! ## Words and parameter words (12 R398, R417, R419, R420) -/

/-- Its accumulator. -/
def QEntry.acc (e : QEntry) : Nat := bits e.word 9 7
/-- Its bank. -/
def QEntry.bank (e : QEntry) : Nat := if bits e.word 6 0 = 0x40 then bits e.word 17 17 else bits e.word 20 20
/-- Its mode. -/
def QEntry.mode (e : QEntry) : Nat := bits e.word 23 21
/-- Flag `n` of word bits [31:28]. -/
def QEntry.flag (e : QEntry) (n : Nat) : Bool := e.word.testBit (28 + n)
/-- K of AMMA. -/
def QEntry.depth (e : QEntry) : Nat := bits e.b 12 0
/-- L of AMMA. -/
def QEntry.firstLine (e : QEntry) : Nat := bits e.b 27 16
/-- The stride of AMMA and AREAD. -/
def QEntry.stride (e : QEntry) : Nat := bits e.b 47 32
/-- The format of AREAD. -/
def QEntry.format (e : QEntry) : Nat := bits e.b 2 0
/-- The first slot of TFETCH. -/
def QEntry.slot (e : QEntry) : Nat := bits e.b 11 0

/-- Whether a mode takes FR codes. -/
def frMode (m : Nat) : Bool := m == 3 || m == 4
/-- k values a cell consumes in a cycle (11 R376). -/
def modeGroup (m : Nat) : Nat := if m ≤ 1 then 1 else if m = 2 ∨ m = 4 then 2 else 4
/-- Bytes of `n` elements of A. -/
def aBytes (m n : Nat) : Nat := if m = 2 then n else if m = 5 then n / 2 else 2 * n
/-- Bytes of B for depth K in a bank filled raw. -/
def bBytes (m k : Nat) : Nat := if m ≤ 1 then 32 * k else if m = 2 then 16 * k else 8 * k
/-- Coded lines a bank holds for an FR width. -/
def bankSlots (width : Nat) : Nat := 65536 / (4 * width)
/-- Bytes of an AREAD element. -/
def readBytes (f : Nat) : Nat := if f = 0 ∨ f = 5 then 4 else if f ≤ 2 then 2 else 1

/-! ## Checks at issue (12 R416, R422) -/

/-- The first row of 16 that does not lie in the thread's own cluster's window. -/
def State.rowOutside (s : State) (c : Ctx) (base stride n : Nat) : Option Nat :=
  ((List.range 16).find? (fun i => match s.place c.jn c.job (base + i * stride) n with
    | .window w _ => w != c.t.cluster.val
    | _ => true)).map (fun i => base + i * stride)

/-- A bank of a cluster. -/
def Cluster.bank (x : Cluster) (n : Nat) : Bank := if n = 0 then x.bank0 else x.bank1

/-- The coded width of a bank once the entries of a queue have run: the array lookup and the bank's fill follow them in turn (12 R415,
R418, R425); none for a raw fill. -/
def State.fillWidth (s : State) (x : Cluster) (bank : Nat) : Option Nat :=
  let now := match (x.bank bank).kind with
    | .fr _ _ w => some w
    | .raw => none
  (x.queue.foldl (fun (a : Option Nat × Option Nat) e =>
    if e.func = 4 then (((s.frTable (e.a % 64)).map (·.width)).orElse (fun _ => a.1), a.2)
    else if e.func ≥ 16 ∧ e.bank = bank then (a.1, if e.func = 17 then a.1 else none)
    else a) (x.lookup.map (·.width), now)).2

/-- Whether AMMA's parameter word breaks R376, R417 or R418, for the coded width of its bank. -/
def ammaBad (e : QEntry) (width : Option Nat) : Bool :=
  let m := e.mode
  let k := e.depth
  bits e.b 15 13 != 0 || bits e.b 31 28 != 0 || bits e.b 63 48 != 0 || e.stride % 64 != 0 || decide (k > 4096)
  || k % (16 * modeGroup m) != 0 || (frMode m && k % 32 != 0)
  || (if frMode m then decide (e.firstLine + k / 2 > bankSlots (width.getD (if m = 3 then 4 else 6)))
      else decide (64 * e.firstLine + bBytes m k > 65536))

/-- Whether AREAD's parameter word breaks R420. -/
def areadBad (e : QEntry) : Bool :=
  decide (e.format > 5) || bits e.b 31 5 != 0 || bits e.b 63 48 != 0 || e.stride % 64 != 0

/-- Whether a tile fetch's parameter word breaks R419 or R424. -/
def fetchBad (e : QEntry) : Bool :=
  bits e.b 15 12 != 0 || decide (e.b ≥ 2 ^ 28) || decide (e.slot + e.count > (if e.func = 16 then 1024 else 4096))

/-- The precise exception an entry raises at issue, if any. -/
def State.issueFault (s : State) (c : Ctx) (e : QEntry) : Option (Nat × Nat) :=
  if e.func = 0 then
    if ammaBad e (s.fillWidth (s.cluster c.t.cluster) e.bank) then some (0x0A, e.b) else (s.rowOutside c e.a e.stride (aBytes e.mode e.depth)).map (fun a => (4, a))
  else if e.func = 2 then
    if areadBad e then some (0x0A, e.b) else (s.rowOutside c e.a e.stride (16 * readBytes e.format)).map (fun a => (4, a))
  else if e.func ≥ 16 then
    if fetchBad e then some (0x0A, e.b)
    else if e.a % 64 ≠ 0 ∨ e.a + 64 * e.count > 0x100000000000 then some (4, e.a) else none
  else none

/-- An instruction enters the cluster's array queue; a full queue makes it wait (11 R358). -/
def State.arrayOp (s : State) (t : ThreadId) (w : Nat) (rs1 rs2 : BitVec 5) : State :=
  s.issue t w (fun s c =>
    let x := s.cluster c.t.cluster
    let e : QEntry := { id := x.nextEntry, thread := c.t, pc := c.x.pc.toNat, word := w
                        a := (c.x.rx rs1).toNat, b := (c.x.rx rs2).toNat }
    if x.queue.length ≥ 16 then .stall
    else match s.issueFault c e with
      | some f => .trap f.1 f.2
      | none =>
        let s := s.startClock c.t.cluster
        let x := s.cluster c.t.cluster
        (s.setCluster c.t.cluster { x with queue := x.queue ++ [e], nextEntry := x.nextEntry + 1 }).ranWith c c.x.step)

/-- AMMA (12 R421). -/
def execGAmma (t : ThreadId) (acc : BitVec 3) (rs1 rs2 : BitVec 5) (bank : Bool) (mode : BitVec 3) (flags : BitVec 4) (s : State) :
    Host.Outcome State Fault Refusal :=
  finish s (s.arrayOp t (wordA 0 acc rs1 rs2 bank mode flags) rs1 rs2)

/-- AZERO (12 R421). -/
def execGAzero (t : ThreadId) (acc : BitVec 3) (rs1 rs2 : BitVec 5) (bank : Bool) (mode : BitVec 3) (flags : BitVec 4) (s : State) :
    Host.Outcome State Fault Refusal :=
  finish s (s.arrayOp t (wordA 1 acc rs1 rs2 bank mode flags) rs1 rs2)

/-- AREAD (12 R421). -/
def execGAread (t : ThreadId) (acc : BitVec 3) (rs1 rs2 : BitVec 5) (bank : Bool) (mode : BitVec 3) (flags : BitVec 4) (s : State) :
    Host.Outcome State Fault Refusal :=
  finish s (s.arrayOp t (wordA 2 acc rs1 rs2 bank mode flags) rs1 rs2)

/-- AWAIT: the thread waits while an entry it issued is in the queue (12 R421, R430). -/
def execGAwait (t : ThreadId) (acc : BitVec 3) (rs1 rs2 : BitVec 5) (bank : Bool) (mode : BitVec 3) (flags : BitVec 4) (s : State) :
    Host.Outcome State Fault Refusal :=
  finish s (s.issue t (wordA 3 acc rs1 rs2 bank mode flags) (fun s c =>
    let x := c.x.step
    if (s.cluster c.t.cluster).queue.any (·.thread == c.t) then
      s.ranWith c { x with wait := .array, waitSince := s.now, waitPos := s.position c.job.launchCad }
    else s.ranWith c x))

/-- ALUT (12 R421). -/
def execGAlut (t : ThreadId) (acc : BitVec 3) (rs1 rs2 : BitVec 5) (bank : Bool) (mode : BitVec 3) (flags : BitVec 4) (s : State) :
    Host.Outcome State Fault Refusal :=
  finish s (s.arrayOp t (wordA 4 acc rs1 rs2 bank mode flags) rs1 rs2)

/-- TFRAW (12 R424). -/
def execGTfraw (t : ThreadId) (rs1 rs2 : BitVec 5) (bank : Bool) (s : State) : Host.Outcome State Fault Refusal :=
  finish s (s.arrayOp t (wordTF 0 rs1 rs2 bank) rs1 rs2)

/-- TFFR (12 R424). -/
def execGTffr (t : ThreadId) (rs1 rs2 : BitVec 5) (bank : Bool) (s : State) : Host.Outcome State Fault Refusal :=
  finish s (s.arrayOp t (wordTF 1 rs1 rs2 bank) rs1 rs2)

/-! ## Resources (12 R415) -/

/-- Resources an entry reads: accumulators 0 to 7, bank 0 is 8, bank 1 is 9, the array lookup is 10. -/
def QEntry.reads (e : QEntry) : List Nat :=
  if e.func = 0 then [e.acc, 8 + e.bank] ++ (if frMode e.mode then [10] else [])
  else if e.func = 2 then [e.acc] else if e.func = 17 then [10] else []

/-- Resources an entry writes. -/
def QEntry.writes (e : QEntry) : List Nat :=
  if e.func ≤ 1 then [e.acc] else if e.func = 4 then [10] else if e.func ≥ 16 then [8 + e.bank] else []

/-- Whether an entry must wait for an earlier one. -/
def QEntry.after (e d : QEntry) : Bool :=
  d.writes.any (fun r => e.reads.contains r || e.writes.contains r) || d.reads.any (fun r => e.writes.contains r)

/-- Whether an entry of a queue may start. -/
def mayStart (q : List QEntry) (e : QEntry) : Bool := (q.takeWhile (·.id != e.id)).all (fun d => !e.after d)

/-! ## Operands -/

/-- Replace a bank. -/
def Cluster.setBank (x : Cluster) (n : Nat) (b : Bank) : Cluster := if n = 0 then { x with bank0 := b } else { x with bank1 := b }
/-- An accumulator: 256 values, row by row. -/
def Cluster.acc (x : Cluster) (n : Nat) : List Nat := (tabGet x.accs n).getD (List.replicate 256 0)
/-- Replace an accumulator. -/
def Cluster.setAcc (x : Cluster) (n : Nat) (int : Bool) (v : List Nat) : Cluster :=
  let ints := x.accInt.filter (· != n)
  { x with accs := if v.all (· == 0) then tabDel x.accs n else tabSet x.accs n v, accInt := if int then n :: ints else ints }

/-- Element `i` of a row of A in a mode (12 R417, R421). -/
def aElem (e : QEntry) (row : Bytes) (i : Nat) : FVal :=
  if e.mode = 2 then (if e.flag 0 then e5m2 else e4m3).decode (field row i 1)
  else if e.mode = 1 ∨ (frMode e.mode ∧ e.flag 2) then fp16.decode (field row (2 * i) 2)
  else bf16.decode (field row (2 * i) 2)

/-- The value of an FR code at the multiplier: exact, not rounded to the element type (11 R379). -/
def Lookup.value (l : Lookup) (idx scale : Nat) : FVal :=
  if l.nan ∧ idx = 2 ^ l.width - 1 then .nan false
  else match fp16.decode (nth l.entries idx 0) with
    | .fin n m x => .fin n m (x + (scale : Int) - 128)
    | v => v

/-- B[k][j] of a mode (12 R418, 11 R381). -/
def bElem (e : QEntry) (b : Bank) (l : Option Lookup) (k j : Nat) : FVal :=
  if frMode e.mode then
    match l with
    | none => .nan false
    | some l =>
      let line := e.firstLine + j * (e.depth / 32) + k / 32
      let c := 4 * l.width
      l.value (nth (unpackIdx l.width 32 (memRead b.bytes (line * c) c)) (k % 32) 0) ((tabGet b.scales line).getD 0)
  else if e.mode = 2 then (if e.flag 1 then e5m2 else e4m3).decode (leNat (memRead b.bytes (64 * e.firstLine + 16 * k + j) 1))
  else (if e.mode = 1 then fp16 else bf16).decode (leNat (memRead b.bytes (64 * e.firstLine + 2 * (16 * k + j)) 2))

/-- A nibble as INT4, the low nibble of a byte first. -/
def nibble (b : Nat) (i : Nat) : Int := sextNat 4 (b / 16 ^ (i % 2) % 16)

/-- The exact sum of a group of products (11 R377). -/
def groupSum : List (FVal × FVal) → FVal
  | [] => .fin false 0 0
  | [p] => (p.1.mul p.2).1
  | p :: r => ((p.1.mul p.2).1.add (groupSum r)).1

/-- A cell: one rounding to FP32 for each group (11 R377). -/
def cellFp (g : Nat) (acc : Nat) (ps : List (FVal × FVal)) : Nat :=
  (pieces g ps).foldl (fun a p => (fp32.ofVal .rne false ((fp32.decode a).add (groupSum p)).1).1) acc

/-- AMMA's new accumulator from the rows of A (11 R376, R377). -/
def ammaResult (e : QEntry) (rows : List Bytes) (b : Bank) (l : Option Lookup) (acc : List Nat) : List Nat :=
  let k := e.depth
  if e.mode = 5 then
    (List.range 256).map (fun c =>
      let row := nth rows (c / 16) []
      let sum : Int := (List.range k).foldl (fun a i =>
        a + nibble (field row (i / 2) 1) i * nibble (leNat (memRead b.bytes (64 * e.firstLine + (16 * i + c % 16) / 2) 1)) (16 * i + c % 16)) 0
      wrapInt 32 (sextNat 32 (nth acc c 0) + sum))
  else
    (List.range 256).map (fun c =>
      let row := nth rows (c / 16) []
      cellFp (modeGroup e.mode) (nth acc c 0) ((List.range k).map (fun i => (aElem e row i, bElem e b l i (c % 16)))))

/-- An accumulator value as AREAD writes it (12 R420, 11 R383). -/
def areadBytes (e : QEntry) (v : Nat) : Bytes :=
  let rtz := e.b.testBit 3
  let f : Fmt := match e.format with
    | 0 => fp32 | 1 => bf16 | 2 => fp16 | 3 => e4m3 | _ => e5m2
  if e.format = 5 then leBytes 4 v
  else leBytes (readBytes e.format) (f.ofVal (rmOf rtz) (rtz || e.b.testBit 4) (fp32.decode v)).1

/-! ## Checks when an entry runs (12 R422, R423) -/

/-- Whether a slot may be loaded by a job of an LD (12 R423). -/
def State.slotRight (s : State) (ld n : Nat) : Bool :=
  s.slotOwner false n == ld
  || s.regions.any (fun r => r.2.shared && r.2.isFr && r.2.frSlot == n
      && s.attaches.any (fun a => a.2.region == r.1 && a.2.ld == ld && a.2.kind != 3))

/-- Whether AMMA's operands agree with its mode. -/
def Cluster.operandsOk (x : Cluster) (e : QEntry) : Bool :=
  let int := x.accInt.contains e.acc
  (int == (e.mode == 5)) && (match (x.bank e.bank).kind with
    | .raw => !frMode e.mode
    | .fr slot gen width => frMode e.mode && ((width == 4) == (e.mode == 3))
        && x.lookup.any (fun l => l.slot == slot && l.gen == gen && l.width == width))

/-- The deferred exception of an entry that starts, apart from a tile fetch's tiles. -/
def State.runFault (s : State) (x : Cluster) (ld : Nat) (e : QEntry) : Option (Nat × Nat) :=
  if e.func = 0 then
    if !x.operandsOk e then some (9, 0)
    else match (x.bank e.bank).kind with
      | .fr _ _ w => if e.firstLine + e.depth / 2 > bankSlots w then some (0x0A, e.b) else none
      | .raw => none
  else if e.func = 2 then (if x.accInt.contains e.acc = (e.format == 5) then none else some (9, 0))
  else if e.func = 4 then
    let n := e.a % 64
    if s.slotState false n = 0 then some (7, n + 65536 * ((x.lookup.map (·.gen)).getD 0))
    else if !s.slotRight ld n then some (0x0B, n) else none
  else if e.func = 17 then
    match x.lookup with
    | some l => if e.slot + e.count > bankSlots l.width then some (0x0A, e.b) else none
    | none => none
  else none

/-! ## Tile fetches (12 R424, R425, 11 R380) -/

/-- What a tile gives a tile fetch: nothing wrong, or an exception with its address. -/
def fetchCheck (fr : Bool) (l : Option Lookup) (e : TileEntry) (dpa : Nat) : Option (Nat × Nat) :=
  if fr then
    if !e.isFr ∨ e.elem = 3 then some (9, dpa)
    else match l with
      | none => some (7, e.frSlot + 2 ^ 32 * e.frGen)
      | some l => if l.slot = e.frSlot ∧ l.gen = e.frGen then none
          else some (7, e.frSlot + 65536 * l.gen + 2 ^ 32 * e.frGen)
  else if e.isFr then some (9, dpa) else none

/-- A tile fetch reaches a line: it asks for the line, or meets an exception. A tile that was never written has the form
its region gives. -/
def State.fetchLine (s : State) (v : View) (x : Cluster) (e : QEntry) (i : Nat) : (Nat × Nat) ⊕ State :=
  let dpa := e.a + 64 * i
  let fr := e.func == 17
  let id := s.nextLoad
  let ld : Load := { id := id, thread := e.thread, kind := .fetch e.id i, addr := dpa, pc := e.pc, word := e.word, since := s.now }
  let ask (s : State) : State := { s with loads := s.loads ++ [ld], nextLoad := id + 1 }.readAt
    { view := v, load := some id, req := 0x10 + e.thread.cluster.val, coded := fr } dpa
  match s.seen v dpa with
  | .noReference => .inl (4, dpa)
  | .ungranted | .unattached => .inr (ask s)
  | .tile k key _ _ =>
    let r := (s.regionAt k).bind (fun r => (s.region r).map (fun d => (r, d)))
    let stored := match key with
      | some q => (if (s.tgt q).state = 0 then none else some (if (s.tgt q).state = 4 then s.remoteForm q else s.tgt q))
      | none => none
    let form : TileEntry := stored.getD ((r.map (fun r => s.newEntry r.1 r.2 0)).getD {})
    match (if i = 0 ∨ dpa % 65536 = 0 then fetchCheck fr x.lookup form dpa else none) with
    | some f => .inl f
    | none =>
      if fr ∧ stored.isNone then
        let s := s.look k
        let d := match s.frTable form.frSlot with
          | some t => codedBytes t.width (zeroFrLine t form.elem)
          | none => zeros 34
        let done : Load := { ld with arrived := true, data := some d }
        .inr { s with loads := s.loads ++ [done], nextLoad := id + 1 }
      else .inr (ask s)

/-- A tile fetch asks for its lines in turn, up to the first exception. -/
def State.fetchLines (s : State) (v : View) (x : Cluster) (e : QEntry) : List Nat → Option (Nat × Nat) × State
  | [] => (none, s)
  | i :: r => match s.fetchLine v x e i with
    | .inl f => (some f, s)
    | .inr s => s.fetchLines v x e r

/-- A line is placed in a bank slot: 64 bytes, or a coded line with its scale byte and flag (12 R418, R424). -/
def Bank.place (b : Bank) (fr : Bool) (width slot : Nat) (d : Bytes) : Bank :=
  if fr then
    let c := 4 * width
    { b with bytes := memWrite b.bytes (slot * c) (d.take c), scales := tabSet b.scales slot (field d c 1)
             flags := tabSet b.flags slot (field d (c + 1) 1 != 0) }
  else { b with bytes := memWrite b.bytes (64 * slot) d }

/-- The lines of a tile fetch are placed in order; a poisoned one ends it (12 R425, R434). -/
def State.placeLines (s : State) (e : QEntry) : List Load → Option (Nat × Nat) × State
  | [] => (none, s)
  | l :: r => match l.data with
    | none => (some (6, l.addr), s)
    | some d =>
      let c := e.thread.cluster.val
      let x := s.cluster c
      let fr := e.func == 17
      let kind : BankKind := match fr, x.lookup with
        | true, some k => .fr k.slot k.gen k.width
        | _, _ => .raw
      let w := (x.lookup.map (·.width)).getD 8
      let i := (l.addr - e.a) / 64
      let b := { (x.bank e.bank).place fr w (e.slot + i) d with kind := kind }
      let s := (s.setCluster c (x.setBank e.bank b)).bump (0xA40 + c) 0x19 1
      let s := if fr ∧ field d (4 * w + 1) 1 ≠ 0 then (s.setObj (0xA40 + c) 0x105 0 1).bump (0xA40 + c) 0x1D 1 else s
      s.placeLines e r

/-! ## Running (12 R415, R416) -/

/-- An entry leaves the queue: its thread may go on, and so may its run's end. -/
def State.leaveQueue (s : State) (c : Nat) (e : QEntry) (fault : Option (Nat × Nat)) : State :=
  let x := s.cluster c
  let s := s.setCluster c { x with queue := x.queue.filter (·.id != e.id), lastQueue := s.now }
  let s := match fault with
    | some f => s.except e.thread f.1 true e.word e.pc f.2
    | none => s
  let wakes (k : Nat × Thread) : Bool :=
    k.1 == ThreadKey e.thread && k.2.wait == .array && !(s.cluster c).queue.any (·.thread == e.thread)
  let s := (s.threads.filter wakes).foldl (fun s k => s.endWait k.1 k.2 false) s
  match (s.cluster c).job with
  | some j => s.jobCheck j
  | none => s

/-- The array lookup takes an FR slot (11 R378). -/
def State.loadLookup (s : State) (c n : Nat) : State :=
  match s.frTable n with
  | none => s
  | some t =>
    let old := (s.cluster c).lookup
    let l : Lookup := { slot := n, gen := s.slotGen false n, width := t.width, nan := t.nan, entries := t.entries }
    let s := s.setCluster c { s.cluster c with lookup := some l }
    match old with
    | some o => s.slotCheck false o.slot
    | none => s

/-- Whether a store of its thread to a line of a tile fetch is held: the fetch's loads follow it (11 R382, R384). -/
def State.fetchHeld (s : State) (ld : Nat) (e : QEntry) : Bool :=
  decide (e.func ≥ 16) && s.held.any (fun h => h.by_ == .thread e.thread && h.ld == ld
    && decide (e.a / 64 ≤ h.dpa / 64 ∧ h.dpa / 64 < e.a / 64 + e.count))

/-- ARRAY_QUEUE_ENTRY_START (12 R415, R416, R422 to R425). -/
def execArrayQueueEntryStart (cluster : Fin 64) (entry : Nat) (s : State) : Host.Outcome State Fault Refusal :=
  let c := cluster.val
  let x := s.cluster c
  finish s (match x.queue.find? (·.id == entry) with
    | none => s
    | some e =>
      match s.jobOf (ThreadKey e.thread) with
      | none => s
      | some j =>
        if s.contained ∨ e.running ∨ !mayStart x.queue e ∨ x.scrubbing ∨ s.fetchHeld (jobLd j) e then s
        else match s.runFault x (jobLd j) e with
          | some f => s.leaveQueue c e (some f)
          | none =>
            let run (e : QEntry) : QEntry := { e with running := true, started := s.now }
            let go (s : State) (f : Option (Nat × Nat)) : State :=
              let y := s.cluster c
              s.setCluster c { y with queue := y.queue.map (fun d => if d.id = entry then { run d with fault := f } else d) }
            if e.func = 4 then (go s none).loadLookup c (e.a % 64)
            else if e.func ≥ 16 then
              let r := s.fetchLines { ld := jobLd j, job := some j } x e (List.range e.count)
              let s := match r.1 with
                | some (4, _) => r.2.bump 0x900 0x1D 1
                | _ => r.2
              go s r.1
            else go s none)

/-- The first row of A in the window whose line check fails, for AMMA: the window address the deferred exception holds (11 R365). -/
def State.rowBad (s : State) (c : Nat) (e : QEntry) : Option Nat :=
  if e.func ≠ 0 then none
  else ((List.range 16).map (fun i => e.a + i * e.stride)).find? (fun a => s.windowBad c (a - windowBase c) (aBytes e.mode e.depth))

/-- What AMMA, AZERO and AREAD have done when they complete. -/
def State.arrayResult (s : State) (c : Nat) (e : QEntry) : State :=
  let x := s.cluster c
  if e.func = 0 then
    let rows := (List.range 16).map (fun i =>
      s.windowRead c (e.a + i * e.stride - windowBase c) (aBytes e.mode e.depth))
    let acc := ammaResult e rows (x.bank e.bank) x.lookup (x.acc e.acc)
    let s := s.setCluster c (x.setAcc e.acc (e.mode == 5) acc)
    (s.bump (0xA40 + c) 0x17 (e.depth / modeGroup e.mode)).bump (0xA40 + c) 0x23 (s.now - e.started)
  else if e.func = 1 then s.setCluster c (x.setAcc e.acc (e.mode == 5) (List.replicate 256 0))
  else if e.func = 2 then
    (List.range 16).foldl (fun s i =>
      let row := ((List.range 16).map (fun j => areadBytes e (nth (x.acc e.acc) (16 * i + j) 0))).flatten
      s.windowWrite c (e.a + i * e.stride - windowBase c) row) s
  else s

/-- ARRAY_QUEUE_ENTRY_COMPLETE (12 R415, R425): a tile fetch completes when all its lines have come. -/
def execArrayQueueEntryComplete (cluster : Fin 64) (entry : Nat) (s : State) : Host.Outcome State Fault Refusal :=
  let c := cluster.val
  finish s (match (s.cluster c).queue.find? (·.id == entry) with
    | none => s
    | some e =>
      if !e.running then s
      else if e.func ≥ 16 then
        let mine (l : Load) : Bool := l.thread.cluster == cluster && (match l.kind with
          | .fetch n _ => n == entry
          | _ => false)
        let ls := s.loads.filter mine
        if ls.all (·.arrived) then
          let s := { s with loads := s.loads.filter (fun l => !mine l) }
          let r := s.placeLines e ls
          r.2.leaveQueue c e (if r.1.isSome then r.1 else e.fault)
        else s
      else match s.rowBad c e with
        | some a => (s.windowFail c (a - windowBase c) (aBytes e.mode e.depth)).leaveQueue c e (some (5, a))
        | none => (s.arrayResult c e).leaveQueue c e none)

end Sys2Proof.Machine
end

