-- ==== Sys2Proof/Machine/GSync.lean ====
section
/-!
DEFINITION. The synchronisation group (12 R426 to R430) and the mover requests of a policy job (06 R214 to R217).
-/
namespace Sys2Proof.Machine

/-! ## Waits -/

/-- The instruction is done and the thread waits (12 R430). -/
def State.waitOn (s : State) (c : Ctx) (x : Thread) (w : TWait) : Ran :=
  s.ranWith c { x with wait := w, waitSince := s.now, waitPos := s.position c.job.launchCad }

/-- An instruction of format SY. -/
def State.syncOp (s : State) (t : ThreadId) (func : Nat) (rd rs1 rs2 : BitVec 5) (imm : BitVec 6) (f : State → Ctx → Ran) : State :=
  s.issue t (wordSY func rd rs1 rs2 imm) f

/-- The barriers of a scope. -/
def State.barriers (s : State) (c : Ctx) (job : Bool) : List (Nat × Barrier) :=
  if job then c.job.barriers else (s.cluster c.t.cluster).barriers

/-- Replace the barriers of a scope. -/
def State.setBarriers (s : State) (c : Ctx) (job : Bool) (b : List (Nat × Barrier)) : State :=
  if job then
    match s.job c.jn with
    | some x => s.setJob c.jn { x with barriers := b }
    | none => s
  else s.setCluster c.t.cluster { s.cluster c.t.cluster with barriers := b }

/-- BAR (12 R426, R427): the thread's arrival index goes to rd; the last arrival releases the barrier. -/
def execGBar (t : ThreadId) (rd rs1 rs2 : BitVec 5) (imm : BitVec 6) (s : State) : Host.Outcome State Fault Refusal :=
  let n := imm.toNat % 16
  let job := imm.toNat.testBit 4
  finish s (s.syncOp t 0 rd rs1 rs2 imm (fun s c =>
    let count := (c.x.rx rs1).toNat
    let bs := s.barriers c job
    let b := (tabGet bs n).getD { count := count, arrived := [] }
    if s.unperformed c.t (b2n job) then .stall
    else if count = 0 ∨ count > c.job.threadCount ∨ b.count ≠ count then .trap 0x0D imm.toNat
    else
      let x := (c.x.wx rd (BitVec.ofNat 64 b.arrived.length)).step
      if b.arrived.length + 1 = count then
        let s := if job then s.l1Forget c.t (fun _ => true) else s
        let s := (s.setBarriers c job (tabDel bs n)).setThread c.k x
        .ran ((s.threads.filter (fun y => b.arrived.any (fun a => ThreadKey a == y.1))).foldl (fun s y => s.endWait y.1 y.2 false) s)
      else
        (s.setBarriers c job (tabSet bs n { b with arrived := b.arrived ++ [c.t] })).waitOn c x (.barrier n job)))

/-- POSWAIT (12 R426). -/
def execGPoswait (t : ThreadId) (rd rs1 rs2 : BitVec 5) (imm : BitVec 6) (s : State) : Host.Outcome State Fault Refusal :=
  finish s (s.syncOp t 1 rd rs1 rs2 imm (fun s c =>
    let p := (c.x.rx rs1).toNat
    if s.position c.job.launchCad ≥ p then s.ranWith c c.x.step else s.waitOn c c.x.step (.position p)))

/-- POSADV: a driven advance of a cadence of the job's LD (12 R426, R428). -/
def execGPosadv (t : ThreadId) (rd rs1 rs2 : BitVec 5) (imm : BitVec 6) (s : State) : Host.Outcome State Fault Refusal :=
  finish s (s.syncOp t 2 rd rs1 rs2 imm (fun s c =>
    .ran ((s.setThread c.k c.x.step).drivenAdvance (4 * c.ld + imm.toNat % 4) (c.x.rx rs1).toNat)))

/-- Whether a thread runs the policy job of its LD on the cluster named for it (06 R214, 12 R429). -/
def State.isPolicyThread (s : State) (c : Ctx) : Bool :=
  c.job.policy && s.obj 0x700 (0x130 + c.ld) 0 == 1 && s.obj 0x700 (0x130 + c.ld) 1 == c.t.cluster.val

/-- MVREQ (12 R426, R429). -/
def execGMvreq (t : ThreadId) (rd rs1 rs2 : BitVec 5) (imm : BitVec 6) (s : State) : Host.Outcome State Fault Refusal :=
  finish s (s.syncOp t 3 rd rs1 rs2 imm (fun s c =>
    let a := (c.x.rx rs1).toNat
    if !s.isPolicyThread c then .trap 0x0C 0
    else if a % 32 ≠ 0 then .trap 2 a
    else match s.place c.jn c.job a 32 with
      | .window cl w =>
        if (s.mvReqs.filter (fun q => q.thread.cluster == t.cluster)).length ≥ 64 then .stall
        else if s.windowBad cl w 32 then .trapped (s.windowFail cl w 32) 5 a
        else
          let b := s.windowRead cl w 32
          let q : MvReq := { id := s.nextLoad, job := c.jn, thread := c.t, op := field b 0 1, completion := field b 24 8, bytes := b
                             since := s.now }
          let s := s.setJob c.jn { c.job with records := c.job.records.filter (· != q.completion) }
          { s with mvReqs := s.mvReqs ++ [q], nextLoad := s.nextLoad + 1 }.ranWith c (c.x.wx rd 0).step
      | _ => .trap 4 a))

/-- MVWAIT: waits until a completion record is written at the address (12 R426, R430); a record written since the last request that
names the address is one (DEDUCED). -/
def execGMvwait (t : ThreadId) (rd rs1 rs2 : BitVec 5) (imm : BitVec 6) (s : State) : Host.Outcome State Fault Refusal :=
  finish s (s.syncOp t 4 rd rs1 rs2 imm (fun s c =>
    let a := (c.x.rx rs1).toNat
    match s.place c.jn c.job a 16 with
    | .window _ _ =>
      if c.job.records.contains a then s.ranWith c c.x.step else s.waitOn c c.x.step (.mover a)
    | _ => .trap 4 a))

/-- WAITNE (12 R426). -/
def execGWaitne (t : ThreadId) (rd rs1 rs2 : BitVec 5) (imm : BitVec 6) (s : State) : Host.Outcome State Fault Refusal :=
  finish s (s.syncOp t 5 rd rs1 rs2 imm (fun s c =>
    let a := (c.x.rx rs1).toNat
    let v := (c.x.rx rs2).toNat
    if a % 8 ≠ 0 then .trap 2 a
    else match s.place c.jn c.job a 8 with
      | .window cl w =>
        let s := s.startClock cl
        if s.windowBad cl w 8 then .trapped (s.windowFail cl w 8) 5 a
        else if leNat (s.windowRead cl w 8) ≠ v then (s.l1Forget c.t (fun _ => true)).ranWith c c.x.step else s.waitOn c c.x.step (.notEqual a v)
      | _ => .trap 4 a))

/-! ## Mover requests (06 R215 to R217) -/

/-- Fields of a request. -/
def MvReq.cls (q : MvReq) : Nat := field q.bytes 1 1
/-- Destination tier of MOVE. -/
def MvReq.tier (q : MvReq) : Nat := field q.bytes 2 1
/-- Tiles of COUNT. -/
def MvReq.count (q : MvReq) : Nat := field q.bytes 4 4
/-- The first tile's address. -/
def MvReq.tileAddr (q : MvReq) : Nat := field q.bytes 8 8
/-- The buffer's window address. -/
def MvReq.buffer (q : MvReq) : Nat := field q.bytes 16 8

/-- Whether a request is in form (06 R215); a request that is not is refused with status 0x01. -/
def MvReq.formed (q : MvReq) : Bool :=
  decide (3 ≤ q.cls ∧ q.cls ≤ 5) && decide (if q.op = 1 then q.tier ≤ 3 else q.tier = 0) && field q.bytes 3 1 == 0
  && decide (if q.op = 2 then 1 ≤ q.count ∧ q.count ≤ 64 else q.count = 1) && q.tileAddr % 65536 == 0
  && (q.op == 1 || q.op == 3 || q.buffer % 64 == 0)

/-- The private tile of the job's LD at an address (06 R217). -/
def State.ownTile (s : State) (ld a : Nat) : Option Nat :=
  match s.seen { ld := ld } a with
  | .tile i _ _ _ => match (s.regionAt i).bind s.region with
    | some r => if !r.shared ∧ r.owner = ld then some i else none
    | none => none
  | _ => none

/-- Bytes of a buffer in the job's windows; none when it does not lie in one. -/
def State.bufferAt (s : State) (q : MvReq) (n : Nat) : Option (Nat × Nat) :=
  match s.job q.job with
  | none => none
  | some x => match s.place q.job x q.buffer n with
    | .window c w => some (c, w)
    | _ => none

/-- Replace a request. -/
def State.setReq (s : State) (q : MvReq) : State := { s with mvReqs := s.mvReqs.map (fun p => if p.id = q.id then q else p) }

/-- A request has ended with a status and a result. -/
def State.reqDone (s : State) (q : MvReq) (status result : Nat) : State := s.setReq { q with started := true, done := some (status, result) }

/-- The kind of move that takes a tile one step toward a tier (06 R189). -/
def moveStep (cls src dst : Nat) : Nat × Nat :=
  if src = 0 ∧ dst ≥ 2 then (3, 1)
  else if dst = 0 then (2, 0)
  else if src ≥ 2 ∧ dst = 1 then (if cls = 3 then 2 else 1, 1)
  else if src < dst ∧ src ≤ 1 then (3, dst)
  else (4, dst)

/-- MOVE: a tile that already moves, or that waits for a record, a free segment or compaction (06 R210, R219, 07 R245), leaves the request waiting. One that
cannot start for another reason than the tier mask ends with status 0x03 (log entry 46). -/
def State.reqMove (s : State) (q : MvReq) (k : Nat) : State :=
  let e := s.tgt k
  if e.state = 2 then s
  else if e.length = 0 ∨ e.state = 4 then s.reqDone q 1 0
  else if e.home = q.tier then s.reqDone q 0 0
  else if !((s.region e.region).any (fun x => x.tierMask.testBit q.tier)) then s.reqDone q 2 0
  else
    let (kind, tier) := moveStep q.cls e.home q.tier
    let by_ : MoveBy := .job q.job q.id
    match s.recordFor q.cls (jobLd q.job) with
    | none => s.noteWaits k kind tier q.cls by_
    | some r =>
      match (s.setReq { q with started := true, record := r }).startMove k kind tier q.cls by_ with
      | some (_, s) => s
      | none =>
        let s := if tier = 1 then s.promoteWake k else s
        if s.waitsFloor kind tier then s.noteWaits k kind tier q.cls by_
        else if tier = 3 ∧ s.spillReachable (jobLd q.job) ∧ s.spillFree (jobLd q.job) ≥ (if kind = 4 then e.length else 257) then s
        else s.reqDone q 3 0

/-- The 8 bytes COUNT gives for a tile. -/
def State.countEntry (s : State) (k : Nat) : Bytes :=
  let e := s.entry k
  leBytes 1 e.home ++ leBytes 1 e.state ++ leBytes 1 e.recency ++ leBytes 1 e.frequency ++ leBytes 2 e.length
    ++ leBytes 1 ((s.obj 0x700 0x101 0 + 256 - e.recency) % 256) ++ zeros 1

/-- COUNT. -/
def State.reqCount (s : State) (q : MvReq) : State :=
  let ld := jobLd q.job
  let ks := (List.range q.count).map (fun i => s.ownTile ld (q.tileAddr + 65536 * i))
  match s.bufferAt q (8 * q.count) with
  | some (c, w) =>
    if ks.all Option.isSome then (s.windowWrite c w (ks.flatMap (fun k => s.countEntry (k.getD 0)))).reqDone q 0 0
    else s.reqDone q 1 0
  | none => s.reqDone q 1 0

/-- The plaintext of a tile, line by line; none when a line is poisoned. `t3` is its record when it lies in T3. -/
def State.tilePlain (s : State) (k : Nat) (t3 : Option Bytes) : Option Bytes × State :=
  (List.range 1024).foldl (fun a j => match a.1 with
    | none => a
    | some b => match a.2.readLine k j 0x51 t3 with
      | (some d, s) => (some (b ++ d), s)
      | (none, s) => (none, s)) (some [], s)

/-- ENCODE: the record sectors the tile would take under its LL slot. -/
def State.reqEncode (s : State) (q : MvReq) (k : Nat) : State :=
  let e := s.tgt k
  if e.state = 3 then s.reqDone q 5 0
  else
    let fetch : Fetcher := match q.data with
      | some b => hostFetch (e.location / 2 ^ 40) (e.location % 2 ^ 40) 0 b
      | none => farFetch e.location e.length []
    let (d, s) := if e.length = 0 then (some (s.zeroFrame k e), s) else s.readWhole q.cls k e 0x51 fetch
    match d with
    | none => s.reqDone q 5 0
    | some d =>
      let r := s.codeLeaves k e d
      r.2.reqDone q 0 (recordSectors r.1)

/-- DECODE. -/
def State.reqDecode (s : State) (q : MvReq) (k : Nat) : State :=
  if (s.tgt k).state = 3 then s.reqDone q 5 0
  else match s.bufferAt q 65536 with
    | none => s.reqDone q 1 0
    | some (c, w) => match s.tilePlain k q.data with
      | (none, s) => s.reqDone q 5 0
      | (some d, s) => (s.windowWrite c w d).reqDone q 0 0

/-- ENCIPHER: 1,024 full-line writes. -/
def State.reqEncipher (s : State) (q : MvReq) : State :=
  match s.bufferAt q 65536 with
  | none => s.reqDone q 1 0
  | some (c, w) =>
    if s.windowBad c w 65536 then (s.windowFail c w 65536).reqDone q 5 0 else
    let d := s.windowRead c w 65536
    let s := (List.range 1024).foldl (fun s j =>
      let h : HeldWrite := { why := .flip, ld := jobLd q.job, dpa := q.tileAddr + 64 * j, mask := fullMask, data := slice d (64 * j) 64
                             by_ := .thread q.thread, since := s.now, job := some q.job }
      s.write h) s
    s.reqDone q 0 0

/-- COMPARE: the first line that differs. -/
def State.reqCompare (s : State) (q : MvReq) (k : Nat) : State :=
  if (s.tgt k).state = 3 then s.reqDone q 5 0
  else match s.bufferAt q 65536 with
    | none => s.reqDone q 1 0
    | some (c, w) => match s.tilePlain k q.data with
      | (none, s) => s.reqDone q 5 0
      | (some d, s) =>
        let b := s.windowRead c w 65536
        if s.windowBad c w 65536 then (s.windowFail c w 65536).reqDone q 5 0 else s.reqDone q 0 (((List.range 1024).find? (fun j => slice d (64 * j) 64 != slice b (64 * j) 64)).getD 0xFFFFFFFF)

/-- A request that reads its tile: at once, or once the record has come from T3; an unreachable record answers poison (06 R209). -/
def State.reqReads (s : State) (q : MvReq) (k : Nat) (f : State → MvReq → Nat → State) : State :=
  let e := s.tgt k
  if e.state = 4 then s.reqDone q 1 0
  else if e.home = 3 ∧ e.length ≠ 0 ∧ e.state ≠ 3 ∧ q.data.isNone then
    if !s.spillReachable (jobLd q.job) then (s.bump 0x700 0x22 1).reqDone q 5 0
    else (s.setReq { q with started := true, reads := some e }).spillRead (e.location / 2 ^ 40) (e.location % 2 ^ 40) e.length
      (.request q.id) none
  else f s q k

/-- Whether the mover has work of a better class than a request's to take first: a move to copy, or another request (06 R218, R220). -/
def State.outranked (s : State) (q : MvReq) : Bool :=
  let least := q.cls == 4 && s.spaceHeld
  q.formed && !least && (s.moves.any (fun m => m.2.state == 1 && m.2.kind != 6 && decide (m.2.cls < q.cls))
    || s.mvReqs.any (fun r => !r.started && r.done.isNone && r.formed && decide (r.cls < q.cls)))

/-- The mover takes the job's first waiting request with these bytes (06 R215), in the order of the classes. -/
def State.takeRequest (s : State) (j op : Nat) (b : Bytes) (f : State → MvReq → Nat → State) : State :=
  match s.mvReqs.find? (fun q => q.job == j && q.bytes == b && !q.started && q.done.isNone && q.op == op) with
  | none => s
  | some q =>
    if s.contained ∨ s.policyPaused ∨ s.outranked q then s
    else if !q.formed then s.reqDone q 1 0
    else match s.ownTile (jobLd j) q.tileAddr with
      | none => s.reqDone q 1 0
      | some k => f s q k

/-- MOVE (06 R215). -/
def execMvMove (j : Nat) (q : Bytes) (s : State) : Host.Outcome State Fault Refusal :=
  finish s (s.takeRequest j 1 q State.reqMove)

/-- COUNT (06 R215). -/
def execMvCount (j : Nat) (q : Bytes) (s : State) : Host.Outcome State Fault Refusal :=
  finish s (s.takeRequest j 2 q (fun s q _ => s.reqCount q))

/-- ENCODE (06 R215). -/
def execMvEncode (j : Nat) (q : Bytes) (s : State) : Host.Outcome State Fault Refusal :=
  finish s (s.takeRequest j 3 q (fun s q k => s.reqReads q k State.reqEncode))

/-- DECODE (06 R215). -/
def execMvDecode (j : Nat) (q : Bytes) (s : State) : Host.Outcome State Fault Refusal :=
  finish s (s.takeRequest j 4 q (fun s q k => s.reqReads q k State.reqDecode))

/-- ENCIPHER (06 R215). -/
def execMvEncipher (j : Nat) (q : Bytes) (s : State) : Host.Outcome State Fault Refusal :=
  finish s (s.takeRequest j 5 q (fun s q _ => s.reqEncipher q))

/-- COMPARE (06 R215). -/
def execMvCompare (j : Nat) (q : Bytes) (s : State) : Host.Outcome State Fault Refusal :=
  finish s (s.takeRequest j 6 q (fun s q k => s.reqReads q k State.reqCompare))

/-- A request whose record has come from T3 is worked on; one with an op the table does not list is refused. -/
def State.reqResume (s : State) (q : MvReq) : State :=
  if q.op < 1 ∨ q.op > 6 then s.reqDone q 1 0
  else if q.done.isSome ∨ q.data.isNone then s
  else match s.ownTile (jobLd q.job) q.tileAddr with
    | none => s.reqDone q 1 0
    | some k =>
      if q.op = 3 then s.reqEncode q k else if q.op = 4 then s.reqDecode q k else s.reqCompare q k

/-- The completion record of a request (06 R216). -/
def completionRecord (q : MvReq) (status result at_ : Nat) : Bytes :=
  leBytes 1 status ++ leBytes 1 q.op ++ zeros 2 ++ leBytes 4 result ++ leBytes 8 at_

/-- MOVER_COMPLETION (06 R216): a request that has ended writes its completion record, and the waits for it end. -/
def execMoverCompletion (index : Nat) (s : State) : Host.Outcome State Fault Refusal :=
  let writing (s : State) (q : MvReq) : Bool := q.op == 5 && s.held.any (fun h => h.job == some q.job && h.ld == jobLd q.job
    && decide (q.tileAddr ≤ h.dpa ∧ h.dpa < q.tileAddr + 65536))
  finish s (match s.mvReqs[index]? with
    | none => s
    | some q =>
      let s := s.reqResume q
      match (s.mvReqs.find? (·.id == q.id)).bind (·.done), s.job q.job with
      | some (status, result), some x =>
        if writing s q then s
        else
          let s := { s with mvReqs := s.mvReqs.filter (·.id != q.id) }.setJob q.job { x with records := q.completion :: x.records }
          let s := match s.place q.job x q.completion 16 with
            | .window c w => s.windowWrite c w (completionRecord q status result s.now)
            | _ => s
          (s.endWaits (fun t => t.job == q.job && t.wait == .mover q.completion) false).jobCheck q.job
      | _, _ => s)

end Sys2Proof.Machine
end

