-- ==== Sys2Proof/Machine/Links.lean ====
section
/-!
DEFINITION. The upstream legs (15 R505 to R508), chrysalis (16 R560 to R563) and the reference clock (20 R629, R630).
-/
namespace Sys2Proof.Machine

/-- Replace a leg. -/
def State.setLeg (s : State) (k : Nat) (x : Leg) : State := { s with legs := tabSet s.legs k x }

/-- Whether a leg exists in the leg mode in force (15 R505). -/
def State.legExists (s : State) (k : Nat) : Bool := k == 0 || s.obj 0x100 0x100 1 == 1

/-! ## Loss (15 R507, R508) -/

/-- A request with its new tag on the other leg. -/
def Dma.resent (d : Dma) (old new : Nat) : Dma := if d.id = old then { d with id := new, leg := 1 - d.leg } else d

/-- The requests of a lost leg go out again on the other leg, with new tags; while no leg is up they wait. Nothing goes out for an LD
that may issue no request (15 R531, R532): what it waits for times out. -/
def State.resendDmas (s : State) (k : Nat) : State :=
  if !(s.leg (1 - k)).up then s
  else (s.dmas.filter (fun d => d.leg == k && (s.ld d.ld).busMaster && !(s.ld d.ld).d3hot)).foldl (fun s d =>
    let id := s.nextDma
    let s := { s with nextDma := id + 1, dmas := s.dmas.map (fun y => Dma.resent y d.id id) }
    (s.emit (.dmaRead d.ld id d.addr d.len d.gen)).bump (0x101 + k) 0x34 1) s

/-- The INTx state of the LDs that used a lost leg moves to the other one. -/
def State.moveIntx (s : State) (k : Nat) : State :=
  if !(s.leg (1 - k)).up then s
  else (List.range 16).foldl (fun s n =>
    if (s.ld n).intx ∧ s.obj (0x110 + n) 0x101 0 % 2 = k then s.emit (.intx n true) else s) s

/-- The host requests that a lost leg carried get no response (15 R507). -/
def State.loseRequests (s : State) (k : Nat) : State :=
  { s with accesses := s.accesses.map (fun a => if a.load.isNone ∧ a.leg = k then { a with leg := 2 } else a)
           held := s.held.map (fun h => match h.by_ with
             | .host leg tag => if leg = k then { h with by_ := .host 2 tag } else h
             | _ => h) }

/-- A leg is lost. -/
def State.loseLeg (s : State) (k : Nat) : State :=
  if !(s.leg k).up then s
  else
    let s := s.loseRequests k
    let s := (s.setLeg k { s.leg k with up := false, width := 0, rate := 0, ltssm := 0 }).bump (0x101 + k) 0x33 1
    let s := (s.resendDmas k).moveIntx k
    if s.allLegsDown then
      { s.abortWhere 0xA (fun m => m.srcTier == 3 || m.dstTier == 3) with allDown := some s.now }
    else s

/-- LEG_LOSS (15 R507, R508): a fail-over to the other leg is logged (18 R585). -/
def execLegLoss (leg : Fin 2) (s : State) : Host.Outcome State Fault Refusal :=
  let u := 0x101 + leg.val
  finish s (if (s.leg leg).up ∧ (s.leg (1 - leg.val)).up then (s.loseLeg leg).logUnit 2 5 u u else s.loseLeg leg)

/-- LEG_TRAINED (15 R505, R506, 20 R629, R631): a leg that is not held Disabled reaches L0. -/
def execLegTrained (leg : Fin 2) (width rate : Nat) (s : State) : Host.Outcome State Fault Refusal :=
  let x := s.leg leg
  finish s (if s.stage = .off ∨ s.stage = .inReset ∨ x.disabled ∨ x.up ∨ !s.legExists leg ∨ !s.hrefclk ∨ s.fw.recovery then s
    else
      let s := { s.setLeg leg { x with up := true, width := width, rate := rate, ltssm := 0x11 } with allDown := none }
      let s : State := if (s.leg (1 - leg.val)).up then s else s.resendDmas (1 - leg.val)
      let u := 0x101 + leg.val
      let own := (s.unit u).own
      if (own = 3 ∨ (own = 5 ∧ (s.unit u).reason = 2)) ∧ s.requested u ≠ 3 then s.setOwn u (s.requested u) 1 else s)

/-! ## Chrysalis (16 R560, R563) -/

/-- The module enters chrysalis. -/
def State.enterChrysalis (s : State) (ordered : Bool) : State :=
  if s.chrysalis then s else { s.setObj 0 0x141 1 1 with chrysalis := true }.raise 0 0x01A4 (b2n ordered)

/-- CHRYSALIS_TIMEOUT: every leg has stayed down for 0000:140.00. -/
def execChrysalisTimeout (s : State) : Host.Outcome State Fault Refusal :=
  finish s (if s.stage = .running ∧ s.allDown.isSome ∧ s.allLegsDown then s.enterChrysalis false else s)

/-- A write of 0000:141.00: true holds every leg Disabled and enters chrysalis at once; false lets the legs train. -/
def State.chrysalisWrite (s : State) (v : Nat) : State :=
  let s := s.setObj 0 0x141 0 v
  if v = 1 then
    let s := (List.range 2).foldl (fun s k => (s.loseLeg k).setLeg k { (s.loseLeg k).leg k with disabled := true }) s
    s.enterChrysalis true
  else (List.range 2).foldl (fun s k => s.setLeg k { s.leg k with disabled := s.requested (0x101 + k) == 3 }) s

/-- The module leaves chrysalis at a configuration request for a bound LD once a leg has trained (16 R563). -/
def State.leaveChrysalis (s : State) (n : Nat) : State :=
  if s.chrysalis ∧ s.obj 0 0x141 0 = 0 ∧ !s.allLegsDown ∧ n < 16 ∧ s.bound n then
    { s.setObj 0 0x141 1 0 with chrysalis := false }.raise 0 0x01A5 0
  else s

/-! ## The reference clock (20 R629, R630) -/

/-- A populated far port's link enters recovery. -/
def FarPort.recover (x : FarPort) : FarPort := { x with recovering := x.present }

/-- HREFCLK_LOSS: the far references run from the internal source, the far links recover, and both legs are lost. -/
def execHrefclkLoss (s : State) : Host.Outcome State Fault Refusal :=
  finish s (if s.stage = .off ∨ !s.hrefclk then s
    else
      let ps := s.farPorts.map (fun p => (p.1, p.2.recover))
      let s := { s with hrefclk := false, farRefInternal := true, farPorts := ps }
      let s := s.raise 0 0x01D0 (ps.foldl (fun a p => if p.2.present then setBit a p.1 true else a) 0)
      (s.loseLeg 0).loseLeg 1)

/-- HREFCLK_RETURN: the legs may train again; the far references stay as they are. -/
def execHrefclkReturn (s : State) : Host.Outcome State Fault Refusal := finish s { s with hrefclk := true }

/-- WAKE_N is asserted (20 R631). -/
def State.wakeAsserted (s : State) : Bool :=
  s.allLegsDown && ((s.chrysalis && s.obj 0 0x141 0 == 0)
    || (List.range 16).any (fun n => s.bound n && !((tabGet (s.ld n).logs 2).getD []).isEmpty))

end Sys2Proof.Machine
end

