-- ==== Sys2Proof/Machine/Units.lean ====
section
/-!
DEFINITION. Requested states of units and their work (02 R45 to R58, R646, 07 R241, 20 R632): what a write of 001.00 starts,
when draining is done, and divergence.
-/
namespace Sys2Proof.Machine

/-! ## Near-tier channels taken out (02 R646) -/

/-- Whether a channel may be taken out: channel parity is in force and no other channel of its group is FAILED, OFFLINE,
TEST or DRAINING. -/
def State.mayTakeOut (s : State) (ch : Nat) : Bool :=
  s.parityOn && (groupMates ch).all (fun m => let o := (s.unit (0x510 + m)).own; o != 6 && o != 2 && o != 3 && o != 4)

/-- A channel that leaves is taken out once its write queue is empty. -/
def State.takeOut (s : State) (ch : Nat) : State :=
  let x := s.chan ch
  if x.leaving ∧ x.wq.isEmpty then
    (s.setChan ch { x with leaving := false, takenOut := true }).setOwn (0x510 + ch) (s.requested (0x510 + ch)) 1
  else s

/-- The burst a device burst holds now; none for a row that a spare replaces. -/
def Chan.logical (x : Chan) (pb : Nat) : Option Nat :=
  let bank := burstBank pb
  let row := burstRow pb
  if row ≥ 3007 then
    (x.remap.find? (fun m => m.1 / 65536 == bank && m.2 == row - 3007)).map (fun m => m.1 % 65536 * 2048 + pb % 2048)
  else if (tabGet x.remap (65536 * bank + row)).isSome then none else some pb

/-- Rewrite a channel from the other seven of its group. -/
def State.rewriteChannel (s : State) (ch : Nat) : State :=
  let mates := groupMates ch
  let bs := mates.flatMap (fun m => s.near.filterMap (fun c =>
    if c.1 / 2 ^ 33 = m then (s.chan m).logical (c.1 % 2 ^ 33 / 64) else none))
  let value (b : Nat) : Bytes := mates.foldl (fun a m => xorBytes a (memRead s.near (nearKey m ((s.chan m).phys b) 0) 64)) (zeros 64)
  let near := s.near.filter (fun c => c.1 / 2 ^ 33 != ch)
  { s with near := bs.foldl (fun n b => memWrite n (nearKey ch ((s.chan ch).phys b) 0) (value b)) near }

/-! ## Clusters and cores on their way to OFFLINE -/

/-- The cluster of a cluster or core unit. -/
def clusterOf (u : Nat) : Nat := if u ≥ 0x1000 then (u - 0x1000) / 4 else u - 0xA40

/-! ## Acting on a requested state -/

/-- Whether a unit is a leg, a far port, a channel, an engine, a cluster or core, or a control core. -/
def unitIn (u lo hi : Nat) : Bool := decide (lo ≤ u ∧ u ≤ hi)

/-- Whether a chapter keeps a unit DEGRADED: the far tier while a segment names a FAILED port (07 R239), a propagated cadence until
its next advance (08 R260). -/
def State.keptDegraded (s : State) (u : Nat) : Bool :=
  let x := s.unit u
  x.own == 5 && ((u == 0x600 && x.reason == 3) || (unitIn u 0x810 0x84F && x.reason == 0x100))

/-- A request for ONLINE or TEST. -/
def State.actServe (s : State) (u v : Nat) : State :=
  let x := s.unit u
  if unitIn u 0x610 0x617 then
    let p := u - 0x610
    let s := if x.own = 4 ∨ (x.own = 5 ∧ x.reason = 2) ∨ x.own = 1 ∨ x.own = 2 then s.setOwn u v 1 else s
    let f := s.farPort p
    if f.present ∧ s.farRef ∧ !f.released ∧ !f.refused ∧ (s.stage = .filling ∨ s.stage = .running) then
      s.setFarPort p { f with released := true, releasedAt := s.now }
    else s
  else if x.own = 0 ∨ x.own = 6 then s
  else if u = 0x101 ∨ u = 0x102 then
    let k := u - 0x101
    let s := s.setLeg k { s.leg k with disabled := s.obj 0 0x141 0 == 1 }
    if x.own = 3 then s else s.setOwn u v 1
  else if unitIn u 0x510 0x52F then
    let ch := u - 0x510
    let c := s.chan ch
    if c.takenOut then
      (if v = 2 then s.setOwn u 2 1 else s.setOwn u 4 1)
    else if v = 2 ∧ s.mayTakeOut ch then ((s.setChan ch { c with leaving := true }).setOwn u 4 1).takeOut ch
    else (s.setChan ch { c with leaving := false }).setOwn u v 1
  else if unitIn u 0xA40 0xA7F ∧ (s.cluster (u - 0xA40)).changing ∧ x.own ≠ 3 then s
  else if (x.own = 4 ∧ x.reason = 0x100) ∨ s.keptDegraded u then s
  else s.setOwn u v 1

/-- A request for OFFLINE. -/
def State.actOffline (s : State) (u : Nat) : State :=
  let x := s.unit u
  if unitIn u 0x610 0x617 then
    (if x.own = 0 ∨ x.own = 3 then s
      else if x.own = 6 then s.farPortSettle (u - 0x610)
      else ((s.setOwn u 4 1).closeSegmentsOf (u - 0x610)).farPortSettle (u - 0x610))
  else if x.own = 0 ∨ x.own = 6 then s
  else if u = 0x101 ∨ u = 0x102 then
    let k := u - 0x101
    let s := s.loseLeg k
    (s.setLeg k { s.leg k with disabled := true }).setOwn u 3 1
  else if unitIn u 0x310 0x35F ∨ unitIn u 0xD10 0xD17 then s.setOwn u 3 1
  else if unitIn u 0xA40 0xA7F ∨ unitIn u 0x1000 0x10FF then
    let c := clusterOf u
    if s.clusterEmpty c then s.setOwn u 3 1 else (s.setOwn u 4 1).demoteAll (s.clusterTiles c 0)
  else if unitIn u 0x510 0x52F then
    let ch := u - 0x510
    if (s.chan ch).takenOut then s.setOwn u 3 1
    else if s.mayTakeOut ch then ((s.setChan ch { s.chan ch with leaving := true }).setOwn u 4 1).takeOut ch
    else s.setOwn u 4 1
  else if (x.own = 4 ∧ x.reason = 0x100) ∨ s.keptDegraded u then s
  else s.setOwn u 4 1

/-- Whether a home lies on a unit: the near tier or one of its channels, the far tier or a port of its segment, a cluster, or the LD
whose host memory holds it. -/
def State.homeUses (s : State) (u : Nat) (e : TileEntry) : Bool :=
  if e.home = 0 then u == 0xA40 + e.location % 64
  else if e.home = 1 then u == 0x500 || (List.range e.frameLines).any (fun f => u == 0x510 + s.granChan (16 * e.location + f))
  else if e.home = 2 then u == 0x600 || (unitIn u 0x610 0x617 && (s.seg (e.location / 131072)).any (fun g => g.mask.testBit (u - 0x610)))
  else u == 0x110 + e.location / 2 ^ 40

/-- Whether a move in ALLOC or COPY needs a unit: the mover, or a unit that its source or destination lies on (06 R197 cause 0x0C; log
entry 46). A record not yet placed may go to any port. -/
def State.moveNeeds (s : State) (u : Nat) (m : Nat × Move) : Bool :=
  decide (m.2.state ≤ 2) && (u == 0x700 || s.homeUses u (s.tgt m.2.key)
    || (if m.2.kind = 6 then u == 0xC00 else if m.2.dstTier = 2 then u == 0x600 || unitIn u 0x610 0x617 else s.homeUses u m.2.dst))

/-- A changed target aborts the moves that need the unit. -/
def State.abortNeeding (s : State) (u v : Nat) : State :=
  if (s.unit u).target = v then s
  else (s.moves.filter (s.moveNeeds u)).foldl (fun t m => State.afterMove t (t.abortMove m.1 0xC) m.1) s

/-- A requested state reaches one unit: the target, the generation taken up, the work, the divergence clock (02 R48 to
R53). -/
def State.request (s : State) (u v : Nat) : State :=
  let s := (s.abortNeeding u v).setObj u 1 0 v
  let s := s.setUnit u { s.unit u with target := v, taken := s.obj u 3 0 }
  let s := if v = 3 then s.actOffline u else s.actServe u v
  s.clockUpdate u true

/-- An accepted write of 001.00 with its fan-out: 003 rises once in every unit reached and in every ancestor (02 R58). The data path of an ancestor takes nothing up: its 002.06 stays (log entry 44). A requested state decides whether
a child is counted, so the aggregates of the groups follow (02 R48, R56). -/
def State.requestAll (s : State) (u v : Nat) : State :=
  let us := subtree u
  let s := (us ++ ancestors u).foldl (fun s w => s.setObj w 3 0 ((s.obj w 3 0 + 1) % 2 ^ 32)) s
  ((us.filter isGroup).reverse ++ ancestors u).foldl State.showUnit (us.foldl (fun s w => s.request w v) s)

/-- Whether a write of OFFLINE would leave no control core ONLINE (02 R646). -/
def State.lastCores (s : State) (u v : Nat) : Bool :=
  let us := subtree u
  v == 3 && us.any (fun w => unitIn w 0xD10 0xD17)
    && (unitRun 0xD10 8).all (fun w => us.contains w || (s.unit w).own != 1)

/-- A write of 001.00 by a sender that may make it (02 R47, R646). -/
def State.requestWrite (s : State) (u v : Nat) : Reply :=
  checks [ (decide (v < 1 ∨ v > 3), stRange), (s.lastCores u v, stBusy) ] (s.requestAll u v)

/-! ## Draining is done (02 R50, R646) -/

/-- DRAIN_COMPLETE: the work of a DRAINING unit is done, if it is, and the unit passes to what it was asked for. -/
def State.drainDone (s : State) (u : Nat) : State :=
  let x := s.unit u
  let v := s.requested u
  if ¬(x.own = 4 ∨ (x.own = 5 ∧ x.reason = 2)) then s
  else if u = 0x700 ∧ x.own = 4 ∧ x.reason = 0x100 then s.moverSettle
  else if unitIn u 0x610 0x617 then s.farPortSettle (u - 0x610)
  else if unitIn u 0x510 0x52F then
    let ch := u - 0x510
    let c := s.chan ch
    if c.leaving then s.takeOut ch
    else if c.takenOut ∧ v = 1 ∧ !(groupMates ch).any s.chanLost then
      ((s.rewriteChannel ch).setChan ch { c with takenOut := false }).setOwn u 1 1
    else s
  else if unitIn u 0xA40 0xA7F then (if (s.cluster (u - 0xA40)).draining then s.drainClusters else s.clusterSettle (u - 0xA40))
  else if unitIn u 0x1000 0x10FF then (if v = 3 ∧ s.clusterEmpty (clusterOf u) then s.setOwn u 3 1 else s)
  else s

/-- DRAIN_COMPLETE. -/
def execDrainComplete (unit : U16) (s : State) : Host.Outcome State Fault Refusal := finish s (s.drainDone unit.toNat)

/-! ## Divergence (02 R53, R54) -/

/-- DIVERGENCE_LIMIT_REACHED. -/
def execDivergenceLimitReached (unit : U16) (s : State) : Host.Outcome State Fault Refusal :=
  let u := unit.toNat
  let x := s.unit u
  finish s (if !unitExists u ∨ x.clock.isNone ∨ x.fired then s
    else
      let s := s.setUnit u { x with diverged := true, fired := true, clock := none }
      let s := (s.raise u 2 0).bump u 0x14 1
      if x.own = 5 ∨ x.own = 6 then s else s.setOwn u 5 2)

/-! ## Salvage (09 R309) -/

/-- SALVAGE_EXPIRY: a salvaged overlay is freed as by DETACH. -/
def execSalvageExpiry (attachment : Nat) (s : State) : Host.Outcome State Fault Refusal :=
  finish s (if (tabGet s.attaches attachment).any (·.kind == 3) then s.endSalvage attachment else s)

/-! ## Quiescence (02 R49) -/

/-- Whether a channel holds queued or in-flight work. -/
def Chan.works (c : Chan) : Bool := !(c.reads.isEmpty && c.xbar.isEmpty && c.wq.isEmpty && c.inflight.isEmpty && c.neighbours.isEmpty)

/-- Whether a far port holds a stripe write that is not acknowledged, or a read of a record it holds a part of. -/
def State.portWorks (s : State) (p : Nat) : Bool :=
  s.segs.any (fun g => g.2.mask.testBit p && !g.2.issued.isEmpty)
    || s.accesses.any (fun a => decide (a.wait = .far) && (s.seg (a.entry.location / 131072)).any (fun g => g.mask.testBit p))

/-- Whether a unit holds queued or in-flight work of its own function; a group's members hold theirs. -/
def State.holdsWork (s : State) (u : Nat) : Bool :=
  if unitIn u 0x510 0x52F then (s.chan (u - 0x510)).works
  else if u = 0x500 then s.channels.any (·.2.works) || s.accesses.any (fun a => decide (a.wait = .near))
  else if u = 0x501 ∨ u = 0x502 then s.channels.any (fun c => c.1 / 16 == u - 0x501 && c.2.works)
  else if u = 0x700 then !s.moves.isEmpty || s.mvReqs.any (fun q => q.done.isNone)
  else if u = 0x101 ∨ u = 0x102 then s.dmas.any (·.leg == u - 0x101)
  else if unitIn u 0x110 0x11F then
    let n := u - 0x110
    s.dmas.any (·.ld == n) || s.accesses.any (·.ld == n) || s.held.any (·.ld == n) || (s.ld n).background.isSome
  else if unitIn u 0xA40 0xA7F ∨ unitIn u 0x1000 0x10FF then
    let c := s.cluster (clusterOf u)
    c.job.isSome || c.scrubbing || c.draining
  else if u = 0xA00 then !s.jobs.isEmpty && s.jobs.any (fun j => j.2.state ≥ 2)
  else if unitIn u 0x610 0x617 then s.portWorks (u - 0x610)
  else if u = 0x600 then
    !s.farRecs.isEmpty || !s.cleanCopies.isEmpty || s.segs.any (fun g => !g.2.issued.isEmpty || !g.2.gather.isEmpty)
      || s.accesses.any (fun a => decide (a.wait = .far))
  else if u = 0x200 then !s.held.isEmpty || !s.oldHomes.isEmpty || s.extents.any (fun e => e.2.state == 3)
  else if u = 0x300 then s.sweeps.any (fun z => z.2.state == 1)
  else if u = 0x400 then s.keys.any (fun k => k.2.sweeping)
  else if u = 0x800 then s.sched.any (fun e => !e.2.waiting.isEmpty)
  else if u = 0xC00 then !s.span.requests.isEmpty || !s.span.creates.isEmpty || s.span.evacs.any (fun e => e.2.state == 1)
  else if unitIn u 0xC10 0xC13 then !(s.sport (u - 0xC10)).waiting.isEmpty || !(s.sport (u - 0xC10)).replay.isEmpty
  else if u = 0xD00 then s.fw.verifying
  else if unitIn u 0xD10 0xD17 then (s.ctl (u - 0xD10)).restarting || (s.ctl (u - 0xD10)).halt == 1
  else if u = 0xE00 then !s.heldMsgs.isEmpty
  else if u = 0xF00 then s.telem.freeze == 1 || s.telem.snap == 1 || s.telem.dumps.any (·.2.running)
  else false

/-- The quiescent flag. -/
def State.quiescent (s : State) (u : Nat) : Bool :=
  ((s.unit u).own == 2 || (s.unit u).own == 3) && !s.holdsWork u

end Sys2Proof.Machine
end

