-- ==== Sys2Proof/Machine/Resets.lean ====
section
/-!
DEFINITION. What resets an LD: Bus master enable, D3hot, function-level reset, hot reset (15 R531 to R534, 13 R453,
08 R277, 09 R308).
-/
namespace Sys2Proof.Machine

/-! ## Profile values (02 R78 to R80) -/

/-- The copy of a slot that is loaded: the valid one with the higher store sequence. -/
def State.profileCopy (s : State) (slot : Nat) : Option (Nat × ProfCopy) :=
  let a := (tabGet s.profiles (2 * slot)).filter (·.valid)
  let b := (tabGet s.profiles (2 * slot + 1)).filter (·.valid)
  match a, b with
  | some x, some y => if y.seq > x.seq then some (2 * slot + 1, y) else some (2 * slot, x)
  | some x, none => some (2 * slot, x)
  | none, some y => some (2 * slot + 1, y)
  | none, none => none

/-- The value a profile gives a member, as bytes. -/
def ProfCopy.value (c : ProfCopy) (u o m : Nat) : Option Bytes :=
  (c.entries.find? (fun e => e.unit == u && e.obj == o && e.mem == m)).map (·.value)

/-- The value a scalar takes from the active profile, or its factory default. -/
def State.profileScalar (s : State) (u o m : Nat) : Nat :=
  (((s.profileCopy (s.obj 0 0x121 0)).bind (fun c => c.2.value u o m)).map leNat).getD (objDefault u o m)

/-! ## Jobs (13 R453) -/

/-- Whether a load of a job's thread reads the host window. -/
def State.hostLoad (s : State) (j : Nat) (l : Load) : Bool :=
  s.jobOf (ThreadKey l.thread) == some j && decide (l.addr ≥ 0x800000000000)

/-- Runs of an LD with a host-window access outstanding end, each with the record of its lowest cluster and thread; the data of such
accesses is dropped (13 R453, 12 R434 code 0x0E, R435). -/
def State.masterOff (s : State) (ld : Nat) : State :=
  (List.range 64).foldl (fun s i =>
    let j := 64 * ld + i
    match (s.loads.filter (s.hostLoad j)).foldl (fun m l => match m with
      | none => some l
      | some k => if ThreadKey l.thread < ThreadKey k.thread then some l else some k) none with
    | some l => (s.except l.thread 0x0E false l.word l.pc l.addr).dropLoads (s.hostLoad j)
    | none => s) s

/-- A run ends at once with status 0x15; its slot is EMPTY, with no descriptor, status or record (13 R453). -/
def State.killJob (s : State) (j : Nat) : State :=
  match s.job j with
  | none => { s with jobs := tabDel s.jobs j }
  | some x =>
    if x.state = 1 then { s with jobs := tabDel s.jobs j }
    else
      let y : Job := { x with state := 4, status := 0x15, lastExit := s.now
                              endPos := if x.state = 4 then x.endPos else s.position x.launchCad }
      let fetch (l : Load) : Bool := match l.kind with
        | .fetch _ _ => y.clusters.contains l.thread.cluster.val
        | _ => false
      let s := ((s.dropLoads (fun l => s.jobOf (ThreadKey l.thread) == some j && l.isThread)).endWaits (fun t => t.job == j) true).setJob j y
      let s := { s with loads := s.loads.filter (fun l => !fetch l), mvReqs := s.mvReqs.filter (·.job != j)
                        held := s.held.filter (fun h => h.job != some j) }
      let s := s.finishOther j y
      { s with jobs := tabDel s.jobs j }

/-- Every run of an LD ends and every slot is EMPTY; the clusters the runs held scrub before their next context. -/
def State.killJobs (s : State) (ld : Nat) : State :=
  let cs := (List.range 64).flatMap (fun i => ((s.job (64 * ld + i)).map (·.clusters)).getD [])
  let s := (List.range 64).foldl (fun s i => s.killJob (64 * ld + i)) s
  cs.foldl (fun s c => if (s.cluster c).context = ld then s.setCluster c { s.cluster c with context := 0xFF } else s) s

/-! ## Cadences (08 R277) -/

/-- Positions, modes, layer times, entries, markers and pins of an LD are cleared. -/
def State.clearCadences (s : State) (ld : Nat) : State :=
  let s := (List.range 4).foldl (fun s k =>
    let c := 4 * ld + k
    let s := (s.setCad c {}).setObj (0x810 + c) 0x101 0 0
    (List.range 256).foldl (fun s m => s.setObj (0x810 + c) 0x112 m (s.profileScalar (0x810 + c) 0x112 m)) s) s
  { s with sched := s.sched.filter (fun e => e.1 / 1024 != ld)
           markers := s.markers.filter (fun m => m.1 / 4096 != ld)
           pins := s.pins.filter (fun p => p.entry / 1024 != ld) }

/-! ## Dumps -/

/-- Running dumps of an LD fail (19 R620). -/
def State.failDumps (s : State) (ld reason : Nat) : State :=
  (List.range 4).foldl (fun s k => if (s.dump (4 * ld + k)).running then s.failDump (4 * ld + k) reason else s) s

/-! ## Bus master enable and D3hot (15 R531) -/

/-- The LD's requests stop; the FM-owned LD, number 16, issues none. -/
def State.stopMaster (s : State) (n : Nat) : State :=
  if n ≥ 16 then s
  else
  let s := (s.moves.filter (fun m => m.2.ld == n && (m.2.srcTier == 3 || m.2.dstTier == 3))).foldl
    (fun t m => State.afterMove t (t.abortMove m.1 3) m.1) s
  ((s.spillLost n).masterOff n).failDumps n 1

/-- Clear Bus master enable. -/
def State.clearMaster (s : State) (n : Nat) : State :=
  if (s.ld n).busMaster then (s.setLd n { s.ld n with busMaster := false }).stopMaster n else s

/-- Set Bus master enable: each waiting vector is sent once (15 R523). -/
def State.setMaster (s : State) (n : Nat) : State :=
  if (s.ld n).busMaster then s
  else
    let w := (s.ld n).waitingVec
    w.foldl (fun s k => s.sendVector n k) (s.setLd n { s.ld n with busMaster := true, waitingVec := [] })

/-- Enter D3hot. -/
def State.enterD3 (s : State) (n : Nat) : State :=
  if (s.ld n).d3hot then s else (s.setLd n { s.ld n with d3hot := true }).stopMaster n

/-- Leave D3hot: nothing is reset. -/
def State.leaveD3 (s : State) (n : Nat) : State := s.setLd n { s.ld n with d3hot := false }

/-- BUS_MASTER_ENABLE_CLEAR. -/
def execBusMasterEnableClear (ld : Fin 16) (s : State) : Host.Outcome State Fault Refusal := finish s (s.clearMaster ld)

/-- BUS_MASTER_ENABLE_SET. -/
def execBusMasterEnableSet (ld : Fin 16) (s : State) : Host.Outcome State Fault Refusal := finish s (s.setMaster ld)

/-- D3HOT_ENTRY. -/
def execD3hotEntry (ld : Fin 16) (s : State) : Host.Outcome State Fault Refusal := finish s (s.enterD3 ld)

/-! ## Function-level and hot reset (15 R532 to R534) -/

/-- AER masks, severities and logs: RWS fields of the configuration space, which both resets keep (15 R534). -/
def stickyCfg (off : Nat) : Bool := decide (0x104 ≤ off ∧ off < 0x148)

/-- An LD's function after a reset: its tag generation flips; what is not a register of the function stays. -/
def Ld.reset (l : Ld) (hot : Bool) : Ld :=
  { cfg := l.cfg.filter (fun c => stickyCfg c.1), tagGen := !l.tagGen, flr := l.flr, flrStart := l.flrStart
    extGen := l.extGen, withdrawing := l.withdrawing, decoders := if hot then [] else l.decoders, pages := l.pages }

/-- Reset one LD: the FLR column, or the hot reset column, of 15 R534; of the FM-owned LD, its configuration space. -/
def State.resetLd (s : State) (n : Nat) (hot : Bool) : State :=
  if n ≥ 16 then s.setLd n ((s.ld n).reset hot)
  else
  let code := if hot then 5 else 4
  let asked (m : Move) : Bool := match m.by_ with
    | .schedule e => e / 1024 == n
    | .job j _ => jobLd j == n
    | _ => false
  let s := if (s.ld n).intx then s.emit (.intx n false) else s
  let s := s.setLd n ((s.ld n).reset hot)
  let s := { s with spdm := tabDel s.spdm n }
  let s := (s.moves.filter (fun m => (m.2.ld == n && (m.2.srcTier == 3 || m.2.dstTier == 3)) || asked m.2)).foldl
    (fun t m => State.afterMove t (t.abortMove m.1 code) m.1) s
  let s := { s with held := s.held.filter (fun h => !(h.ld == n && (h.why == HoldFor.unreachable || h.why == HoldFor.poison || h.why == HoldFor.remote))) }
  let s := ((s.failDumps n 3).killJobs n).clearCadences n
  let s := s.salvage n
  let had : Bool := s.obj (0x110 + n) 0x180 0 == 1 && s.bound n
  let s := s.setObj (0x110 + n) 0x180 0 0
  if had then s.consentGone else s

/-- An FLR of LDn begins: until it completes, configuration requests are answered with Request Retry Status (15 R532). That of the FM-owned LD, which counts none, is complete at once (log entry 49). -/
def State.beginFlr (s : State) (n : Nat) : State :=
  if n ≥ 16 then s.resetLd n false
  else if (s.ld n).flr then s
  else
    let s := (s.setLd n { s.ld n with flr := true, flrStart := s.now }).bump (0x110 + n) 0x1E 1
    s.resetLd n false

/-- FUNCTION_LEVEL_RESET. -/
def execFunctionLevelReset (ld : Fin 16) (s : State) : Host.Outcome State Fault Refusal :=
  finish s (if s.stage = .running then s.beginFlr ld else s)

/-- FLR_COMPLETE (15 R532 step 4). -/
def execFlrComplete (ld : Fin 16) (s : State) : Host.Outcome State Fault Refusal :=
  finish s (s.setLd ld { s.ld ld with flr := false })

/-- The leg that carried a hot reset: the one that is up, and where both are, a free one, since the command names none (log entry 49). -/
def State.resetLeg (s : State) : Nat :=
  if (s.leg 0).up && (!(s.leg 1).up || Config.hotResetOnLeg0 s.fresh) then 0 else 1

/-- HOT_RESET (15 R533) on a leg that is up: every LD, the FM-owned one as well; then the leg is down until it has trained again, and the
other stays as it is. -/
def execHotReset (s : State) : Host.Outcome State Fault Refusal :=
  finish s (if s.stage = .running ∧ ((s.leg 0).up || (s.leg 1).up) = true then
      ((List.range 17).foldl (fun t n => State.resetLd t n true) { s with fresh := s.fresh + 1 }).loseLeg s.resetLeg
    else s)

end Sys2Proof.Machine
end

