-- ==== Sys2Proof/Machine/RomNames.lean ====
section
/-!
DEFINITION. The Name column of the object tables, and the types that share a width with another: what the schema of the
expansion ROM image adds to the tables (15 R519).
-/
namespace Sys2Proof.Machine

/-- The name of the rows of a table that begin at a unit, an object and a member; `code` is the type of 15 R519 where the
row's own type does not give it, else 0. -/
structure RomName where
  unit : Nat
  obj : Nat
  mem : Nat
  code : Nat
  name : String
deriving DecidableEq, Repr

/-- The names of the objects of rule R84. -/
def romNamesR84 : List RomName := [
  ⟨0x0, 0x100, 0x0, 0xF, "order code"⟩,
  ⟨0x0, 0x101, 0x0, 0xF, "serial number"⟩,
  ⟨0x0, 0x102, 0x0, 0x0, "vendor identifier"⟩,
  ⟨0x0, 0x103, 0x0, 0x0, "device identifier"⟩,
  ⟨0x0, 0x110, 0x0, 0x0, "security version"⟩,
  ⟨0x0, 0x120, 0x0, 0x0, "next profile"⟩,
  ⟨0x0, 0x121, 0x0, 0x0, "active profile"⟩,
  ⟨0x0, 0x121, 0x1, 0x0, "profile source"⟩,
  ⟨0x0, 0x121, 0x2, 0x0, "partial apply"⟩,
  ⟨0x0, 0x121, 0x3, 0xB, "last apply"⟩,
  ⟨0x0, 0x122, 0x0, 0x0, "profile stores"⟩,
  ⟨0x0, 0x122, 0x1, 0x0, "profile entries ignored"⟩,
  ⟨0x0, 0x130, 0x0, 0x0, "QoS mode"⟩,
  ⟨0x0, 0x140, 0x0, 0xB, "chrysalis timeout"⟩,
  ⟨0x0, 0x141, 0x0, 0x0, "chrysalis order"⟩,
  ⟨0x0, 0x141, 0x1, 0x0, "in chrysalis"⟩,
  ⟨0x0, 0x150, 0x0, 0x0, "bound hosts"⟩,
  ⟨0x0, 0x160, 0x0, 0xB, "timebase now"⟩]

/-- The names of the objects of rule R85. -/
def romNamesR85 : List RomName := [
  ⟨0xE00, 0x100, 0x0, 0x0, "node identifier source"⟩,
  ⟨0xE00, 0x101, 0x0, 0x0, "node identifier"⟩,
  ⟨0xE00, 0x102, 0x0, 0x0, "PLCA node count"⟩,
  ⟨0xE00, 0x103, 0x0, 0x0, "PLCA burst count"⟩,
  ⟨0xE00, 0x110, 0x0, 0x0, "UDP port"⟩,
  ⟨0xE00, 0x111, 0x0, 0x0, "link-local address"⟩,
  ⟨0xE00, 0x120, 0x0, 0x0, "FM key hashes"⟩,
  ⟨0xE00, 0x121, 0x0, 0x0, "SVC key hash"⟩,
  ⟨0xE00, 0x122, 0x0, 0x0, "OBS key hashes"⟩,
  ⟨0xE00, 0x130, 0x0, 0xB, "session idle timeout"⟩,
  ⟨0xE00, 0x131, 0x0, 0x0, "open sessions"⟩,
  ⟨0xE00, 0x132, 0x0, 0x0, "session limit"⟩,
  ⟨0xE00, 0x16, 0x0, 0x0, "tag failures"⟩,
  ⟨0xE00, 0x17, 0x0, 0x0, "AUTH refusals"⟩]

/-- The names of the objects of rule R120. -/
def romNamesR120 : List RomName := [
  ⟨0x200, 0x16, 0x0, 0x0, "map cache hits"⟩,
  ⟨0x200, 0x17, 0x0, 0x0, "map cache misses"⟩,
  ⟨0x200, 0x18, 0x0, 0x0, "entry check failures"⟩,
  ⟨0x200, 0x19, 0x0, 0x0, "ungranted accesses"⟩,
  ⟨0x200, 0x1A, 0x0, 0x0, "writes held for space"⟩,
  ⟨0x200, 0x1B, 0x0, 0x0, "refused adds"⟩,
  ⟨0x200, 0x100, 0x0, 0x0, "mapped DLA extents"⟩,
  ⟨0x200, 0x100, 0x1, 0x0, "free map blocks"⟩,
  ⟨0x200, 0x101, 0x0, 0x0, "near assignable"⟩,
  ⟨0x200, 0x101, 0x1, 0x0, "far assignable"⟩,
  ⟨0x200, 0x140, 0x0, 0x0, "region command"⟩,
  ⟨0x200, 0x150, 0x0, 0x0, "region table"⟩,
  ⟨0x200, 0x151, 0x0, 0x0, "region usage"⟩,
  ⟨0x200, 0x160, 0x0, 0x0, "extent table of LDn"⟩,
  ⟨0x200, 0x200, 0x0, 0x0, "near share"⟩,
  ⟨0x200, 0x200, 0x1, 0x0, "far share"⟩,
  ⟨0x200, 0x200, 0x2, 0x0, "overcommit ratio"⟩,
  ⟨0x200, 0x200, 0x3, 0x0, "logical tiles"⟩,
  ⟨0x200, 0x200, 0x4, 0x0, "guaranteed tiles"⟩,
  ⟨0x200, 0x200, 0x5, 0x0, "spill granted"⟩,
  ⟨0x200, 0x200, 0x6, 0x0, "spill required"⟩,
  ⟨0x200, 0x200, 0x7, 0x0, "charged T0"⟩,
  ⟨0x200, 0x200, 0x8, 0x0, "charged T1"⟩,
  ⟨0x200, 0x200, 0x9, 0x0, "charged T2"⟩,
  ⟨0x200, 0x200, 0xA, 0x0, "charged T3"⟩]

/-- The names of the objects of rule R158. -/
def romNamesR158 : List RomName := [
  ⟨0x300, 0x16, 0x0, 0x0, "lines encoded"⟩,
  ⟨0x300, 0x17, 0x0, 0x0, "lines decoded"⟩,
  ⟨0x300, 0x18, 0x0, 0x0, "forwarded reads"⟩,
  ⟨0x300, 0x19, 0x0, 0x0, "elements saturated"⟩,
  ⟨0x300, 0x1A, 0x0, 0x0, "elements flushed"⟩,
  ⟨0x300, 0x1B, 0x0, 0x0, "non-finite lines"⟩,
  ⟨0x300, 0x1C, 0x0, 0x0, "generation mismatches"⟩,
  ⟨0x300, 0x110, 0x0, 0x0, "default table image"⟩,
  ⟨0x300, 0x140, 0x0, 0x0, "recode command"⟩,
  ⟨0x300, 0x141, 0x0, 0x0, "recode status"⟩,
  ⟨0x300, 0x200, 0x0, 0x0, "slot owner"⟩,
  ⟨0x300, 0x200, 0x1, 0x0, "slot state"⟩,
  ⟨0x300, 0x200, 0x2, 0x0, "generation"⟩,
  ⟨0x300, 0x200, 0x3, 0x0, "width"⟩,
  ⟨0x300, 0x200, 0x4, 0x0, "top exponent"⟩,
  ⟨0x300, 0x200, 0x5, 0x0, "region pointers"⟩,
  ⟨0x300, 0x200, 0x6, 0x0, "tile count"⟩,
  ⟨0x300, 0x200, 0x7, 0x0, "in-flight count"⟩,
  ⟨0x300, 0x200, 0x8, 0x0, "table image"⟩,
  ⟨0x300, 0x200, 0x9, 0x0, "commit"⟩]

/-- The names of the objects of rule R187. -/
def romNamesR187 : List RomName := [
  ⟨0x300, 0x1D, 0x0, 0x0, "leaves coded"⟩,
  ⟨0x300, 0x1E, 0x0, 0x0, "leaves stored raw"⟩,
  ⟨0x300, 0x1F, 0x0, 0x0, "planes stored raw"⟩,
  ⟨0x300, 0x20, 0x0, 0x0, "leaves decoded"⟩,
  ⟨0x300, 0x21, 0x0, 0x0, "plaintext bytes encoded"⟩,
  ⟨0x300, 0x22, 0x0, 0x0, "decode failures"⟩,
  ⟨0x300, 0x23, 0x0, 0x0, "generation mismatches"⟩,
  ⟨0x300, 0x24, 0x0, 0x0, "decode-bound wait"⟩,
  ⟨0x300, 0x25, 0x0, 0x0, "sectors written"⟩,
  ⟨0x300, 0x26, 0x0, 0x0, "panic-class leaves"⟩,
  ⟨0x300, 0x27, 0x0, 0x0, "engine busy time"⟩,
  ⟨0x300, 0x120, 0x0, 0x0, "minimum-gain threshold"⟩,
  ⟨0x300, 0x121, 0x0, 0x0, "planning engines"⟩,
  ⟨0x300, 0x300, 0x0, 0x0, "slot owner"⟩,
  ⟨0x300, 0x300, 0x1, 0x0, "slot state"⟩,
  ⟨0x300, 0x300, 0x2, 0x0, "generation"⟩,
  ⟨0x300, 0x300, 0x3, 0x0, "plane mask"⟩,
  ⟨0x300, 0x300, 0x5, 0x0, "region pointers"⟩,
  ⟨0x300, 0x300, 0x6, 0x0, "tile count"⟩,
  ⟨0x300, 0x300, 0x7, 0x0, "in-flight count"⟩,
  ⟨0x300, 0x300, 0x8, 0x0, "table image"⟩,
  ⟨0x300, 0x300, 0x9, 0x0, "commit"⟩]

/-- The names of the objects of rule R222. -/
def romNamesR222 : List RomName := [
  ⟨0x700, 0x16, 0x0, 0x0, "moves started"⟩,
  ⟨0x700, 0x17, 0x0, 0x0, "moves completed"⟩,
  ⟨0x700, 0x18, 0x0, 0x0, "moves aborted"⟩,
  ⟨0x700, 0x19, 0x0, 0x0, "aborted by writes"⟩,
  ⟨0x700, 0x1A, 0x0, 0x0, "aborted by resets"⟩,
  ⟨0x700, 0x1B, 0x0, 0x0, "aborted by errors"⟩,
  ⟨0x700, 0x1C, 0x0, 0x0, "aborted by release"⟩,
  ⟨0x700, 0x1D, 0x0, 0x0, "aborted, other"⟩,
  ⟨0x700, 0x1E, 0x0, 0x0, "bytes moved up"⟩,
  ⟨0x700, 0x1F, 0x0, 0x0, "bytes moved down"⟩,
  ⟨0x700, 0x20, 0x0, 0x0, "panic raises"⟩,
  ⟨0x700, 0x21, 0x0, 0x0, "transfer-bound wait"⟩,
  ⟨0x700, 0x22, 0x0, 0x0, "unreachable answers"⟩,
  ⟨0x700, 0x23, 0x0, 0x0, "T3 faults"⟩,
  ⟨0x700, 0x24, 0x0, 0x0, "tiles evacuated"⟩,
  ⟨0x700, 0x25, 0x0, 0x0, "write holds"⟩,
  ⟨0x700, 0x26, 0x0, 0x0, "record waits"⟩,
  ⟨0x700, 0x100, 0x0, 0xB, "epoch length"⟩,
  ⟨0x700, 0x101, 0x0, 0x0, "current epoch"⟩,
  ⟨0x700, 0x110, 0x0, 0x0, "policy thresholds"⟩,
  ⟨0x700, 0x111, 0x0, 0x0, "policy thresholds"⟩,
  ⟨0x700, 0x112, 0x0, 0x0, "policy thresholds"⟩,
  ⟨0x700, 0x113, 0x0, 0x0, "policy thresholds"⟩,
  ⟨0x700, 0x114, 0x0, 0x0, "policy thresholds"⟩,
  ⟨0x700, 0x115, 0x0, 0x0, "policy thresholds"⟩,
  ⟨0x700, 0x116, 0x0, 0x0, "policy thresholds"⟩,
  ⟨0x700, 0x117, 0x0, 0x0, "write-abort limit"⟩,
  ⟨0x700, 0x120, 0x0, 0x0, "records in use"⟩,
  ⟨0x700, 0x130, 0x0, 0x0, "policy mode of LDn"⟩,
  ⟨0x700, 0x130, 0x1, 0x0, "policy cluster of LDn"⟩,
  ⟨0x700, 0x140, 0x0, 0x0, "partitioned share of LDn"⟩,
  ⟨0x700, 0x150, 0x0, 0x0, "demote minimum"⟩,
  ⟨0x700, 0x150, 0x1, 0x0, "module share"⟩,
  ⟨0x700, 0x170, 0x0, 0x0, "evacuation state"⟩,
  ⟨0x700, 0x171, 0x0, 0x0, "tiles to evacuate"⟩,
  ⟨0x700, 0x172, 0x0, 0x0, "held-write limit"⟩,
  ⟨0x700, 0x180, 0x0, 0x0, "host-tier page table of LDn"⟩,
  ⟨0x700, 0x190, 0x0, 0x0, "move records"⟩]

/-- The names of the objects of rule R249. -/
def romNamesR249 : List RomName := [
  ⟨0x600, 0x16, 0x0, 0x0, "records written"⟩,
  ⟨0x600, 0x17, 0x0, 0x0, "stripes written"⟩,
  ⟨0x600, 0x18, 0x0, 0x0, "pad sectors"⟩,
  ⟨0x600, 0x19, 0x0, 0x0, "sectors rebuilt"⟩,
  ⟨0x600, 0x1A, 0x0, 0x0, "rebuild failures"⟩,
  ⟨0x600, 0x1B, 0x0, 0x0, "segments cleaned"⟩,
  ⟨0x600, 0x1C, 0x0, 0x0, "sectors copied by cleaning"⟩,
  ⟨0x600, 0x1D, 0x0, 0x0, "cleaning flips dropped"⟩,
  ⟨0x600, 0x1E, 0x0, 0x0, "floor waits"⟩,
  ⟨0x600, 0x100, 0x0, 0x0, "raw capacity"⟩,
  ⟨0x600, 0x101, 0x0, 0x0, "data capacity"⟩,
  ⟨0x600, 0x102, 0x0, 0x0, "payload capacity"⟩,
  ⟨0x600, 0x103, 0x0, 0x0, "free segments"⟩,
  ⟨0x600, 0x104, 0x0, 0x0, "usable segments"⟩,
  ⟨0x600, 0x105, 0x0, 0x0, "segment sequence"⟩,
  ⟨0x600, 0x120, 0x0, 0xB, "flush timeout"⟩,
  ⟨0x600, 0x130, 0x0, 0x0, "cleaning reserve"⟩,
  ⟨0x600, 0x131, 0x0, 0x0, "cleaning start"⟩,
  ⟨0x600, 0x132, 0x0, 0x0, "cleaning urgent"⟩,
  ⟨0x600, 0x133, 0x0, 0x0, "urgent minimum"⟩,
  ⟨0x600, 0x134, 0x0, 0x0, "floor"⟩,
  ⟨0x600, 0x150, 0x0, 0x0, "segment table"⟩]

/-- The names of the objects of rule R250. -/
def romNamesR250 : List RomName := [
  ⟨0x610, 0x30, 0x0, 0x0, "sectors read"⟩,
  ⟨0x610, 0x31, 0x0, 0x0, "sectors written"⟩,
  ⟨0x610, 0x32, 0x0, 0x0, "poison responses"⟩,
  ⟨0x610, 0x33, 0x0, 0x0, "CRC failures"⟩,
  ⟨0x610, 0x34, 0x0, 0x0, "completion timeouts"⟩,
  ⟨0x610, 0x35, 0x0, 0x0, "link downs"⟩,
  ⟨0x610, 0x100, 0x0, 0x0, "link width"⟩,
  ⟨0x610, 0x101, 0x0, 0x0, "link rate"⟩,
  ⟨0x610, 0x102, 0x0, 0x0, "module capacity"⟩,
  ⟨0x610, 0x103, 0x0, 0x0, "usable chunks"⟩,
  ⟨0x610, 0x104, 0x0, 0x0, "module identifiers"⟩,
  ⟨0x610, 0x105, 0x0, 0x0, "module serial"⟩,
  ⟨0x610, 0x110, 0x0, 0xB, "completion timeout"⟩]

/-- The names of the objects of rule R279. -/
def romNamesR279 : List RomName := [
  ⟨0x800, 0x120, 0x0, 0x0, "path availability"⟩,
  ⟨0x800, 0x121, 0x0, 0xB, "fixed move time"⟩,
  ⟨0x800, 0x122, 0x0, 0x0, "lead margin"⟩,
  ⟨0x800, 0x140, 0x0, 0x0, "schedule table"⟩,
  ⟨0x800, 0x150, 0x0, 0x0, "entry status"⟩,
  ⟨0x800, 0x160, 0x0, 0x0, "marker table"⟩,
  ⟨0x800, 0x170, 0x0, 0x0, "steep tallies"⟩]

/-- The names of the objects of rule R280. -/
def romNamesR280 : List RomName := [
  ⟨0x810, 0x13, 0x0, 0x0, "late events"⟩,
  ⟨0x810, 0x16, 0x0, 0x0, "advances"⟩,
  ⟨0x810, 0x17, 0x0, 0x0, "refused advances"⟩,
  ⟨0x810, 0x18, 0x0, 0x0, "rewinds"⟩,
  ⟨0x810, 0x19, 0x0, 0x0, "lateness total"⟩,
  ⟨0x810, 0x1A, 0x0, 0x0, "late limit exceeded"⟩,
  ⟨0x810, 0x1B, 0x0, 0x0, "entries fired"⟩,
  ⟨0x810, 0x100, 0x0, 0xC, "position"⟩,
  ⟨0x810, 0x101, 0x0, 0x0, "mode"⟩,
  ⟨0x810, 0x102, 0x0, 0x0, "propagation source"⟩,
  ⟨0x810, 0x110, 0x0, 0x0, "layers per step"⟩,
  ⟨0x810, 0x111, 0x0, 0x0, "layer class map"⟩,
  ⟨0x810, 0x112, 0x0, 0xB, "layer times"⟩,
  ⟨0x810, 0x113, 0x0, 0x0, "maximum lead"⟩,
  ⟨0x810, 0x114, 0x0, 0xB, "late limit"⟩]

/-- The names of the objects of rule R316. -/
def romNamesR316 : List RomName := [
  ⟨0x900, 0x16, 0x0, 0x0, "attaches"⟩,
  ⟨0x900, 0x17, 0x0, 0x0, "publishes"⟩,
  ⟨0x900, 0x18, 0x0, 0x0, "conflicts"⟩,
  ⟨0x900, 0x19, 0x0, 0x0, "copies"⟩,
  ⟨0x900, 0x1A, 0x0, 0x0, "reverted tiles"⟩,
  ⟨0x900, 0x1B, 0x0, 0x0, "instars reclaimed"⟩,
  ⟨0x900, 0x1C, 0x0, 0x0, "versions freed"⟩,
  ⟨0x900, 0x1D, 0x0, 0x0, "unattached accesses"⟩,
  ⟨0x900, 0x1E, 0x0, 0x0, "version-space holds"⟩,
  ⟨0x900, 0x1F, 0x0, 0x0, "salvages"⟩,
  ⟨0x900, 0x20, 0x0, 0x0, "salvages ended"⟩,
  ⟨0x900, 0x100, 0x0, 0x0, "version records in use"⟩,
  ⟨0x900, 0x100, 0x1, 0x0, "version record capacity"⟩,
  ⟨0x900, 0x110, 0x0, 0xB, "salvage timeout"⟩,
  ⟨0x900, 0x140, 0x0, 0x0, "instar command"⟩,
  ⟨0x900, 0x150, 0x0, 0x0, "shared region table"⟩,
  ⟨0x900, 0x151, 0x0, 0x0, "attachment table"⟩,
  ⟨0x900, 0x152, 0x0, 0x0, "instar table"⟩,
  ⟨0x900, 0x160, 0x0, 0x0, "result of LDn"⟩,
  ⟨0x900, 0x170, 0x0, 0x0, "conflict list of LDn"⟩]

/-- The names of the objects of rule R354. -/
def romNamesR354 : List RomName := [
  ⟨0x400, 0x16, 0x0, 0x0, "units enciphered"⟩,
  ⟨0x400, 0x17, 0x0, 0x0, "units deciphered"⟩,
  ⟨0x400, 0x18, 0x0, 0x0, "stale-key accesses"⟩,
  ⟨0x400, 0x100, 0x0, 0x0, "DRBG reseeds"⟩,
  ⟨0x400, 0x140, 0x0, 0x0, "key command"⟩,
  ⟨0x400, 0x141, 0x0, 0xD, "created binding"⟩,
  ⟨0x400, 0x150, 0x0, 0x0, "key slot table"⟩]

/-- The names of the objects of rule R356. -/
def romNamesR356 : List RomName := [
  ⟨0xD00, 0x180, 0x0, 0x0, "running slot"⟩,
  ⟨0xD00, 0x180, 0x1, 0x0, "boot reason"⟩,
  ⟨0xD00, 0x180, 0x2, 0x0, "trial"⟩,
  ⟨0xD00, 0x181, 0x0, 0x0, "slot versions"⟩,
  ⟨0xD00, 0x182, 0x0, 0x0, "staging"⟩,
  ⟨0xD00, 0x183, 0x0, 0x0, "update command"⟩,
  ⟨0xD00, 0x184, 0x0, 0x0, "update status"⟩,
  ⟨0xD00, 0x185, 0x0, 0x0, "measurements"⟩,
  ⟨0xD00, 0x186, 0x0, 0x0, "certificate chain"⟩,
  ⟨0xD00, 0x187, 0x0, 0x0, "key revocation"⟩]

/-- The names of the objects of rule R391. -/
def romNamesR391 : List RomName := [
  ⟨0xA40, 0x16, 0x0, 0x0, "instructions issued"⟩,
  ⟨0xA40, 0x17, 0x0, 0x0, "array cycles"⟩,
  ⟨0xA40, 0x18, 0x0, 0x0, "vector operations"⟩,
  ⟨0xA40, 0x19, 0x0, 0x0, "tile-fetch lines"⟩,
  ⟨0xA40, 0x1A, 0x0, 0x0, "valid-bit wait"⟩,
  ⟨0xA40, 0x1B, 0x0, 0x0, "scrubs"⟩,
  ⟨0xA40, 0x1C, 0x0, 0x0, "scrub time"⟩,
  ⟨0xA40, 0x1D, 0x0, 0x0, "non-finite weight lines"⟩,
  ⟨0xA40, 0x100, 0x0, 0x0, "assignment"⟩,
  ⟨0xA40, 0x101, 0x0, 0x0, "home blocks"⟩,
  ⟨0xA40, 0x102, 0x0, 0x0, "context"⟩,
  ⟨0xA40, 0x103, 0x0, 0x0, "home blocks in use"⟩,
  ⟨0xA40, 0x104, 0x0, 0x0, "lookup slot"⟩,
  ⟨0xA40, 0x104, 0x1, 0x0, "lookup generation"⟩,
  ⟨0xA40, 0x105, 0x0, 0x0, "non-finite weight seen"⟩]

/-- The names of the objects of rule R392. -/
def romNamesR392 : List RomName := [
  ⟨0xB00, 0x16, 0x0, 0x0, "window check failures"⟩,
  ⟨0xB00, 0x17, 0x0, 0x0, "home check failures"⟩,
  ⟨0xB00, 0x100, 0x0, 0x0, "caddy partition of LDn"⟩,
  ⟨0xB00, 0x110, 0x0, 0x0, "partition in use of LDn"⟩]

/-- The names of the objects of rule R456. -/
def romNamesR456 : List RomName := [
  ⟨0xA00, 0x1E, 0x0, 0x0, "runs started"⟩,
  ⟨0xA00, 0x1F, 0x0, 0x0, "runs done"⟩,
  ⟨0xA00, 0x20, 0x0, 0x0, "runs stopped"⟩,
  ⟨0xA00, 0x21, 0x0, 0x0, "firings refused"⟩,
  ⟨0xA00, 0x22, 0x0, 0x0, "cluster wait"⟩,
  ⟨0xA00, 0x140, 0x0, 0x0, "job command"⟩,
  ⟨0xA00, 0x150, 0x0, 0x0, "descriptors"⟩,
  ⟨0xA00, 0x151, 0x0, 0x0, "job status"⟩,
  ⟨0xA00, 0x152, 0x0, 0x0, "exception records"⟩]

/-- The names of the objects of rule R501. -/
def romNamesR501 : List RomName := [
  ⟨0x500, 0x100, 0x0, 0x0, "channel parity"⟩,
  ⟨0x500, 0x100, 0x1, 0x0, "parity in force"⟩,
  ⟨0x500, 0x101, 0x0, 0x0, "correction limit"⟩,
  ⟨0x500, 0x102, 0x0, 0x0, "device-loss count"⟩,
  ⟨0x500, 0x103, 0x0, 0x0, "high-temperature threshold"⟩,
  ⟨0x500, 0x110, 0x0, 0x0, "segment states"⟩,
  ⟨0x500, 0x120, 0x0, 0x0, "disturbance threshold"⟩,
  ⟨0x500, 0x120, 0x1, 0x0, "disturbance limit"⟩,
  ⟨0x500, 0x121, 0x0, 0xB, "throttle interval"⟩,
  ⟨0x500, 0x130, 0x0, 0x0, "panic levels"⟩,
  ⟨0x500, 0x131, 0x0, 0xB, "aging limit"⟩,
  ⟨0x500, 0x140, 0x0, 0x0, "remap trigger"⟩,
  ⟨0x500, 0x150, 0x0, 0xB, "patrol period"⟩]

/-- The names of the objects of rule R502. -/
def romNamesR502 : List RomName := [
  ⟨0x510, 0x16, 0x0, 0x0, "granules read"⟩,
  ⟨0x510, 0x17, 0x0, 0x0, "granules written"⟩,
  ⟨0x510, 0x18, 0x0, 0x0, "forwarded reads"⟩,
  ⟨0x510, 0x19, 0x0, 0x0, "activates"⟩,
  ⟨0x510, 0x1A, 0x0, 0x0, "page hits"⟩,
  ⟨0x510, 0x1B, 0x0, 0x0, "page conflicts"⟩,
  ⟨0x510, 0x1C, 0x0, 0x0, "refresh time"⟩,
  ⟨0x510, 0x1D, 0x0, 0x0, "refresh-delayed requests"⟩,
  ⟨0x510, 0x1E, 0x0, 0x0, "corrected granules"⟩,
  ⟨0x510, 0x1F, 0x0, 0x0, "corrected bytes"⟩,
  ⟨0x510, 0x20, 0x0, 0x0, "uncorrectable granules"⟩,
  ⟨0x510, 0x21, 0x0, 0x0, "replays"⟩,
  ⟨0x510, 0x22, 0x0, 0x0, "CRC retries"⟩,
  ⟨0x510, 0x23, 0x0, 0x0, "neighbour refreshes"⟩,
  ⟨0x510, 0x24, 0x0, 0x0, "throttle wait"⟩,
  ⟨0x510, 0x25, 0x0, 0x0, "panic time"⟩,
  ⟨0x510, 0x26, 0x0, 0x0, "parity rebuilds"⟩,
  ⟨0x510, 0x100, 0x0, 0x0, "device temperature"⟩,
  ⟨0x510, 0x101, 0x0, 0x0, "spare rows in use"⟩,
  ⟨0x510, 0x102, 0x0, 0x0, "remap table"⟩,
  ⟨0x510, 0x103, 0x0, 0xB, "refresh interval"⟩,
  ⟨0x510, 0x104, 0x0, 0x0, "training margins"⟩,
  ⟨0x510, 0x110, 0x0, 0x0, "hit limit"⟩,
  ⟨0x510, 0x120, 0x0, 0x0, "pattern generator"⟩,
  ⟨0x510, 0x121, 0x0, 0x0, "comparator"⟩]

/-- The names of the objects of rule R535. -/
def romNamesR535 : List RomName := [
  ⟨0x100, 0x16, 0x0, 0x0, "CXL.mem reads"⟩,
  ⟨0x100, 0x17, 0x0, 0x0, "CXL.mem writes"⟩,
  ⟨0x100, 0x100, 0x0, 0x0, "leg mode"⟩,
  ⟨0x100, 0x100, 0x1, 0x0, "leg mode in force"⟩]

/-- The names of the objects of rule R536. -/
def romNamesR536 : List RomName := [
  ⟨0x101, 0x30, 0x0, 0x0, "flits replayed"⟩,
  ⟨0x101, 0x31, 0x0, 0x0, "flit CRC errors"⟩,
  ⟨0x101, 0x32, 0x0, 0x0, "FEC corrections"⟩,
  ⟨0x101, 0x33, 0x0, 0x0, "link downs"⟩,
  ⟨0x101, 0x34, 0x0, 0x0, "requests resent"⟩,
  ⟨0x101, 0x100, 0x0, 0x0, "link width"⟩,
  ⟨0x101, 0x101, 0x0, 0x0, "link rate"⟩,
  ⟨0x101, 0x102, 0x0, 0x0, "LTSSM state"⟩]

/-- The names of the objects of rule R537. -/
def romNamesR537 : List RomName := [
  ⟨0x110, 0x16, 0x0, 0x0, "line reads"⟩,
  ⟨0x110, 0x17, 0x0, 0x0, "line writes"⟩,
  ⟨0x110, 0x18, 0x0, 0x0, "DMA reads"⟩,
  ⟨0x110, 0x19, 0x0, 0x0, "DMA writes"⟩,
  ⟨0x110, 0x1A, 0x0, 0x0, "completions dropped"⟩,
  ⟨0x110, 0x1B, 0x0, 0x0, "completion timeouts"⟩,
  ⟨0x110, 0x1C, 0x0, 0x0, "invalidations"⟩,
  ⟨0x110, 0x1D, 0x0, 0x0, "translation requests"⟩,
  ⟨0x110, 0x1E, 0x0, 0x0, "FLRs"⟩,
  ⟨0x110, 0x100, 0x0, 0x0, "power state"⟩,
  ⟨0x110, 0x101, 0x0, 0x0, "preferred leg"⟩,
  ⟨0x110, 0x102, 0x0, 0x0, "IDE in force"⟩,
  ⟨0x110, 0x103, 0x0, 0x0, "bus master enable"⟩]

/-- The names of the objects of rule R564. -/
def romNamesR564 : List RomName := [
  ⟨0xC00, 0x16, 0x0, 0x0, "remote reads served"⟩,
  ⟨0xC00, 0x17, 0x0, 0x0, "remote writes served"⟩,
  ⟨0xC00, 0x18, 0x0, 0x0, "remote reads issued"⟩,
  ⟨0xC00, 0x19, 0x0, 0x0, "remote writes issued"⟩,
  ⟨0xC00, 0x1A, 0x0, 0x0, "packets forwarded"⟩,
  ⟨0xC00, 0x1B, 0x0, 0x0, "unreachable answers"⟩,
  ⟨0xC00, 0x100, 0x0, 0x0, "span identifier"⟩,
  ⟨0xC00, 0x101, 0x0, 0x0, "member number"⟩,
  ⟨0xC00, 0x102, 0x0, 0x0, "expected members"⟩,
  ⟨0xC00, 0x103, 0x0, 0x0, "reachable members"⟩,
  ⟨0xC00, 0x104, 0x0, 0x0, "coordinator"⟩,
  ⟨0xC00, 0x105, 0x0, 0x0, "routes"⟩,
  ⟨0xC00, 0x110, 0x0, 0x0, "offsets"⟩,
  ⟨0xC00, 0x111, 0x0, 0xB, "offset time"⟩,
  ⟨0xC00, 0x112, 0x0, 0xB, "offset uncertainty"⟩,
  ⟨0xC00, 0x113, 0x0, 0x0, "measure"⟩,
  ⟨0xC00, 0x121, 0x0, 0xB, "request timeout"⟩,
  ⟨0xC00, 0x130, 0x0, 0x0, "guest reserve"⟩,
  ⟨0xC00, 0x140, 0x0, 0x0, "evacuation command"⟩,
  ⟨0xC00, 0x141, 0x0, 0x0, "evacuation status"⟩]

/-- The names of the objects of rule R565. -/
def romNamesR565 : List RomName := [
  ⟨0xC10, 0x30, 0x0, 0x0, "flits sent"⟩,
  ⟨0xC10, 0x31, 0x0, 0x0, "flits accepted"⟩,
  ⟨0xC10, 0x32, 0x0, 0x0, "FEC symbols corrected"⟩,
  ⟨0xC10, 0x33, 0x0, 0x0, "uncorrectable codewords"⟩,
  ⟨0xC10, 0x34, 0x0, 0x0, "CRC failures"⟩,
  ⟨0xC10, 0x35, 0x0, 0x0, "NAKs sent"⟩,
  ⟨0xC10, 0x36, 0x0, 0x0, "replays"⟩,
  ⟨0xC10, 0x37, 0x0, 0x0, "retrains"⟩,
  ⟨0xC10, 0x100, 0x0, 0x0, "width"⟩,
  ⟨0xC10, 0x101, 0x0, 0x0, "lane mask"⟩,
  ⟨0xC10, 0x102, 0x0, 0x0, "peer"⟩]

/-- The names of the objects of rule R583. -/
def romNamesR583 : List RomName := [
  ⟨0xD20, 0x16, 0x0, 0x0, "point changes"⟩,
  ⟨0xD20, 0x17, 0x0, 0x0, "cap-limited time"⟩,
  ⟨0xD20, 0x18, 0x0, 0x0, "thermal-limited time"⟩,
  ⟨0xD20, 0x19, 0x0, 0x0, "deep idle entries"⟩,
  ⟨0xD20, 0x1A, 0x0, 0x0, "deep idle time"⟩,
  ⟨0xD20, 0x1B, 0x0, 0x0, "deep idle cancellations"⟩,
  ⟨0xD20, 0x1C, 0x0, 0x0, "clock stretches"⟩,
  ⟨0xD20, 0x100, 0x0, 0x0, "operating point"⟩,
  ⟨0xD20, 0x101, 0x0, 0x0, "ceiling"⟩,
  ⟨0xD20, 0x110, 0x0, 0x0, "spread"⟩,
  ⟨0xD20, 0x140, 0x0, 0x0, "power cap"⟩,
  ⟨0xD20, 0x140, 0x1, 0x0, "input power, 1 s"⟩,
  ⟨0xD20, 0x140, 0x2, 0x0, "input power, 100 µs"⟩,
  ⟨0xD20, 0x140, 0x3, 0x0, "input voltage"⟩,
  ⟨0xD20, 0x150, 0x0, 0x0, "deep idle allowed"⟩,
  ⟨0xD20, 0x150, 0x1, 0xB, "idle time before entry"⟩,
  ⟨0xD20, 0x150, 0x2, 0x0, "wake threshold"⟩,
  ⟨0xD20, 0x150, 0x3, 0xB, "channel idle"⟩,
  ⟨0xD20, 0x151, 0x0, 0x0, "power state"⟩,
  ⟨0xD20, 0x160, 0x0, 0x0, "die temperatures"⟩,
  ⟨0xD20, 0x161, 0x0, 0x0, "throttle threshold"⟩,
  ⟨0xD20, 0x161, 0x1, 0x0, "critical threshold"⟩]

/-- The names of the objects of rule R601. -/
def romNamesR601 : List RomName := [
  ⟨0x101, 0x60, 0x0, 0x0, "mode"⟩,
  ⟨0x610, 0x60, 0x0, 0x0, "mode"⟩,
  ⟨0xC10, 0x60, 0x0, 0x0, "mode"⟩,
  ⟨0xE00, 0x60, 0x0, 0x0, "mode"⟩,
  ⟨0x101, 0x61, 0x0, 0x0, "trigger"⟩,
  ⟨0x610, 0x61, 0x0, 0x0, "trigger"⟩,
  ⟨0xC10, 0x61, 0x0, 0x0, "trigger"⟩,
  ⟨0xE00, 0x61, 0x0, 0x0, "trigger"⟩,
  ⟨0x101, 0x62, 0x0, 0x0, "rate"⟩,
  ⟨0x610, 0x62, 0x0, 0x0, "rate"⟩,
  ⟨0xC10, 0x62, 0x0, 0x0, "rate"⟩,
  ⟨0xE00, 0x62, 0x0, 0x0, "rate"⟩,
  ⟨0x101, 0x63, 0x0, 0x0, "count"⟩,
  ⟨0x610, 0x63, 0x0, 0x0, "count"⟩,
  ⟨0xC10, 0x63, 0x0, 0x0, "count"⟩,
  ⟨0xE00, 0x63, 0x0, 0x0, "count"⟩,
  ⟨0x101, 0x64, 0x0, 0x0, "bit pattern"⟩,
  ⟨0x610, 0x64, 0x0, 0x0, "bit pattern"⟩,
  ⟨0xC10, 0x64, 0x0, 0x0, "bit pattern"⟩,
  ⟨0xE00, 0x64, 0x0, 0x0, "bit pattern"⟩,
  ⟨0x101, 0x65, 0x0, 0x0, "lane"⟩,
  ⟨0x610, 0x65, 0x0, 0x0, "lane"⟩,
  ⟨0xC10, 0x65, 0x0, 0x0, "lane"⟩,
  ⟨0xE00, 0x65, 0x0, 0x0, "lane"⟩,
  ⟨0x101, 0x66, 0x0, 0x0, "window"⟩,
  ⟨0x610, 0x66, 0x0, 0x0, "window"⟩,
  ⟨0xC10, 0x66, 0x0, 0x0, "window"⟩,
  ⟨0xE00, 0x66, 0x0, 0x0, "window"⟩,
  ⟨0x101, 0x67, 0x0, 0x0, "seed"⟩,
  ⟨0x610, 0x67, 0x0, 0x0, "seed"⟩,
  ⟨0xC10, 0x67, 0x0, 0x0, "seed"⟩,
  ⟨0xE00, 0x67, 0x0, 0x0, "seed"⟩,
  ⟨0x101, 0x68, 0x0, 0x0, "armed"⟩,
  ⟨0x610, 0x68, 0x0, 0x0, "armed"⟩,
  ⟨0xC10, 0x68, 0x0, 0x0, "armed"⟩,
  ⟨0xE00, 0x68, 0x0, 0x0, "armed"⟩,
  ⟨0x101, 0x69, 0x0, 0x0, "injected"⟩,
  ⟨0x610, 0x69, 0x0, 0x0, "injected"⟩,
  ⟨0xC10, 0x69, 0x0, 0x0, "injected"⟩,
  ⟨0xE00, 0x69, 0x0, 0x0, "injected"⟩,
  ⟨0x101, 0x6A, 0x0, 0x0, "recoveries"⟩,
  ⟨0x610, 0x6A, 0x0, 0x0, "recoveries"⟩,
  ⟨0xC10, 0x6A, 0x0, 0x0, "recoveries"⟩,
  ⟨0xE00, 0x6A, 0x0, 0x0, "recoveries"⟩,
  ⟨0x101, 0x6B, 0x0, 0x0, "state"⟩,
  ⟨0x610, 0x6B, 0x0, 0x0, "state"⟩,
  ⟨0xC10, 0x6B, 0x0, 0x0, "state"⟩,
  ⟨0xE00, 0x6B, 0x0, 0x0, "state"⟩]

/-- The names of the objects of rule R604. -/
def romNamesR604 : List RomName := [
  ⟨0xF80, 0x16, 0x0, 0x0, "entries logged"⟩,
  ⟨0xF80, 0x17, 0x0, 0x0, "tiles poisoned"⟩,
  ⟨0xF80, 0x18, 0x0, 0x0, "tiles cleared"⟩,
  ⟨0xF80, 0x19, 0x0, 0x0, "poison answers"⟩,
  ⟨0xF80, 0x1A, 0x0, 0x0, "entries lost"⟩,
  ⟨0xF80, 0x1B, 0x0, 0x0, "contained stops"⟩,
  ⟨0xF80, 0x1C, 0x0, 0x0, "writes held for a poison record"⟩,
  ⟨0xF80, 0x100, 0x0, 0x0, "poisoned tiles now"⟩,
  ⟨0xF80, 0x101, 0x0, 0x0, "FAULT_N causes"⟩,
  ⟨0xF80, 0x140, 0x0, 0x0, "error log"⟩,
  ⟨0xF80, 0x141, 0x0, 0x0, "newest sequence"⟩,
  ⟨0xF80, 0x150, 0x0, 0x0, "poison records"⟩,
  ⟨0xF80, 0x160, 0x0, 0x0, "repair map"⟩,
  ⟨0xF80, 0x161, 0x0, 0x0, "error history"⟩,
  ⟨0xF80, 0x170, 0x0, 0x0, "RAS command"⟩]

/-- The names of the objects of rule R605. -/
def romNamesR605 : List RomName := [
  ⟨0xD10, 0x30, 0x0, 0x0, "restarts"⟩,
  ⟨0xD10, 0x100, 0x0, 0xB, "watchdog timeout"⟩,
  ⟨0xD10, 0x120, 0x0, 0x0, "debug access"⟩,
  ⟨0xD10, 0x124, 0x0, 0x0, "debug command"⟩,
  ⟨0xD10, 0x125, 0x0, 0x0, "debug halt"⟩]

/-- The names of the objects of rule R623. -/
def romNamesR623 : List RomName := [
  ⟨0xF00, 0x16, 0x0, 0x0, "events logged"⟩,
  ⟨0xF00, 0x17, 0x0, 0x0, "trace records"⟩,
  ⟨0xF00, 0x19, 0x0, 0x0, "freezes"⟩,
  ⟨0xF00, 0x1A, 0x0, 0x0, "triggers ignored"⟩,
  ⟨0xF00, 0x1B, 0x0, 0x0, "snapshots"⟩,
  ⟨0xF00, 0x1C, 0x0, 0x0, "dumps"⟩,
  ⟨0xF00, 0x1D, 0x0, 0x0, "dump failures"⟩,
  ⟨0xF00, 0x110, 0x0, 0x0, "freeze state"⟩,
  ⟨0xF00, 0x110, 0x1, 0xB, "freeze tick"⟩,
  ⟨0xF00, 0x110, 0x2, 0x0, "freeze source"⟩,
  ⟨0xF00, 0x111, 0x0, 0x0, "freeze command"⟩,
  ⟨0xF00, 0x112, 0x0, 0x0, "freeze sources"⟩,
  ⟨0xF00, 0x113, 0x0, 0xB, "span freeze lead"⟩,
  ⟨0xF00, 0x120, 0x0, 0x0, "snapshot command"⟩,
  ⟨0xF00, 0x121, 0x0, 0x0, "snapshot state"⟩,
  ⟨0xF00, 0x122, 0x0, 0x0, "snapshot sources"⟩,
  ⟨0xF00, 0x140, 0x0, 0x0, "event log"⟩,
  ⟨0xF00, 0x141, 0x0, 0x0, "newest event"⟩,
  ⟨0xF00, 0x160, 0x0, 0x0, "snapshot"⟩,
  ⟨0xF00, 0x170, 0x0, 0x0, "trace rings"⟩,
  ⟨0xF00, 0x180, 0x0, 0x0, "watch table"⟩,
  ⟨0xF00, 0x181, 0x0, 0x0, "watch status"⟩]

/-- The names of the objects of rule R624. -/
def romNamesR624 : List RomName := [
  ⟨0x0, 0x80, 0x0, 0x0, "trace enable"⟩,
  ⟨0x0, 0x81, 0x0, 0xB, "minimum wait"⟩,
  ⟨0x0, 0x82, 0x0, 0x0, "records written"⟩,
  ⟨0x0, 0x83, 0x0, 0x0, "records lost"⟩,
  ⟨0x0, 0x88, 0x0, 0x0, "frozen image"⟩]

/-- The names of the objects of rule R644. -/
def romNamesR644 : List RomName := [
  ⟨0x0, 0x170, 0x0, 0x0, "slew, PWRGD"⟩,
  ⟨0x0, 0x170, 0x1, 0x0, "slew, FAULT_N, THERM_N, WAKE_N"⟩,
  ⟨0x0, 0x170, 0x2, 0x0, "slew, FPERST_N of all far ports"⟩,
  ⟨0x0, 0x172, 0x0, 0x0, "sampled pins"⟩,
  ⟨0x0, 0x173, 0x0, 0x0, "reference status"⟩,
  ⟨0xE00, 0x140, 0x0, 0x0, "segment termination"⟩]

/-- The names of the objects of rule R355. -/
def romNamesR355 : List RomName := [
  ⟨0x0, 0x131, 0x0, 0x0, "QoS mode in force"⟩,
  ⟨0x0, 0x132, 0x0, 0x0, "slot map"⟩,
  ⟨0x110, 0x180, 0x0, 0x0, "injection consent"⟩,
  ⟨0xB00, 0x120, 0x0, 0x0, "fuse map"⟩]

/-- The names of the objects of rule R42. -/
def romNamesR42 : List RomName := [
  ⟨0x0, 0x0, 0x0, 0x0, "unit class"⟩,
  ⟨0x0, 0x0, 0x1, 0x0, "unit number"⟩,
  ⟨0x0, 0x0, 0x2, 0xF, "name"⟩,
  ⟨0x0, 0x0, 0x3, 0x0, "hardware revision"⟩,
  ⟨0x0, 0x0, 0x4, 0x0, "firmware version"⟩,
  ⟨0x0, 0x1, 0x0, 0x0, "requested state"⟩,
  ⟨0x0, 0x3, 0x0, 0x0, "state generation"⟩,
  ⟨0x0, 0x4, 0x0, 0xB, "divergence limit"⟩,
  ⟨0x0, 0x5, 0x0, 0x0, "owner"⟩,
  ⟨0x0, 0x6, 0x0, 0x0, "observer mask"⟩,
  ⟨0x0, 0x10, 0x0, 0xB, "busy time"⟩,
  ⟨0x0, 0x11, 0x0, 0x0, "corrected errors"⟩,
  ⟨0x0, 0x12, 0x0, 0x0, "uncorrected errors"⟩,
  ⟨0x0, 0x13, 0x0, 0x0, "late events"⟩,
  ⟨0x0, 0x14, 0x0, 0x0, "divergence events"⟩,
  ⟨0x0, 0x15, 0x0, 0x0, "state changes"⟩,
  ⟨0x0, 0x16, 0x0, 0x0, "class counters"⟩,
  ⟨0x0, 0x40, 0x0, 0x0, "child count"⟩,
  ⟨0x0, 0x40, 0x1, 0x0, "children"⟩,
  ⟨0x0, 0x41, 0x0, 0x0, "parent"⟩,
  ⟨0x0, 0x2, 0x0, 0x0, "actual state"⟩,
  ⟨0x0, 0x2, 0x1, 0x0, "actual state"⟩,
  ⟨0x0, 0x2, 0x2, 0x0, "actual state"⟩,
  ⟨0x0, 0x2, 0x3, 0xB, "actual state"⟩,
  ⟨0x0, 0x2, 0x4, 0x0, "actual state"⟩,
  ⟨0x0, 0x2, 0x5, 0x0, "actual state"⟩,
  ⟨0x0, 0x2, 0x6, 0x0, "actual state"⟩,
  ⟨0x0, 0x8, 0x0, 0x0, "last event"⟩,
  ⟨0x0, 0x8, 0x1, 0xB, "last event"⟩,
  ⟨0x0, 0x8, 0x2, 0x0, "last event"⟩,
  ⟨0x0, 0x8, 0x3, 0x0, "last event"⟩]

/-- Every name, in the order of `objectTables`. -/
def romNames : List RomName :=
  romNamesR84 ++ romNamesR85 ++ romNamesR120 ++ romNamesR158 ++ romNamesR187 ++ romNamesR222 ++ romNamesR249 ++
    romNamesR250 ++ romNamesR279 ++ romNamesR280 ++ romNamesR316 ++ romNamesR354 ++ romNamesR356 ++ romNamesR391 ++
    romNamesR392 ++ romNamesR456 ++ romNamesR501 ++ romNamesR502 ++ romNamesR535 ++ romNamesR536 ++ romNamesR537 ++
    romNamesR564 ++ romNamesR565 ++ romNamesR583 ++ romNamesR601 ++ romNamesR604 ++ romNamesR605 ++ romNamesR623 ++
    romNamesR624 ++ romNamesR644 ++ romNamesR355 ++ romNamesR42

end Sys2Proof.Machine
end

