-- ==== Sys2Proof/Machine/Rom.lean ====
section
/-!
DEFINITION. The expansion ROM window of an LD (15 R510, R518, R519, 00 R22): the data image with the identity block and the
schema of every object, and the UEFI driver's image. Where the spec names no offset the choice is that of log entry 48.
-/
namespace Sys2Proof.Machine

/-! ## The schema (15 R519) -/

/-- A member that the schema describes, under the first unit of its range. -/
structure RomMember where
  unit : Nat
  obj : Nat
  mem : Nat
  row : Row
deriving DecidableEq, Repr

/-- The first unit of every range, in ascending order. -/
def firstUnits : List Nat := allUnits.filter (fun u => unitClass u == u)

/-- The members of every object, in ascending order of unit, object and member. -/
def romMembers : List RomMember :=
  firstUnits.flatMap (fun u => (List.range 0x1000).flatMap (fun o =>
    if hasObject u o then (List.range 256).filterMap (fun m => (rowOf u o m).map (fun r => ⟨u, o, m, r⟩)) else []))

/-- What the Name column holds for a row. -/
def Row.romName (r : Row) : Option RomName :=
  romNames.find? (fun n => n.unit == r.uLo && n.obj == r.oLo && n.mem == r.mLo)

/-- The type code of a row. -/
def Row.romType (r : Row) : Nat :=
  let c := (r.romName.map (·.code)).getD 0
  if c ≠ 0 then c else match r.ty with
    | .bool => 1
    | .num n => if n = 1 then 2 else if n = 2 then 3 else if n = 4 then 4 else 5
    | .signed n => if n = 1 then 6 else if n = 2 then 7 else if n = 4 then 8 else 9
    | .bytes _ => 0x0E

/-- A role's two bits. -/
def Right.code : Right → Nat
  | .no => 0
  | .ro => 1
  | .rw => 2

/-- The rights byte: FM, OWN, OBS and SVC from the least significant bits up. -/
def Row.romRights (r : Row) : Nat := r.fm.code + 4 * r.own.code + 16 * r.obs.code + 64 * r.svc.code

/-- The persistence byte. -/
def Row.romPersist (r : Row) : Nat :=
  (match r.persist with
    | .volatile => 0
    | .profile => 1
    | .fuse => 2) + 128 * b2n r.live

/-- The bytes of a default longer than 8 bytes that is not all zeros: a unit's name, the slot map (10 R355), the default codec tables (04
R143, R158), the region table, which holds the default regions (03 R120). -/
def poolDefault (u o m : Nat) : Option Bytes :=
  if o = 0 ∧ m = 2 then some (strBytes 16 (unitName u))
  else if u = 0 ∧ o = 0x132 then some (List.replicate 256 0xFF)
  else if u = 0x300 ∧ 0x110 ≤ o ∧ o ≤ 0x118 then some (tableImage (defaultTable (o - 0x110)))
  else if u = 0x200 ∧ o = 0x150 then
    some ((List.range 16).flatMap (fun r => (defaultRegion r).bytes) ++ zeros (64 * 4080))
  else none

/-- The bytes of a name in the string pool. -/
def RomName.text (n : RomName) : Bytes := n.name.toUTF8.toList.map (fun b => BitVec.ofNat 8 b.toNat) ++ [0]

/-- The string pool: the names in the order of the tables. -/
def romStrings : Bytes := romNames.flatMap RomName.text

/-- Where a row's name begins in the string pool. -/
def Row.nameOffset (r : Row) : Nat :=
  ((romNames.takeWhile (fun n => !(n.unit == r.uLo && n.obj == r.oLo && n.mem == r.mLo))).flatMap RomName.text).length

/-- Where the default of a member begins in the default pool, which holds them in the order of the schema. -/
def RomMember.poolOffset (x : RomMember) : Nat :=
  (((romMembers.takeWhile (· != x)).filterMap (fun y => poolDefault y.unit y.obj y.mem)).map List.length).sum

/-- The default field: the value up to 8 bytes, a place in the default pool, or all zeros. -/
def RomMember.default_ (x : RomMember) : Nat :=
  if x.row.ty.size ≤ 8 then x.row.dflt
  else if (poolDefault x.unit x.obj x.mem).isSome then x.poolOffset else 2 ^ 64 - 1

/-- The default pool. -/
def romDefaults : Bytes := (romMembers.filterMap (fun y => poolDefault y.unit y.obj y.mem)).flatten

/-- A schema entry of 24 bytes. -/
def RomMember.bytes (x : RomMember) : Bytes :=
  leBytes 2 x.unit ++ leBytes 2 x.obj ++ leBytes 1 x.mem ++ leBytes 1 x.row.romType ++ leBytes 1 x.row.romRights
    ++ leBytes 1 x.row.romPersist ++ leBytes 4 x.row.ty.size ++ leBytes 4 x.row.nameOffset ++ leBytes 8 x.default_

/-- The schema. -/
def romSchema : Bytes := romMembers.flatMap RomMember.bytes

/-! ## The images (15 R518) -/

/-- The identity block: identifiers, order code, serial number, the steppings of CD, MD0, MD1 and XD, the identity key's hash. -/
def romIdentity : Bytes :=
  leBytes 2 0x1F6B ++ leBytes 2 0xC808 ++ orderText ++ serialText
    ++ (List.range 4).flatMap (fun d => leBytes 2 (Config.stepping d)) ++ slice Config.identityHash 0 32

/-- Where the identity block begins. -/
def romIdentityAt : Nat := 0x60
/-- Where the schema begins. -/
def romSchemaAt : Nat := 0xB0
/-- Where the string pool begins. -/
def romStringsAt : Nat := romSchemaAt + romSchema.length
/-- Where the default pool begins; it ends image 0. -/
def romDefaultsAt : Nat := romStringsAt + romStrings.length

/-- The 512-byte units of image 0. -/
def romUnits : Nat := (romDefaultsAt + romDefaults.length + 511) / 512

/-- The 32 bytes of the PCI data structure, revision 3, as the PCI Firmware Specification places its fields (log entry 48): the image
length in 512-byte units, the code type and the indicator. -/
def pciData (units code indicator : Nat) : Bytes :=
  [0x50, 0x43, 0x49, 0x52] ++ leBytes 2 0x1F6B ++ leBytes 2 0xC808 ++ zeros 2 ++ leBytes 2 32 ++ leBytes 1 3
    ++ leBytes 3 0x050210 ++ leBytes 2 units ++ zeros 2 ++ leBytes 1 code ++ leBytes 1 indicator ++ zeros 10

/-- What both images begin with: the signature and the pointer to the PCI data structure at 0x20. -/
def romHeader (reserved : Bytes) (pcir : Bytes) : Bytes := [0x55, 0xAA] ++ slice reserved 0 22 ++ leBytes 2 0x20 ++ zeros 6 ++ pcir

/-- Image 0 of the running firmware, with a value in its CRC field, padded with zeros to 512 bytes. -/
def State.romWithCrc (s : State) (crc : Nat) : Bytes :=
  let head := romHeader [] (pciData romUnits 0x70 0x00) ++ leBytes 4 0x43534348 ++ leBytes 4 (s.obj 0 0 4)
    ++ leBytes 4 romIdentityAt ++ leBytes 4 romSchemaAt ++ leBytes 4 romMembers.length ++ leBytes 4 romStringsAt
    ++ leBytes 4 romDefaultsAt ++ leBytes 4 crc
  slice (head ++ slice romIdentity 0 (romSchemaAt - romIdentityAt) ++ romSchema ++ romStrings ++ romDefaults) 0 (512 * romUnits)

/-- Image 0: its CRC-32C is taken with the field itself 0. -/
def State.romImage (s : State) : Bytes := s.romWithCrc (crc32c (s.romWithCrc 0))

/-- A byte of image 1, the UEFI driver: the spec gives its signature, code type and indicator; its other bytes are the firmware's
(log entry 48). -/
def uefiByte (i : Nat) : Byte :=
  let fixed := romHeader [] (pciData 0 3 0x80)
  if i < 2 ∨ (24 ≤ i ∧ i < 0x30) ∨ (0x32 ≤ i ∧ i < 0x40) then fixed.getD i 0 else Config.uefiDriver i

/-- The bytes of the ROM window from an offset. -/
def State.romRead (s : State) (off len : Nat) : Bytes :=
  let image := s.romImage
  (List.range len).map (fun k => if off + k < image.length then image.getD (off + k) 0 else uefiByte (off + k - image.length))

end Sys2Proof.Machine
end

