-- ==== Sys2Proof/Machine/HostCfg.lean ====
section
/-!
DEFINITION. The configuration space and BAR0 of an LD (15 R510 to R517, R520, R522 to R524, 08 R255): reads, writes, interrupts.
The places the spec leaves to CXL 3.1 and PCIe 6.x are those of log entry 24.
-/
namespace Sys2Proof.Machine

/-! ## Interrupt mechanisms (15 R522 to R524) -/

/-- Send vector `k` if it is pending in the MSI-X table and nothing masks it. -/
def State.msixSettle (s : State) (n k : Nat) : State :=
  let l := s.ld n
  if l.msixEnable ∧ !l.msixFunctionMask ∧ !l.msixMasked.contains k ∧ l.msixPending.contains k then
    (s.setLd n { l with msixPending := l.msixPending.filter (· != k) }).sendVector n k
  else s

/-- Send message `m` if it is pending in the MSI capability and its mask is clear. -/
def State.msiSettle (s : State) (n m : Nat) : State :=
  let l := s.ld n
  if l.msiEnable ∧ !l.msixEnable ∧ !l.msiMask.testBit m ∧ l.msiPending.testBit m then
    (s.setLd n { l with msiPending := setBit l.msiPending m false }).sendVector n m
  else s

/-- Whatever waited for a mask goes out, and INTx follows. -/
def State.settleVectors (s : State) (n : Nat) : State :=
  let s := (List.range 64).foldl (fun s k => s.msixSettle n k) s
  ((List.range 32).foldl (fun s m => s.msiSettle n m) s).intxUpdate n

/-- Mask or unmask an MSI-X vector. -/
def State.setVectorMask (s : State) (n k : Nat) (m : Bool) : State :=
  let l := s.ld n
  let rest := l.msixMasked.filter (· != k)
  (s.setLd n { l with msixMasked := if m then rest ++ [k] else rest }).settleVectors n

/-- RW1C of the cause register. -/
def State.clearCause (s : State) (n v : Nat) : State :=
  let l := s.ld n
  (s.setLd n { l with cause := l.cause - (l.cause &&& v) }).intxUpdate n

/-- INTERRUPT_CAUSE_CLEAR (15 R522, R524). -/
def execInterruptCauseClear (ld : Fin 16) (value : U32) (s : State) : Host.Outcome State Fault Refusal :=
  finish s (if (s.ld ld).memSpace then s.clearCause ld value.toNat else s)

/-- VECTOR_UNMASK (15 R523): a vector of the MSI-X table, a message of the MSI capability when MSI alone is enabled, or the
function mask, numbered 64. -/
def execVectorUnmask (ld : Fin 16) (vector : Nat) (s : State) : Host.Outcome State Fault Refusal :=
  let l := s.ld ld
  finish s (if vector = 64 then (s.setLd ld { l with msixFunctionMask := false }).settleVectors ld
    else if l.msiEnable ∧ !l.msixEnable then (s.setLd ld { l with msiMask := setBit l.msiMask vector false }).settleVectors ld
    else s.setVectorMask ld vector false)

/-! ## HDM decoders (15 R520) -/

/-- Interleave ways by their encoding in CXL 3.1. -/
def hdmWays (c : Nat) : Option Nat := tabGet [(0, 1), (1, 2), (2, 4), (3, 8), (4, 16), (8, 3), (9, 6), (10, 12)] c

/-- The 32 bytes of a decoder's registers: base, size, control, DPA skip. -/
def Ld.decoder (l : Ld) (k : Nat) : Bytes := (tabGet l.decoders k).getD (zeros 32)

/-- Base of a decoder. -/
def hdmBase (d : Bytes) : Nat := field d 0 8
/-- Size of a decoder. -/
def hdmSize (d : Bytes) : Nat := field d 8 8
/-- Control of a decoder. -/
def hdmControl (d : Bytes) : Nat := field d 16 4
/-- DPA skip of a decoder. -/
def hdmSkip (d : Bytes) : Nat := field d 20 8
/-- Whether a decoder is committed: control bit 10. -/
def hdmCommitted (d : Bytes) : Bool := (hdmControl d).testBit 10
/-- The ways of a decoder. -/
def hdmWaysOf (d : Bytes) : Nat := (hdmWays (bits (hdmControl d) 7 4)).getD 1

/-- The DPA offset of an offset into a decoder's range, as CXL 3.1 gives it for its ways and granularity. -/
def hdmOffset (d : Bytes) (off : Nat) : Nat :=
  let g := 256 * 2 ^ bits (hdmControl d) 3 0
  off / (g * hdmWaysOf d) * g + off % g

/-- The DPA that a decoder's range begins at: what the decoders before it take, and its own skip. -/
def Ld.hdmDpa (l : Ld) (k : Nat) : Nat :=
  (List.range k).foldl (fun a i => let d := l.decoder i
    if hdmCommitted d then a + hdmSkip d + hdmSize d / hdmWaysOf d else a) (hdmSkip (l.decoder k))

/-- The DPA a host physical address decodes to; none when no committed decoder claims it. -/
def Ld.hdm (l : Ld) (hpa : Nat) : Option Nat :=
  ([0, 1].find? (fun k => let d := l.decoder k
    hdmCommitted d && decide (hdmBase d ≤ hpa ∧ hpa < hdmBase d + hdmSize d))).map
      (fun k => l.hdmDpa k + hdmOffset (l.decoder k) (hpa - hdmBase (l.decoder k)))

/-- Whether a decoder may be committed. -/
def Ld.hdmMayCommit (l : Ld) (k : Nat) (d : Bytes) : Bool :=
  let w := hdmWays (bits (hdmControl d) 7 4)
  w.isSome && decide (bits (hdmControl d) 3 0 ≤ 6 ∧ hdmSize d ≠ 0 ∧ hdmSize d % (2 ^ 28 * w.getD 1) = 0)
    && (k == 0 || (hdmCommitted (l.decoder 0) && decide (hdmBase d ≥ hdmBase (l.decoder 0) + hdmSize (l.decoder 0))))

/-- A write of 4 bytes of a decoder: a committed decoder that is locked keeps what it holds. -/
def Ld.hdmWrite (l : Ld) (k off v : Nat) : Ld :=
  let d := l.decoder k
  if hdmCommitted d ∧ (hdmControl d).testBit 8 then l
  else if off = 16 then
    let v := v % 4096 - v % 4096 / 1024 * 1024 + 4096
    let x := patch d 16 (leBytes 4 v)
    let c := if !v.testBit 9 then v else if hdmCommitted d ∨ l.hdmMayCommit k x then v + 1024 else v + 2048
    { l with decoders := tabSet l.decoders k (patch d 16 (leBytes 4 c)) }
  else
    let m := if off = 0 ∨ off = 8 ∨ off = 20 then v / 2 ^ 28 * 2 ^ 28 else v
    { l with decoders := tabSet l.decoders k (patch d off (leBytes 4 m)) }

/-! ## Component and device registers -/

/-- The CXL.cachemem primary range: capability headers, the HDM decoder capability, and plain storage for the rest. -/
def Ld.cachemem (l : Ld) (off : Nat) : Nat :=
  if off = 0 then 0x04110001
  else if off = 4 then 0x10020002
  else if off = 8 then 0x18020004
  else if off = 12 then 0x20030005
  else if off = 16 then 0x30010007
  else if off = 0x200 then 0x1B01
  else if 0x210 ≤ off ∧ off < 0x250 then field (l.decoder ((off - 0x210) / 32)) ((off - 0x210) % 32) 4
  else leNat (memRead l.bar (0x11000 + off) 4)

/-- The CXL memory device registers (15 R516, R528). -/
def State.deviceReg (s : State) (n off : Nat) : Nat :=
  let l := s.ld n
  let caps : Bytes := leBytes 8 (0x10000 + 0x1000000 + 3 * 2 ^ 32) ++ zeros 8
    ++ leBytes 4 0x10001 ++ leBytes 4 0x100 ++ leBytes 4 8 ++ zeros 4
    ++ leBytes 4 0x10002 ++ leBytes 4 0x1000 ++ leBytes 4 0x1020 ++ zeros 4
    ++ leBytes 4 0x14000 ++ leBytes 4 0x3000 ++ leBytes 4 8 ++ zeros 4
  if off < 0x100 then leNat (slice caps off 4)
  else if off = 0x100 then (List.range 5).foldl (fun a k => setBit a k (!((tabGet l.logs k).getD []).isEmpty)) 0
  else if off = 0x1000 then 12 + 0x20 + 0x40
  else if off = 0x1010 then b2n l.background.isSome
  else if off = 0x1018 then match l.background, l.backgroundDone with
    | some (op, _), _ => op
    | none, some (op, _, _) => op + 100 * 65536
    | none, none => 0
  else if off = 0x101C then match l.background, l.backgroundDone with
    | none, some (_, c, _) => c
    | _, _ => 0
  else if off = 0x3000 then
    (if s.stage = .running then 0x14 else if s.stage = .trainingFailed then 0x0C else 0)
  else if off < 0x1000 then 0
  else leNat (memRead l.bar (0x20000 + off) 4)

/-- The LD status block (15 R517). -/
def State.statusBlock (s : State) (n : Nat) : Bytes :=
  let l := s.ld n
  leBytes 4 0x4C445354 ++ leBytes 1 n
    ++ leBytes 1 (b2n (s.bound n) + 2 * b2n (s.leg 0).up + 4 * b2n (s.leg 1).up
        + 8 * b2n (((tabGet s.spdm n).map (·.ide)).getD false) + 16 * b2n s.partitioned)
    ++ leBytes 1 (b2n l.tagGen) ++ zeros 1 ++ leBytes 8 s.now ++ leBytes 4 (s.count (0x110 + n) 0x1E)
    ++ leBytes 4 (l.logs.foldl (fun a g => a + g.2.length) 0)
    ++ leBytes 8 (s.spillGranted n) ++ leBytes 8 (spillNeed (s.logicalTiles n) (s.guaranteed n))
    ++ leBytes 8 (s.charge n 0) ++ leBytes 8 (s.charge n 1) ++ leBytes 8 (s.charge n 2) ++ leBytes 8 (s.charge n 3)

/-- A position line (08 R255). -/
def State.positionLine (s : State) (c : Nat) : Bytes :=
  zeros 16 ++ leBytes 8 (s.cad c).pos ++ leBytes 8 (s.cad c).lastAdvance ++ leBytes 1 (s.cadMode c) ++ zeros 31

/-! ## BAR0 (15 R516) -/

/-- Four bytes of BAR0. The FM-owned LD, number 16, has no mailbox and shows no register there (15 R509; log entry 49). -/
def State.barWord (s : State) (n off : Nat) : Nat :=
  let l := s.ld n
  if n ≥ 16 then 0
  else if off < 0x1000 then leNat (slice (s.statusBlock n) off 4)
  else if off < 0x1100 then leNat (slice (s.positionLine (4 * n + (off - 0x1000) / 64)) (off % 64) 4)
  else if 0x2000 ≤ off ∧ off < 0x2008 then bits l.cause (8 * (off % 8) + 31) (8 * (off % 8))
  else if 0x11000 ≤ off ∧ off < 0x12000 then l.cachemem (off - 0x11000)
  else if 0x20000 ≤ off ∧ off < 0x30000 then s.deviceReg n (off - 0x20000)
  else if 0x30000 ≤ off ∧ off < 0x30400 then
    (if off % 16 = 12 then b2n (l.msixMasked.contains ((off - 0x30000) / 16)) else leNat (memRead l.msixTable (off - 0x30000) 4))
  else if off = 0x31000 ∨ off = 0x31004 then
    let b := off - 0x31000
    (List.range 32).foldl (fun a i => setBit a i (l.msixPending.contains (8 * b + i))) 0
  else 0

/-- A write of four bytes of BAR0; `door` runs the command of the mailbox. -/
def State.barPut (s : State) (n off v : Nat) (door : State → Nat → State) : State :=
  let l := s.ld n
  if n ≥ 16 then s
  else if 0x2000 ≤ off ∧ off < 0x2008 then s.clearCause n (v * 2 ^ (8 * (off % 8)))
  else if 0x11210 ≤ off ∧ off < 0x11250 then s.setLd n (l.hdmWrite ((off - 0x11210) / 32) ((off - 0x11210) % 32) v)
  else if 0x11000 ≤ off ∧ off < 0x12000 then s.setLd n { l with bar := memWrite l.bar off (leBytes 4 v) }
  else if off = 0x21004 then
    let s := s.setLd n { l with bar := memWrite l.bar off (leBytes 4 (v % 8 / 2 * 2)) }
    if v.testBit 0 then door s n else s
  else if off = 0x21008 ∨ off = 0x2100C ∨ (0x21020 ≤ off ∧ off < 0x22020) then
    s.setLd n { l with bar := memWrite l.bar off (leBytes 4 v) }
  else if 0x30000 ≤ off ∧ off < 0x30400 then
    (if off % 16 = 12 then s.setVectorMask n ((off - 0x30000) / 16) (v.testBit 0)
      else s.setLd n { l with msixTable := memWrite l.msixTable (off - 0x30000) (leBytes 4 v) })
  else s

/-- Whether an access is 4 or 8 bytes and naturally aligned. -/
def barAligned (off size : Nat) : Bool := (size == 4 || size == 8) && off % size == 0 && decide (off + size ≤ 0x40000)

/-- A read of BAR0. -/
def State.barRead (s : State) (n off size : Nat) : Bytes :=
  if barAligned off size then
    ((List.range (size / 4)).flatMap (fun i => leBytes 4 (s.barWord n (off + 4 * i))))
  else zeros size

/-- A write of BAR0: a position line takes one aligned 8-byte write (08 R255). -/
def State.barWrite (s : State) (n off : Nat) (b : Bytes) (door : State → Nat → State) : State :=
  if n < 16 ∧ 0x1000 ≤ off ∧ off < 0x1100 then
    let k := (off - 0x1000) / 64
    if b.length = 8 ∧ (off % 64 = 0 ∨ off % 64 = 8) then s.lineWrite n k (off % 64) (leNat b)
    else s.bump (0x810 + 4 * n + k) 0x17 1
  else if barAligned off b.length then
    (List.range (b.length / 4)).foldl (fun s i => s.barPut n (off + 4 * i) (field b (4 * i) 4) door) s
  else s

/-! ## The configuration space (15 R510 to R515) -/

/-- Speed of a leg as the Link registers encode it. -/
def rateCode (r : Nat) : Nat := (tabGet [(2, 1), (5, 2), (8, 3), (16, 4), (32, 5), (64, 6)] r).getD 0

/-- The reset values of the stored fields that are not 0: Device Control, Link Control 2, AER severity and masks, and the
Memory and I/O enables of the CXL DVSEC (log entry 24). -/
def cfgReset (off : Nat) : Nat :=
  if off = 0x58 then 0x2810 else if off = 0x80 then 6 else if off = 0x10C then 0x00462030 else if off = 0x114 then 0x2000
  else if off = 0x18C then 2 else 0

/-- A stored 4 bytes of the configuration space: bytes nobody wrote hold the reset value. -/
def Ld.cfgStored (l : Ld) (off : Nat) : Nat :=
  leNat ((List.range 4).map (fun i => (tabGet l.cfg (off + i)).getD (BitVec.ofNat 8 (cfgReset off / 256 ^ i))))

/-- Four bytes of the configuration space, as the leg that carries the request shows them; number 16 is the FM-owned LD, with the MLD
DVSEC and no IDE capability (15 R509, R513). -/
def State.cfgWord (s : State) (n leg off : Nat) : Nat :=
  let l := s.ld n
  let st := l.cfgStored off
  let x8 := s.obj 0x100 0x100 1 == 1
  let model := if Config.orderCodeX then 2 else 1
  match off with
  | 0x00 => 0xC8081F6B
  | 0x04 => st % 65536 &&& 0x140
      ||| (2 * b2n l.memSpace + 4 * b2n l.busMaster + 1024 * b2n l.intxDisable)
      ||| ((st / 65536 &&& 0xF900) + 0x10 + 8 * b2n (l.cause != 0)) * 65536
  | 0x08 => 0x05021000 + Config.stepping 3 % 256
  | 0x0C => st % 256
  | 0x10 => st / 2 ^ 18 * 2 ^ 18 + 4
  | 0x14 => st
  | 0x2C => 0x1F6B + 65536 * model
  | 0x30 => st / 2 ^ 22 * 2 ^ 22 + st % 2
  | 0x34 => 0x40
  | 0x3C => 0x100 + st % 256
  | 0x40 => 0x00035001
  | 0x44 => 8 + 3 * b2n l.d3hot
  | 0x50 => 0x00029010
  | 0x54 => 0x10008022
  | 0x58 => st % 32768 + 0x200000 * b2n (s.dmas.any (·.ld == n))
  | 0x5C => 0x00400806 + (if x8 then 8 else 16) * 16
  | 0x60 => st % 65536 + 65536 * (rateCode (s.leg leg).rate + 16 * (s.leg leg).width)
  | 0x74 => 0x0003000F
  | 0x78 => st % 65536
  | 0x7C => 0x7E
  | 0x80 => st % 65536
  | 0x90 => 0xB005 + 65536 * (b2n l.msiEnable + 2 * 5 + 16 * Nat.log2 l.msiAllocated + 0x180)
  | 0x94 => st / 4 * 4
  | 0x98 => st
  | 0x9C => st % 65536
  | 0xA0 => l.msiMask
  | 0xA4 => l.msiPending
  | 0xB0 => 0x11 + 65536 * (63 + 0x4000 * b2n l.msixFunctionMask + 0x8000 * b2n l.msixEnable)
  | 0xB4 => 0x30000
  | 0xB8 => 0x31000
  | 0x100 => 0x14820001
  | 0x148 => 0x15810003
  | 0x14C => leNat (s.blob 0 0x101 0 0 4)
  | 0x150 => leNat (s.blob 0 0x101 0 4 4)
  | 0x158 => 0x1601000F
  | 0x15C => 0x20 + 65536 * (st / 65536 % 32 + 0x8000 * b2n l.atsEnable)
  | 0x160 => 0x1801002E
  | 0x16C => 0x80000000 * b2n (!l.doeOut.isEmpty)
  | 0x174 => leNat (slice l.doeOut 0 4)
  | 0x180 => 0x1C010023
  | 0x184 => 0x03C31E98
  | 0x188 => 65536 * 0x2016
  | 0x18C => st % 65536
  | 0x19C => 1 + 2 * b2n (s.stage == .running)
  | 0x1C0 => 0x1E010023
  | 0x1C4 => 0x02021E98
  | 0x1C8 => 7 + 65536 * 0x2046
  | 0x1E0 => if n = 16 then 0x20010023 else 0x22010023
  | 0x1E4 => 0x01C01E98
  | 0x1E8 => 8
  | 0x1EC => 0x00010100
  | 0x1F4 => 0x00020300
  | 0x200 => if n = 16 then 0x00010023 else 0
  | 0x204 => if n = 16 then 0x01001E98 else 0
  | 0x208 => if n = 16 then 0x00100009 else 0
  | 0x220 => if n = 16 then 0 else 0x00010030
  | 0x224 => if n = 16 then 0 else 2
  | _ => if 0x104 ≤ off ∧ off < 0x148 then st else 0

/-- Offsets whose bytes the space stores as written. -/
def cfgPlain (off : Nat) : Bool :=
  [0x0C, 0x10, 0x14, 0x30, 0x3C, 0x60, 0x78, 0x80, 0x94, 0x98, 0x9C, 0x108, 0x10C, 0x114, 0x118, 0x18C].contains off

/-- Store the enabled bytes of a word. -/
def Ld.cfgStore (l : Ld) (off v mask : Nat) : Ld :=
  { l with cfg := (List.range 4).foldl (fun c i =>
      if mask.testBit i then tabSet c (off + i) (BitVec.ofNat 8 (v / 256 ^ i)) else c) l.cfg }

/-- A word with its enabled bytes replaced. -/
def byteMix (mask old new : Nat) : Nat :=
  leNat ((List.range 4).map (fun i => BitVec.ofNat 8 ((if mask.testBit i then new else old) / 256 ^ i)))

/-- The Command register is written (15 R511). -/
def State.writeCommand (s : State) (n v : Nat) : State :=
  let s := if v.testBit 2 then s.setMaster n else s.clearMaster n
  let l := s.ld n
  (s.setLd n ({ l with memSpace := v.testBit 1, intxDisable := v.testBit 10 }.cfgStore 4 v 3)).intxUpdate n

/-- Set the MSI control (15 R513, R523). -/
def Ld.msiControl (l : Ld) (v : Nat) : Ld := { l with msiEnable := v.testBit 0, msiAllocated := 2 ^ Nat.min (bits v 6 4) 5 }

/-- The clusters of an LD lose translations. -/
def State.dropPages (s : State) (ld : Nat) (p : Nat → Bool) : State :=
  { s with clusters := s.clusters.map (fun c => if c.2.context = ld then (c.1, { c.2 with pages := c.2.pages.filter (fun e => !p e.1) }) else c) }

/-- A write of the enabled bytes of four bytes of the configuration space; `go` runs what the DOE mailbox has taken in. -/
def State.cfgPut (s : State) (n leg off v mask : Nat) (go : State → Nat → State) : State :=
  let l := s.ld n
  let x := byteMix mask (s.cfgWord n leg off) v
  if off = 4 then
    let s := if mask % 4 ≠ 0 then s.writeCommand n (x % 65536) else s
    let l := s.ld n
    let old := l.cfgStored 4 / 65536
    let clear := byteMix mask 0 v / 65536
    s.setLd n (l.cfgStore 4 ((old - (old &&& clear)) * 65536) 12)
  else if off = 0x44 then
    (if mask.testBit 0 then (if v % 4 = 3 then s.enterD3 n else if v % 4 = 0 then s.leaveD3 n else s) else s)
  else if off = 0x58 then
    let s := s.setLd n (l.cfgStore off (x % 32768) 3)
    if mask.testBit 1 ∧ v.testBit 15 then s.beginFlr n else s
  else if off = 0x90 then (s.setLd n (l.msiControl (x / 65536))).settleVectors n
  else if off = 0xA0 then (s.setLd n { l with msiMask := x }).settleVectors n
  else if off = 0xB0 then
    (s.setLd n { l with msixFunctionMask := x.testBit 30, msixEnable := x.testBit 31 }).settleVectors n
  else if off = 0x104 ∨ off = 0x110 then
    let old := l.cfgStored off
    s.setLd n (l.cfgStore off (old - (old &&& byteMix mask 0 v)) 15)
  else if off = 0x15C then
    (if x.testBit 31 ∧ !l.atsEnable then s.dropPages n (fun _ => true) else s).setLd n ({ l with atsEnable := x.testBit 31, atc := if x.testBit 31 ∧ !l.atsEnable then [] else l.atc }.cfgStore off x 12)
  else if off = 0x168 then
    (if v.testBit 0 then s.setLd n { l with doeIn := [], doeOut := [] }
      else if mask.testBit 3 ∧ v.testBit 31 then go s n else s)
  else if off = 0x170 then s.setLd n { l with doeIn := l.doeIn ++ leBytes 4 x }
  else if off = 0x174 then s.setLd n { l with doeOut := l.doeOut.drop 4 }
  else if cfgPlain off then s.setLd n (l.cfgStore off x mask)
  else s

/-- The bytes that a configuration request of up to 4 bytes reads. -/
def State.cfgRead (s : State) (n leg off size : Nat) : Bytes := slice (leBytes 4 (s.cfgWord n leg (off / 4 * 4))) (off % 4) size

/-- Whether the ROM window of 4 MiB answers: ROM enable and Memory Space are both 1 (15 R510, R511). -/
def State.romDecodes (s : State) (n : Nat) : Bool := ((s.ld n).cfgStored 0x30).testBit 0 && (s.ld n).memSpace

/-- CONFIGURATION_REQUEST (15 R510, R516, R518, R532, 16 R563): the space, BAR0 or the ROM window is read or written, and the
completion sent; a write to the ROM window changes nothing (log entry 48).
The statuses are those of PCIe: 0 successful, 1 unsupported, 2 request retry. -/
def State.configRequest (s : State) (n leg : Nat) (space : ReqSpace) (addr size : Nat) (data : Option Bytes)
    (door go : State → Nat → State) : State :=
  if s.stage = .off ∨ s.stage = .inReset ∨ !(s.leg leg).up then s
  else match space with
  | .rom =>
    let decodes := s.romDecodes n && decide (addr + size ≤ 2 ^ 22)
    match data with
    | none => if decodes then s.emit (.config n leg 0 (s.romRead addr size)) else s.emit (.config n leg 1 [])
    | some _ => s
  | .bar0 =>
    let decodes := (s.ld n).memSpace && decide (addr + size ≤ 0x40000)
    match data with
    | none => if decodes then s.emit (.config n leg 0 (s.barRead n addr size)) else s.emit (.config n leg 1 [])
    | some b => if decodes then s.barWrite n addr b door else s
  | .config =>
    let s := s.leaveChrysalis n
    if (s.ld n).flr then s.emit (.config n leg 2 [])
    else if addr ≥ 4096 ∨ addr % 4 + size > 4 ∨ size = 0 then s.emit (.config n leg 1 [])
    else match data with
      | none => s.emit (.config n leg 0 (s.cfgRead n leg addr size))
      | some b =>
        let mask := (2 ^ size - 1) * 2 ^ (addr % 4)
        (s.cfgPut n leg (addr / 4 * 4) (leNat (b.take size) * 256 ^ (addr % 4)) mask go).emit (.config n leg 0 [])

end Sys2Proof.Machine
end

