-- ==== Sys2Proof/Machine/HostPort.lean ====
section
/-!
DEFINITION. What hosts send the module besides configuration requests (15 R520, R525 to R530): CXL.mem requests, address
translation invalidations, mailbox commands, and the binding of hosts to LDs.
-/
namespace Sys2Proof.Machine

/-! ## CXL.mem (01 R28, 06 R188, 15 R520, 08 R259) -/

/-- Whether a host request can reach the module: a leg is up and the module is out of reset. -/
def State.hostReaches (s : State) : Bool := s.stage != .off && s.stage != .inReset && !s.allLegsDown

/-- Whether a host request on a leg reaches the module (15 R506). -/
def State.legReaches (s : State) (leg : Nat) : Bool := s.hostReaches && (s.leg leg).up

/-- HOST_READ (06 R188): an address that no committed decoder claims does not reach the module. -/
def execHostRead (path : HostPath) (hpa : U64) (tag : U16) (s : State) : Host.Outcome State Fault Refusal :=
  let ld := path.ld
  finish s (match (s.ld ld).hdm hpa.toNat with
    | none => s
    | some dpa =>
      if !s.legReaches path.leg then s
      else (((s.hostLine.bump (0x110 + ld) 0x16 1).markedAdvance ld (dpa / 64 * 64)).hostRead ld path.leg (dpa / 64 * 64) tag.toNat))

/-- HOST_WRITE (01 R28, 03 R114, 06 R195): byte enables and the line's bytes. -/
def execHostWrite (path : HostPath) (hpa mask : U64) (data : Bytes) (tag : U16) (s : State) : Host.Outcome State Fault Refusal :=
  let ld := path.ld
  finish s (match (s.ld ld).hdm hpa.toNat with
    | none => s
    | some dpa =>
      if !s.legReaches path.leg then s
      else
        let x : HeldWrite := { why := .flip, ld := ld, dpa := dpa / 64 * 64, mask := mask.toNat, data := slice data 0 64,
                               by_ := .host path.leg tag.toNat, since := s.now }
        (s.hostLine.bump (0x110 + ld) 0x17 1).write x)

/-! ## Address translation (15 R527) -/

/-- Whether a 4 KiB page lies in an invalidated range. -/
def pageCovered (addr size p : Nat) : Bool := decide (p * 4096 < addr + size ∧ addr < (p + 1) * 4096)

/-- INVALIDATE_REQUEST: the entries it covers are used no more; up to 32 are outstanding per LD. -/
def execInvalidateRequest (ld : Fin 16) (itag : Nat) (addr size : U64) (s : State) : Host.Outcome State Fault Refusal :=
  let l := s.ld ld
  finish s (if !s.hostReaches ∨ l.invalidations.length ≥ 32 ∨ l.invalidations.any (·.1 == itag) then s
    else ((s.dropPages ld (pageCovered addr.toNat size.toNat)).setLd ld { l with
      atc := l.atc.filter (fun e => !pageCovered addr.toNat size.toNat e.1)
      invalidations := l.invalidations ++ [(itag, addr.toNat, size.toNat)] }).bump (0x110 + ld) 0x1C 1)

/-- INVALIDATION_COMPLETION: every DMA read issued under the entries has ended, and the completion goes out. -/
def execInvalidationCompletion (ld : Fin 16) (itag : Nat) (s : State) : Host.Outcome State Fault Refusal :=
  let l := s.ld ld
  finish s (match l.invalidations.find? (·.1 == itag) with
    | none => s
    | some i =>
      if s.dmas.any (fun d => d.ld == ld.val && d.vas.any (pageCovered i.2.1 i.2.2)) then s
      else (s.setLd ld { l with invalidations := l.invalidations.filter (·.1 != itag) }).emit (.invalDone ld itag))

/-! ## Mailbox commands (15 R528); input and output layouts are those of CXL 3.1 (log entry 24) -/

/-- Invalid Handle. -/
def retHandle : Nat := 0x0E
/-- Invalid Payload Length. -/
def retLength : Nat := 0x16
/-- Invalid Log. -/
def retLog : Nat := 0x17
/-- Background Command Started. -/
def retBackground : Nat := 1

/-- The firmware revision as 16 characters: the number 000.04. -/
def State.firmwareText (s : State) : Bytes := strBytes 16 (decimal (s.obj 0 0 4))

/-- Sizes of the four event logs. -/
def logSizes : Bytes := leBytes 2 256 ++ leBytes 2 256 ++ leBytes 2 256 ++ leBytes 2 256

/-- A command that only answers: what it needs of its payload's length, and its output. -/
def State.mailboxRead (s : State) (ld n : Nat) (payload : Bytes) (f : State → Except Nat Bytes) : State :=
  s.mailboxDo ld (fun s => if payload.length ≠ n then (retLength, [], s)
    else match f s with
      | .ok b => (retSuccess, b, s)
      | .error c => (c, [], s))

/-- IDENTIFY. -/
def execIdentify (ld : Fin 16) (payload : Bytes) (s : State) : Host.Outcome State Fault Refusal :=
  finish s (s.mailboxRead ld 0 payload (fun s => .ok (leBytes 4 (s.cfgWord ld 0 0) ++ leBytes 4 (s.cfgWord ld 0 0x2C)
    ++ serialText.take 8 ++ leBytes 1 12 ++ leBytes 1 3 ++ s.firmwareText ++ logSizes)))

/-- BACKGROUND_OPERATION_STATUS. -/
def execBackgroundOperationStatus (ld : Fin 16) (payload : Bytes) (s : State) : Host.Outcome State Fault Refusal :=
  finish s (s.mailboxRead ld 0 payload (fun s => match (s.ld ld).background, (s.ld ld).backgroundDone with
    | some (op, _), _ => .ok (leBytes 2 1 ++ leBytes 2 op ++ zeros 4)
    | none, some (op, c, _) => .ok (leBytes 2 200 ++ leBytes 2 op ++ leBytes 2 c ++ zeros 2)
    | none, none => .ok (zeros 8)))

/-- GET_RESPONSE_MESSAGE_LIMIT: the limit as a power of two. -/
def execGetResponseMessageLimit (ld : Fin 16) (payload : Bytes) (s : State) : Host.Outcome State Fault Refusal :=
  finish s (s.mailboxRead ld 0 payload (fun s => .ok (leBytes 1 (Nat.log2 (s.ld ld).respLimit))))

/-- SET_RESPONSE_MESSAGE_LIMIT: up to 4 KiB. -/
def execSetResponseMessageLimit (ld : Fin 16) (payload : Bytes) (s : State) : Host.Outcome State Fault Refusal :=
  let n := field payload 0 1
  finish s (s.mailboxDo ld (fun s =>
    if payload.length ≠ 1 then (retLength, [], s)
    else if n < 8 ∨ n > 12 then (retInvalid, [], s)
    else (retSuccess, leBytes 1 n, s.setLd ld { s.ld ld with respLimit := 2 ^ n })))

/-- The identifier of the module's own event records (15 R525), and of dynamic capacity records. -/
def eventUuid (log : Nat) : Bytes :=
  if log = 4 then beBytes 16 0xca95afa7f18340188c2f95268e101a2a else beBytes 16 0xc8a1e0f25b3d4e779a061f2c3d4e5f60

/-- An event record of 128 bytes (15 R525): the common header, then the body the log holds. -/
def State.eventRecord (s : State) (ld log : Nat) (r : Nat × Bytes) : Bytes :=
  let time := if log = 4 then field r.2 80 8 else field r.2 16 8
  let stamp := wrapInt 64 ((time : Int) + (s.ld ld).tsOffset)
  eventUuid log ++ leBytes 1 128 ++ zeros 3 ++ leBytes 2 r.1 ++ zeros 2 ++ leBytes 8 stamp ++ zeros 16 ++ slice r.2 0 80

/-- GET_EVENT_RECORDS: the oldest records of a log that the response limit admits. -/
def execGetEventRecords (ld : Fin 16) (payload : Bytes) (s : State) : Host.Outcome State Fault Refusal :=
  let log := field payload 0 1
  finish s (s.mailboxRead ld 1 payload (fun s =>
    let l := s.ld ld
    let recs := (tabGet l.logs log).getD []
    let lost := (tabGet l.logOverflow log).getD 0
    let shown := recs.take ((l.respLimit - 32) / 128)
    if log > 4 then .error retInvalid
    else .ok (leBytes 1 (b2n (lost != 0) + 2 * b2n (decide (shown.length < recs.length))) ++ zeros 1 ++ leBytes 2 lost
      ++ zeros 16 ++ leBytes 2 shown.length ++ zeros 10 ++ shown.flatMap (s.eventRecord ld log))))

/-- CLEAR_EVENT_RECORDS: all records of a log, or the oldest ones by their handles in order. -/
def execClearEventRecords (ld : Fin 16) (payload : Bytes) (s : State) : Host.Outcome State Fault Refusal :=
  let log := field payload 0 1
  let all := (field payload 1 1).testBit 0
  let n := field payload 2 1
  let handles := (List.range n).map (fun i => field payload (6 + 2 * i) 2)
  finish s (s.mailboxDo ld (fun s =>
    let l := s.ld ld
    let recs := (tabGet l.logs log).getD []
    if payload.length ≠ 6 + 2 * n then (retLength, [], s)
    else if log > 4 then (retInvalid, [], s)
    else if all then
      (retSuccess, [], s.setLd ld { l with logs := tabDel l.logs log, logOverflow := tabDel l.logOverflow log })
    else if (recs.take n).map (·.1) ≠ handles then (retHandle, [], s)
    else (retSuccess, [], s.setLd ld { l with logs := tabSet l.logs log (recs.drop n), logOverflow := tabDel l.logOverflow log })))

/-- The setting of a log: mode in bits [1:0], message number in [7:4]. -/
def policyByte (v : Nat) : Nat := if v < 6 then 1 + 16 * v else 0

/-- GET_EVENT_INTERRUPT_POLICY. -/
def execGetEventInterruptPolicy (ld : Fin 16) (payload : Bytes) (s : State) : Host.Outcome State Fault Refusal :=
  finish s (s.mailboxRead ld 0 payload (fun s =>
    .ok ((List.range 5).map (fun k => BitVec.ofNat 8 (policyByte (nth (s.ld ld).policy k (k + 1)))))))

/-- SET_EVENT_INTERRUPT_POLICY (15 R522): a message number below 6 for each log. -/
def execSetEventInterruptPolicy (ld : Fin 16) (payload : Bytes) (s : State) : Host.Outcome State Fault Refusal :=
  let one (k : Nat) : Nat := field payload k 1
  let bad (k : Nat) : Bool := decide (one k % 4 > 1) || (decide (one k % 4 = 1) && decide (one k / 16 ≥ 6))
  finish s (s.mailboxDo ld (fun s =>
    let l := s.ld ld
    if payload.length ≠ 4 ∧ payload.length ≠ 5 then (retLength, [], s)
    else if (List.range payload.length).any bad then (retInvalid, [], s)
    else (retSuccess, [], s.setLd ld { l with policy := (List.range 5).map (fun k =>
      if k < payload.length then (if one k % 4 = 1 then one k / 16 else 255) else nth l.policy k (k + 1)) })))

/-- GET_TIMESTAMP. -/
def execGetTimestamp (ld : Fin 16) (payload : Bytes) (s : State) : Host.Outcome State Fault Refusal :=
  finish s (s.mailboxRead ld 0 payload (fun s => .ok (leBytes 8 (wrapInt 64 ((s.now : Int) + (s.ld ld).tsOffset)))))

/-- SET_TIMESTAMP: only the offset of R525. -/
def execSetTimestamp (ld : Fin 16) (payload : Bytes) (s : State) : Host.Outcome State Fault Refusal :=
  finish s (s.mailboxDo ld (fun s =>
    if payload.length ≠ 8 then (retLength, [], s)
    else (retSuccess, [], s.setLd ld { s.ld ld with tsOffset := (leNat payload : Int) - s.now, tsSet := true })))

/-- The commands of R528 with their effects as the Command Effects Log of CXL 3.1 codes them. -/
def commandEffects : List (Nat × Nat) := [(0x0001, 0), (0x0002, 0), (0x0003, 0), (0x0004, 8), (0x0100, 0), (0x0101, 16),
  (0x0102, 0), (0x0103, 8), (0x0300, 0), (0x0301, 8), (0x0400, 0), (0x0401, 0), (0x4000, 0), (0x4200, 0), (0x4300, 0),
  (0x4800, 0), (0x4801, 0), (0x4802, 2), (0x4803, 2), (0xC810, 2), (0xC820, 2), (0xC821, 0x42)]

/-- The Command Effects Log. -/
def effectsLog : Bytes := commandEffects.flatMap (fun c => leBytes 2 c.1 ++ leBytes 2 c.2)

/-- Its identifier. -/
def effectsUuid : Bytes := beBytes 16 0x0da9c0b5bf414b788f7996b1623b3f17

/-- GET_SUPPORTED_LOGS. -/
def execGetSupportedLogs (ld : Fin 16) (payload : Bytes) (s : State) : Host.Outcome State Fault Refusal :=
  finish s (s.mailboxRead ld 0 payload (fun _ => .ok (leBytes 2 1 ++ zeros 6 ++ effectsUuid ++ leBytes 4 effectsLog.length)))

/-- GET_LOG: the Command Effects Log only. -/
def execGetLog (ld : Fin 16) (payload : Bytes) (s : State) : Host.Outcome State Fault Refusal :=
  let off := field payload 16 4
  let len := field payload 20 4
  finish s (s.mailboxRead ld 24 payload (fun _ =>
    if payload.take 16 ≠ effectsUuid then .error retLog
    else if off + len > effectsLog.length then .error retInvalid
    else .ok (slice effectsLog off len)))

/-- IDENTIFY_MEMORY_DEVICE: no static capacity, a poison list of 4,096 records. -/
def execIdentifyMemoryDevice (ld : Fin 16) (payload : Bytes) (s : State) : Host.Outcome State Fault Refusal :=
  finish s (s.mailboxRead ld 0 payload (fun s => .ok (s.firmwareText ++ zeros 32 ++ logSizes ++ zeros 4 ++ leBytes 3 4096 ++ zeros 2
    ++ zeros 2 ++ leBytes 2 256)))

/-- GET_HEALTH_INFO: health from 0000:002.00, the temperature the highest of 0510:100. -/
def execGetHealthInfo (ld : Fin 16) (payload : Bytes) (s : State) : Host.Outcome State Fault Refusal :=
  finish s (s.mailboxRead ld 0 payload (fun s =>
    let a := s.actual 0
    let health := if a = 6 then 4 else if a = 5 then 2 else 0
    let t := (List.range 32).foldl (fun t c => if (s.chan c).temperature > t then (s.chan c).temperature else t) (-40)
    .ok (leBytes 1 health ++ leBytes 1 (if s.stage = .running then 0 else 1) ++ zeros 2 ++ leBytes 2 (wrapInt 16 t) ++ zeros 12)))

/-- The DPA of every POISONED tile in an LD's GRANTED extents (15 R528). -/
def State.poisonedDpas (s : State) (ld : Nat) : List Nat :=
  let tiles := s.tileMap.filterMap (fun e => if e.2.state = 3 ∨ (s.poisonSet e.1) ≠ 0 then s.dpaOf ld e.1 else none)
  sortNat (tiles.filter (fun d => (s.granted ld d).isSome))

/-- GET_POISON_LIST: the records from a start DPA on that the response limit admits. -/
def execGetPoisonList (ld : Fin 16) (payload : Bytes) (s : State) : Host.Outcome State Fault Refusal :=
  let lo := field payload 0 8
  let hi := lo + 64 * field payload 8 8
  finish s (s.mailboxRead ld 16 payload (fun s =>
    let all := (s.poisonedDpas ld).filter (fun d => decide (lo < d + 65536 ∧ d < hi))
    let shown := all.take (((s.ld ld).respLimit - 32) / 16)
    .ok (leBytes 1 (b2n (decide (shown.length < all.length))) ++ zeros 9 ++ leBytes 2 shown.length ++ zeros 20
      ++ shown.flatMap (fun d => leBytes 8 (d + 2) ++ leBytes 4 1024 ++ zeros 4))))

/-- GET_DC_CONFIGURATION (15 R521). -/
def execGetDcConfiguration (ld : Fin 16) (payload : Bytes) (s : State) : Host.Outcome State Fault Refusal :=
  finish s (s.mailboxRead ld 2 payload (fun s =>
    let used := s.extents.length
    let shown := decide (field payload 0 1 ≥ 1 ∧ field payload 1 1 = 0)
    if field payload 1 1 > 0 then .error retInvalid
    else .ok (leBytes 1 1 ++ leBytes 1 (b2n shown) ++ zeros 6
      ++ (if shown then leBytes 8 0 ++ leBytes 8 65536 ++ leBytes 8 (2 ^ 44) ++ leBytes 8 (2 ^ 30) ++ leBytes 4 0 ++ leBytes 1 2 ++ zeros 3
          else [])
      ++ leBytes 4 16384 ++ leBytes 4 (16384 - used) ++ leBytes 4 16384 ++ leBytes 4 (16384 - s.tags.length))))

/-- GET_DC_EXTENT_LIST: the LD's GRANTED extents. -/
def execGetDcExtentList (ld : Fin 16) (payload : Bytes) (s : State) : Host.Outcome State Fault Refusal :=
  finish s (s.mailboxRead ld 8 payload (fun s =>
    let mine := ((s.extentsOf ld).filter (fun e => e.2.state == 2)).map (·.1)
    let n := Nat.min (field payload 0 4) (((s.ld ld).respLimit - 16) / 40)
    let shown := (mine.drop (field payload 4 4)).take n
    if field payload 4 4 > mine.length then .error retInvalid
    else .ok (leBytes 4 shown.length ++ leBytes 4 mine.length ++ leBytes 4 (s.ld ld).extGen ++ zeros 4
      ++ shown.flatMap (s.extentRecord ld))))

/-- UNSUPPORTED_MAILBOX_COMMAND (15 R528): an opcode that is not listed. -/
def execUnsupportedMailboxCommand (ld : Fin 16) (opcode : U16) (_payload : Bytes) (s : State) : Host.Outcome State Fault Refusal :=
  finish s (if commandEffects.any (·.1 == opcode.toNat) then s
    else s.mailboxDo ld (fun s => (retUnsupported, [], s)))

/-! ## Host-tier pages (15 R529, R530) -/

/-- What a grant names: page index and address. -/
def grantedPages (b : Bytes) : List (Nat × Nat) :=
  (List.range (field b 0 2)).map (fun i => (field b (8 + 16 * i) 4, field b (16 + 16 * i) 8))

/-- Whether a grant breaks a rule of R529. -/
def State.grantBad (s : State) (ld : Nat) (b : Bytes) : Bool :=
  let ps := grantedPages b
  decide (ps.length < 1 ∨ ps.length > 255) || decide (field b 2 1 > 1) || field b 3 5 != 0
    || (List.range ps.length).any (fun i => field b (12 + 16 * i) 4 != 0)
    || ps.any (fun p => decide (p.1 ≥ 131072) || p.2 % 2097152 != 0 || (tabGet (s.ld ld).pages p.1).any (fun x => !x.unusable))
    || !(ps.map (·.1)).Nodup

/-- GRANT_HOST_TIER_PAGES (15 R529): all or nothing. -/
def State.grantPages (s : State) (ld : Nat) (b : Bytes) : Nat × Bytes × State :=
  if b.length ≠ 8 + 16 * field b 0 2 then (retLength, [], s)
  else if s.grantBad ld b then (retInvalid, [], s)
  else
    let l := s.ld ld
    let ps := (grantedPages b).foldl (fun ps p =>
      tabSet ps p.1 { translate := (field b 2 1).testBit 0, unusable := false, addr := p.2 }) l.pages
    (retSuccess, [], ((s.setLd ld { l with pages := ps }).retryLocal).pumpAll)

/-- GRANT_HOST_TIER_PAGES. -/
def execGrantHostTierPages (ld : Fin 16) (payload : Bytes) (s : State) : Host.Outcome State Fault Refusal :=
  finish s (s.mailboxDo ld (fun s => s.grantPages ld payload))

/-- Sectors of an LD's spill area that records take up on the pages that satisfy `on`. -/
def State.spillTaken (s : State) (ld : Nat) (on : Nat → Bool) : Nat :=
  ((s.homesIn 3).filter (fun h => decide (h.1 / 2 ^ 40 = ld))).foldl (fun n h =>
    n + ((List.range h.2).filter (fun i => on ((h.1 % 2 ^ 40 + i) / 8192))).length) 0

/-- The stored tiles of an LD with a sector on one of some pages. -/
def State.tilesOnPages (s : State) (ld : Nat) (ps : List Nat) : List Nat :=
  let on (e : TileEntry) : Bool := e.home == 3 && e.location / 2 ^ 40 == ld && e.length != 0
    && ps.any (fun p => decide (e.location % 2 ^ 40 / 8192 ≤ p ∧ p ≤ (e.location % 2 ^ 40 + e.length - 1) / 8192))
  s.tileMap.filterMap (fun e => if on e.2 then some e.1 else none)

/-- The relocations of a withdrawal, of class 4; those that cannot start yet are tried again (15 R530 step 2). -/
def State.relocatePages (s : State) (ld : Nat) : State :=
  (s.tilesOnPages ld (s.ld ld).withdrawing).foldl (fun s k => match s.startMove k 4 3 4 .compaction with
    | some (_, s) => s
    | none => s) s

/-- WITHDRAW_HOST_TIER_PAGES (15 R530): the pages close and their records are relocated in class 4. -/
def State.withdrawPages (s : State) (ld : Nat) (b : Bytes) : Nat × Bytes × State :=
  let n := field b 0 4
  let ps := (List.range n).map (fun i => field b (4 + 4 * i) 4)
  let l := s.ld ld
  let named (p : Nat) : Bool := ps.contains p
  let outside := (l.pages.filter (fun p => !named p.1 && !p.2.unusable && !p.2.closing)).map (·.1)
  let free := 8192 * outside.length - s.spillTaken ld (fun p => outside.contains p)
  if n < 1 ∨ n > 1020 then (retInvalid, [], s)
  else if b.length ≠ 4 + 4 * n then (retLength, [], s)
  else if ps.any (fun p => (tabGet l.pages p).isNone) then (retInvalid, [], s)
  else if l.background.isSome ∨ !l.withdrawing.isEmpty then (retBusy, [], s)
  else if s.spillGranted ld < spillNeed (s.logicalTiles ld) (s.guaranteed ld) + 2097152 * n then (retBusy, [], s)
  else if s.spillTaken ld named > free then (retBusy, [], s)
  else
    let pages := l.pages.map (fun p => if named p.1 then (p.1, { p.2 with closing := true }) else p)
    let s := s.setLd ld { l with pages := pages, withdrawing := ps, background := some (0xC821, 0) }
    (retBackground, [], s.relocatePages ld)

/-- WITHDRAW_HOST_TIER_PAGES. -/
def execWithdrawHostTierPages (ld : Fin 16) (payload : Bytes) (s : State) : Host.Outcome State Fault Refusal :=
  finish s (s.mailboxDo ld (fun s => s.withdrawPages ld payload))

/-- WITHDRAWAL_COMPLETE (15 R530 steps 3 and 4): no record is left on the pages. After a reset the completion is not
reported (15 R534). -/
def execWithdrawalComplete (ld : Fin 16) (s : State) : Host.Outcome State Fault Refusal :=
  let l := s.ld ld
  finish s (if l.withdrawing.isEmpty ∨ s.spillTaken ld (fun p => l.withdrawing.contains p) ≠ 0 then s
    else
      let asked := l.background.isSome
      let s := s.setLd ld { l with pages := l.pages.filter (fun p => !l.withdrawing.contains p.1), withdrawing := []
                                   background := none
                                   backgroundDone := if asked then some (0xC821, 0, 0) else l.backgroundDone }
      if asked then s.signal ld 0 else s)

/-! ## Binding (02 R41, 09 R308, 10 R323, R341) -/

/-- HOST_BIND: the LD's unit leaves ABSENT, its host key is created on the first binding, and injection is disarmed. -/
def execHostBind (ld : Fin 16) (s : State) : Host.Outcome State Fault Refusal :=
  let u := 0x110 + ld.val
  finish s (if s.bound ld ∨ s.stage = .off ∨ s.stage = .inReset then s
    else
      let s := (s.createHostKey ld).setOwn u (s.requested u) 0
      linkUnits.foldl (fun s u => s.disarm 2 u) s)

/-- HOST_UNBIND: the LD's unit is ABSENT and its attachments pass to salvage or end. -/
def execHostUnbind (ld : Fin 16) (s : State) : Host.Outcome State Fault Refusal :=
  finish s (if s.bound ld then (s.salvage ld).setOwn (0x110 + ld.val) 0 4 else s)

end Sys2Proof.Machine
end

