-- ==== Sys2Proof/Machine/Answer.lean ====
section
/-!
DEFINITION. Aqfort answers: the response message (02 R69), the record of executed sequences (02 R72), and the mailbox's
output payload (02 R68).
-/
namespace Sys2Proof.Machine

/-- The response body: status, reserved, length, then what follows the status (02 R69). -/
def responseBody (status : Nat) (body : Bytes) : Bytes := leBytes 1 status ++ zeros 1 ++ leBytes 2 body.length ++ body

/-- The response message to a request of a type, as it goes in band: no tag, session 0 (02 R68, R69). -/
def responseFrame (ty status : Nat) (body : Bytes) : Bytes := aqfortBytes ty 0 0 1 none (responseBody status body)

/-- The key a response on the management port is tagged under (02 R69, R70): none for HELLO, that of the session just opened for
OPEN, else the session's; where no session is, none (log entry 44). -/
def State.responseKey (s : State) (ty session status : Nat) (body : Bytes) : Option Bytes :=
  let keyOf (id : Nat) : Option Bytes := (s.sessions.find? (fun z => z.id == id)).map (·.key)
  if ty = 1 then none else if ty = 2 then (if status = 0 then keyOf (leNat body) else none) else keyOf session

/-- The response message of a request, as it leaves: with the session and the sequence of the request on the management port
(log entry 44). -/
def State.responseMessage (s : State) (p : Path) (ty status : Nat) (body : Bytes) : Bytes :=
  match p with
  | .mgmt z q _ =>
    aqfortBytes ty (if ty ≤ 2 then 0 else z.toNat) q.toNat 1 (s.responseKey ty z.toNat status body) (responseBody status body)
  | _ => responseFrame ty status body

/-- A response leaves; nothing is kept of it. -/
def State.respond (s : State) (p : Path) (ty status : Nat) (body : Bytes) : State :=
  s.emit (.aqfort p status body (s.responseMessage p ty status body))

/-- A session that has executed a sequence keeps the response message while the sequence lies in the window (02 R72). -/
def Session.keep (z : Session) (q : Nat) (msg : Bytes) : Session :=
  { z with done := (z.done.filter (fun d => decide (d.1 + 63 ≥ z.high) && d.1 != q)) ++ [(q, msg)] }

/-- The data of the AQFORT packet that answers a request a member passed on: 4, status, the body's length, the body (log
entry 17). -/
def passedAnswer (status : Nat) (body : Bytes) : Bytes :=
  let d := leBytes 8 4 ++ leBytes 1 status ++ zeros 1 ++ leBytes 2 body.length ++ zeros 4 ++ body
  d ++ zeros ((16 - d.length % 16) % 16)

/-- Answer a request. -/
def State.answer (s : State) (p : Path) (ty status : Nat) (body : Bytes) : State :=
  match p with
  | .mgmt z q _ =>
    let msg := s.responseMessage p ty status body
    let s := s.respond p ty status body
    { s with sessions := s.sessions.map (fun (x : Session) => if x.id = z.toNat then x.keep q.toNat msg else x) }
  | .mailbox ld => (s.respond p ty status body).mailboxAnswer ld retSuccess (responseFrame ty status body)
  | .fmLd => s.respond p ty status body
  | .member m tag => s.sendPacket m 6 0 0x10 0 tag.toNat 0 0 (passedAnswer status body)

end Sys2Proof.Machine
end

