-- ==== Sys2Proof/Machine/Ports.lean ====
section
/-!
DEFINITION. Stream ports (16 R538 to R546): training, flits, replay, retraining and INIT; fault injection on a receive path
(18 R601, R602).
-/
namespace Sys2Proof.Machine

/-! ## Fault injection on a link's receive path (18 R602, R603) -/

/-- One step of the xorshift generator with shifts 13, 17 and 5. -/
def xorshift32 (x : Nat) : Nat :=
  let a := (x ^^^ (x <<< 13)) % 2 ^ 32
  let b := a ^^^ (a >>> 17)
  (b ^^^ (b <<< 5)) % 2 ^ 32

/-- Whether the unit that arrives at a link is affected: the mode 060.00 when it is, 0 when it is not. -/
def State.injectUnit (s : State) (u : Nat) : Nat × State :=
  match tabGet s.injects u with
  | none => (0, s)
  | some i =>
    if !i.armed then (0, s)
    else
      let g := xorshift32 i.gen
      let byCount : Bool := s.obj u 0x61 0 == 1
      let hit : Bool := s.obj u 0x60 0 != 0 &&
        (if byCount then decide (i.seen < s.obj u 0x63 0) else decide (g < s.obj u 0x62 0))
      if !hit then (0, { s with injects := tabSet s.injects u { i with gen := g } })
      else
        let s := { s with injects := tabSet s.injects u { i with gen := g, seen := i.seen + 1 } }.bump u 0x69 1
        (s.obj u 0x60 0, if byCount ∧ i.seen + 1 ≥ s.obj u 0x63 0 then s.setObj u 0x6B 0 2 else s)

/-- A recovery of a link is counted while injection is armed (18 R601, 06A). -/
def State.recovery (s : State) (u : Nat) : State :=
  if (tabGet s.injects u).any (·.armed) then s.bump u 0x6A 1 else s

/-- The 10-bit symbols of a codeword that the bit pattern changes: those of its 64 bits on one lane, or on every usable
lane. -/
def State.badSymbols (s : State) (p : Nat) : Nat :=
  let u := 0xC10 + p
  let pat := leNat (s.blob u 0x64 0 0 8)
  let n := ((List.range 7).filter (fun i => bits pat (10 * i + 9) (10 * i) != 0)).length
  if s.obj u 0x65 0 = 0xFF then n * (s.sport p).width else n

/-! ## Ports -/

/-- The unit of a port. -/
def portUnit (p : Nat) : Nat := 0xC10 + p

/-- The credits each VL's receive buffer stands for, in 16 B units (16 R544, R545). -/
def vlUnits : List Nat := [256, 1024, 8192, 4096]

/-- The serial number of the module (02 R84). -/
def State.serial (_ : State) : Bytes := serialText

/-- Packets that wait at a port go out, oldest first; a wait that ends is traced for the packet's party (19 R615 kind 0x07), and one that goes
on keeps its start. -/
def State.portFlush (s : State) (p : Nat) : State :=
  (s.sport p).waiting.foldl (fun s w =>
    let vl := packetVl w.2
    if (s.sport p).takes vl w.2.length then
      (s.portSend p w.2).traceWait (portUnit p)
        { kind := 7, party := Nat.min 16 (nth w.2 4 0).toNat, waiter := 0xC00, on_ := portUnit p, pos := none, flags := 0, cause := 0xFFFF
          object := vl, start := w.1, len := s.now - w.1 }
    else s.setSport p { s.sport p with waiting := (s.sport p).waiting ++ [w] })
    (s.setSport p { s.sport p with waiting := [] })

/-- The INIT of a port (16 R541 step 3, R547); it needs no credit. -/
def State.sendInit (s : State) (p : Nat) : State :=
  let data := vlUnits.flatMap (leBytes 2) ++ leBytes 1 (s.obj 0xC00 0x101 0) ++ leBytes 1 (s.obj 0xC00 0x102 0) ++ zeros 6
  let b := packetBytes 1 0 (s.obj 0xC00 0x101 0) Config.initDestination 0x10 0 0 (s.obj 0xC00 0x100 0) (field s.serial 0 8) data
  let x := s.sport p
  let y : SPort := { x with txSeq := (x.txSeq + 1) % 4096, replay := x.replay ++ [(x.txSeq, slice b 0 624)] }
  ((s.setSport p y).emit (.packet Config.initDestination 1 b)).bump (portUnit p) 0x30 1

/-- The usable lanes at a width (16 R538). -/
def State.lanesAt (s : State) (w : Nat) : Nat × State :=
  if w = 8 then (0xFF, s)
  else let r := s.tick; (Config.laneMask r.1 w, r.2)

/-- STREAM_TRAINING_COMPLETE (16 R541): a port that trains reaches a width and sends INIT, or reads ABSENT. -/
def execStreamTrainingComplete (port : Fin 4) (width : Nat) (s : State) : Host.Outcome State Fault Refusal :=
  let u := portUnit port
  finish s (
    if !(s.stage == .filling || s.stage == .running) ∨ (s.sport port).up ∨ !s.strefclk ∨ s.requested u = 3 then s
    else if width ≠ 8 ∧ width ≠ 4 ∧ width ≠ 2 then s.setOwn u 0 4
    else
      let r := s.lanesAt width
      let x : SPort := { up := true, width := width, lanes := r.1 }
      (r.2.setSport port x).sendInit port)

/-! ## Replay and retraining (16 R542, R543) -/

/-- Retraining begins. -/
def State.retrainPort (s : State) (p : Nat) : State :=
  let x := s.sport p
  if !x.up ∨ x.retraining then s
  else (s.setSport p { x with retraining := true }).bump (portUnit p) 0x37 1

/-- Replay from the flit after the last acknowledged one; the eighth in a row without progress retrains. -/
def State.replayFrom (s : State) (p : Nat) : State :=
  let x := s.sport p
  let s := (((s.setSport p { x with replays := x.replays + 1 }).emit (.resend p ((x.acked + 1) % 4096))).bump (portUnit p) 0x36 1).recovery
    (portUnit p)
  if x.replays + 1 ≥ 8 then s.retrainPort p else s

/-- Take an acknowledgement: flits up to it leave the replay buffer. -/
def State.takeAck (s : State) (p a : Nat) : State :=
  let x := s.sport p
  let n := (a + 4096 - x.acked) % 4096
  if n = 0 ∨ n > x.replay.length then s
  else s.setSport p { x with acked := a, replay := x.replay.drop n, replays := 0 }

/-- Take a credit total of a VL (16 R545). -/
def State.takeCredit (s : State) (p vl total : Nat) : State :=
  let x := s.sport p
  let gain := (total + 65536 - (tabGet x.totals vl).getD 0) % 65536
  s.setSport p { x with credits := tabSet x.credits vl ((tabGet x.credits vl).getD 0 + gain), totals := tabSet x.totals vl total }

/-- A flit is discarded: the first discard after an accepted flit sends a NAK. -/
def State.discardFlit (s : State) (p : Nat) : State :=
  let x := s.sport p
  if x.nakSent then s
  else (((s.setSport p { x with nakSent := true }).emit (.nak p x.rxSeq)).bump (portUnit p) 0x35 1).recovery (portUnit p)

/-- Take a flit whose codeword was received (16 R540, R542). -/
def State.takeFlit (s : State) (p : Nat) (flit : Bytes) : State :=
  let u := portUnit p
  let h := field flit 0 8
  if flit.length ≠ 640 then (s.bump u 0x33 1).discardFlit p
  else if crc64 (flit.take 632) ≠ field flit 632 8 then (s.bump u 0x34 1).discardFlit p
  else if !h.testBit 25 ∧ bits h 11 0 ≠ ((s.sport p).rxSeq + 1) % 4096 then s.discardFlit p
  else
    let s : State := if h.testBit 25 then s
      else ((s.setSport p { s.sport p with rxSeq := bits h 11 0, nakSent := false }).bump u 0x31 1).emit (.ack p (bits h 11 0))
    let s := (s.takeAck p (bits h 23 12)).takeCredit p (bits h 27 26) (bits h 43 28)
    let s := if h.testBit 24 then s.replayFrom p else s
    s.portFlush p

/-- FLIT_RECEIVE (16 R542, 18 R603): injection acts ahead of the FEC decoder. The packets a flit carries come as commands
of their own. -/
def execFlitReceive (port : Fin 4) (flit : Bytes) (s : State) : Host.Outcome State Fault Refusal :=
  let u := portUnit port
  finish s (
    if !(s.sport port).up ∨ (s.sport port).retraining then s
    else match s.injectUnit u with
      | (0, s) => s.takeFlit port flit
      | (2, s) =>
        if s.badSymbols port ≤ 15 then (s.bump u 0x32 (s.badSymbols port)).takeFlit port flit
        else (s.bump u 0x33 1).discardFlit port
      | (_, s) => s.discardFlit port)

/-- REPLAY_TIMEOUT (16 R542): 5 µs without the ack advancing while flits are unacknowledged. -/
def execReplayTimeout (port : Fin 4) (s : State) : Host.Outcome State Fault Refusal :=
  let x := s.sport port
  finish s (if x.up ∧ !x.retraining ∧ !x.replay.isEmpty then s.replayFrom port else s)

/-- LANE_LOCK_LOSS (16 R543). -/
def execLaneLockLoss (port : Fin 4) (s : State) : Host.Outcome State Fault Refusal := finish s (s.retrainPort port)

end Sys2Proof.Machine
end

