-- ==== Sys2Proof/Machine/Span.lean ====
section
/-!
DEFINITION. The span (16 R546 to R559): packets, membership and routes, transfer keys, replicated bindings, reservations,
time offsets, propagated cadences.
-/
namespace Sys2Proof.Machine

/-! ## Packets (16 R546 to R549) -/

/-- Operand A of a packet. -/
def pktA (b : Bytes) : Nat := field b 16 8
/-- Operand B of a packet. -/
def pktB (b : Bytes) : Nat := field b 24 8
/-- The tag of a packet. -/
def pktTag (b : Bytes) : Nat := field b 8 4
/-- The status of a packet. -/
def pktStatus (b : Bytes) : Nat := field b 5 1
/-- The party of a packet. -/
def pktParty (b : Bytes) : Nat := field b 4 1
/-- The data of a packet. -/
def pktData (b : Bytes) : Bytes := b.drop 32

/-- Whether bytes are a packet of a type: whole header, its length, whole 16 B units (16 R546). -/
def pktOk (kind : Nat) (b : Bytes) : Bool :=
  decide (b.length ≥ 32 ∧ b.length ≤ 4128) && b.length % 16 == 0 && field b 0 1 == kind && field b 6 2 == b.length - 32

/-- The units of a packet that leaves the receive buffer are freed (16 R545). -/
def State.freeUnits (s : State) (p : Nat) (b : Bytes) : State :=
  let x := s.sport p
  let vl := packetVl b
  s.setSport p { x with freed := tabSet x.freed vl (((tabGet x.freed vl).getD 0 + b.length / 16) % 65536) }

/-- A packet of a type from a member: forwarded when it names another member, else taken. -/
def State.packetIn (s : State) (source kind : Nat) (b : Bytes) (f : State → State) : State :=
  if s.span.mask = 0 ∨ !pktOk kind b ∨ field b 2 1 ≠ source then s
  else
    let s : State := match tabGet s.span.routes source with
      | some r => s.freeUnits r.1 b
      | none => s
    if field b 3 1 = s.span.member then f s else (s.route (field b 3 1) (s.arriving b)).bump 0xC00 0x1A 1

/-! ## Routes (16 R549) -/

/-- The lowest-numbered port with a direct link to a member. -/
def State.directPort (s : State) (m : Nat) : Option Nat :=
  firstBelow 4 (fun p => let x := s.sport p; x.up && x.inited && x.peerMember == m)

/-- A member's entry of a table of routes. -/
def routeEntry (b : Bytes) (m : Nat) : Option (Nat × Nat) :=
  if field b (2 * m) 1 < 4 then some (field b (2 * m) 1, field b (2 * m + 1) 1) else none

/-- Routes to the members of a mask: a direct link where there is one, else the table. -/
def State.routesFrom (s : State) (b : Bytes) (mask : Nat) : List (Nat × Nat × Nat) :=
  (List.range 8).filterMap (fun m =>
    if m = s.span.member ∨ !mask.testBit m then none
    else match s.directPort m with
      | some p => some (m, p, 1)
      | none => (routeEntry b m).map (fun r => (m, r)))

/-- The reachable member with the lowest number. -/
def State.coordinatorOf (s : State) : Nat := (firstBelow 8 s.span.mask.testBit).getD s.span.member

/-- Install a table of routes. -/
def State.setRoutes (s : State) (b : Bytes) : State :=
  { s with span := { s.span with routes := s.routesFrom b s.span.mask, coordinator := s.coordinatorOf } }

/-- The coordinator computes the routes and sends every member its own; another member keeps its direct links. -/
def State.computeRoutes (s : State) : State :=
  if s.coordinatorOf ≠ s.span.member then s.setRoutes (List.replicate 16 0xFF)
  else
    let (n, s) := s.tick
    let s := s.setRoutes (Config.routes n s.span.member)
    s.peers.foldl (fun s m => s.sendPacket m 2 0 0x10 0 0 s.span.mask 0 (slice (Config.routes n m) 0 16)) s

/-! ## Transfer keys and bindings (10 R334, R335) -/

/-- The serial number of a member, 16 characters (02 R84), as the transfer key takes it: a direct link has named the first 8, the member's
certificate the others (log entry 26). -/
def State.serialOf (s : State) (m : Nat) : Bytes :=
  let other := slice (Config.memberSerial m) 0 16
  if m = s.span.member then slice s.serial 0 16
  else match s.directPort m with
    | some p => leBytes 8 (s.sport p).peerSerial ++ other.drop 8
    | none => other

/-- The transfer key of a pair from its secret: both serial numbers in ascending order. -/
def State.pairKey (s : State) (m : Nat) (secret : Bytes) : Bytes :=
  let a := s.serialOf s.span.member
  let b := s.serialOf m
  hmac256 secret (strBytes 8 "span-key" ++ (if beNat a ≤ beNat b then a ++ b else b ++ a))

/-- Keep the transfer key with a member. -/
def State.setPairKey (s : State) (m : Nat) (k : Bytes) : State :=
  { s with span := { s.span with transferKeys := tabSet s.span.transferKeys m k } }

/-- Send a member the bindings it holds copies of. -/
def State.resendKeys (s : State) (m : Nat) : State :=
  (s.keys.filter (fun z => z.2.origin.isNone && (s.keyMembers z.2).contains m)).foldl (fun s z => s.sendKey m z.2 false) s

/-- The lower-numbered member of a pair draws the secret and sends it, once the peer's certificate chain verifies. -/
def State.setupKey (s : State) (m : Nat) : State :=
  if m ≤ s.span.member ∨ s.drbgFailed ∨ !Config.peerCertified m then s
  else
    let (secret, s) := s.draw 32
    let (n, s) := s.tick
    let s := s.setPairKey m (s.pairKey m secret)
    (s.sendPacket m 7 0 0x10 0 0 0 0 (slice (Config.oaepSeal n m secret) 0 384)).resendKeys m

/-- Transfer keys are set up with every member that a route reaches and that has none. -/
def State.setupKeys (s : State) : State :=
  (s.peers.filter (fun m => (tabGet s.span.routes m).isSome && (tabGet s.span.transferKeys m).isNone)).foldl State.setupKey s

/-- Store a member's binding: a new generation of one that is held erases the old key (10 R330, R335). -/
def State.storeReplica (s : State) (m binding gen : Nat) (key : Bytes) : State :=
  match s.keys.find? (fun z => z.2.origin == some m && z.2.binding == binding) with
  | some (i, z) =>
    if z.gen = gen then s.setKey i { z with unsure := false }
    else s.setKey i { z with state := 2, gen := gen, key := key, shadow := some z.key, sweeping := true, unsure := false }
  | none => match (List.range 4080).find? (fun i => (s.key (16 + i)).isNone) with
    | some i => s.setKey (16 + i) { state := 1, kind := if binding < 16 then 0 else 1, gen := gen, binding := binding
                                    useMask := if binding < 16 then 2 ^ binding else 0
                                    key := key, origin := some m, created := s.now }
    | none => s

/-- A KEY packet: a transfer-key secret, a wrapped binding, or the end of one. -/
def State.takeKey (s : State) (m : Nat) (b : Bytes) : State :=
  let d := pktData b
  if d.length = 384 then
    match Config.oaepOpen d with
    | some secret => if m < s.span.member then (s.setPairKey m (s.pairKey m (slice secret 0 32))).resendKeys m else s
    | none => s
  else if d.isEmpty then
    { s with keys := s.keys.filter (fun z => !(z.2.origin == some m && z.2.binding == pktA b)) }
  else match (tabGet s.span.transferKeys m).bind (fun k => keyUnwrap k (d.take 72)) with
    | some key => s.storeReplica m (pktA b) (pktB b) key
    | none => s

/-- KEY. -/
def execPktKey (source : Fin 8) (body : Bytes) (s : State) : Host.Outcome State Fault Refusal :=
  finish s (s.packetIn source 7 body (fun s => s.takeKey source body))

/-! ## Time offsets (16 R557, R558) -/

/-- Whether a probe to a member can depart at once, so that its t1 is the time of its departure. -/
def State.mayProbe (s : State) (m : Nat) : Bool := (tabGet s.span.routes m).any (fun r => (s.sport r.1).takes 0 48)

/-- Send the probes that are due: 16 to each member, 10 µs apart. -/
def State.sendProbes (s : State) : State :=
  let due := s.span.measuring.filter (fun x => decide (x.2.1 < 16 ∧ x.2.2 ≤ s.now) && s.mayProbe x.1)
  due.foldl (fun s x =>
    let tag := s.span.nextTag
    let q : RemoteReq := { id := tag, member := x.1, kind := 3, sent := s.now }
    let s := { s with span := { s.span with
      nextTag := (tag + 1) % 2 ^ 32, requests := s.span.requests ++ [q]
      measuring := tabSet s.span.measuring x.1 (x.2.1 + 1, s.now + 10000) } }
    s.sendPacket x.1 3 0 0x10 0 tag s.now 0 (zeros 16)) s

/-- Measure the offsets of some members: the coordinator does. -/
def State.measureOffsets (s : State) (ms : List Nat) : State :=
  if s.span.coordinator ≠ s.span.member then s
  else
    let s := { s with span := { s.span with
      measuring := ms.foldl (fun t m => tabSet t m (0, s.now)) s.span.measuring
      exchange := s.span.exchange.filter (fun x => !ms.contains x.1)
      requests := s.span.requests.filter (fun q => !(q.kind == 3 && ms.contains q.member)) } }
    s.sendProbes

/-- TIME_PROBE: stamped at arrival and answered. -/
def execPktTimeProbe (source : Fin 8) (arrival : U64) (body : Bytes) (s : State) : Host.Outcome State Fault Refusal :=
  finish s (s.packetIn source 3 body (fun s =>
    s.sendPacket source 4 0 0x10 0 (pktTag body) arrival.toNat s.now (slice (pktData body) 0 8 ++ zeros 8)))

/-- One exchange: the offset and the round trip, residence totals taken out as R557 step 4 says. -/
def exchangeOf (t1 t2 t3 t4 probe reply : Nat) : Int × Int :=
  let a : Int := (t2 : Int) - probe
  let d : Int := (t4 : Int) + reply
  ((((a - t1) + (t3 - d)).tdiv 2), (d - t1) - (t3 - a))

/-- The exchange with the smallest round trip, the earliest of equals. -/
def bestExchange : List (Int × Int) → Int × Int
  | [] => (0, 0)
  | [x] => x
  | x :: r => let y := bestExchange r; if x.2 ≤ y.2 then x else y

/-- An exchange is complete; the 16th gives the member's offset. -/
def State.takeReply (s : State) (m t4 : Nat) (b : Bytes) : State :=
  match s.span.requests.find? (fun q => q.kind == 3 && q.member == m && q.id == pktTag b) with
  | none => s
  | some q =>
    let x := exchangeOf q.sent (pktA b) (pktB b) t4 (field (pktData b) 0 8) (field (pktData b) 8 8)
    let all := s.span.exchange ++ [(m, x)]
    let mine := all.filterMap (fun e => if e.1 = m then some e.2 else none)
    let s := { s with span := { s.span with requests := s.span.requests.filter (fun p => p.id != q.id || p.kind != 3), exchange := all } }
    if mine.length < 16 then s
    else { s with span := { s.span with
      exchange := all.filter (fun e => e.1 != m), measuring := tabDel s.span.measuring m
      offsets := tabSet s.span.offsets m (bestExchange mine).1, offsetTime := s.now } }

/-- TIME_REPLY. -/
def execPktTimeReply (source : Fin 8) (arrival : U64) (body : Bytes) (s : State) : Host.Outcome State Fault Refusal :=
  finish s (s.packetIn source 4 body (fun s => s.takeReply source arrival.toNat body))

/-- The uncertainty 0C00:112 at the moment it is read (16 R558). -/
def State.uncertainty (s : State) : Nat := 20 + 2 * ((s.now - s.span.offsetTime) / 1000000)

/-! ## Reservations (16 R554) -/

/-- Send RESERVE for the DLA extents a region needs of some members, and wait for the answers. -/
def State.askReserve (s : State) (z : WaitCreate) : State :=
  z.waiting.foldl (fun s a => s.sendReserve a.1 a.2 z.region true)
    { s with span := { s.span with creates := s.span.creates ++ [z] } }

/-- A reservation failed: every one is released, and the command is answered BUSY. -/
def State.failCreate (s : State) (z : WaitCreate) : State :=
  let s := { s with span := { s.span with creates := s.span.creates.filter (fun c => c.region != z.region) } }
  let s := (z.made ++ z.waiting).foldl (fun s a => s.sendReserve a.1 a.2 0xFFFF false) s
  match z.path with
  | some (p, ty) => s.answer p ty stBusy []
  | none => s

/-- Give up what is held for a member under a DLA extent. -/
def State.dropGuest (s : State) (m dla : Nat) : State :=
  match s.span.reservations.find? (fun r => r.guest && r.member == m && r.dla == dla) with
  | none => s
  | some r =>
    let s := s.abortWhere 6 (fun x => decide (x.key < 2 ^ 28) && x.key / 16384 == r.block)
    let s := { s with held := s.held.filter (fun h => match h.by_ with
      | .peer _ _ k => k / 16384 != r.block
      | _ => true) }
    let s := ((s.blockTiles r.block).foldl State.discardTile s).settleSweeps
    let mine (x : MoveIn) : Bool := x.placed.any (fun p => p.2.1 / 16384 == r.block)
    { s with span := { s.span with reservations := s.span.reservations.filter (fun x => x != r)
                                   movesIn := s.span.movesIn.filter (fun x => !mine x) } }

/-- RESERVE: the holder takes the same DLA extent number with a map block of its own, its tiles UNWRITTEN; region 0xFFFF
gives it up (log entry 19). -/
def execPktReserve (source : Fin 8) (body : Bytes) (s : State) : Host.Outcome State Fault Refusal :=
  finish s (s.packetIn source 8 body (fun s =>
    let dla := pktA body
    if pktB body = 0xFFFF then s.dropGuest source dla
    else
      let reply (s : State) (status : Nat) : State := s.sendPacket source 0x21 2 0x10 status (pktTag body) 0 0 []
      match (if decide (dla < 32768) && s.dlaFree dla then s.lowestBlock else none) with
      | none => reply s 2
      | some b =>
        let s := s.clearBlock b
        let g : Reservation := { member := source, dla := dla, block := b, guest := true }
        reply { s with span := { s.span with reservations := s.span.reservations ++ [g] } } 0))

/-! ## Membership (16 R550 to R552) -/

/-- Injection is disarmed on every link unit (10 R341). -/
def State.disarmAll (s : State) (cause : Nat) : State := linkUnits.foldl (fun s u => s.disarm cause u) s

/-- Requests to a member end: reads are answered with poison, writes wait for it, remote moves abort (16 R552, R556). -/
def State.endRequests (s : State) (m : Nat) : State :=
  let mine := s.span.requests.filter (·.member == m)
  let helds := mine.filterMap (·.held)
  let tags := mine.filterMap (fun q => if q.kind = 0x32 then q.move else none)
  let back (k : Nat) : Bool := (s.entry k).holder == m
  let s := { s with span := { s.span with
    requests := s.span.requests.filter (·.member != m)
    lines := s.span.lines.filter (fun l => !(l.1 == 0 && helds.contains l.2.1) && !(l.1 == 1 && back l.2.1))
    recalls := s.span.recalls.filter (fun k => !back k)
    movesIn := s.span.movesIn.filter (·.source != m)
    measuring := tabDel s.span.measuring m, exchange := s.span.exchange.filter (·.1 != m) } }
  let off (h : HeldWrite) : HeldWrite := if h.remote.any helds.contains then { h with remote := none } else h
  let s := { s with held := s.held.map off }
  let s := (mine.filterMap (·.access)).eraseDups.foldl (fun s id => match s.accesses.find? (·.id == id) with
    | some a => (s.bump 0xC00 0x1B 1).answerRead a none
    | none => s) s
  let s := s.abortWhere 0xB (fun x => x.kind == 6 && tags.contains x.tag)
  let s := (mine.filterMap (·.path)).foldl (fun s p => s.answer p.1 p.2 0x0E []) s
  (s.span.creates.filter (fun c => c.waiting.any (·.1 == m))).foldl State.failCreate s

/-- The cadences that follow a cadence of a member keep their positions and show that it is gone (08 R260). -/
def State.sourceLost (s : State) (m : Nat) : State :=
  ((List.range 64).filter (fun c => s.cadMode c == 4 && s.obj (0x810 + c) 0x102 0 / 256 == m)).foldl (fun s c =>
    (s.setOwn (0x810 + c) 5 0x100).raise (0x810 + c) 0x0141 0) s

/-- A member becomes unreachable. -/
def State.memberLost (s : State) (m : Nat) : State :=
  if s.span.unreachable.contains m ∨ !s.span.mask.testBit m ∨ m = s.span.member then s
  else
    let (n, s) := s.tick
    let s := { s with span := { s.span with unreachable := s.span.unreachable ++ [m], mask := setBit s.span.mask m false
                                            routes := tabDel s.span.routes m, lastValues := tabSet s.span.lastValues m n } }
    let s := s.endRequests m
    let s : State := if s.coordinatorOf = s.span.member then s.computeRoutes
      else { s with span := { s.span with coordinator := s.coordinatorOf } }
    ((s.spanShow.raise 0xC00 0x01A2 m).disarmAll 3).sourceLost m

/-- Writes that wait for a member go out again. -/
def State.retryRemote (s : State) : State := s.retryHeld (fun h => h.why == .remote && h.remote.isNone)

/-- Copies of a member's keys wait for the member to send them again before they serve a tile (10 R335). -/
def State.doubtKeys (s : State) (m : Nat) : State :=
  { s with keys := s.keys.map (fun z => if z.2.origin = some m then (z.1, { z.2 with unsure := true }) else z) }

/-- A member is reachable again: steps 2 to 4 of R550 run for it. -/
def State.memberBack (s : State) (m : Nat) : State :=
  let s := { s with span := { s.span with unreachable := s.span.unreachable.filter (· != m), mask := setBit s.span.mask m true } }
  let s : State := if s.coordinatorOf = s.span.member then s.computeRoutes
    else match s.directPort m with
      | some p => { s with span := { s.span with routes := tabSet s.span.routes m (p, 1), coordinator := s.coordinatorOf } }
      | none => { s with span := { s.span with coordinator := s.coordinatorOf } }
  let s := { s with span := { s.span with transferKeys := tabDel s.span.transferKeys m } }
  ((((s.doubtKeys m).spanShow).setupKeys.measureOffsets [m]).disarmAll 3).retryRemote

/-- The members the fabric manager expects besides this one. -/
def State.expected (s : State) : List Nat := (membersOf (s.obj 0xC00 0x102 0)).filter (· != s.obj 0xC00 0x101 0)

/-- SPAN_FORMATION: FM has written the span's identifier, member number and mask on every module, and the members named
are linked. -/
def execSpanFormation (spanId : U32) (members : Byte) (s : State) : Host.Outcome State Fault Refusal :=
  let own := s.obj 0xC00 0x101 0
  let id := s.obj 0xC00 0x100 0
  let ms := members.toNat
  finish s (
    if s.stage ≠ .running ∨ id = 0 ∨ id % 2 ^ 32 ≠ spanId.toNat ∨ !ms.testBit own ∨ ms &&& s.obj 0xC00 0x102 0 ≠ ms then s
    else
      let s := { s with span := { s.span with id := id, member := own, mask := ms, transferKeys := []
                                              unreachable := s.expected.filter (fun m => !ms.testBit m) } }
      let s := s.computeRoutes
      let s := s.setupKeys
      let s := s.measureOffsets s.peers
      ((s.spanShow.raise 0xC00 0x01A3 ms).disarmAll 3).retryRemote)

/-- ROUTES: the coordinator's routes; members that they reach again rejoin, and members without one are lost. -/
def execPktRoutes (source : Fin 8) (body : Bytes) (s : State) : Host.Outcome State Fault Refusal :=
  finish s (s.packetIn source 2 body (fun s =>
    if source.val ≠ s.coordinatorOf ∧ source.val > s.coordinatorOf then s
    else
      let mask := pktA body % 256
      let back := (membersOf mask).filter s.span.unreachable.contains
      let gone := (membersOf s.span.mask).filter (fun m => !mask.testBit m && m != s.span.member)
      let s := gone.foldl State.memberLost s
      let s := { s with span := { s.span with mask := setBit mask s.span.member true
                                              unreachable := s.span.unreachable.filter (fun m => !mask.testBit m) } }
      let s := s.setRoutes (slice (pktData body) 0 16)
      let s := { s with span := { s.span with transferKeys := s.span.transferKeys.filter (fun k => !back.contains k.1) } }
      let s := (back.foldl State.doubtKeys s).setupKeys
      if back.isEmpty then s else (s.spanShow.disarmAll 3).retryRemote))

/-- MEMBER_REQUEST_TIMEOUT (16 R552): a request and a probe of VL0 have gone unanswered. -/
def execMemberRequestTimeout (member : Fin 8) (s : State) : Host.Outcome State Fault Refusal :=
  finish s (if s.span.requests.any (·.member == member.val) then s.memberLost member else s)

/-- MEASURE (16 R557), as a write of 0C00:113.00. -/
def State.measureWrite (s : State) (v : Nat) : Reply :=
  checks [ (v != 1, stRange) ] (s.measureOffsets s.peers)

/-! ## INIT (16 R541, R550 step 1) -/

/-- Whether a peer's INIT is refused: another span identifier, no member number, or a duplicate one. -/
def State.initBad (s : State) (p : Nat) (b : Bytes) : Bool :=
  let m := field (pktData b) 8 1
  pktA b != s.obj 0xC00 0x100 0 || decide (m ≥ 8) || m == s.obj 0xC00 0x101 0
    || (List.range 4).any (fun q => let x := s.sport q; q != p && x.inited && x.peerMember == m && x.peerSerial != pktB b)

/-- INIT: the peer's member number, serial number and credits; the port is ACTIVE. -/
def execPktInit (port : Fin 4) (body : Bytes) (s : State) : Host.Outcome State Fault Refusal :=
  let u := portUnit port
  let d := pktData body
  let m := field d 8 1
  finish s (
    if !pktOk 1 body ∨ !(s.sport port).up ∨ (s.sport port).inited ∨ d.length ≠ 16 then s
    else if s.initBad port body then (s.setSport port {}).setOwn u 3 0x0101
    else
      let x := s.sport port
      let s := s.setSport port { x with inited := true, peerMember := m, peerPort := Config.peerPort port, peerSerial := pktB body
                                        credits := (List.range 4).map (fun v => (v, field d (2 * v) 2)) }
      let s := s.setOwn u (if s.requested u = 2 then 2 else 1) 1
      let s : State := if s.span.mask = 0 ∨ !(membersOf (s.obj 0xC00 0x102 0)).contains m then s
        else if s.span.mask.testBit m then { s with span := { s.span with routes := tabSet s.span.routes m ((s.directPort m).getD port, 1) } }
        else s.memberBack m
      s.portFlush port)

/-- A port goes down: members reached through it take another route, or are lost. -/
def State.portDown (s : State) (p : Nat) : State :=
  let s := s.setSport p {}
  let cut := s.span.routes.filter (fun r => r.2.1 == p)
  let s := { s with span := { s.span with routes := s.span.routes.filter (fun r => r.2.1 != p) } }
  if cut.isEmpty then s
  else
    let s : State := if s.coordinatorOf = s.span.member then s.computeRoutes
      else cut.foldl (fun s r => match s.directPort r.1 with
        | some q => { s with span := { s.span with routes := tabSet s.span.routes r.1 (q, 1) } }
        | none => s) s
    cut.foldl (fun s r => if (tabGet s.span.routes r.1).isSome then s else s.memberLost r.1) s

/-- STREAM_RETRAIN_COMPLETE (16 R543): traffic resumes from the flit after the last acknowledged one, and the RAS unit logs it (18 R585); with no usable width
the port is FAILED. -/
def execStreamRetrainComplete (port : Fin 4) (width : Nat) (s : State) : Host.Outcome State Fault Refusal :=
  let u := portUnit port
  let x := s.sport port
  finish s (
    if !x.retraining then s
    else if width ≠ 8 ∧ width ≠ 4 ∧ width ≠ 2 then ((s.portDown port).setOwn u 6 0x0100).raise u 0x01A1 0
    else
      let (l, s) := s.lanesAt width
      let s := s.setSport port { x with retraining := false, replays := 0, width := width, lanes := l }
      let s := if x.replay.isEmpty then s else s.emit (.resend port ((x.acked + 1) % 4096))
      let s := if width < x.width then s.raise u 0x01A0 width else s
      let s := s.logUnit 2 4 u u
      s.portFlush port)

/-! ## Propagated cadences (16 R559, 08 R260) -/

/-- ADVANCE packet. -/
def execPktAdvance (source : Fin 8) (body : Bytes) (s : State) : Host.Outcome State Fault Refusal :=
  finish s (s.packetIn source 5 body (fun s =>
    (List.range 64).foldl (fun s c =>
      if s.cadMode c = 4 ∧ s.obj (0x810 + c) 0x102 0 = 256 * source.val + pktB body % 256 then s.advanceOne c (pktA body) else s) s))

end Sys2Proof.Machine
end

