-- ==== Sys2Proof/Machine/Remote.lean ====
section
/-!
DEFINITION. Remote tiles (16 R553 to R556): lines served as holder, lines and completions as origin; remote moves, evacuation
and recall (16 R547, R562).
-/
namespace Sys2Proof.Machine

/-! ## Tile map entries as bytes (03 R104) -/

/-- Read a tile map entry. -/
def tileEntryOf (b : Bytes) : TileEntry :=
  let v := field b 0 16
  { home := bits v 1 0, state := bits v 4 2, elem := bits v 6 5, frWidth := bits v 8 7, llPresent := v.testBit 9
    frSlot := bits v 15 10, frGen := bits v 31 16, llSlot := bits v 37 32, llBuiltin := v.testBit 38, keySlot := bits v 51 40
    keyGen := bits v 79 64, inst := bits v 111 80, region := bits v 123 112, recency := field b 16 1, frequency := field b 17 1
    moveTag := field b 18 2, location := field b 20 8, length := field b 28 2 }

/-! ## Holder (16 R555) -/

/-- The map index of a tile held for a member. -/
def State.guestTile (s : State) (m tile : Nat) : Option Nat :=
  (s.span.reservations.find? (fun g => g.guest && g.member == m && g.dla == tile / 16384)).map
    (fun g => g.block * 16384 + tile % 16384)

/-- The entry a held tile's lines travel under for a party: its own, under its key's generation now, or the one a first write gives
it. -/
def State.guestForm (s : State) (k party : Nat) : Option TileEntry :=
  let e := s.entry k
  if e.state = 0 then s.guestKey k party (s.newEntry guestRegion guestDescriptor 0)
  else (s.key e.keySlot).map (fun z => { e with keyGen := z.gen })

/-- The plaintext of a held write that has not been applied, which a later read of the line returns (16 R548). -/
def State.guestPending (s : State) (k f : Nat) : Option Bytes :=
  (s.held.filter (fun h => (match h.by_ with
    | .peer _ _ i => i == k
    | _ => false) && h.dpa / 64 % 1024 == f)).getLast?.map (·.data)

/-- Answer a LINE READ. -/
def State.lineReply (s : State) (m : Nat) (b : Bytes) (status : Nat) (data : Bytes) : State :=
  s.sendPacket m 0x20 2 (pktParty b) status (pktTag b) 0 0 data

/-- Serve a LINE READ as a local access. -/
def State.serveRead (s : State) (m : Nat) (b : Bytes) : State :=
  let f := bits (pktA b) 41 32
  let s := s.bump 0xC00 0x16 1
  if s.contained then s.lineReply m b 1 []
  else match s.guestTile m (bits (pktA b) 28 0) with
  | none => s.lineReply m b 2 []
  | some k => match s.guestForm k (pktParty b) with
    | none => s.lineReply m b 2 []
    | some e =>
      let s := s.look k
      let (d, s) := match s.guestPending k f with
        | some d => (some d, s)
        | none => s.readLine k f (s.peerRequester m) none
      match d with
      | some d =>
        let (c, s) := s.encipher e (s.tileNumber k) f 0 d
        (s.lineReply m b 0 c).demandPromote k
      | none => s.lineReply m b 1 []

/-- LINE_READ. -/
def execPktLineRead (source : Fin 8) (body : Bytes) (s : State) : Host.Outcome State Fault Refusal :=
  finish s (s.packetIn source 0x10 body (fun s => s.serveRead source body))

/-- Serve a LINE WRITE: the line goes through the write path like a local write. -/
def State.serveWrite (s : State) (m : Nat) (b : Bytes) : State :=
  let f := bits (pktA b) 41 32
  let s := s.bump 0xC00 0x17 1
  let refuse (s : State) : State := s.sendPacket m 0x21 2 (pktParty b) 2 (pktTag b) 0 0 []
  match s.guestTile m (bits (pktA b) 28 0) with
  | none => refuse s
  | some k => match s.guestForm k (pktParty b) with
    | none => refuse s
    | some e =>
      let (d, s) := s.decipher e (s.tileNumber k) f 0 (slice (pktData b) 0 64)
      let s := s.look k
      s.write { why := .space, ld := 16 + pktParty b, dpa := k * 65536 + 64 * f, mask := fullMask, data := d
                by_ := .peer m (pktTag b) k, since := s.now }

/-- LINE_WRITE. -/
def execPktLineWrite (source : Fin 8) (body : Bytes) (s : State) : Host.Outcome State Fault Refusal :=
  finish s (s.packetIn source 0x11 body (fun s => s.serveWrite source body))

/-! ## Origin: writes (16 R555) -/

/-- The map index and entry of the REMOTE tile a held write goes to. -/
def State.remoteTile (s : State) (x : HeldWrite) : Option (Nat × TileEntry) :=
  match s.seen { ld := x.ld, job := x.job } x.dpa with
  | .tile i _ _ _ => if (s.entry i).state = 4 then some (i, s.remoteForm i) else none
  | _ => none

/-- Take a write out of the held ones. -/
def State.unhold (s : State) (id : Nat) : State := { s with held := s.held.filter (fun h => h.remote != some id) }

/-- A remote write ends: the residual of an FR line goes next, or the write completes. -/
def State.remoteEnded (s : State) (id : Nat) : State :=
  match s.held.find? (fun h => h.remote == some id) with
  | none => s
  | some x =>
    let s := s.unhold id
    let s := match s.remoteTile x with
      | none => s.completed x
      | some (k, e) =>
        let j := x.dpa / 64 % 1024
        match (s.residualPlace k e j).bind (fun p => (s.residualBytes e x.data).map (fun b => (p, b))) with
        | some (p, b) => s.attempt (s.residualWrite x e p b) none 3
        | none => s.completed x
    s.retryRemote

/-- The frame lines a write fetches are let go. -/
def State.dropLines (s : State) (id : Nat) : State :=
  { s with span := { s.span with lines := s.span.lines.filter (fun l => !(l.1 == 0 && l.2.1 == id)) } }

/-- A remote write that has no effect, or has had it, completes. -/
def State.endRemote (s : State) (id : Nat) (x : HeldWrite) : State := (((s.dropLines id).unhold id).completed x).retryRemote

/-- The lines that poisoned frame lines of a REMOTE tile take with them, a line that is written in full excepted: the frame line goes out with
zero in their place, so the origin keeps them poisoned (04 R136, 18 R587; log entry 25). -/
def State.poisonRemote (s : State) (k : Nat) (e : TileEntry) (j : Nat) (bad : List Nat) : State :=
  let lost := setBit (bad.foldl (fun m f => m ||| e.linesLost f) 0) j false
  if lost = 0 then s else s.poison k lost { unit := 0xC00, home := 1, source := e.holder }

/-- The remote write of a number takes its merged line. -/
def HeldWrite.takes (id : Nat) (d : Bytes) (h : HeldWrite) : HeldWrite := if h.remote = some id then { h with data := d } else h

/-- The frame lines a write merges into have come: the merged lines go out (04 R134, R135). A full-line write needs no merge and is applied
whatever came; a partial write that meets a poisoned frame line has no effect (04 R136). -/
def State.mergeRemote (s : State) (id : Nat) : State :=
  match s.held.find? (fun h => h.remote == some id) with
  | none => s
  | some x => match s.remoteTile x with
    | none => ((s.unhold id).dropLines id).completed x
    | some (k, e) =>
      let j := x.dpa / 64 % 1024
      let got (f : Nat) : Option (Option Bytes) :=
        (s.span.lines.find? (fun l => l.1 == 0 && l.2.1 == id && l.2.2.1 == f)).map (·.2.2.2)
      if !(e.needs j).all (fun f => (got f).isSome) then s
      else
        let bad := (e.needs j).filter (fun f => got f == some none)
        let lost := !bad.isEmpty || (s.poisonSet k).testBit j
        if lost && !x.full then s.endRemote id x
        else
          let s := s.dropLines id
          let (ls, s) := (e.needs j).foldl (fun (a : List (Nat × Bytes) × State) f =>
            match (got f).join with
            | some c => let r := a.2.decipher e (s.tileNumber k) f 0 c; (tabSet a.1 f r.1, r.2)
            | none => (tabSet a.1 f (zeros 64), a.2)) ([], s)
          let (old, s) := if x.full then (some (zeros 64), s)
            else if e.isFr then s.decodeCoded (s.frEngine (s.frDie k e j) 0) k e.elem e.frSlot e.frGen (codedFrom e j ls)
            else (tabGet ls j, s)
          match old with
          | none => s.endRemote id x
          | some old =>
            let d := x.onto old
            let s := { s with held := s.held.map (HeldWrite.takes id d) }
            let s := s.poisonRemote k e j bad
            let s := if (s.poisonSet k).testBit j then s.clearPoisonLine k j else s
            if !e.isFr then s.sendLines k e id [(j, d)]
            else match s.codeLine k e j d with
              | none => s.endRemote id x
              | some (y, z) => (s.noteEncoded (s.frEngine (s.frDie k e j) 0) z).sendLines k e id
                  ((e.needs j).map (fun f => (f, y.into f ((tabGet ls f).getD (zeros 64)))))

/-! ## Reservations answered (16 R554, R562) -/

/-- The slot of the running evacuation or recall of a region. -/
def State.evacOf (s : State) (r : Nat) : Option (Nat × SpanEvac) := s.span.evacs.find? (fun e => e.2.region == r && e.2.state == 1)

/-- A free slot of the four. -/
def State.freeEvac (s : State) : Option Nat := firstBelow 4 (fun i => (tabGet s.span.evacs i).all (fun e => e.state != 1))

/-- Replace an entry of 0C00:141. -/
def State.setEvac (s : State) (i : Nat) (e : SpanEvac) : State := { s with span := { s.span with evacs := tabSet s.span.evacs i e } }

/-- Note progress of a region's evacuation or recall. -/
def State.evacStep (s : State) (r : Nat) (ok : Bool) : State :=
  match s.evacOf r with
  | none => s
  | some (i, e) => s.setEvac i (if ok then { e with remaining := e.remaining - 1, moved := e.moved + 1 } else { e with blocked := true })

/-- The binding of a region's key. -/
def State.regionKey (s : State) (x : Region) : Option KeySlot := (s.bindingSlot x.keyKind x.keyBinding).map (·.2)

/-- Replicate a region's binding to members (10 R335). -/
def State.replicate (s : State) (x : Region) (ms : List Nat) : State :=
  match s.regionKey x with
  | some z => ms.foldl (fun s m => s.sendKey m z false) s
  | none => s

/-! ## Remote moves as origin (16 R547, R562) -/

/-- Frame lines as pieces of up to 4,096 B by their offset in the stored form; where one is left out, line by line. -/
def linePieces (ls : List (Nat × Bytes)) : List (Nat × Bytes) :=
  (List.range 16).flatMap (fun c =>
    let mine := ls.filter (fun l => l.1 / 64 == c)
    if mine.length = 64 then [(4096 * c, mine.flatMap (·.2))] else mine.map (fun l => (64 * l.1, l.2)))

/-- The sectors of a record as pieces, each sector followed by its CRC-32C, 12 to a packet; whole 16 B units (16 R546, R547). -/
def sectorPieces (d : Bytes) : List (Nat × Bytes) :=
  let all := (pieces 256 d).flatMap (fun x => x ++ leBytes 4 (crc32c x))
  ((pieces 3120 all).zipIdx).map (fun p => (3120 * p.2, p.1 ++ zeros ((16 - p.1.length % 16) % 16)))

/-- The stored form of a tile as a remote move carries it, its entry and its pieces (16 R562): the ciphertext of a ready form, or the sectors of
a record, unchanged (01 R25, R27), the bytes of poisoned lines among them (18 R591). A record that names an LL slot is coded anew with the
built-in table, the only one a holder reads (16 R555). The origin keeps a poisoned line set; a tile that has every line in its set goes as
POISONED (log entry 25). None when the read finds a new error, which poisons the tile at its home. -/
def State.storedForm (s : State) (k : Nat) (e : TileEntry) : Option (TileEntry × List (Nat × Bytes)) × State :=
  let form : TileEntry := { e with state := if s.poisonSet k = 2 ^ 1024 - 1 then 3 else 1, location := 0, moveTag := 0 }
  if e.length = 0 then (some (form, []), s)
  else if e.home ≤ 1 then
    let (ls, bad, s) := s.readKept e 0x51
    let t := 16 * codedSize e.elem e.b + 18
    let (p, s) := if e.isFr then s.decipher e (s.tileNumber k) t 0 (nth ls t (zeros 64)) else ([], s)
    if !s.alreadyLost k e bad then (none, s.poisonFrames k e bad 0x51)
    else if !s.trailerOk k e (zeros (64 * t) ++ p) then (none, s.trailerBad k e 0x51)
    else (some ({ form with home := 1, length := e.readyLength, llPresent := false }, linePieces (ls.zipIdx.map (fun l => (l.2, l.1)))), s)
  else if e.llBuiltin then
    match s.keptRecord k e (farFetch e.location e.length []) with
    | ((some d, _, _), s) => (some (form, sectorPieces d), s)
    | ((none, lost, loc), s) => (none, s.poison k lost (foundRecord e loc 0x51))
  else
    match s.readWhole 4 k e 0x51 (farFetch e.location e.length []) with
    | (none, s) => (none, s)
    | (some d, s) =>
      let (z, s) := s.sealRecord k { e with llBuiltin := true, llSlot := 0 } (s.zeroPoisoned k e d)
      (some ({ form with llPresent := z.llPresent, llBuiltin := true, llSlot := 0, length := z.sectors.length / 256 }, sectorPieces z.sectors), s)

/-- MOVE OPEN, MOVE DATA and MOVE CLOSE of a tile. -/
def State.sendTile (s : State) (k m tag : Nat) (form : TileEntry) (ps : List (Nat × Bytes)) : State :=
  let q := s.span.nextTag
  let party := s.moveLd form
  let tile := s.tileNumber k
  let r : RemoteReq := { id := q, member := m, kind := 0x32, move := some tag, sent := s.now }
  let s := { s with span := { s.span with nextTag := (q + 1) % 2 ^ 32, requests := s.span.requests ++ [r] } }
  let s := s.sendPacket m 0x30 3 party 0 q tile form.length (entryBytes form)
  let s := ps.foldl (fun s p => s.sendPacket m 0x31 3 party 0 q tile p.1 p.2) s
  s.sendPacket m 0x32 3 party 0 q tile 0 []

/-- Start the remote move, kind 0x6 in class 4, of a tile in T0 to T2; one that finds no move record waits and is counted (06 R219), and
one that finds a new error in its source aborts (06 R197 code 0x08). -/
def State.startRemote (s : State) (k m : Nat) : Bool × State :=
  match s.recordFor 4 16 with
  | none => (false, s.countWait k false .remote)
  | some r =>
    let s := s.endMoveWaits k r (fun _ => 16)
    let e := s.tgt k
    let uses := ((tabGet s.moveUses r).getD 0 + 1) % 8
    let tag := r + 8192 * uses
    let y : Move := { tag := tag, kind := 6, state := 3, cls := 4, key := k, tile := s.tileNumber k, ld := s.moveLd e, srcTier := e.home
                      dstTier := 4, dst := { e with length := 0, moveTag := 0 }, by_ := .remote, start := s.now }
    let s : State := { s with moves := tabSet s.moves r y, moveUses := tabSet s.moveUses r uses }
    match (s.setTgt k { e with state := 2, moveTag := tag }).storedForm k e with
    | (some (form, ps), s) => (true, s.sendTile k m tag form ps)
    | (none, s) => (false, (s.bump 0x700 0x16 1).abortMove r 8)

/-- FLIP of a remote move: the tile is REMOTE, keeps the form it has (04 R148) and its poisoned line set, unless every line is in it, and its
old home is free. -/
def State.flipRemote (s : State) (r : Nat) (y : Move) (m : Nat) : State :=
  let e := s.tgt y.key
  let s := { s with moves := tabDel s.moves r, writeAborts := tabDel s.writeAborts y.key, tallies := tabDel s.tallies y.key }.bump 0x700 0x16 1
  let s := (if e.home ≤ 1 ∧ e.length ≠ 0 then s.bump 0x700 0x1F 65536 else s).bump 0x700 0x17 1
  let s := (if s.poisonSet y.key = 2 ^ 1024 - 1 then s.unpoison y.key else s).setTgt y.key { e with home := 0, state := 4, location := m, moveTag := 0, length := 0 }
  ((((s.freeHome { e with state := 1 }).slotsOf e).evacStep e.region true).settleSweeps).retryLocal

/-! ## Evacuation and recall (16 R562) -/

/-- Tiles of a region that this module still holds. -/
def State.evacTiles (s : State) (r : Nat) (x : Region) : List Nat := (s.regionWritten r x).filter (fun k => (s.entry k).state != 4)

/-- Tiles of a region that span members hold. -/
def State.remoteTiles (s : State) (r : Nat) (x : Region) : List Nat := (s.regionWritten r x).filter (fun k => (s.entry k).state == 4)

/-- An evacuation or recall ends. -/
def State.evacEnd (s : State) (i : Nat) (e : SpanEvac) (x : Region) : State :=
  let s := s.setEvac i { e with state := 2, remaining := 0 }
  let s : State := if e.cmd = 1 then { s with regions := tabSet s.regions e.region { x with layout := 1, stripe := 2 ^ e.member } }
    else
      let s := (s.stripeOthers x).foldl (fun s m => (s.regionDlas x).foldl (fun s d => s.sendReserve m d 0xFFFF false) s) s
      { s with regions := tabSet s.regions e.region { x with layout := 0, stripe := 0 } }
  s.raise 0xC00 0x01A6 e.region

/-- Whether a tile can be sent now: not moving. -/
def State.sendable (s : State) (k : Nat) : Bool := decide ((s.entry k).state = 1 ∨ (s.entry k).state = 3)

/-- Ask for one frame line of a tile that is read back. -/
def State.recallLine (s : State) (k : Nat) (e : TileEntry) (f : Nat) : State :=
  let tag := s.span.nextTag
  let s := s.lineRequest k e 0x10 f none none []
  let on (q : RemoteReq) : RemoteReq := if q.id = tag ∧ q.kind = 0x10 then { q with move := some k } else q
  { s with span := { s.span with requests := s.span.requests.map on } }

/-- The next tile of an evacuation or recall. -/
def State.pumpEvac (s : State) (i : Nat) : State :=
  match tabGet s.span.evacs i with
  | none => s
  | some v =>
    if v.state ≠ 1 then s
    else match s.region v.region with
      | none => s.setEvac i { v with state := 3 }
      | some x =>
        if v.cmd = 1 then
          let ks := s.evacTiles v.region x
          if ks.isEmpty then s.evacEnd i v x
          else if v.blocked ∨ s.span.unreachable.contains v.member ∨ s.moves.any (fun m => m.2.kind == 6 && ks.contains m.2.key) then s
          else match ks.find? s.sendable with
            | none => s
            | some k =>
              if (s.entry k).home = 3 ∧ (s.entry k).length ≠ 0 then
                match s.startMove k 1 1 4 .remote with
                | some (_, s) => s
                | none => s.setEvac i { v with blocked := true }
              else match s.startRemote k v.member with
                | (true, s) => s
                | (false, s) => s.setEvac i { v with blocked := true }
        else
          let ks := s.remoteTiles v.region x
          if ks.isEmpty then s.evacEnd i v x
          else if v.blocked ∨ ks.any s.span.recalls.contains then s
          else
            let free (k : Nat) : Bool := !s.span.unreachable.contains (s.entry k).holder
              && !s.held.any (fun h => h.remote.isSome && (s.remoteTile h).any (fun t => t.1 == k))
            match ks.find? free with
            | none => s
            | some k =>
              let e := s.remoteForm k
              let room := s.nearRoom (s.payer v.region) (s.tileCharge { e with state := 1 })
              if e.formless then ((s.setEntry k {}).evacStep v.region true).settleSweeps
              else if !room ∨ (s.freeFrame e.length).isNone then s.setEvac i { v with blocked := true }
              else
                let s := { s with span := { s.span with recalls := s.span.recalls ++ [k] } }
                (List.range e.frameLines).foldl (fun s f => s.recallLine k e f) s

/-- Every running evacuation goes on. -/
def State.pumpEvacs (s : State) : State := (List.range 4).foldl State.pumpEvac s

/-- Evacuations that were refused or lacked space try again: once a millisecond while the block idles (log entry 25). -/
def State.unblockEvacs (s : State) : State :=
  let off (e : Nat × SpanEvac) : Nat × SpanEvac := (e.1, { e.2 with blocked := false })
  if s.span.evacs.any (·.2.blocked) then { s with span := { s.span with evacs := s.span.evacs.map off } }.pumpEvacs else s

/-- The frame lines of a tile that is read back have all come: it takes a new frame in T1. -/
def State.placeRecalled (s : State) (k : Nat) : State :=
  let e : TileEntry := { s.remoteForm k with state := if s.poisonSet k = 0 then 1 else 3 }
  let r := e.region
  let ls := s.span.lines.filter (fun l => l.1 == 1 && l.2.1 == k)
  if ls.length < e.frameLines then s
  else
    let s := { s with span := { s.span with lines := s.span.lines.filter (fun l => !(l.1 == 1 && l.2.1 == k))
                                            recalls := s.span.recalls.filter (· != k) } }
    if !s.nearRoom (s.payer r) (s.tileCharge e) then s.evacStep r false
    else match s.freeFrame e.length with
      | none => s.evacStep r false
      | some a =>
        let e : TileEntry := { e with location := a }
        let s := { s with fresh := s.fresh + 1 }.setTgt k e
        let s := ls.foldl (fun s l => match l.2.2.2 with
          | some c => s.storeReady e l.2.2.1 c
          | none =>
            let z := s.encipher e (s.tileNumber k) l.2.2.1 0 (zeros 64)
            (z.2.storeReady e l.2.2.1 z.1).poison k (e.linesLost l.2.2.1) { unit := 0xC00, home := 1 }) s
        ((s.evacStep r true).retryLocal).pumpEvacs

/-- A CREATE or an EVACUATE has all its reservations. -/
def State.createDone (s : State) (z : WaitCreate) : State :=
  let s := { s with span := { s.span with creates := s.span.creates.filter (fun c => c.region != z.region) } }
  let ok (s : State) : State := match z.path with
    | some (p, ty) => s.answer p ty 0 []
    | none => s
  match z.target with
  | none => ok ((s.beginRegion z.region z.desc).replicate z.desc (s.stripeOthers z.desc))
  | some m => match s.region z.region, s.freeEvac with
    | some x, some i =>
      let s := s.replicate x [m]
      let s := (List.range x.tiles).foldl (fun s t => match s.regionTile x t with
        | some k => if (s.entry k).state = 0 then s.setEntry k { state := 4, location := m, region := z.region } else s
        | none => s) s
      let v : SpanEvac := { region := z.region, cmd := 1, state := 1, member := m, remaining := (s.evacTiles z.region x).length }
      ok ((s.setEvac i v).pumpEvac i)
    | _, _ => s.failCreate z

/-- One reservation is answered. -/
def State.reserveAnswered (s : State) (m dla : Nat) (status : Nat) : State :=
  match s.span.creates.find? (fun c => c.waiting.contains (m, dla)) with
  | none => s
  | some z =>
    if status ≠ 0 then s.failCreate { z with waiting := z.waiting.filter (· != (m, dla)) }
    else
      let z : WaitCreate := { z with waiting := z.waiting.filter (· != (m, dla)), made := z.made ++ [(m, dla)] }
      if z.waiting.isEmpty then s.createDone z
      else { s with span := { s.span with creates := s.span.creates.map (fun c => if c.region = z.region then z else c) } }

/-! ## Responses -/

/-- Take the request a response answers. -/
def State.takeRemote (s : State) (m tag : Nat) (p : RemoteReq → Bool) : Option RemoteReq × State :=
  let is (q : RemoteReq) : Bool := q.member == m && q.id == tag && p q
  (s.span.requests.find? is, { s with span := { s.span with requests := s.span.requests.filter (fun q => !is q) } })

/-- LINE_DATA: a frame line, or poison. -/
def execPktLineData (source : Fin 8) (body : Bytes) (s : State) : Host.Outcome State Fault Refusal :=
  finish s (s.packetIn source 0x20 body (fun s =>
    let d := if pktStatus body = 0 ∧ (pktData body).length = 64 then some (pktData body) else none
    match s.takeRemote source (pktTag body) (fun q => q.kind == 0x10) with
    | (none, s) => s
    | (some q, s) =>
      match q.access, q.held, q.move with
      | some a, _, _ => s.partDone a q.line d
      | none, some h, _ => { s with span := { s.span with lines := s.span.lines ++ [(0, h, q.line, d)] } }.mergeRemote h
      | none, none, some k => { s with span := { s.span with lines := s.span.lines ++ [(1, k, q.line, d)] } }.placeRecalled k
      | none, none, none => s))

/-- DONE: a reservation, a line written, or a remote move confirmed. -/
def execPktDone (source : Fin 8) (body : Bytes) (s : State) : Host.Outcome State Fault Refusal :=
  finish s (s.packetIn source 0x21 body (fun s =>
    let st := pktStatus body
    match s.takeRemote source (pktTag body) (fun q => q.kind == 8 || q.kind == 0x11 || q.kind == 0x32) with
    | (none, s) => s
    | (some q, s) =>
      if q.kind = 8 then s.reserveAnswered source (q.reserve.getD 0) st
      else if q.kind = 0x11 then
        let id := q.held.getD 0
        let off (h : HeldWrite) : HeldWrite := if h.remote = some id then { h with remote := none } else h
        if st ≠ 0 then { s with held := s.held.map off }
        else if s.span.requests.any (fun p => p.held == some id) then s
        else s.remoteEnded id
      else
        let region (k : Nat) : Nat := (s.entry k).region
        match s.moves.find? (fun m => m.2.kind == 6 && some m.2.tag == q.move) with
        | none => s.pumpEvacs
        | some (r, y) =>
          if st = 0 then (s.flipRemote r y source).pumpEvacs
          else
            let s := if st = 2 then s.dropMove r else (s.bump 0x700 0x16 1).abortMove r (if pktA body = 0 then 9 else pktA body % 256)
            (s.evacStep (region y.key) false).retryLocal))

/-! ## Remote moves as target (16 R547, R562) -/

/-- MOVE_OPEN: the tile's entry. -/
def execPktMoveOpen (source : Fin 8) (body : Bytes) (s : State) : Host.Outcome State Fault Refusal :=
  finish s (s.packetIn source 0x30 body (fun s =>
    let tile := bits (pktA body) 28 0
    let v : MoveIn := { source := source, party := pktParty body, tile := tile, length := pktB body, entry := slice (pktData body) 0 32 }
    { s with span := { s.span with movesIn := s.span.movesIn.filter (fun m => !(m.source == source.val && m.tile == tile)) ++ [v] } }))

/-- MOVE_DATA: a part of the stored form. -/
def execPktMoveData (source : Fin 8) (body : Bytes) (s : State) : Host.Outcome State Fault Refusal :=
  finish s (s.packetIn source 0x31 body (fun s =>
    let tile := bits (pktA body) 28 0
    let add (m : MoveIn) : MoveIn :=
      if m.source = source.val ∧ m.tile = tile then { m with pieces := tabSet m.pieces (pktB body) (pktData body) } else m
    { s with span := { s.span with movesIn := s.span.movesIn.map add } }))

/-- The frame lines that have come, in ciphertext. -/
def MoveIn.frameLine (m : MoveIn) (f : Nat) : Option Bytes :=
  (m.pieces.find? (fun p => decide (p.1 ≤ 64 * f ∧ 64 * f + 64 ≤ p.1 + p.2.length))).map (fun p => slice p.2 (64 * f - p.1) 64)

/-- Sector `i` of a record that has come, when its CRC-32C is right: sectors travel as 260 bytes each. -/
def MoveIn.sector (m : MoveIn) (i : Nat) : Option Bytes :=
  (m.pieces.find? (fun p => decide (p.1 ≤ 260 * i ∧ 260 * i + 260 ≤ p.1 + p.2.length))).bind (fun p =>
    let d := slice p.2 (260 * i - p.1) 260
    if crc32c (d.take 256) = field d 256 4 then some (d.take 256) else none)

/-- The sectors of a record that has come, as fetched. -/
def MoveIn.fetched (m : MoveIn) (o n : Nat) : Fetched := { secs := (List.range n).map (fun i => m.sector (o + i)), loc := o }

/-- Fetch the sectors of a record that has come. -/
def MoveIn.fetch (m : MoveIn) : Fetcher where
  get s o n := (m.fetched o n, s)

/-- The entry a tile that has come takes here: the form it has, under this module's copy of its key (01 R27, 16 R555). -/
def State.arrived (s : State) (k : Nat) (m : MoveIn) : Option TileEntry :=
  let e := tileEntryOf m.entry
  (s.guestKey k m.party (s.newEntry guestRegion guestDescriptor 0)).map (fun g =>
    { e with state := if e.state = 3 then 3 else 1, keySlot := g.keySlot, region := guestRegion, moveTag := 0, location := 0, length := m.length
             recency := g.recency, frequency := g.frequency })

/-- How a tile that has come is taken: it stands now, it stands once its record is durable, or it is refused. -/
inductive Placed where
  | done (s : State)
  | waits (s : State)
  /-- The guest reserve or the tier has no room. -/
  | full
  | refused
deriving DecidableEq, Repr

/-- Place a ready form: its frame lines in ciphertext, unchanged (01 R25). Lines of a POISONED tile that did not come are the poisoned ones;
a VALID tile that lacks one is refused. -/
def State.placeGuest (s : State) (k : Nat) (e : TileEntry) (line : Nat → Option Bytes) : Placed :=
  let lost := (List.range e.frameLines).foldl (fun a f => if (line f).isNone then a ||| e.linesLost f else a) 0
  let old := s.entry k
  let has : Bool := decide (old.home ≤ 1) && old.charged
  if lost != 0 && e.state != 3 then .refused
  else if !has && !s.nearRoom guestPayer (s.tileCharge e) then .full
  else match s.freeFrame e.length with
    | none => .full
    | some a =>
      let e := { e with home := 1, location := a, llPresent := false }
      let s := { s with fresh := s.fresh + 1 }.installGuest k e
      let s := (List.range e.frameLines).foldl (fun s f => match line f with
        | some c => s.storeReady e f c
        | none => let z := s.encipher e (s.tileNumber k) f 0 (zeros 64); z.2.storeReady e f z.1) s
      .done (if lost = 0 then s else s.setPoison k lost)

/-- Place a record: its sectors unchanged in the guest stream (01 R25, 07 R232, 16 R555). Where the far tier has no room its leaves are decoded
into T1, under the same key (log entry 25). -/
def State.placeSectors (s : State) (k tag : Nat) (m : MoveIn) (e : TileEntry) : Placed :=
  match (m.fetched 0 e.length).data with
  | none => .refused
  | some d =>
    match (if s.farRoom guestPayer (256 * e.length) && s.farReserve 17 e.length then s.appendRecord 17 d (.arrival m.source m.tile k) else none) with
    | some (f, s) => .waits { s with span := { s.span with
        movesIn := s.span.movesIn ++ [{ m with placed := some (tag, k, { e with home := 2, location := f }) }] } }
    | none =>
      let (p, lost, _, s) := s.readRecord 4 k e m.fetch
      let r := { e with length := e.readyLength, home := 1 }
      if !lost.isEmpty then .refused
      else s.placeGuest k r (fun f => some (s.encipher r (s.tileNumber k) f 0 (slice p (64 * f) 64)).1)

/-- Take a tile that has come under the guest reserve (16 R556, R562). -/
def State.placeMoved (s : State) (k tag : Nat) (m : MoveIn) : Placed :=
  match s.arrived k m with
  | none => .refused
  | some e =>
    if e.length = 0 then .done (s.installGuest k { e with state := 3 })
    else if e.home ≤ 1 then s.placeGuest k e m.frameLine
    else s.placeSectors k tag m e

/-- MOVE_CLOSE: the target confirms durability, at once or when the record is durable, or refuses (06 R192, 16 R562). -/
def execPktMoveClose (source : Fin 8) (body : Bytes) (s : State) : Host.Outcome State Fault Refusal :=
  finish s (s.packetIn source 0x32 body (fun s =>
    let tile := bits (pktA body) 28 0
    let mine (m : MoveIn) : Bool := m.source == source.val && m.tile == tile
    let reply (s : State) (status code : Nat) : State := s.sendPacket source 0x21 2 (pktParty body) status (pktTag body) code 0 []
    let got := s.span.movesIn.find? mine
    let s := { s with span := { s.span with movesIn := s.span.movesIn.filter (fun m => !mine m) } }
    match got, s.guestTile source tile with
    | some m, some k => match s.placeMoved k (pktTag body) m with
      | .done s => reply s 0 0
      | .waits s => s
      | .full => reply s 2 0
      | .refused => reply s 3 9
    | _, _ => reply s 2 0))

/-! ## The command (16 R562) -/

/-- A write of 0C00:140: region, command, target, 12 reserved bytes; its own checks run in the order of 02 R647. -/
def State.evacuateWrite (s : State) (b : Bytes) : Reply :=
  let r := field b 0 2
  let op := field b 2 1
  let m := field b 3 1
  let x := (s.declared r).getD guestDescriptor
  let first : List (Bool × Nat) := [(decide (op = 0 ∨ op > 3), stRange), ((s.declared r).isNone, stNoObject),
    (!allZero (slice b 4 12), stRange), (x.shared, stRange)]
  let busy : Bool := (s.evacOf r).isSome || s.span.creates.any (fun c => c.region == r)
  let running := (s.span.evacs.filter (fun e => e.2.state == 1)).length + (s.span.creates.filter (fun c => c.target.isSome)).length
  if op = 1 then
    checks (first ++ [ (x.layout == 1, stRange), (decide (m ≥ 8) || m == s.span.member || !(s.expected.contains m), stRange),
             (busy, stBusy), (!s.peers.contains m, stBusy), (decide (running ≥ 4), stNoResource) ])
      (s.askReserve { path := none, region := r, desc := x, waiting := (s.regionDlas x).map (fun d => (m, d)), made := [], target := some m })
  else if op = 2 then
    checks (first ++ [ (x.layout != 1, stRange), (busy, stBusy), (decide (running ≥ 4), stNoResource) ])
      (match s.freeEvac with
       | some i => (s.setEvac i { region := r, cmd := 2, state := 1, member := m, remaining := (s.remoteTiles r x).length }).pumpEvac i
       | none => s)
  else
    checks first
      (match s.evacOf r with
       | some (i, v) =>
         let s := s.setEvac i { v with state := 3 }
         let s := s.abortWhere 0xD (fun y => y.kind == 6 && (s.entry y.key).region == r)
         let mine (k : Nat) : Bool := (s.entry k).region == r
         ({ s with span := { s.span with recalls := s.span.recalls.filter (fun k => !mine k)
                                         requests := s.span.requests.filter (fun q => !(q.kind == 0x10 && q.move.any mine))
                                         lines := s.span.lines.filter (fun l => !(l.1 == 1 && mine l.2.1)) } }).retryLocal
       | none => s)

/-- The 64 bytes of 0C00:141. -/
def State.evacBytes (s : State) : Bytes :=
  (List.range 4).flatMap (fun i => match tabGet s.span.evacs i with
    | some e => leBytes 2 e.region ++ leBytes 1 e.cmd ++ leBytes 1 e.state ++ leBytes 4 e.remaining ++ leBytes 8 e.moved
    | none => zeros 16)

end Sys2Proof.Machine
end

