-- ==== Sys2Proof/Machine/Profiles.lean ====
section
/-!
DEFINITION. Profile slots as the boot and the dictionary use them (02 R77 to R82).
-/
namespace Sys2Proof.Machine

/-- Members kept in the profile directory and in no copy (02 R84). -/
def directoryMember (u o m : Nat) : Bool := u == 0 && (o == 0x120 || (o == 0x122 && m == 0))

/-- The row of a profile object of the module. -/
def profileRow (u o m : Nat) : Option Row :=
  if unitExists u && !directoryMember u o m then (rowOf u o m).filter (fun r => r.persist == .profile) else none

/-- The value of bytes as a scalar of a type: its unsigned encoding. -/
def scalarOf (b : Bytes) : Nat := leNat b

/-- Whether a profile value lies in its object's range (02 R80). -/
def State.profileFits (_ : State) (u o m : Nat) (r : Row) (b : Bytes) : Bool :=
  let v := scalarOf b
  match r.ty with
  | .bytes _ => true
  | .bool => decide (v ≤ 1)
  | _ =>
    r.chk.ok v && !(u == 0xD20 && o == 0x140 && m == 0 && decide (v < 200 ∨ v > 350)) && !(u == 0x100 && o == 0x100 && decide (v > 1))
      && !(u == 0x500 && o == 0x120 && decide (v > 2048 + Config.disturbanceSlack))

/-- Members back at their factory defaults. -/
def State.defaults (s : State) (ms : List (Nat × Nat × Nat)) : State :=
  ms.foldl (fun s x => s.setObj x.1 x.2.1 x.2.2 (objDefault x.1 x.2.1 x.2.2)) s

/-- The sum of the mover's slots and the isolation slots (06 R221). -/
def State.slotSum (s : State) : Nat :=
  (List.range 16).foldl (fun a n => a + s.obj 0x700 (0x140 + n) 0) (s.obj 0x700 0x150 1)

/-- Slots of every round a cap holds idle in partitioned mode (17 R573). -/
def capReserve (c : Nat) : Nat := if c ≥ 238 then 0 else ceilDiv (256 * (238 - c)) 96

/-- The slots that the power cap holds idle in the mode in force or asked for (17 R573). -/
def State.capSlots (s : State) : Nat :=
  if s.partitioned ∨ s.obj 0 0x130 0 = 1 then capReserve (s.obj 0xD20 0x140 0) else s.power.reserve

/-- Profile objects whose ranges bound one another (07 R249, 17 R583, 06 R221, 10 R338): where the values of a profile do not fit
together, all of them take their factory defaults (02 R80; log entry 44). -/
def State.fitTogether (s : State) : State :=
  let s := if s.obj 0x600 0x134 0 < s.obj 0x600 0x132 0 ∧ s.obj 0x600 0x132 0 < s.obj 0x600 0x131 0 then s
    else s.defaults [(0x600, 0x131, 0), (0x600, 0x132, 0), (0x600, 0x134, 0)]
  let s := if s.obj 0xD20 0x161 0 < s.obj 0xD20 0x161 1 then s else s.defaults [(0xD20, 0x161, 0), (0xD20, 0x161, 1)]
  let s := if s.slotSum ≤ 256 - s.capSlots then s
    else s.defaults ((List.range 16).map (fun n => (0x700, 0x140 + n, 0)) ++ [(0x700, 0x150, 1)])
  if s.obj 0 0x130 0 = 1 then s.defaults ((allUnits.filter (fun u => s.obj u 6 0 != 0)).map (fun u => (u, 6, 0))) else s

/-- Store the bytes of a member. -/
def State.putMember (s : State) (u o m : Nat) (r : Row) (b : Bytes) : State :=
  match r.ty with
  | .bytes _ => s.setBlob u o m 0 b
  | _ => s.setObj u o m (scalarOf b)

/-- The stored bytes of a member. -/
def State.memberBytes (s : State) (u o m : Nat) (r : Row) : Bytes :=
  match r.ty with
  | .bytes n => s.blob u o m 0 n
  | _ => leBytes r.ty.size (s.obj u o m)

/-- Whether a profile entry is ignored: the firmware has no such object, or the length is not its type's (02 R80). -/
def ProfEntry.ignored (e : ProfEntry) : Bool := match profileRow e.unit e.obj e.mem with
  | some r => e.value.length != r.ty.size
  | none => !directoryMember e.unit e.obj e.mem

/-- Apply a profile entry (02 R80). -/
def State.applyEntry (s : State) (e : ProfEntry) : State :=
  match profileRow e.unit e.obj e.mem with
  | some r =>
    if e.ignored then s.setObj 0 0x122 1 (s.obj 0 0x122 1 + 1)
    else if s.profileFits e.unit e.obj e.mem r e.value then s.putMember e.unit e.obj e.mem r e.value
    else s.putMember e.unit e.obj e.mem r (leBytes r.ty.size r.dflt)
  | none => if e.ignored then s.setObj 0 0x122 1 (s.obj 0 0x122 1 + 1) else s

/-- The profile objects of a unit, in the order of the object tables. -/
def profileMembers (u : Nat) : List (Nat × Nat × Row) :=
  (objectTables.filter (fun r => r.persist == .profile && decide (r.uLo ≤ u ∧ u ≤ r.uHi))).flatMap (fun r =>
    (List.range (r.oHi - r.oLo + 1)).flatMap (fun i => (List.range (r.mHi - r.mLo + 1)).filterMap (fun j =>
      if profileRow u (r.oLo + i) (r.mLo + j) = some r then some (r.oLo + i, r.mLo + j, r) else none)))

/-- The running values of every profile object, as entries (02 R81). -/
def State.profileEntries (s : State) : List ProfEntry :=
  allUnits.flatMap (fun u => (profileMembers u).map (fun x =>
    ({ unit := u, obj := x.1, mem := x.2.1, value := s.memberBytes u x.1 x.2.1 x.2.2 } : ProfEntry)))

/-- A copy as it lies in boot flash (02 R77). -/
def ProfCopy.bytes (c : ProfCopy) (slot : Nat) : Bytes :=
  let body := c.entries.flatMap (fun e =>
    leBytes 2 e.unit ++ leBytes 2 e.obj ++ leBytes 1 e.mem ++ leBytes 1 e.value.length ++ e.value)
  let head := leBytes 4 0x50464C51 ++ leBytes 1 slot ++ leBytes 1 1 ++ leBytes 2 c.entries.length ++ leBytes 4 c.seq
    ++ leBytes 4 c.firmware ++ (c.name ++ zeros 16).take 16 ++ leBytes 4 body.length
  head ++ leBytes 4 (crc32 (head ++ body)) ++ body

/-- Select and load the profile at a fundamental reset (02 R78, R79). -/
def State.selectProfile (s : State) : State :=
  let next := s.obj 0 0x120 0
  let slot := if next ≤ 3 then next else s.profSel
  let s := (s.setObj 0 0x120 0 0xFF).setObj 0 0x121 0 slot
  match s.profileCopy slot with
  | some (_, c) =>
    let s := { s with fw := { s.fw with loaded := some (slot, c) } }
    (c.entries.foldl State.applyEntry (s.setObj 0 0x121 1 (b2n (decide (next ≤ 3))))).fitTogether
  | none => (s.setObj 0 0x121 1 2).raise 0 5 0

end Sys2Proof.Machine
end

