-- ==== Sys2Proof/Machine/Power.lean ====
section
/-!
DEFINITION. Power, clocks and start-up (17 R566 to R583, 10 R345, R346, 14 R494, R497, R498).
-/
namespace Sys2Proof.Machine

/-! ## Fundamental reset (15 R534, 17 R570) -/

/-- Members that outlive a fundamental reset: fuses and the profile directory. -/
def keptMember (k : Nat) : Bool :=
  let u := k / 1048576
  let o := k / 256 % 4096
  let m := k % 256
  directoryMember u o m || (rowOf u o m).any (fun r => r.persist == .fuse)

/-- Boot flash and fuses: the slots with their directory, what was written to them, the fuses. -/
def Firmware.kept (f : Firmware) : Firmware :=
  { slots := f.slots, active := f.active, trial := f.trial, staging := f.staging, securityFuse := f.securityFuse
    key0Revoked := f.key0Revoked }

/-- A far port while its connector's FpPERST_N is asserted. -/
def FarPort.kept (p : FarPort) : FarPort :=
  { present := p.present, capacity := p.capacity, width := p.width, rate := p.rate, ids := p.ids, serial := p.serial }

/-- The fundamental reset column of 15 R534: what lies in boot flash and fuses stays, the timebase counts on, every other
content is lost and the keys are zeroised. -/
def State.fundamental (s : State) : State :=
  { State.reset with
    pending := s.pending, outbox := s.outbox, fresh := s.fresh, now := s.now, perst := s.perst
    profSel := s.profSel, nodeId := s.nodeId, hrefclk := s.hrefclk, strefclk := s.strefclk
    objs := s.objs.filter (fun o => keptMember o.1)
    blobs := s.blobs.filter (fun c => keptMember (c.1 / 2 ^ 30))
    profiles := s.profiles, fw := s.fw.kept, repairMap := s.repairMap, repairSeq := s.repairSeq, errHistory := s.errHistory
    farPorts := s.farPorts.map (fun p => (p.1, p.2.kept)) }

/-- PWRGD falls: every content is lost and the timebase stops (17 R566, R570). -/
def State.powerLost (s : State) : State := { s.fundamental with stage := .off }

/-- PWRGD_FALL. -/
def execPwrgdFall (s : State) : Host.Outcome State Fault Refusal := finish s (if s.stage = .off then s else s.powerLost)

/-- PERST_N_ASSERT: the fundamental reset, at any step (17 R570). -/
def execPerstAssert (s : State) : Host.Outcome State Fault Refusal :=
  let t : State := { s with perst := true }
  finish s (if s.stage = .off ∨ s.stage = .inReset then t else t.fundamental)

/-! ## Boot (10 R345, R346) -/

/-- The failure code of the image whose bytes stand in a flash slot, or the image: header, key, signature, security version and body
digest (10 R344, R345). -/
def State.checkSlot (s : State) (k : Nat) : Except Nat FwImage :=
  let rd (off n : Nat) : Bytes := memRead s.fw.staging (2 ^ 24 * k + off) n
  let num (off n : Nat) : Nat := leNat (rd off n)
  let key := num 80 1
  let len := num 12 4
  let hash := sha256 (rd 96 384 ++ rd 480 4)
  if num 0 4 ≠ 0x43465751 ∨ num 4 2 ≠ 1 ∨ num 6 2 > 64 ∨ !allZero (rd 81 15) ∨ !allZero (rd 484 12) ∨ !allZero (rd 880 144) then .error 1
  else if len = 0 ∨ len > 16776192 then .error 6
  else if key > 1 ∨ (key = 0 ∧ s.fw.key0Revoked) ∨ hash ≠ Config.signingKey key then .error 2
  else if !Config.pssVerify hash (sha256 (rd 0 496)) (rd 496 384) then .error 3
  else if num 6 2 < s.fw.securityFuse then .error 5
  else if sha256 (rd 1024 len) ≠ rd 16 32 then .error 4
  else .ok { version := num 8 4, security := num 6 2, digest := rd 16 32, dataPath := rd 48 32, key := key, valid := true }

/-- The image of a slot that passes the checks of the ROM, which makes them at every boot (10 R345). The bytes of the image of manufacture are
not held; its security version and key are checked (log entry 7). -/
def State.bootImage (s : State) (k : Nat) : Option FwImage :=
  if s.fw.staging.any (fun c => c.1 / 2 ^ 24 == k) then
    match s.checkSlot k with
    | .ok i => some i
    | .error _ => none
  else (tabGet s.fw.slots k).filter (fun i => i.valid && decide (i.security ≥ s.fw.securityFuse) && !(i.key == 0 && s.fw.key0Revoked))

/-- The slot a boot starts with its image, and the reason: the active slot, or the other one (10 R346). -/
def State.bootChoice (s : State) : Option (Nat × FwImage × Nat) :=
  match s.bootImage s.fw.active, s.bootImage (1 - s.fw.active) with
  | some i, _ => some (s.fw.active, i, 0)
  | none, some i => some (1 - s.fw.active, i, 1)
  | none, none => none

/-- Requested states a loaded profile gives take effect. -/
def State.applyRequests (s : State) : State :=
  (s.objs.filter (fun o => o.1 / 256 % 4096 == 1)).foldl (fun s o => s.request (o.1 / 1048576) o.2) s

/-- The channels' remap tables and the soft entries of the caddy fuse map, from the repair map (14 R491, R492). -/
def State.loadRemaps (s : State) : State :=
  s.repairMap.foldl (fun s m => if m.kind = 1 then
    let x := s.chan m.unit
    s.setChan m.unit { x with remap := tabSet x.remap (65536 * m.bank + m.row) m.spare }
  else s) { s with caddySoft := s.repairMap.filter (·.kind == 2) }

/-! ## Operating points (17 R572, R573) -/

/-- Module power at an operating point, in W. -/
def pointPower (p : Nat) : Nat := nth [246, 254, 265, 278, 295, 312, 330, 350] p 350

/-- The point in force: the lowest of the ceiling, the cap point and the thermal point. -/
def State.point (s : State) : Nat := Nat.min (s.obj 0xD20 0x101 0) (Nat.min s.power.capPoint s.power.thermalPoint)

/-- Count a change of the point in force. -/
def State.pointMoved (before s : State) : State := if s.point = before.point then s else s.bump 0xD20 0x16 1

/-- A new cap point and its event. -/
def State.setCapPoint (s : State) (p : Nat) : State :=
  if p = s.power.capPoint then s else State.raise (s.setPower { s.power with capPoint := p, under := 0 }) 0xD20 0x1B0 p

/-- The settings of partitioned mode, which depend on the cap alone. -/
def State.partitionCap (s : State) : State :=
  let c := s.obj 0xD20 0x140 0
  let p := ((List.range 8).filter (fun p => decide (pointPower p ≤ c))).foldl Nat.max 0
  State.setCapPoint (s.setPower { s.power with issueRate := if c < 246 then 1 else 16, reserve := capReserve c }) p

/-! ## Starting firmware (17 R567) -/

/-- Firmware starts from a slot and loads the profile's running values; training follows (17 R567 steps 2 to 6). -/
def State.bootFrom (s : State) (slot : Nat) (image : FwImage) (reason : Nat) : State :=
  let s := { s with stage := .starting, fw := { s.fw with
    running := slot, bootReason := reason, slots := tabSet s.fw.slots slot image, onTrial := s.fw.trial && slot == s.fw.active } }
  let s := s.selectProfile
  let s := ((s.setObj 0 0 4 image.version).setObj 0x500 0x100 1 (s.obj 0x500 0x100 0)).setObj 0x100 0x100 1
    (s.obj 0x100 0x100 0)
  let s := s.setObj 0 0x131 0 (s.obj 0 0x130 0)
  let s := s.loadRemaps.applyRequests
  let s := if s.partitioned then State.pointMoved s s.partitionCap else s
  if reason = 0 then s else s.raise 0xD00 0x164 reason

/-- Neither slot passes: FAULT_N, and the ROM serves SVC on the management port (10 R346). -/
def State.recoveryBoot (s : State) : State :=
  let s := { s with stage := .starting, fw := { s.fw with bootReason := 3, recovery := true } }
  (s.raise 0xD00 0x164 3).assertFault 3

/-- The power-up sequence begins: the pins are sampled and the ROM runs. -/
def State.boot (s : State) : State :=
  match s.bootChoice with
  | some (slot, image, reason) => s.bootFrom slot image reason
  | none => s.recoveryBoot

/-- PERST_N_DEASSERT with the straps PROF_SEL and NODEID (17 R567). -/
def execPerstDeassert (profSel : Fin 4) (nodeId : Fin 16) (s : State) : Host.Outcome State Fault Refusal :=
  let t : State := { s with profSel := profSel, nodeId := nodeId, perst := false }
  finish s (if s.stage = .inReset then t.boot else if s.stage = .off then t else s)

/-- PWRGD_RISE: the timebase starts at 0 (17 R566); t0 when PERST_N is deasserted already (10 R345). -/
def execPwrgdRise (s : State) : Host.Outcome State Fault Refusal :=
  let t : State := { s with stage := .inReset, now := 0 }
  if s.stage ≠ .off then .next s else .next { (if s.perst then t else t.boot) with pending := s.pending, now := 0 }

/-- TRIAL_BOOT_TIMEOUT (10 R346): the firmware of a trial slot has not confirmed boot; the ROM boots the other slot, or none
passes. -/
def execTrialBootTimeout (s : State) : Host.Outcome State Fault Refusal :=
  finish s (if s.stage = .off ∨ s.stage = .inReset ∨ !s.fw.onTrial ∨ s.fw.confirmed ∨ s.fw.recovery then s
    else
      let other := 1 - s.fw.running
      let t := s.fundamental
      let t := { t with fw := { t.fw with active := other, trial := false } }
      match t.bootImage other with
      | some image => t.bootFrom other image 2
      | none => t.recoveryBoot)

/-! ## Training and fill (14 R497, R498, 17 R567, R568) -/

/-- Channels that failed, of a group. -/
def groupFailures (ok : Nat) (g : Nat) : Nat := ((List.range 8).filter (fun i => !ok.testBit (8 * g + i))).length

/-- Far modules present leave reset and are enumerated (07 R225). -/
def State.releaseFar (s : State) : State :=
  (List.range 8).foldl (fun s p =>
    let x := s.farPort p
    if x.present ∧ s.farRef ∧ s.requested (0x610 + p) ≠ 3 then s.setFarPort p { x with released := true, releasedAt := s.now } else s) s

/-- A channel after training: its margins, its state, its first refresh. -/
def State.trained (s : State) (ok : Nat) (margins : Bytes) (ch : Nat) : State :=
  let x := { s.chan ch with margins := slice margins (64 * ch) 64 }
  let s := s.setChan ch { x with nextRefresh := s.trainedAt + x.interval * (ch % 4) / 4 }
  if ok.testBit ch then s else s.setOwn (0x510 + ch) 6 0x100

/-- Whether channels that did not train stop the start: more than one of a parity group, or any without parity (14 R498). -/
def State.trainingStops (s : State) (m : Nat) : Bool :=
  if s.parityOn then (List.range 4).any (fun g => decide (groupFailures m g > 1)) else m != 2 ^ 32 - 1

/-- TRAINING_COMPLETE (14 R497, R498): bit c of the mask is a channel that trained; 64 bytes of margins for each (0510:110). -/
def execTrainingComplete (ok : U32) (margins : Bytes) (s : State) : Host.Outcome State Fault Refusal :=
  let m := ok.toNat
  finish s (if s.stage ≠ .starting ∨ s.fw.recovery then s
    else
      let s := { s with trainedAt := s.now }
      let s := (List.range 32).foldl (fun s ch => s.trained m margins ch) s
      if s.trainingStops m then State.assertFault { s with stage := .trainingFailed } 4
      else State.releaseFar { s with stage := .filling })

/-- Clusters leave reset in the state a scrub leaves, with the context they are assigned to (17 R569). -/
def State.releaseClusters (s : State) : State :=
  (List.range 64).foldl (fun s c => s.setCluster c { context := s.obj (0xA40 + c) 0x100 0 }) s

/-- FILL_COMPLETE (17 R567 step 9, R568, R569): CXL.mem and the mailboxes are enabled, the clusters run, the boot is
confirmed. -/
def execFillComplete (s : State) : Host.Outcome State Fault Refusal :=
  finish s (if s.stage ≠ .filling then s
    else { s.releaseClusters with stage := .running, near := [], caddy := [], caddyBad := [], fw := { s.fw with
      confirmed := true, onTrial := false, trial := s.fw.trial && !s.fw.onTrial } })

/-! ## Writes of the cap and the ceiling (17 R572, R573, R577) -/

/-- A write of the cap (17 R573, R577). -/
def State.capWrite (s : State) (w : Nat) : Reply :=
  let part : Bool := s.obj 0 0x131 0 == 1
  checks [ (decide (w < 200 ∨ w > 350), stRange),
           ((part || s.obj 0 0x130 0 == 1) && decide (capReserve w > s.idleSlots), stBusy) ]
    (let t := s.setObj 0xD20 0x140 0 w
     let t := t.setPower { t.power with window := [] }
     if part then State.pointMoved s t.partitionCap else t)

/-- A write of the ceiling. -/
def State.ceilingWrite (s : State) (v : Nat) : State := State.pointMoved s (s.setObj 0xD20 0x101 0 v)

/-! ## The control loop (17 R576, R578, R579) -/

/-- Power averaged over the last second, or since the last accepted cap write. -/
def Power.average (p : Power) : Nat := if p.window.isEmpty then 0 else p.window.foldl (· + ·) 0 / p.window.length

/-- The cap rules of one iteration. -/
def State.capLoop (s : State) (mw : Nat) : State :=
  let c := s.obj 0xD20 0x140 0
  let p := s.power
  let high : Bool := decide (100 * mw > 98 * (1000 * c))
  let long : Bool := decide (p.window.length ≥ 10000) && decide (p.average > 1000 * c - 1000)
  let low : Bool := decide (100 * mw < 93 * (1000 * c))
  if high ∨ long then
    let p := { p with under := 0 }
    if p.capPoint = 0 then s.setPower { p with issueRate := if high then Nat.max 1 (p.issueRate / 2) else p.issueRate }
    else
      let s := (s.setPower p).setCapPoint (p.capPoint - 1)
      if high && long && s.power.capPoint != 0 then s.setCapPoint (s.power.capPoint - 1) else s
  else if low then
    let n := p.under + 1
    if n < 10 then s.setPower { p with under := n }
    else if p.issueRate < 16 then s.setPower { p with under := 0, issueRate := Nat.min 16 (2 * p.issueRate) }
    else if p.capPoint < 7 then (s.setPower { p with under := 0 }).setCapPoint (p.capPoint + 1)
    else s.setPower { p with under := 0 }
  else s.setPower { p with under := 0 }

/-- A new thermal point and its event. -/
def State.setThermalPoint (s : State) (p : Nat) : State :=
  if p = s.power.thermalPoint then s else State.raise (s.setPower { s.power with thermalPoint := p }) 0xD20 0x1B1 p

/-- The die with the highest temperature. -/
def hottest (ts : List Int) : Nat := (List.range ts.length).foldl (fun b i => if nth ts i 0 > nth ts b 0 then i else b) 0

/-- The thermal rules of one iteration. -/
def State.thermalLoop (s : State) (ts : List Int) : State :=
  let thr : Int := sextNat 8 (s.obj 0xD20 0x161 0)
  let crit : Int := sextNat 8 (s.obj 0xD20 0x161 1)
  if ts.any (fun t => decide (t ≥ crit)) then
    let s := (s.setPower { s.power with cool := 0, issueRate := 1 }).setThermalPoint 0
    if s.faults.testBit 2 then s else (s.assertFault 2).raise 0xD20 0x1B4 (hottest ts)
  else
    let s := if ts.all (fun t => decide (t ≤ crit - 5)) then { s with faults := setBit s.faults 2 false } else s
    if ts.any (fun t => decide (t ≥ thr)) then
      (s.setPower { s.power with cool := 0 }).setThermalPoint (s.power.thermalPoint - 1)
    else if ts.all (fun t => decide (t ≤ thr - 5)) then
      let n := s.power.cool + 1
      if n < 10 then s.setPower { s.power with cool := n }
      else (s.setPower { s.power with cool := 0 }).setThermalPoint (Nat.min 7 (s.power.thermalPoint + 1))
    else s.setPower { s.power with cool := 0 }

/-- One iteration: what was in force over the past 100 µs is counted, then the rules apply; a die at 120 °C shuts the
regulators down. -/
def State.loop (s : State) (m : LoopSample) : State :=
  let dies := m.temps.take 4
  let p := s.power
  let s := if p.capPoint < 7 ∨ p.issueRate < 16 then s.bump 0xD20 0x17 100000 else s
  let s := if p.thermalPoint < 7 then s.bump 0xD20 0x18 100000 else s
  let s := s.setPower { p with temps := dies, milliwatts := m.milliwatts, window := (m.milliwatts :: p.window).take 10000 }
  if dies.any (fun t => decide (t ≥ 120)) then s.powerLost
  else
    let t := if s.obj 0 0x131 0 = 1 then s.partitionCap else s.capLoop m.milliwatts
    State.pointMoved s (t.thermalLoop dies)

/-- CONTROL_LOOP_ITERATION, every 100 µs. -/
def execControlLoopIteration (m : LoopSample) (s : State) : Host.Outcome State Fault Refusal :=
  finish s (if s.stage = .off ∨ s.stage = .inReset then s else s.loop m)

/-- DROOP_EVENT (17 R574): a stretch of the CD or MD clock. -/
def execDroopEvent (domain ns : Nat) (s : State) : Host.Outcome State Fault Refusal :=
  finish s (if domain ≤ 1 ∧ ns ≤ 1000 ∧ s.stage ≠ .off ∧ s.stage ≠ .inReset then s.bump 0xD20 0x1C 1 else s)

/-! ## Deep idle (17 R581, R582, 06 R211, R212, 14 R494) -/

/-- Whether nothing the premise of 17 R581 names is under way. -/
def State.quietModule (s : State) : Bool :=
  s.accesses.isEmpty && s.held.isEmpty && s.span.requests.isEmpty && s.mvReqs.isEmpty
  && s.jobs.all (fun j => decide (j.2.state ≤ 1)) && s.moves.all (fun m => decide (m.2.cls ≥ 4))

/-- IDLE_TIMEOUT: the power manager requests deep idle; segments 2 to 7 close and are evacuated (17 R581, 06 R211). -/
def execIdleTimeout (s : State) : Host.Outcome State Fault Refusal :=
  finish s (if s.stage = .running ∧ s.power.deep = 0 ∧ s.obj 0xD20 0x150 0 = 1 ∧ s.obj 0 0x131 0 = 0 ∧ s.obj 0 0x130 0 = 0
      ∧ s.quietModule ∧ !s.contained then
      let segs := (List.range 6).map (fun i => (i + 2, 1))
      State.setPower ({ s with segStates := segs }.setObj 0x700 0x170 0 1) { s.power with deep := 1, lines := [] }
    else s)

/-- Whether a channel's write queue holds an entry for a segment. -/
def State.segQueued (s : State) (seg : Nat) : Bool :=
  s.channels.any (fun c => c.2.wq.any (fun q => match q.body with
    | .raw g _ => s.granSeg g == seg
    | .coded e => s.granSeg (16 * e.loc) == seg))

/-- Partial-array self-refresh: the segments that are empty drop, any other named one is kept refreshed with event 0x0195;
the channels enter self-refresh and the state is DEEP IDLE. -/
def State.enterDeepIdle (s : State) : State :=
  let bad := (List.range 6).filter (fun i => s.segQueued (i + 2))
  let s := if bad.isEmpty then s else s.raise 0x500 0x195 (bad.foldl (fun a i => a + 2 ^ (i + 2)) 0)
  let segs := (List.range 6).map (fun i => (i + 2, if bad.contains i then 1 else 2))
  let s := { s with segStates := segs }
  let s := (List.range 32).foldl (fun s ch =>
    let x := s.chan ch
    s.setChan ch { x with selfRefresh := true, openRows := [] }) s
  ((s.setPower { s.power with deep := 2, deepSince := s.now }).bump 0xD20 0x19 1).raise 0xD20 0x1B2 0

/-- EVACUATION_COMPLETE (06 R212): the mover reports segments 2 to 7 closed and empty. -/
def execEvacuationComplete (s : State) : Host.Outcome State Fault Refusal :=
  finish s (if s.power.deep = 1 ∧ s.highSegmentsEmpty then (s.setObj 0x700 0x170 0 2).enterDeepIdle else s)

/-- CHANNEL_IDLE_TIMEOUT (17 R582): in DEEP IDLE a channel without requests re-enters self-refresh. -/
def execChannelIdleTimeout (ch : Fin 32) (s : State) : Host.Outcome State Fault Refusal :=
  let x := s.chan ch
  finish s (if s.power.deep = 2 ∧ x.reads.isEmpty ∧ x.xbar.isEmpty ∧ x.wq.isEmpty ∧ x.inflight.isEmpty then
      s.setChan ch { x with selfRefresh := true, openRows := [] }
    else s)

/-- A filled segment: zero data with valid check bytes and parity, remapped rows included. -/
def State.zeroSegment (s : State) (seg : Nat) : State :=
  let spare (ch b : Nat) : Bool := (s.chan ch).remap.any (fun m =>
    decide (m.1 % 65536 / 6144 = seg ∧ m.1 / 65536 = burstBank b ∧ 3007 + m.2 = burstRow b))
  { s with near := s.near.filter (fun c =>
      let b := c.1 % 2 ^ 33 / 64
      !(b / 12582912 == seg || spare (c.1 / 2 ^ 33) b)) }

/-- SEGMENT_FILL_COMPLETE (14 R496): segments reopen in ascending order; with the last the state is ACTIVE. -/
def execSegmentFillComplete (segment : Fin 8) (s : State) : Host.Outcome State Fault Refusal :=
  let g := segment.val
  finish s (if (s.segStates.find? (fun x => x.2 == 3)).map (·.1) ≠ some g then s
    else
      let rest := tabDel s.segStates g
      let t := { s.zeroSegment g with segStates := rest }
      if rest.any (fun x => x.2 == 3) then t else t.setPower { t.power with deep := 0 })

end Sys2Proof.Machine
end

