-- ==== Sys2Proof/Machine/Ras.lean ====
section
/-!
DEFINITION. Partitioned QoS mode (10 R336 to R339), fault injection (10 R340, R341, 18 R601), control cores and the contained
stop (18 R594 to R600).
-/
namespace Sys2Proof.Machine

/-! ## QoS mode -/

/-- Whether any unit has an observer mask. -/
def State.anyObserver (s : State) : Bool := s.objs.any (fun o => o.1 / 256 % 4096 == 6 && o.2 != 0)

/-- A write of the QoS mode (10 R338, R339, 17 R573). -/
def State.qosWrite (s : State) (v : Nat) : Reply :=
  checks [ (decide (v > 1), stRange), (v == 1 && s.anyObserver, stBusy),
           (v == 1 && decide (capReserve (s.obj 0xD20 0x140 0) > s.idleSlots), stBusy) ]
    (let t := s.setObj 0 0x130 0 v
     if v = 1 then t.powerWake 4 else t)

/-- QOS_MODE_IN_FORCE: every arbiter has changed mode (10 R338). -/
def execQosModeInForce (s : State) : Host.Outcome State Fault Refusal :=
  let v := s.obj 0 0x130 0
  finish s (if s.obj 0 0x131 0 = v then s
    else
      let t := s.setObj 0 0x131 0 v
      let t := if v = 1 then t.partitionCap else t.setPower { t.power with reserve := 0 }
      (State.pointMoved s t).raise 0 0x160 v)

/-- A write of a share of the rounds (06 R221): the sum may leave no fewer idle slots than the reserve. -/
def State.slotWrite (s : State) (o m v : Nat) : Reply :=
  let t := s.noteShares.setObj 0x700 o m v
  checks [ (decide (t.slotSum > 256 - s.power.reserve), stRange) ] t

/-! ## Injection arming -/

/-- Whether every bound host has consented. -/
def State.allConsent (s : State) : Bool :=
  (List.range 16).all (fun n => !s.bound n || s.obj (0x110 + n) 0x180 0 == 1)

/-- Whether the unit and the parties of 10 R340 are in test. -/
def State.mayArm (s : State) (u : Nat) : Bool × State :=
  let test : Bool := s.actual u == 2
  if u = 0xE00 then (test, s)
  else if 0xC10 ≤ u ∧ u ≤ 0xC13 then
    let (n, t) := s.tick
    (test && s.allConsent && Config.peerInTest n (u - 0xC10), t)
  else (test && s.allConsent, s)

/-- A write of 068.00 (10 R340, 18 R601): true arms, false disarms. -/
def State.armWrite (s : State) (u v : Nat) : Reply :=
  if v > 1 then .error stRange
  else if v = 0 then
    .ok (match tabGet s.injects u with
      | some i => ({ s with injects := tabSet s.injects u { i with armed := false } }.setObj u 0x68 0 0).setObj u 0x6B 0 0
      | none => s)
  else
    let (ok, s) := s.mayArm u
    if !ok then .error stBusy
    else
      let seed := s.obj u 0x67 0
      let i : Inject := { armed := true, gen := seed * 65536 + seed, seen := 0 }
      let s := { s with injects := tabSet s.injects u i }
      .ok ((((s.setObj u 0x68 0 1).setObj u 0x69 0 0).setObj u 0x6B 0 1).raise u 0x1C6 (s.obj u 0x60 0))

/-! ## Control cores (18 R595) -/

/-- Whether a core's firmware runs. -/
def State.coreRuns (s : State) (k : Nat) : Bool :=
  let o := (s.unit (0xD10 + k)).own
  s.stage != .off && s.stage != .inReset && (o == 1 || o == 2) && !(s.ctl k).restarting

/-- Replace a control core. -/
def State.setCtl (s : State) (k : Nat) (x : CtlCore) : State := { s with cores := tabSet s.cores k x }

/-- WATCHDOG_EXPIRY (18 R595): the core restarts; a halted core's watchdog is suspended (19 R622). -/
def execWatchdogExpiry (core : Fin 8) (s : State) : Host.Outcome State Fault Refusal :=
  finish s (if !s.coreRuns core ∨ (s.ctl core).halt = 2 then s
    else (s.setCtl core { s.ctl core with restarting := true }).snapTrigger 2)

/-- The next control core from `k` on that runs restarts into the firmware activated live; after the last one all run it (10 R352). -/
def State.rollFrom (s : State) (k : Nat) : State :=
  match ((List.range 8).filter (fun i => decide (k ≤ i))).find? s.coreRuns with
  | some i => { s.setCtl i { s.ctl i with restarting := true } with fw := { s.fw with rolling := some i } }
  | none => { s with fw := { s.fw with rolling := none } }

/-- A restart is done (18 R595): the core has reloaded its checkpoint; a third restart within 10 s fails it. In a live
activation the next core follows (10 R352). -/
def State.coreRestarted (s : State) (core : Nat) : State :=
  let x := s.ctl core
  if !x.restarting then s
  else
    let ts := (s.now :: x.restartTimes).filter (fun t => decide (t + 10000000000 ≥ s.now))
    let t := s.setCtl core { x with restarting := false, restartTimes := ts }
    let t := ((t.bump (0xD10 + core) 0x30 1).logUnit 2 6 (0xD10 + core) core).raise 0xD00 0x1C2 core
    let t := if ts.length < 3 then t
      else
        let t := (t.setOwn (0xD10 + core) 6 0x100).raise 0xD00 0x1C3 core
        if (unitRun 0xD10 8).any (fun u => (t.unit u).own == 1) then t else t.assertFault 1
    if t.fw.rolling = some core then t.rollFrom (core + 1) else t

/-! ## The contained stop (18 R597) -/

/-- Reads of hosts that are under way are answered with poison, and the writes that are held are dropped. -/
def State.containRequests (s : State) : State :=
  let s := (s.accesses.filter (·.load.isNone)).foldl (fun s a => s.answerRead a none) s
  s.held.foldl State.completed { s with held := [] }

/-- CONTROL_STATE_PARITY_ERROR: an error of class 0x05. -/
def execControlStateParityError (s : State) : Host.Outcome State Fault Refusal :=
  finish s (if s.stage = .off ∨ s.stage = .inReset ∨ s.contained then s
    else
      let s := { (s.logUnit 5 0 0xF80 0xF80).assertFault 0 with contained := true }.containRequests
      (s.bump 0xF80 0x1B 1).raise 0 0x1C4 0)

/-! ## Boot flash of the RAS unit (18 R600, R604) -/

/-- A write of 0x01 to 0F80:170: the repair map is cleared while every channel is OFFLINE. -/
def State.clearRepairs (s : State) : Reply :=
  checks [ ((unitRun 0x510 32).any (fun u => (s.unit u).own != 3), stBusy) ] { s with repairMap := [], repairSeq := s.repairSeq + 1 }

/-- A write of 0x02 to 0F80:170. -/
def State.clearHistory (s : State) : Reply := .ok { s with errHistory := [] }

/-- A write of 0F80:170. -/
def State.rasCommand (s : State) (v : Nat) : Reply :=
  if v = 1 then s.clearRepairs else if v = 2 then s.clearHistory else .error stRange

/-- An entry of the repair map (18 R600). -/
def RepairEntry.bytes (m : RepairEntry) : Bytes :=
  leBytes 1 m.kind ++ leBytes 1 m.unit ++ leBytes 1 m.bank ++ leBytes 1 m.spare ++ leBytes 2 m.row ++ zeros 2

/-- The repair map 0F80:160. -/
def State.repairBytes (s : State) : Bytes :=
  let body := s.repairMap.flatMap RepairEntry.bytes
  let head := leBytes 4 0x52504D50 ++ leBytes 4 s.repairSeq ++ leBytes 4 s.repairMap.length
  head ++ leBytes 4 (crc32c (head ++ zeros 4 ++ body)) ++ body

end Sys2Proof.Machine
end

