-- ==== Sys2Proof/Machine/Telemetry.lean ====
section
/-!
DEFINITION. Freeze, hang snapshot, tensor dumps and control-core halts (19 R609 to R622).
-/
namespace Sys2Proof.Machine

/-! ## Freeze -/

/-- The stored counters 010 to 03F of every unit. -/
def State.counters (s : State) : List (Nat × Nat) :=
  s.objs.filter (fun o => let k := o.1 / 256 % 4096; decide (0x10 ≤ k ∧ k ≤ 0x3F))

/-- The latch: every counter goes into its unit's frozen image (19 R609, R610). -/
def State.latch (s : State) : State :=
  ({ s with telem := { s.telem with freeze := 2, frozen := s.counters } }).bump 0xF00 0x19 1

/-- FREEZE_LATCH: the tick of the latch has come. -/
def execFreezeLatch (s : State) : Host.Outcome State Fault Refusal := finish s (if s.telem.freeze = 1 then s.latch else s)

/-- A write of 0x02 to 0F00:111.00. -/
def State.releaseFreeze (s : State) : State :=
  if s.telem.freeze = 2 then { s with telem := { s.telem with freeze := 0 } } else s

/-- A write of the freeze command. -/
def State.freezeWrite (s : State) (v : Nat) : Reply :=
  if v = 1 then .ok (s.freezeTrigger 0) else if v = 2 then .ok s.releaseFreeze else .error stRange

/-- A time in a member's timebase, in this module's (19 R611). -/
def State.localTime (s : State) (m t : Nat) : Nat :=
  let off (k : Nat) : Int := (tabGet s.span.offsets k).getD 0
  ((t : Int) - off m + off s.span.member).toNat

/-- A freeze time from a span member (19 R611): a time that has passed latches at once, marked late. -/
def State.freezeFrom (s : State) (m t : Nat) : State :=
  if !(s.obj 0xF00 0x112 0).testBit 3 then s
  else if s.telem.freeze = 2 then s.bump 0xF00 0x1A 1
  else
    let at_ := s.localTime m t
    if at_ < s.now then
      let c := setBit (setBit (if s.telem.freeze = 1 then s.telem.freezeCause else 0) 3 true) 7 true
      { s with telem := { s.telem with freezeAt := s.now, freezeCause := c } }.latch
    else if s.telem.freeze = 1 then { s with telem := { s.telem with freezeCause := setBit s.telem.freezeCause 3 true } }
    else { s with telem := { s.telem with freeze := 1, freezeAt := at_, freezeCause := 8 } }

/-! ## Hang snapshot -/

/-- A snapshot record (19 R612). -/
structure SnapRec where
  kind : Nat
  unit : Nat
  item : Nat
  count : Nat
  other : Nat
  since : Nat
  stopped : Bool := false
deriving DecidableEq, Repr

/-- The 32 bytes of a record captured at a time. -/
def SnapRec.bytes (r : SnapRec) (at_ : Nat) : Bytes :=
  leBytes 1 r.kind ++ leBytes 1 (b2n r.stopped) ++ leBytes 2 r.unit ++ leBytes 4 r.item ++ leBytes 8 at_
    ++ leBytes 4 r.count ++ leBytes 4 r.other ++ leBytes 8 r.since

/-- The unit a held write waits on (19 R612). -/
def HoldFor.unit : HoldFor → Nat
  | .space => 0x200
  | .flip => 0x700
  | .unreachable => 0x700
  | .versions => 0x900
  | .poison => 0xF80
  | .remote => 0xC00
  | .crossbar => 0x500

/-- Requesters that wait at the tile mapper: held writes. -/
def State.snapHeld (s : State) : List SnapRec :=
  s.held.zipIdx.map (fun h => { kind := 2, unit := 0x200, item := h.2, count := 0, other := h.1.why.unit, since := h.1.since })

/-- The unit a read in flight waits on (19 R612). -/
def AccWait.unit : AccWait → Nat
  | .near => 0x500
  | .far => 0x600
  | .remote => 0xC00
  | _ => 0x700

/-- Hosts' reads that wait, by the tags of their requests. -/
def State.snapReads (s : State) : List SnapRec :=
  (List.range 17).flatMap (fun n => (s.accesses.filter (fun a => a.load.isNone && a.ld == n)).map (fun a =>
    { kind := 2, unit := 0x110 + n, item := a.tag, count := 0, other := a.wait.unit, since := a.since }))

/-- Queue heads of a channel: bank queues 0 to 31, the crossbar 32, the write queue 33. -/
def State.snapChan (s : State) (ch : Nat) : List SnapRec :=
  let x := s.chan ch
  let head (i : Nat) (l : List RdReq) : List SnapRec := match l with
    | r :: _ => [{ kind := 1, unit := 0x510 + ch, item := i, count := l.length, other := r.requester, since := r.since }]
    | [] => []
  (List.range 32).flatMap (fun b => head b (x.reads.filter (fun r => burstBank (s.granBurst r.gran) == b))) ++ head 32 x.xbar
    ++ (match x.wq with
      | q :: _ => [{ kind := 1, unit := 0x510 + ch, item := 33, count := x.wq.length, other := q.requester, since := q.since }]
      | [] => [])

/-- Move records in use, and the head of the mover request queue. -/
def State.snapMover (s : State) : List SnapRec :=
  let waiting := s.mvReqs.filter (fun q => !q.started)
  (match waiting with
    | q :: _ => [{ kind := 1, unit := 0x700, item := 0, count := waiting.length, other := 0x10 + q.thread.cluster.val, since := q.since }]
    | [] => [])
  ++ s.moves.map (fun m =>
    { kind := 4, unit := 0x700, item := m.1, count := m.2.state, other := m.2.kind + 256 * m.2.cls, since := m.2.start })

/-- The array queue head of a cluster. -/
def State.snapCluster (s : State) (c : Nat) : List SnapRec :=
  let x := s.cluster c
  match x.queue with
  | q :: _ => [{ kind := 1, unit := 0xA40 + c, item := 0, count := x.queue.length, other := 16 * q.thread.core.val + q.thread.slot.val
                 since := q.started, stopped := !x.clockOn }]
  | [] => []

/-- The credit state of a stream port's virtual lanes, and the packets that wait for credit. -/
def State.snapPort (s : State) (p : Nat) : List SnapRec :=
  let x := s.sport p
  if !x.inited then []
  else (List.range 4).flatMap (fun vl =>
    let w := x.waiting.filter (fun b => packetVl b.2 == vl)
    let credit : SnapRec := { kind := 3, unit := 0xC10 + p, item := vl, since := 0, other := x.replay.length
                              count := (tabGet x.credits vl).getD 0 - (tabGet x.used vl).getD 0 }
    (match w with
      | h :: _ => [{ kind := 1, unit := 0xC10 + p, item := vl, count := w.length, other := 0xFFFF, since := h.1 }]
      | [] => [])
      ++ [credit])

/-- A thread that waits, at a barrier or otherwise, or for the data of a load. -/
def State.snapThread (s : State) (k : Nat) (x : Thread) : List SnapRec :=
  let c := k / 64
  let unit := 0x1000 + k / 16
  let item := k % 64
  let stopped := !(s.cluster c).clockOn
  let arrivals : Nat := match x.wait with
    | .barrier n j =>
      let l := if j then ((tabGet s.jobs x.job).map (·.barriers)).getD [] else (s.cluster c).barriers
      ((tabGet l n).map (fun b => b.arrived.length)).getD 0
    | _ => 0
  let own : List SnapRec := if x.wait = .none then []
    else [{ kind := 2, unit := unit, item := item, count := arrivals, other := 0xFFFF, since := x.waitSince, stopped := stopped }]
  own ++ (s.loads.filter (fun l => l.thread.cluster.val == c && 16 * l.thread.core.val + l.thread.slot.val == item)).map (fun l =>
    { kind := 2, unit := unit, item := item, count := 0, other := l.waitedOn.getD 0xFFFF, since := l.since, stopped := stopped })

/-- Every record of a snapshot, in unit order. -/
def State.snapAll (s : State) : List SnapRec :=
  s.snapReads ++ s.snapHeld ++ (List.range 32).flatMap s.snapChan ++ s.snapMover ++ (List.range 64).flatMap s.snapCluster
    ++ (List.range 4).flatMap s.snapPort ++ s.threads.flatMap (fun t => s.snapThread t.1 t.2)

/-- SNAPSHOT_COMPLETE (19 R612 to R614): at most 16,384 records. -/
def execSnapshotComplete (s : State) : Host.Outcome State Fault Refusal :=
  finish s (if s.telem.snap ≠ 1 then s
    else
      let b := (s.snapAll.take 16384).flatMap (fun r => r.bytes s.now)
      ({ s with telem := { s.telem with snap := 2, snapBytes := b } }).bump 0xF00 0x1B 1)

/-- A write of 0x02 to 0F00:120.00 empties the buffer. -/
def State.releaseSnap (s : State) : State :=
  if s.telem.snap = 2 then { s with telem := { s.telem with snap := 0, snapBytes := [] } } else s

/-- A write of the snapshot command. -/
def State.snapWrite (s : State) (v : Nat) : Reply :=
  if v = 1 then .ok (s.snapTrigger 0) else if v = 2 then .ok s.releaseSnap else .error stRange

/-- A snapshot time from a span member (19 R613). -/
def State.snapFrom (s : State) (m t : Nat) : State :=
  if s.telem.snap ≠ 0 then s
  else { s with telem := { s.telem with snap := 1, snapAt := Nat.max s.now (s.localTime m t) } }

/-- The data of an AQFORT packet that carries a time: what it is for, and the time. -/
def timeOf (d : Bytes) : Option (Nat × Nat) :=
  if d.length = 16 ∧ (field d 0 8 = 1 ∨ field d 0 8 = 2) then some (field d 0 8, field d 8 8) else none

/-- A freeze or snapshot time arrives from a member. -/
def State.timeFrom (s : State) (m what t : Nat) : State := if what = 1 then s.freezeFrom m t else s.snapFrom m t

/-! ## Tensor dumps (19 R619, R620) -/

/-- The header of a dump. -/
def dumpHeader (n : Nat) (d : Dump) (bad : List DumpLine) : Bytes :=
  leBytes 2 0x5457 ++ leBytes 2 n ++ slice d.watch 0 2 ++ zeros 2 ++ leBytes 8 d.pos ++ leBytes 8 d.started ++ slice d.watch 20 4
    ++ leBytes 4 bad.length ++ leBytes 8 ((bad.head?.map (fun l => 64 + 64 * l.line)).getD 0) ++ zeros 24

/-- Write one line of a dump, translated when the area is virtual; none when a translation is refused. -/
def State.dumpPut (s : Option State) (ld : Nat) (virtual : Bool) (a : Nat) (data : Option Bytes) : Option State :=
  s.bind (fun s =>
    let (place, s) := if virtual then s.translate ld a else (some a, s)
    place.map (fun p => match data with
      | some d => s.dmaPut ld p d
      | none => (s.emit (.dmaPoison ld p)).bump (0x110 + ld) 0x19 1))

/-- Write the header and the lines of a dump. -/
def State.dumpWrite (s : State) (n : Nat) (d : Dump) (ls : List DumpLine) : Option State :=
  let ld := n / 4
  let virtual := (field d.watch 2 1).testBit 1
  let area := field d.watch 24 8
  let bad := ls.filter (fun l => l.data.isNone)
  ls.foldl (fun t l => State.dumpPut t ld virtual (area + 64 + 64 * l.line) l.data)
    (State.dumpPut (some s) ld virtual area (some (dumpHeader n d bad)))

/-- DUMP_COMPLETE: every line has come; the dump goes out, or a translation was refused. -/
def execDumpComplete (entry : Nat) (ok : Bool) (s : State) : Host.Outcome State Fault Refusal :=
  let d := s.dump entry
  let ls := s.telem.dumpLines.filter (·.watch == entry)
  finish s (if !d.running then s
    else if !ok then s.failDump entry 2
    else if ls.any (fun l => !l.arrived) then s
    else match s.dumpWrite entry d ls with
      | none => s.failDump entry 2
      | some s =>
        let s := { s with telem := { s.telem with dumpLines := s.telem.dumpLines.filter (·.watch != entry) } }
        let st := (s.dump entry).state
        (s.setDump entry { s.dump entry with running := false, written := ls.length, end_ := s.now
                                             state := if st = 4 then 4 else 2 }).bump 0xF00 0x1C 1)

/-- The status of a watch 0F00:181.00. -/
def Dump.bytes (d : Dump) : Bytes :=
  leBytes 1 d.state ++ leBytes 1 d.reason ++ zeros 2 ++ leBytes 4 d.written ++ leBytes 8 d.pos ++ leBytes 8 d.end_ ++ zeros 8

/-- The watch entries an action may name: a write of the watch table (19 R618). -/
def watchBad (b : Bytes) : Bool :=
  field b 2 1 ≥ 4 || !allZero (slice b 3 5) || !allZero (slice b 40 24)
  || ((field b 2 1).testBit 0 && (field b 20 4 = 0 || field b 20 4 > 16384 || field b 24 8 % 4096 ≠ 0
    || field b 32 8 < 64 + 65536 * field b 20 4))

/-- A write of one watch entry. -/
def State.writeWatch (s : State) (n : Nat) (b : Bytes) : Reply :=
  checks [ (watchBad b, stRange) ] { s with telem := { s.telem with watches := memWrite s.telem.watches (64 * n) b } }

/-- A write of bytes of the watch table; an LD writes its own entries. -/
def State.watchWrite (s : State) (w : Sender) (off : Nat) (b : Bytes) : Reply :=
  if !w.inSlice 256 off b.length then .error stRights
  else s.writeTable 64 off b State.watch State.writeWatch

/-! ## Halts (19 R621, R622) -/

/-- A core's fetch stops; its engines drain. -/
def State.haltCore (s : State) (k : Nat) : State :=
  if s.coreRuns k ∧ (s.ctl k).halt = 0 then s.setCtl k { s.ctl k with halt := 1 } else s

/-- A halted core resumes. -/
def State.resumeCore (s : State) (k : Nat) : State :=
  if (s.ctl k).halt = 0 then s else s.setCtl k { s.ctl k with halt := 0 }

/-- A halted core runs one instruction and drains again. -/
def State.stepCore (s : State) (k : Nat) : State :=
  if (s.ctl k).halt = 2 then s.setCtl k { s.ctl k with halt := 1 } else s

/-- A write of the halt command of a core, for SVC while 0D00 is in TEST. -/
def State.haltWrite (s : State) (k v : Nat) : Reply :=
  if s.actual 0xD00 ≠ 2 then .error stBusy
  else if v = 1 then .ok (s.haltCore k)
  else if v = 2 then .ok (s.resumeCore k)
  else if v = 3 then .ok (s.stepCore k)
  else .error stRange

/-- CORE_HALTED: every engine the core commands has reached its boundary. -/
def execCoreHalted (core : Fin 8) (s : State) : Host.Outcome State Fault Refusal :=
  finish s (if (s.ctl core).halt = 1 then s.setCtl core { s.ctl core with halt := 2 } else s)

/-- Every halted core resumes (19 R622). -/
def State.resumeAll (s : State) : State := (List.range 8).foldl State.resumeCore s

end Sys2Proof.Machine
end

