-- ==== Sys2Proof/Machine/Firmware.lean ====
section
/-!
DEFINITION. Firmware update (10 R344, R349 to R353) and the measurements (10 R348).
-/
namespace Sys2Proof.Machine

/-! ## Images -/

/-- The slot that updates go to: the one that does not run; slot 1 in recovery (10 R346). -/
def Firmware.inactive (f : Firmware) : Nat := if f.recovery then 1 else 1 - f.running

/-- The image that runs. -/
def Firmware.image (f : Firmware) : FwImage := (tabGet f.slots f.running).getD factoryImage

/-- The failure code of a staged image, or the image: the checks of 10 R345 in order. -/
def State.checkImage (s : State) : Except Nat FwImage := s.checkSlot s.fw.inactive

/-- Replace the firmware state. -/
def State.setFw (s : State) (f : Firmware) : State := { s with fw := f }

/-- The inactive slot is emptied. -/
def Firmware.emptied (f : Firmware) : Firmware :=
  let k := f.inactive
  { f with staging := f.staging.filter (fun c => c.1 / 2 ^ 24 != k), slots := tabDel f.slots k, staged := 0, failure := 0 }

/-- A staged update is cancelled: where it was activated at reset, the running slot is active again (10 R351). -/
def Firmware.cancelled (f : Firmware) : Firmware :=
  if f.pending then { f.emptied with active := f.running, trial := false, pending := false } else f.emptied

/-! ## Update commands -/

/-- A write of image bytes (10 R349): what the slot held is no longer an image. -/
def State.stageWrite (s : State) (off : Nat) (b : Bytes) : Reply :=
  let f := s.fw
  let k := f.inactive
  .ok (s.setFw { f with staging := memWrite f.staging (2 ^ 24 * k + off) b, slots := tabDel f.slots k, staged := 1, failure := 0 })

/-- VERIFY starts. -/
def State.startVerify (s : State) : Reply :=
  checks [ (s.fw.verifying, stBusy) ] (s.setFw { s.fw with verifying := true })

/-- VERIFY_COMPLETE (10 R349); a CANCEL that came while it ran takes effect now (10 R351). -/
def execVerifyComplete (s : State) : Host.Outcome State Fault Refusal :=
  let f := s.fw
  finish s (if !f.verifying then s
    else if f.cancelling then s.setFw { f.cancelled with verifying := false, cancelling := false }
    else match s.checkImage with
      | .ok i => s.setFw { f with verifying := false, slots := tabSet f.slots f.inactive i, staged := 2, failure := 0 }
      | .error c => s.setFw { f with verifying := false, staged := 3, failure := c })

/-- Activate at the next fundamental reset (10 R350). -/
def State.activateReset (s : State) : Reply :=
  checks [ (decide (s.fw.staged ≠ 2), stBusy) ] (s.setFw { s.fw with active := s.fw.inactive, trial := true, staged := 4, pending := true })

/-- Activate live (10 R352): the control cores restart into the new firmware one at a time, while moves, schedule entries and management
messages wait (06 R198, 02 R74). -/
def State.activateNow (s : State) : Reply :=
  let f := s.fw
  let k := f.inactive
  match tabGet f.slots k with
  | none => .error stBusy
  | some i =>
    checks [ (decide (f.staged ≠ 2) || decide (i.dataPath ≠ f.image.dataPath), stBusy) ]
      (let t := s.setFw { f with active := k, running := k, trial := false, pending := false, staged := 0, recovery := false }
       ((t.setObj 0 0 4 i.version).raise 0xD00 0x163 i.version).rollFrom 0)

/-- Commit the running image's security version (10 R353). -/
def State.commitVersion (s : State) : Reply :=
  checks [ (decide (s.fw.image.security ≤ s.fw.securityFuse), stRange), (s.fw.trial, stBusy) ]
    (s.setFw { s.fw with securityFuse := s.fw.image.security })

/-- Cancel a staged update (10 R351). -/
def State.cancelUpdate (s : State) : Reply :=
  let f := s.fw
  if f.verifying then .ok (s.setFw { f with cancelling := true })
  else .ok (s.setFw f.cancelled)

/-- Revoke key 0: SVC, while the running image is signed with key 1 (10 R353). -/
def State.revokeKey (s : State) (w : Sender) : Reply :=
  checks [ (!w.svc, stRights), (decide (s.fw.image.key ≠ 1), stBusy) ] (s.setFw { s.fw with key0Revoked := true })

/-- A write of the update command 0D00:183. -/
def State.updateCommand (s : State) (w : Sender) (v : Nat) : Reply :=
  match v with
  | 1 => s.startVerify
  | 2 => s.activateReset
  | 3 => s.activateNow
  | 4 => s.commitVersion
  | 5 => s.cancelUpdate
  | 6 => s.revokeKey w
  | _ => .error stRange

/-- The update status 0D00:184: version and security version of what is staged. -/
def State.updateStatus (s : State) : Bytes :=
  let f := s.fw
  let rd (off n : Nat) : Bytes := if f.staged = 0 then zeros n else memRead f.staging (2 ^ 24 * f.inactive + off) n
  leBytes 1 f.staged ++ leBytes 1 f.failure ++ zeros 2 ++ rd 8 4 ++ rd 6 2 ++ zeros 6

/-! ## Measurements (10 R348) -/

/-- A mask with the bits for which a test holds. -/
def maskOf (n : Nat) (p : Nat → Bool) : Nat := (List.range n).foldl (fun a i => if p i then a + 2 ^ i else a) 0

/-- The link units in the order of the armed-injection mask. -/
def armedMask (s : State) : Nat :=
  let armed (u : Nat) : Bool := (tabGet s.injects u).any (·.armed)
  maskOf 15 (fun i => armed (nth linkUnits i 0))

/-- The value of a measurement. -/
def State.measurement (s : State) (k : Nat) : Bytes :=
  let f := s.fw
  if k = 1 then Config.romDigest
  else if k = 2 then Config.fuseDigest f.securityFuse f.key0Revoked
  else if k = 3 then f.image.digest
  else if k = 4 then leBytes 4 f.image.version ++ leBytes 2 f.image.security ++ leBytes 2 f.securityFuse
  else if k = 5 then (match f.loaded with
    | some (slot, c) => sha256 (c.bytes slot)
    | none => Config.factoryDigest)
  else leBytes 1 (s.obj 0 0x131 0) ++ leBytes 1 (b2n s.anyObserver)
    ++ leBytes 2 (maskOf 16 (fun n => ((tabGet s.spdm n).getD {}).ide)) ++ leBytes 2 (armedMask s)
    ++ leBytes 2 (maskOf 16 s.bound) ++ zeros 8

/-- The measurements 0D00:185: 32 bytes each. -/
def State.measurements (s : State) : Bytes :=
  (List.range 6).flatMap (fun i => (s.measurement (i + 1) ++ zeros 32).take 32)

end Sys2Proof.Machine
end

