-- ==== Sys2Proof/Machine/Spdm.lean ====
section
/-!
DEFINITION. SPDM 1.2 and IDE_KM over the DOE mailbox (10 R348, 15 R515). The message layouts are those of DMTF DSP0274 and of
PCIe IDE key management, which the spec names and does not print (log entry 29).
-/
namespace Sys2Proof.Machine

/-- The SPDM state of an LD. -/
def State.spdmOf (s : State) (n : Nat) : Spdm := (tabGet s.spdm n).getD {}

/-- Replace the SPDM state of an LD. -/
def State.setSpdm (s : State) (n : Nat) (x : Spdm) : State := { s with spdm := tabSet s.spdm n x }

/-- The host of the LD, or the fabric manager by the FM-owned LD, can reach its DOE mailbox. -/
def State.spdmServes (s : State) (n : Nat) : Bool := (decide (n ≥ 16) || s.bound n) && s.hostReaches && !s.fw.recovery

/-- An ERROR response. -/
def spdmError (code : Nat) : Bytes := leBytes 1 0x12 ++ leBytes 1 0x7F ++ leBytes 1 code ++ zeros 1

/-- InvalidRequest, UnexpectedRequest. -/
def spdmInvalid : Bytes := spdmError 1
/-- UnexpectedRequest. -/
def spdmUnexpected : Bytes := spdmError 4

/-- The certificate chain as SPDM carries it: length, the root's hash, the certificates device last. -/
def spdmChain : Bytes :=
  let body := Config.rootHash ++ Config.certificates
  leBytes 2 (body.length + 4) ++ zeros 2 ++ body

/-- A signature of the identity key over a transcript, in a signing context. -/
def spdmSign (context : String) (transcript : Bytes) : Bytes :=
  let c := strBytes context.length context
  let head := (List.replicate 4 (strBytes 16 "dmtf-spdm-v1.2.*")).flatMap id
  Config.pssSign (sha256 (head ++ zeros (36 - c.length) ++ c ++ sha256 transcript))

/-- Answer a request of an LD: the response, and the state it leaves. -/
def State.spdmAnswer (s : State) (n : Nat) (req : Bytes) (code : Nat) (f : Spdm → State → Bytes × Spdm × State) : State :=
  if !s.spdmServes n then s
  else if field req 1 1 ≠ code ∨ req.length < 4 then s.emit (.spdm n spdmInvalid)
  else
    let (r, x, s) := f (s.spdmOf n) s
    (s.setSpdm n x).emit (.spdm n r)

/-- The hash of the measurement summary a request asks for: 1 the TCB, 0xFF all. -/
def State.summary (s : State) (kind : Nat) : Option Bytes :=
  if kind = 0 then some []
  else if kind = 1 then some (sha256 ((List.range 4).flatMap (fun i => s.measurement (i + 1))))
  else if kind = 0xFF then some (sha256 ((List.range 6).flatMap (fun i => s.measurement (i + 1))))
  else none

/-- A nonce of the random generator. -/
def State.nonce32 (s : State) : Bytes × State :=
  let (n, s) := s.tick
  (leBytes 32 (Config.drawn n), s)

/-- VERSION: 1.2 only; the connection starts anew. -/
def State.spdmVersion (s : State) (n : Nat) (req : Bytes) : State :=
  s.spdmAnswer n req 0x84 (fun x s =>
    let r := leBytes 1 0x10 ++ leBytes 1 4 ++ zeros 2 ++ zeros 1 ++ leBytes 1 1 ++ leBytes 2 0x1200
    (r, { version := true, vca := req ++ r, ide := x.ide }, s))

/-- GET_VERSION. -/
def execGetVersion (ld : Fin 16) (req : Bytes) (s : State) : Host.Outcome State Fault Refusal := finish s (s.spdmVersion ld req)

/-- CAPABILITIES: CERT, CHAL, MEAS with signatures, ENCRYPT, MAC, KEY_EX. -/
def State.spdmCapabilities (s : State) (n : Nat) (req : Bytes) : State :=
  s.spdmAnswer n req 0xE1 (fun x s =>
    if !x.version then (spdmUnexpected, x, s)
    else
      let sz := (Config.spdmSizes ++ zeros 9).take 9
      let r := leBytes 1 0x12 ++ leBytes 1 0x61 ++ zeros 2 ++ zeros 1 ++ sz.take 1 ++ zeros 2 ++ leBytes 4 0x2D6 ++ sz.drop 1
      (r, { x with capabilities := true, vca := x.vca ++ req ++ r }, s))

/-- GET_CAPABILITIES. -/
def execGetCapabilities (ld : Fin 16) (req : Bytes) (s : State) : Host.Outcome State Fault Refusal :=
  finish s (s.spdmCapabilities ld req)

/-- The algorithm structures of a response: DHE FFDHE3072, AEAD AES-256-GCM, the SPDM key schedule, where asked for. -/
def algStructs (req : Bytes) : List Bytes :=
  let at_ := 32 + 4 * (field req 28 1 + field req 29 1)
  let offered (ty want : Nat) : List Bytes :=
    match (List.range (field req 2 1)).find? (fun i => field req (at_ + 4 * i) 1 == ty) with
    | some i => [leBytes 1 ty ++ leBytes 1 0x20 ++ leBytes 2 (field req (at_ + 4 * i + 2) 2 &&& want)]
    | none => []
  offered 2 2 ++ offered 3 2 ++ offered 5 1

/-- ALGORITHMS: RSAPSS-3072, SHA-256, the DMTF measurement specification. -/
def State.spdmAlgorithms (s : State) (n : Nat) (req : Bytes) : State :=
  s.spdmAnswer n req 0xE3 (fun x s =>
    if !x.capabilities then (spdmUnexpected, x, s)
    else if req.length < 32 then (spdmInvalid, x, s)
    else
      let a := algStructs req
      let r := leBytes 1 0x12 ++ leBytes 1 0x63 ++ leBytes 1 a.length ++ zeros 1 ++ leBytes 2 (36 + 4 * a.length)
        ++ leBytes 1 (field req 6 1 &&& 1) ++ zeros 1 ++ leBytes 4 2 ++ leBytes 4 (field req 8 4 &&& 8) ++ leBytes 4 (field req 12 4 &&& 1)
        ++ zeros 12 ++ zeros 4 ++ a.flatMap id
      (r, { x with algorithms := true, vca := x.vca ++ req ++ r }, s))

/-- NEGOTIATE_ALGORITHMS. -/
def execNegotiateAlgorithms (ld : Fin 16) (req : Bytes) (s : State) : Host.Outcome State Fault Refusal :=
  finish s (s.spdmAlgorithms ld req)

/-- DIGESTS: slot 0. -/
def State.spdmDigests (s : State) (n : Nat) (req : Bytes) : State :=
  s.spdmAnswer n req 0x81 (fun x s =>
    if !x.algorithms then (spdmUnexpected, x, s)
    else
      let r := leBytes 1 0x12 ++ leBytes 1 1 ++ zeros 1 ++ leBytes 1 1 ++ sha256 spdmChain
      (r, { x with certs := x.certs ++ req ++ r }, s))

/-- GET_DIGESTS. -/
def execGetDigests (ld : Fin 16) (req : Bytes) (s : State) : Host.Outcome State Fault Refusal := finish s (s.spdmDigests ld req)

/-- CERTIFICATE: a portion of the chain of slot 0. -/
def State.spdmCertificate (s : State) (n : Nat) (req : Bytes) : State :=
  s.spdmAnswer n req 0x82 (fun x s =>
    let off := field req 4 2
    if !x.algorithms then (spdmUnexpected, x, s)
    else if field req 2 1 ≠ 0 ∨ req.length < 8 ∨ off ≥ spdmChain.length then (spdmInvalid, x, s)
    else
      let part := slice spdmChain off (Nat.min (field req 6 2) (spdmChain.length - off))
      let r := leBytes 1 0x12 ++ leBytes 1 2 ++ zeros 2 ++ leBytes 2 part.length ++ leBytes 2 (spdmChain.length - off - part.length) ++ part
      (r, { x with certs := x.certs ++ req ++ r }, s))

/-- GET_CERTIFICATE. -/
def execGetCertificate (ld : Fin 16) (req : Bytes) (s : State) : Host.Outcome State Fault Refusal :=
  finish s (s.spdmCertificate ld req)

/-- CHALLENGE_AUTH: chain hash, nonce, measurement summary, signature over the transcript. -/
def State.spdmChallenge (s : State) (n : Nat) (req : Bytes) : State :=
  s.spdmAnswer n req 0x83 (fun x s =>
    if !x.algorithms then (spdmUnexpected, x, s)
    else if field req 2 1 ≠ 0 ∨ req.length < 36 then (spdmInvalid, x, s)
    else match s.summary (field req 3 1) with
      | none => (spdmInvalid, x, s)
      | some h =>
        let (k, s) := s.nonce32
        let r := leBytes 1 0x12 ++ leBytes 1 3 ++ zeros 1 ++ leBytes 1 1 ++ sha256 spdmChain ++ k ++ h ++ zeros 2
        let sig := spdmSign "responder-challenge_auth signing" (x.vca ++ x.certs ++ req ++ r)
        (r ++ sig, { x with certs := [] }, s))

/-- CHALLENGE. -/
def execChallenge (ld : Fin 16) (req : Bytes) (s : State) : Host.Outcome State Fault Refusal := finish s (s.spdmChallenge ld req)

/-- The DMTF type of a measurement: digests of the ROM, the hardware configuration, the firmware, the firmware
configuration; raw values have bit 7. -/
def measurementType (k : Nat) : Nat := nth [0, 0x00, 0x02, 0x01, 0x81, 0x03, 0x83] k 0

/-- A measurement block. -/
def State.measurementBlock (s : State) (k : Nat) : Bytes :=
  let v := s.measurement k
  leBytes 1 k ++ leBytes 1 1 ++ leBytes 2 (v.length + 3) ++ leBytes 1 (measurementType k) ++ leBytes 2 v.length ++ v

/-- MEASUREMENTS: their number, one of them, or all; signed when asked. -/
def State.spdmMeasurements (s : State) (n : Nat) (req : Bytes) : State :=
  s.spdmAnswer n req 0xE0 (fun x s =>
    let op := field req 3 1
    let signed := (field req 2 1).testBit 0
    if !x.algorithms then (spdmUnexpected, x, s)
    else if (op > 6 ∧ op ≠ 0xFF) ∨ (signed ∧ (req.length < 37 ∨ field req 36 1 % 16 ≠ 0)) then (spdmInvalid, x, s)
    else
      let ks : List Nat := if op = 0 then [] else if op = 0xFF then [1, 2, 3, 4, 5, 6] else [op]
      let rec_ := ks.flatMap s.measurementBlock
      let (k, s) := s.nonce32
      let r := leBytes 1 0x12 ++ leBytes 1 0x60 ++ leBytes 1 (if op = 0 then 6 else 0) ++ zeros 1 ++ leBytes 1 ks.length
        ++ leBytes 3 rec_.length ++ rec_ ++ k ++ zeros 2
      let l := x.measured ++ req ++ r
      if signed then (r ++ spdmSign "responder-measurements signing" (x.vca ++ l), { x with measured := [] }, s)
      else (r, { x with measured := l }, s))

/-- GET_MEASUREMENTS. -/
def execGetMeasurements (ld : Fin 16) (req : Bytes) (s : State) : Host.Outcome State Fault Refusal :=
  finish s (s.spdmMeasurements ld req)

/-- KEY_EXCHANGE_RSP: a secured session. -/
def State.spdmKeyExchange (s : State) (n : Nat) (req : Bytes) : State :=
  s.spdmAnswer n req 0xE4 (fun x s =>
    if !x.algorithms then (spdmUnexpected, x, s)
    else if field req 3 1 ≠ 0 ∨ req.length < 426 then (spdmInvalid, x, s)
    else match s.summary (field req 2 1) with
      | none => (spdmInvalid, x, s)
      | some h =>
        let (k, s) := s.nonce32
        let (m, s) := s.tick
        let id := field req 4 2
        let r := leBytes 1 0x12 ++ leBytes 1 0x64 ++ zeros 2 ++ leBytes 2 id ++ zeros 2 ++ k
          ++ (Config.dheShare m ++ zeros 384).take 384 ++ h ++ zeros 2
        let t := x.vca ++ sha256 spdmChain ++ req ++ r
        let sig := spdmSign "responder-key_exchange_rsp signing" t
        (r ++ sig ++ (Config.dheVerify m (sha256 (t ++ sig)) ++ zeros 32).take 32, { x with session := some (id + 65536 * id) }, s))

/-- KEY_EXCHANGE. -/
def execKeyExchange (ld : Fin 16) (req : Bytes) (s : State) : Host.Outcome State Fault Refusal :=
  finish s (s.spdmKeyExchange ld req)

/-- IDE_KM, as it is within the secured session (15 R515): protocol 0; QUERY, KEY_PROG, K_SET_GO, which puts IDE in force,
K_SET_STOP. -/
def State.ideKm (s : State) (n : Nat) (req : Bytes) : State :=
  if !s.spdmServes n then s
  else
    let x := s.spdmOf n
    let op := field req 1 1
    if x.session.isNone then s.emit (.spdm n spdmUnexpected)
    else if field req 0 1 ≠ 0 then s.emit (.spdm n spdmInvalid)
    else if op = 0 then s.emit (.spdm n (zeros 1 ++ leBytes 1 1 ++ slice req 2 2 ++ Config.ideRegisters n))
    else if op = 2 then s.emit (.spdm n (zeros 1 ++ leBytes 1 3 ++ slice req 2 6))
    else if op = 4 then (s.setSpdm n { x with ide := true }).emit (.spdm n (zeros 1 ++ leBytes 1 5 ++ slice req 2 6))
    else if op = 6 then (s.setSpdm n { x with ide := false }).emit (.spdm n (zeros 1 ++ leBytes 1 5 ++ slice req 2 6))
    else s.emit (.spdm n spdmInvalid)

/-- IDE_KM. -/
def execIdeKm (ld : Fin 16) (req : Bytes) (s : State) : Host.Outcome State Fault Refusal := finish s (s.ideKm ld req)

end Sys2Proof.Machine
end

