-- ==== Sys2Proof/Machine/Objects.lean ====
section
/-!
DEFINITION. What the objects of the dictionary read as (02 R42, R56 to R60 and the object tables): scalars, counters, and the
bytes of tables, as far as a reader may see them.
-/
namespace Sys2Proof.Machine

/-! ## Counters (02 R59) -/

/-- The children whose counters a group's class counter sums, as the chapters say: 15 R535, 04 R158, 05 R187, 14 R501,
07 R250, 08 R279, 11 R391, 16 R565, 18 R605. -/
def summed (u o : Nat) : List Nat :=
  let at_ (lo hi : Nat) : Bool := decide (lo ≤ o ∧ o ≤ hi)
  if u = 0x100 then (if at_ 0x16 0x1E then unitRun 0x110 16 else if at_ 0x30 0x34 then [0x101, 0x102] else [])
  else if u = 0x300 then (if at_ 0x16 0x1C then unitRun 0x310 32 else if at_ 0x1D 0x27 then unitRun 0x330 48 else [])
  else if u = 0x500 ∨ u = 0x501 ∨ u = 0x502 then (if at_ 0x16 0x26 then childUnits u else [])
  else if u = 0x600 then (if at_ 0x30 0x35 then unitRun 0x610 8 else [])
  else if u = 0x800 then (if at_ 0x16 0x1B then unitRun 0x810 64 else [])
  else if u = 0xA00 then (if at_ 0x16 0x1D ∨ at_ 0x23 0x24 then unitRun 0xA40 64 else [])
  else if 0xA40 ≤ u ∧ u ≤ 0xA7F then (if o = 0x16 ∨ o = 0x18 then childUnits u else [])
  else if u = 0xC00 then (if at_ 0x30 0x37 then unitRun 0xC10 4 else [])
  else if u = 0xD00 then (if o = 0x30 then unitRun 0xD10 8 else if at_ 0x16 0x1C then [0xD20] else [])
  else []

/-- A unit's own counter; the events logged are those the event log has numbered (19 R607). -/
def State.ownCounter (s : State) (u o : Nat) : Nat := if u = 0xF00 ∧ o = 0x16 then s.telem.nextEvent - 1 else s.count u o

/-- A counter as it reads: 010 to 015 sum a group's own and its children's, 016 to 03F as the chapter says (02 R59). -/
def State.counterAt (s : State) : Nat → Nat → Nat → Nat
  | 0, u, o => s.ownCounter u o
  | n + 1, u, o =>
    if o ≤ 0x15 then
      ((if u = 0x0001 then [0x0000] else childUnits u).foldl (fun a c => a + s.counterAt n c o) (s.ownCounter u o)) % 2 ^ 64
    else match summed u o with
      | [] => s.ownCounter u o
      | cs => (cs.foldl (fun a c => a + s.counterAt n c o) 0) % 2 ^ 64

/-- What the span unit adds for the other members: their counters now, or the last values read (02 R57). -/
def State.memberCounters (s : State) (o : Nat) : Nat :=
  s.peers.foldl (fun a m => a + Config.memberValue s.fresh m o 0)
    (s.span.lastValues.foldl (fun a x => if s.span.unreachable.contains x.1 then a + Config.memberValue x.2 x.1 o 0 else a) 0)

/-- A counter of a unit. -/
def State.counter (s : State) (u o : Nat) : Nat :=
  if u = 0x0001 ∧ o ≤ 0x15 then (s.counterAt 6 u o + s.memberCounters o) % 2 ^ 64 else s.counterAt 5 u o

/-! ## The template (02 R42) -/

/-- The die whose stepping a unit reads: 0 CD, 1 MD0, 2 MD1, 3 XD (02 R649). -/
def stepDie (u : Nat) : Nat :=
  if (0x310 ≤ u ∧ u ≤ 0x31F) ∨ (0x330 ≤ u ∧ u ≤ 0x347) ∨ u = 0x501 ∨ (0x510 ≤ u ∧ u ≤ 0x51F) then 1
  else if (0x320 ≤ u ∧ u ≤ 0x35F) ∨ u = 0x502 ∨ (0x520 ≤ u ∧ u ≤ 0x52F) then 2
  else if u = 0xA00 ∨ (0xA40 ≤ u ∧ u ≤ 0xA7F) ∨ (0x1000 ≤ u ∧ u ≤ 0x10FF) ∨ u = 0xB00 then 0
  else 3

/-- What 040 lists. -/
def State.children (s : State) (u : Nat) : List Nat := if u = 0x0001 then s.spanMembers else childUnits u

/-- 001.00 as it reads: for a group, the value common to it and its counted children, or MIXED (02 R59); the span unit counts the
module units of the other members too. -/
def State.requestedRead (s : State) : Nat → Nat → Nat
  | 0, u => s.requested u
  | n + 1, u =>
    let v := (if u = 0x0001 then [0x0000] else childUnits u).foldl (fun v c =>
      let a := s.actual c
      if a = 0 ∨ (a = 3 ∧ s.requested c = 3) then v
      else if s.requestedRead n c = v then v else 0xFE) (s.requested u)
    if u = 0x0001 then s.peers.foldl (fun v m =>
      let a := Config.memberValue s.fresh m 2 0 % 7
      let r := 1 + Config.memberValue s.fresh m 1 0 % 3
      if a = 0 ∨ (a = 3 ∧ r = 3) ∨ r = v then v else 0xFE) v
    else v

/-- The span unit's 002.00 counts the other reachable members, whose state their own modules hold. -/
def State.actualRead (s : State) (u : Nat) : Nat :=
  if u = 0x0001 then s.peers.foldl (fun w m => worse w (Config.memberValue s.fresh m 2 0 % 7)) (s.actual 1) else s.actual u

/-- 002.00 to 002.06. -/
def State.stateRead (s : State) (u m : Nat) : Nat :=
  let x := s.unit u
  if m = 0 then s.actualRead u
  else if m = 1 then b2n (s.quiescent u) + 2 * b2n x.diverged
  else if m = 2 then x.reason
  else if m = 3 then x.time
  else if m = 4 then x.own
  else if m = 5 then x.target
  else x.taken

/-! ## Scalars of the units -/

/-- A byte of the caddy fuse map: the entries of the 4 spares of the 48 macros of each cluster; the hard ones are manufacture's (14 R492,
R503). -/
def State.fuseByte (s : State) (i : Nat) : Byte :=
  let here (m : RepairEntry) : Bool := m.unit == i / 384 && m.bank == i / 8 % 48 && m.spare == i / 2 % 4
  match s.caddySoft.find? here with
  | some m => nth (leBytes 2 (m.row + 2 ^ 14 + 2 ^ 15)) (i % 2) 0
  | none => Config.fuseMap i

/-- The home blocks in use of a cluster, destinations of moves included (11 R391). -/
def State.homeUsed (s : State) (c : Nat) : Nat := (s.homesIn 0).foldl (fun a h => if h.1 % 64 = c then a + h.2 else a) 0

/-- The clusters assigned to an LD (11 R364). -/
def State.clustersOf (s : State) (n : Nat) : List Nat := (List.range 64).filter (fun c => s.obj (0xA40 + c) 0x100 0 == n)

/-- The LDs a host is bound to, as a mask. -/
def State.boundMask (s : State) : Nat := maskOf 16 s.bound

/-- The module unit and the management port (02 R84, R85, 20 R641). -/
def State.moduleScalar (s : State) (o m : Nat) : Nat :=
  if o = 0x110 then s.fw.securityFuse
  else if o = 0x141 ∧ m = 1 then b2n s.chrysalis
  else if o = 0x150 then s.boundMask
  else if o = 0x160 then s.now
  else if o = 0x172 then s.profSel + 16 * s.nodeId
  else if o = 0x173 then
    b2n s.hrefclk + 2 * b2n s.strefclk + 4 * b2n s.farRefInternal + 8 * b2n Config.senseConnected
  else s.obj 0 o m

/-- The tile mapper (03 R120): mapped extents, free blocks, an LD's share and charges. -/
def State.mapperScalar (s : State) (o m : Nat) : Nat :=
  let guests := (s.span.reservations.filter (·.guest)).length
  let blocks := ((s.extents.map (·.2.block)).eraseDups).length + guests
  let n := o - 0x200
  if o = 0x100 then (if m = 0 then blocks else 16384 - blocks)
  else if o = 0x101 ∧ m = 1 then s.farAssignable
  else if o < 0x200 ∨ m ≤ 2 then s.obj 0x200 o m
  else if m = 3 then s.logicalTiles n
  else if m = 4 then s.guaranteed n
  else if m = 5 then s.spillGranted n
  else if m = 6 then spillNeed (s.logicalTiles n) (s.guaranteed n)
  else s.charge n (m - 7)

/-- A codec slot (04 R158, 05 R187). -/
def State.slotScalar (s : State) (o m : Nat) : Nat :=
  let ll := decide (o ≥ 0x300)
  let n := o % 256
  let empty := s.slotState ll n == 0
  if m = 3 then
    (if empty then 0 else if ll then field ((tabGet s.llTables n).getD []) 3 1 else ((s.frTable n).map (·.width)).getD 0)
  else if m = 4 then (if empty then 0 else wrapInt 8 (((s.frTable n).map FrTable.top).getD 0))
  else if m = 5 then s.slotPointers ll n
  else if m = 6 then s.slotTiles ll n
  else if m = 7 then s.slotFlight ll n
  else if m = 9 then 0
  else s.obj 0x300 o m

/-- A near-tier channel (14 R502). -/
def State.chanScalar (s : State) (ch o : Nat) : Nat :=
  let x := s.chan ch
  if o = 0x100 then wrapInt 8 x.temperature
  else if o = 0x101 then x.remap.length
  else if o = 0x103 then x.interval
  else s.obj (0x510 + ch) o 0

/-- The far tier (07 R249). -/
def State.farScalar (s : State) (o m : Nat) : Nat :=
  if o = 0x100 then s.farCapacity.1
  else if o = 0x101 then s.farCapacity.2.1
  else if o = 0x102 then s.farCapacity.2.2
  else if o = 0x103 then s.freeSegs
  else if o = 0x104 then s.usableSegs
  else if o = 0x105 then s.segSeq
  else s.obj 0x600 o m

/-- A far port (07 R250). -/
def State.farPortScalar (s : State) (p o m : Nat) : Nat :=
  let x := s.farPort p
  if o = 0x100 then (if s.farOwn p = 0 then 0 else x.width)
  else if o = 0x101 then x.rate
  else if o = 0x102 then x.capacity
  else if o = 0x103 then (if x.refused then 0 else s.usableChunks p)
  else if o = 0x104 then x.ids
  else s.obj (0x610 + p) o m

/-- The mover (06 R222). -/
def State.moverScalar (s : State) (o m : Nat) : Nat :=
  if o = 0x101 then s.epochs % 256
  else if o = 0x120 then s.moves.length
  else if o = 0x171 then
    (if s.obj 0x700 0x170 0 = 1 then ((s.homesIn 1).filter (fun h => decide (h.1 + h.2 > 2 * segBlocks s.parityOn))).length else 0)
  else s.obj 0x700 o m

/-- A cluster (11 R391). -/
def State.clusterScalar (s : State) (c o m : Nat) : Nat :=
  let x := s.cluster c
  if o = 0x102 then x.context
  else if o = 0x103 then s.homeUsed c
  else if o = 0x104 then (if m = 0 then (x.lookup.map (·.slot)).getD 0xFF else (x.lookup.map (·.gen)).getD 0)
  else s.obj (0xA40 + c) o m

/-- The stream ports unit and a stream port (16 R564, R565). -/
def State.spanScalar (s : State) (o m : Nat) : Nat :=
  let own := s.obj 0xC00 0x101 0
  let solo := s.span.mask = 0
  if o = 0x103 then (if solo then 2 ^ own else s.span.mask)
  else if o = 0x104 then (if solo then own else s.span.coordinator)
  else if o = 0x111 then s.span.offsetTime
  else if o = 0x112 then s.uncertainty
  else if o = 0x113 then 0
  else s.obj 0xC00 o m

/-- A stream port (16 R565). -/
def State.sportScalar (s : State) (p o m : Nat) : Nat :=
  let x := s.sport p
  if o = 0x100 then x.width
  else if o = 0x101 then x.lanes
  else if o = 0x102 then (if x.inited then 256 * x.peerMember + x.peerPort else 0xFFFF)
  else s.obj (0xC10 + p) o m

/-- The control complex, its cores and the power manager (10 R356, 19 R621, 17 R583). -/
def State.controlScalar (s : State) (o m : Nat) : Nat :=
  if o = 0x180 then (if m = 0 then s.fw.running else if m = 1 then s.fw.bootReason else b2n s.fw.trial)
  else if o = 0x181 then (match tabGet s.fw.slots m with
    | some i => if i.valid then i.version else 0
    | none => 0)
  else if o = 0x183 then 0
  else if o = 0x187 then b2n s.fw.key0Revoked
  else s.obj 0xD00 o m

/-- The power manager (17 R583). -/
def State.powerScalar (s : State) (o m : Nat) : Nat :=
  if o = 0x100 then s.point
  else if o = 0x140 ∧ m = 1 then s.power.average
  else if o = 0x140 ∧ m = 2 then s.power.milliwatts
  else if o = 0x140 ∧ m = 3 then Config.voltage s.fresh 3
  else if o = 0x151 then s.power.deep
  else if o = 0x160 then wrapInt 8 (nth s.power.temps m 0)
  else s.obj 0xD20 o m

/-- A leg, or an LD (15 R536, R537). -/
def State.legScalar (s : State) (k o m : Nat) : Nat :=
  let x := s.leg k
  if o = 0x100 then x.width else if o = 0x101 then x.rate else if o = 0x102 then x.ltssm else s.obj (0x101 + k) o m

/-- An LD (15 R537). -/
def State.ldScalar (s : State) (n o m : Nat) : Nat :=
  let x := s.ld n
  if o = 0x100 then (if x.d3hot then 3 else 0)
  else if o = 0x102 then b2n (s.spdmOf n).ide
  else if o = 0x103 then b2n x.busMaster
  else s.obj (0x110 + n) o m

/-- RAS, telemetry (18 R604, 19 R623). -/
def State.rasScalar (s : State) (o m : Nat) : Nat :=
  if o = 0x100 then
    (s.tileMap.filter (fun e => e.2.state == 3)).length + (s.versions.filter (fun v => v.2.entry.state == 3)).length
  else if o = 0x101 then s.faults
  else if o = 0x141 then s.errSeq
  else if o = 0x170 then 0
  else s.obj 0xF80 o m

/-- Telemetry (19 R623). -/
def State.telemScalar (s : State) (o m : Nat) : Nat :=
  let t := s.telem
  if o = 0x110 then (if m = 0 then b2n (t.freeze == 2) else if m = 1 then t.freezeAt else t.freezeCause)
  else if o = 0x111 ∨ o = 0x120 then 0
  else if o = 0x121 then t.snap
  else if o = 0x141 then t.nextEvent - 1
  else s.obj 0xF00 o m

/-- The value of a scalar member of a unit. -/
def State.scalar (s : State) (u o m : Nat) : Nat :=
  if o = 0 then
    (if m = 0 then unitClass u else if m = 1 then u else if m = 3 then Config.stepping (stepDie u) else s.obj 0 0 4)
  else if o = 1 then s.requestedRead 6 u
  else if o = 2 then s.stateRead u m
  else if o = 5 then s.unitOwner u
  else if 0x10 ≤ o ∧ o ≤ 0x3F then s.counter u o
  else if o = 0x40 then (if m = 0 then (s.children u).length else nth (s.children u) (m - 1) 0)
  else if o = 0x41 then parentUnit u
  else if o < 0x100 then s.obj u o m
  else if u = 0x000 then s.moduleScalar o m
  else if u = 0x101 ∨ u = 0x102 then s.legScalar (u - 0x101) o m
  else if 0x110 ≤ u ∧ u ≤ 0x11F then s.ldScalar (u - 0x110) o m
  else if u = 0x200 then s.mapperScalar o m
  else if u = 0x300 ∧ o ≥ 0x200 then s.slotScalar o m
  else if u = 0x500 ∧ o = 0x120 ∧ m = 1 then 2048 + Config.disturbanceSlack
  else if 0x510 ≤ u ∧ u ≤ 0x52F then s.chanScalar (u - 0x510) o
  else if u = 0x600 then s.farScalar o m
  else if 0x610 ≤ u ∧ u ≤ 0x617 then s.farPortScalar (u - 0x610) o m
  else if u = 0x700 then s.moverScalar o m
  else if 0x810 ≤ u ∧ u ≤ 0x84F ∧ o = 0x100 then s.position (u - 0x810)
  else if u = 0x900 ∧ o = 0x100 ∧ m = 0 then s.versions.length
  else if 0xA40 ≤ u ∧ u ≤ 0xA7F then s.clusterScalar (u - 0xA40) o m
  else if u = 0xB00 ∧ 0x100 ≤ o ∧ o ≤ 0x10F then (s.clustersOf (o - 0x100)).foldl (fun a c => a + 1024 * s.homeBlocks c) 0
  else if u = 0xB00 ∧ 0x110 ≤ o ∧ o ≤ 0x11F then (s.clustersOf (o - 0x110)).foldl (fun a c => a + 1024 * State.homeUsed { s with moves := [] } c) 0
  else if u = 0xC00 then s.spanScalar o m
  else if 0xC10 ≤ u ∧ u ≤ 0xC13 then s.sportScalar (u - 0xC10) o m
  else if u = 0xD00 then s.controlScalar o m
  else if 0xD10 ≤ u ∧ u ≤ 0xD17 ∧ o = 0x125 then (s.ctl (u - 0xD10)).halt
  else if u = 0xD20 then s.powerScalar o m
  else if u = 0xE00 ∧ o = 0x131 then s.sessions.length
  else if u = 0xF00 then s.telemScalar o m
  else if u = 0xF80 then s.rasScalar o m
  else s.obj u o m

/-! ## Tables -/

/-- The bytes of a table of fixed records from an offset. -/
def window (size : Nat) (rec : Nat → Bytes) (off len : Nat) : Bytes :=
  if len = 0 then []
  else
    let a := off / size
    slice ((List.range ((off + len - 1) / size - a + 1)).flatMap (fun i => slice (rec (a + i)) 0 size)) (off - a * size) len

/-- Whether an LD sees what belongs to a region: one it owns, or one it is a member of (03 R120, 18 R604). -/
def State.seesRegion (s : State) (ld : Option Nat) (r : Nat) : Bool :=
  match ld with
  | none => true
  | some n => match s.region r with
    | none => false
    | some x => x.owner == n || (x.shared && (s.sharedOf r).any (fun y => y.readMask.testBit n))

/-- Whether an LD sees the instar manager's entries of a region: it is a member (09 R282, R316). -/
def State.seesShared (s : State) (ld : Option Nat) (r : Nat) : Bool :=
  ld.all (fun n => (s.region r).any Region.shared && (s.sharedOf r).any (fun y => y.readMask.testBit n))

/-- A record, or zeros for who may not see it. -/
def shown (ok : Bool) (b : Bytes) : Bytes := if ok then b else zeros b.length

/-- The share of a masked region's UNWRITTEN tiles that falls on the far share: regions come in the order of their numbers (03 R113;
log entry 45). -/
def State.maskedFarOf (s : State) (r : Nat) (x : Region) : Nat :=
  let before := (s.regions.filter (fun y => decide (y.1 < r) && y.2.masked && !y.2.shared && y.2.owner == x.owner)).foldl
    (fun a y => a + s.unwrittenTiles y.1 y.2) 0
  Nat.min (s.unwrittenTiles r x) (s.maskedFar x.owner - before)

/-- The usage of a region (03 R119): homes that are not yet freed are still charged (03 R102), after a DELETE too, and a region the size of whose tiles is
masked is charged for its UNWRITTEN tiles too. -/
def State.usage (s : State) (r : Nat) : Bytes :=
  let es := (s.tileMap.map (·.2) ++ s.versions.map (·.2.entry)).filter (fun e => e.region == r && e.charged)
  let at_ (t : Nat) := es.filter (fun e => e.home == t)
  let old (t : Nat) : Nat := s.oldHomes.foldl (fun a o => if o.entry.region = r ∧ o.entry.home = t then a + o.charge else a) 0
  let more (t : Nat) : Nat := match s.region r with
    | none => 0
    | some x =>
      let un := if x.masked then s.unwrittenTiles r x else 0
      let far := if x.shared then un else s.maskedFarOf r x
      65792 * (if t = 2 then far else if t = 3 then un - far else 0)
  (List.range 4).flatMap (fun t => leBytes 4 (at_ t).length)
    ++ (List.range 4).flatMap (fun t => leBytes 8 ((at_ t).foldl (fun a e => a + s.tileCharge e) (more t + old t))) ++ zeros 16

/-- An extent table entry (03 R89). -/
def ExtEntry.word (e : ExtEntry) : Nat := e.state + 4 * e.dla + 2 ^ 17 * e.block + 2 ^ 31 * b2n e.shared

/-- A host-tier page table entry (06 R206). -/
def HtPage.word (p : HtPage) : Nat := 1 + 2 * b2n p.translate + 4 * b2n p.unusable + p.addr / 2 ^ 21 * 2 ^ 21

/-- A move record (06 R222). -/
def State.moveBytes (s : State) (ld : Option Nat) (i : Nat) : Bytes :=
  match tabGet s.moves i with
  | some m => shown (ld.all (· == m.ld)) (leBytes 2 m.tag ++ leBytes 1 m.kind ++ leBytes 1 m.state ++ leBytes 1 m.cls
      ++ leBytes 1 m.srcTier ++ leBytes 1 m.dstTier ++ zeros 1 ++ leBytes 4 m.tile ++ leBytes 1 m.ld ++ zeros 7
      ++ leBytes 8 m.start ++ zeros 4)
  | none => zeros 32

/-- A segment table entry (07 R248). -/
def State.segBytes (s : State) (ld : Option Nat) (g : Nat) : Bytes :=
  match s.seg g with
  | some x =>
    let w := (membersOf x.mask).length
    let state := if w < 3 then 4 else x.state
    shown (ld.all (· == x.stream)) (leBytes 1 state ++ leBytes 1 x.stream ++ leBytes 1 w ++ leBytes 1 x.mask
      ++ leBytes 1 (b2n (s.segNamesBad x)) ++ zeros 3 ++ leBytes 8 x.seqNo ++ leBytes 4 (s.liveSectors g) ++ leBytes 4 x.filled
      ++ leBytes 8 (if x.state ≥ 2 then x.sealedAt else 0))
  | none =>
    let w := (membersOf (s.segMask g)).length
    shown ld.isNone (leBytes 1 (if w < 3 then 4 else 0) ++ leBytes 1 0xFF ++ leBytes 1 w ++ leBytes 1 (s.segMask g) ++ zeros 28)

/-- A job's descriptor, status and exception record (13 R455, R456). -/
def State.jobDesc (s : State) (j : Nat) : Bytes := match tabGet s.jobs j with
  | some x => slice x.desc 0 64
  | none => zeros 64

/-- A job status entry (13 R455). -/
def State.jobStatus (s : State) (j : Nat) : Bytes := match tabGet s.jobs j with
  | some x => leBytes 1 x.state ++ leBytes 1 x.status ++ leBytes 1 x.placedCount ++ zeros 1 ++ leBytes 4 x.runs ++ leBytes 8 x.launchPos
      ++ leBytes 8 x.endPos ++ leBytes 4 x.inst ++ leBytes 4 x.runTime
  | none => zeros 32

/-- An exception record (12 R435). -/
def State.jobRecord (s : State) (j : Nat) : Bytes := match tabGet s.jobs j with
  | some x => slice x.record 0 32
  | none => zeros 32

/-- An entry of the error log ring, and of the error history: the region it names decides who sees it (18 R604). -/
def State.errEntry (s : State) (ld : Option Nat) (i : Nat) : Bytes := match tabGet s.errLog i with
  | some e => shown (s.seesRegion ld e.region) (errBytes e.seqNo e)
  | none => zeros 64

/-- An entry of the error history. -/
def State.histEntry (s : State) (ld : Option Nat) (i : Nat) : Bytes :=
  let b := nth s.errHistory i (zeros 64)
  shown (s.seesRegion ld (field b 28 2)) b

/-- A poison record (18 R604). -/
def State.poisonBytes (s : State) (ld : Option Nat) (i : Nat) : Bytes := match s.poisons[i]? with
  | some p =>
    let r := s.tgtRegion p.key
    let ver := decide (p.key ≥ 2 ^ 28)
    shown (s.seesRegion ld r) (leBytes 4 (s.tileNumber p.key) ++ leBytes 2 r ++ leBytes 1 (b2n ver) ++ zeros 1
      ++ leBytes 4 (s.errSeqOf p.key) ++ leBytes 4 (if ver then (s.tgt p.key).inst else 0) ++ leBytes 128 p.lines)
  | none => zeros 144

/-- Whether an LD may read a unit's 008: it owns the unit or observes it (02 R62, 19 R608). -/
def State.observes (s : State) (n u : Nat) : Bool := s.unitOwner u == n || (s.obj u 6 0).testBit n

/-- A record of the event log (19 R607, R608). -/
def State.eventBytes (s : State) (ld : Option Nat) (i : Nat) : Bytes :=
  match s.telem.events.find? (fun e => e.seqNo % 4096 == i) with
  | some e =>
    let off := (tabGet s.span.offsets s.span.member).getD 0
    let span : Nat := if s.span.mask = 0 then e.time else wrapInt 64 ((e.time : Int) - off)
    shown (ld.all (fun n => s.observes n e.unit || e.toLds.testBit n)) (leBytes 4 e.seqNo ++ leBytes 2 e.unit ++ leBytes 2 e.code
      ++ leBytes 8 e.time ++ leBytes 8 span ++ leBytes 4 e.gen ++ leBytes 4 e.detail)
  | none => zeros 32

/-- An entry of a channel's remap table, by 64 × bank + spare (14 R502). -/
def Chan.remapBytes (x : Chan) (i : Nat) : Bytes :=
  match x.remap.find? (fun r => r.1 / 65536 == i / 64 && r.2 == i % 64) with
  | some r => leBytes 2 (r.1 % 65536) ++ leBytes 1 (r.1 / 65536) ++ leBytes 1 1
  | none => zeros 4

/-- A member's two bytes of 0C00:105 (16 R564): no hops are counted where there is no route. -/
def State.routeBytes (s : State) (m : Nat) : Bytes :=
  if m = (if s.span.mask = 0 then s.obj 0xC00 0x101 0 else s.span.member) then leBytes 1 0xFE ++ leBytes 1 0
  else match tabGet s.span.routes m with
    | some r => leBytes 1 r.1 ++ leBytes 1 r.2
    | none => leBytes 1 0xFF ++ leBytes 1 0

/-- The frozen image of a unit: what the last latch put there, also after the freeze's release (19 R609, R610). -/
def State.frozenBytes (s : State) (u i : Nat) : Bytes :=
  if !s.telem.frozen.isEmpty then leBytes 8 ({ s with objs := s.telem.frozen }.counter u (0x10 + i)) else zeros 8

/-- A table or byte string as a reader sees it: `ld` is the LD whose entries it is shown, none for all, and `obs` a
management-port OBS session. -/
def State.tableBytes (s : State) (ld : Option Nat) (obs : Bool) (u o m size off len : Nat) : Bytes :=
  let mine (k n : Nat) : Bool := ld.all (· == n / k)
  if o = 0 then slice (strBytes 16 (unitName u)) off len
  else if o = 0x88 then window 8 (s.frozenBytes u) off len
  else if u = 0 ∧ o = 0x100 then slice orderText off len
  else if u = 0 ∧ o = 0x101 then slice s.serial off len
  else if u = 0 ∧ o = 0x132 then slice s.slotMap off len
  else if u = 0xE00 ∧ o = 0x111 then slice (beBytes 8 0xFE80000000000000 ++ slice Config.interfaceId 0 8) off len
  else if u = 0xE00 ∧ o = 0x121 then slice Config.svcKeyHash off len
  else if u = 0x200 ∧ o = 0x150 then
    window 64 (fun r => shown (s.seesRegion ld r) (((tabGet s.regions r).map Region.bytes).getD (zeros 64))) off len
  else if u = 0x200 ∧ o = 0x151 then
    (if obs then zeros len else window 64 (fun r => shown (s.seesRegion ld r || s.oldHomes.any (fun o => o.entry.region == r && ld == some o.payer)) (s.usage r)) off len)
  else if u = 0x200 ∧ 0x160 ≤ o then
    window 4 (fun e => leBytes 4 (((s.extent (o - 0x160) e).map ExtEntry.word).getD 0)) off len
  else if u = 0x300 ∧ o < 0x140 then slice (tableImage (defaultTable (o - 0x110))) off len
  else if u = 0x300 ∧ o = 0x141 then
    window 16 (fun i => match tabGet s.sweeps i with
      | some z => shown (s.seesRegion ld z.region) z.bytes
      | none => zeros 16) off len
  else if u = 0x400 ∧ o = 0x150 then
    window 32 (fun i => shown (ld.all (fun n => (s.key i).any (fun z => z.useMask.testBit n))) (s.keyEntry i)) off len
  else if u = 0x500 ∧ o = 0x110 then window 1 (fun k => leBytes 1 ((tabGet s.segStates k).getD 0)) off len
  else if 0x510 ≤ u ∧ u ≤ 0x52F ∧ o = 0x102 then window 4 (s.chan (u - 0x510)).remapBytes off len
  else if 0x510 ≤ u ∧ u ≤ 0x52F ∧ o = 0x104 then slice (slice (s.chan (u - 0x510)).margins 0 64) off len
  else if 0x510 ≤ u ∧ u ≤ 0x52F ∧ o = 0x121 then
    (match (s.chan (u - 0x510)).patternRun with
     | some n => slice (Config.comparator n) off len
     | none => zeros len)
  else if u = 0x600 then window 32 (s.segBytes ld) off len
  else if 0x610 ≤ u ∧ u ≤ 0x617 ∧ o = 0x105 then slice (s.farPort (u - 0x610)).serial off len
  else if u = 0x700 ∧ o = 0x190 then window 32 (s.moveBytes ld) off len
  else if u = 0x700 then window 8 (fun p => leBytes 8 ((tabGet (s.ld (o - 0x180)).pages p).map HtPage.word |>.getD 0)) off len
  else if u = 0x800 ∧ o = 0x140 then window 32 (fun n => shown (mine 1024 n) (s.entryOf n).bytes) off len
  else if u = 0x800 ∧ o = 0x150 then window 32 (fun n => shown (mine 1024 n) (s.entryOf n).statusBytes) off len
  else if u = 0x800 ∧ o = 0x160 then window 16 (fun n => shown (mine 256 n) (s.marker n)) off len
  else if u = 0x800 ∧ o = 0x170 then window 48 (fun n => shown (mine 1024 n) (s.tallyBytes n)) off len
  else if u = 0x900 ∧ o = 0x150 then window 64 (fun r => shown (s.seesShared ld r) (s.sharedEntry r)) off len
  else if u = 0x900 ∧ o = 0x151 then
    window 32 (fun i => shown ((tabGet s.attaches i).all (fun a => s.seesShared ld a.region)) (s.attachEntry i)) off len
  else if u = 0x900 ∧ o = 0x152 then
    window 32 (fun i => shown ((s.insts[i]?).all (fun a => s.seesShared ld a.region)) (s.instEntry i)) off len
  else if u = 0x900 ∧ 0x160 ≤ o ∧ o ≤ 0x16F then slice ((tabGet s.results (o - 0x160)).getD []) off len
  else if u = 0x900 ∧ 0x170 ≤ o then window 4 (fun i => leBytes 4 (nth ((tabGet s.conflicts (o - 0x170)).getD []) i 0)) off len
  else if u = 0xA00 ∧ o = 0x150 then window 64 (fun j => shown (mine 64 j) (s.jobDesc j)) off len
  else if u = 0xA00 ∧ o = 0x151 then window 32 (fun j => shown (mine 64 j) (s.jobStatus j)) off len
  else if u = 0xA00 ∧ o = 0x152 then window 32 (fun j => shown (mine 64 j) (s.jobRecord j)) off len
  else if u = 0xB00 then window 1 (fun i => [s.fuseByte i]) off len
  else if u = 0xC00 ∧ o = 0x105 then window 2 s.routeBytes off len
  else if u = 0xC00 ∧ o = 0x110 then window 8 (fun k => leBytes 8 (wrapInt 64 ((tabGet s.span.offsets k).getD 0))) off len
  else if u = 0xC00 ∧ o = 0x141 then slice s.evacBytes off len
  else if u = 0xD00 ∧ o = 0x182 then memRead s.fw.staging (2 ^ 24 * s.fw.inactive + off) len
  else if u = 0xD00 ∧ o = 0x184 then slice s.updateStatus off len
  else if u = 0xD00 ∧ o = 0x185 then slice s.measurements off len
  else if u = 0xD00 ∧ o = 0x186 then slice Config.certificates off len
  else if u = 0xF00 ∧ o = 0x140 then window 32 (s.eventBytes ld) off len
  else if u = 0xF00 ∧ o = 0x160 then slice s.telem.snapBytes off len
  else if u = 0xF00 ∧ o = 0x170 then
    window 32 (fun i => shown (mine 8192 i) ((tabGet s.telem.traces i).getD (zeros 32))) off len
  else if u = 0xF00 ∧ o = 0x180 then window 64 (fun i => shown (mine 4 i) (s.watch i)) off len
  else if u = 0xF00 ∧ o = 0x181 then window 32 (fun i => shown (mine 4 i) (s.dump i).bytes) off len
  else if u = 0xF80 ∧ o = 0x140 then window 64 (s.errEntry ld) off len
  else if u = 0xF80 ∧ o = 0x150 then window 144 (s.poisonBytes ld) off len
  else if u = 0xF80 ∧ o = 0x160 then slice s.repairBytes off len
  else if u = 0xF80 ∧ o = 0x161 then window 64 (s.histEntry ld) off len
  else if o = 0x140 then zeros len
  else if size = 0 then []
  else s.blob u o m off len

end Sys2Proof.Machine
end

