-- ==== Sys2Proof/Machine/Writes.lean ====
section
/-!
DEFINITION. Roles and rights (02 R44, R58, R62, R63), the checks of R647 in their order, and what a write of each object does.
-/
namespace Sys2Proof.Machine

/-- NO_UNIT. -/
def stNoUnit : Nat := 1
/-- NO_MEMBER. -/
def stNoMember : Nat := 3
/-- GENERATION. -/
def stGeneration : Nat := 8

/-! ## Roles (02 R44, R62) -/

/-- Objects on which every LD holds OWN: command members, and the tables of which an LD reads its own part (log entry
31). -/
def ownedByAll (u o : Nat) : Bool :=
  [(0x200, 0x140), (0x200, 0x150), (0x200, 0x151), (0x300, 0x140), (0x300, 0x141), (0x400, 0x140), (0x400, 0x150), (0x600, 0x150),
    (0x700, 0x190), (0x800, 0x140), (0x800, 0x150), (0x800, 0x160), (0x800, 0x170), (0x900, 0x140), (0x900, 0x150),
    (0x900, 0x151), (0x900, 0x152), (0xA00, 0x140), (0xA00, 0x150), (0xA00, 0x151), (0xA00, 0x152), (0xF80, 0x140), (0xF80, 0x150),
    (0xF80, 0x161), (0xF00, 0x140), (0xF00, 0x170), (0xF00, 0x180), (0xF00, 0x181)].contains (u, o)

/-- The LD whose number an object carries: extent tables, shares, policy objects, page tables, results, conflict lists, caddy
partitions (03 R120, 06 R222, 09 R316, 11 R392). -/
def numberedFor (u o : Nat) : Option Nat :=
  let at_ (lo : Nat) : Bool := decide (lo ≤ o ∧ o ≤ lo + 15)
  if (u = 0x200 ∧ (at_ 0x160 ∨ at_ 0x200)) ∨ (u = 0x700 ∧ (at_ 0x130 ∨ at_ 0x180)) ∨ (u = 0x900 ∧ (at_ 0x160 ∨ at_ 0x170))
      ∨ (u = 0xB00 ∧ (at_ 0x100 ∨ at_ 0x110)) then some (o % 16) else none

/-- Whether an object is a codec slot. -/
def isSlot (u o : Nat) : Bool := u == 0x300 && decide ((0x200 ≤ o ∧ o ≤ 0x23F) ∨ (0x300 ≤ o ∧ o ≤ 0x33F))

/-- Whether an LD owns an object (02 R44). -/
def State.owns (s : State) (n u o : Nat) : Bool :=
  if ownedByAll u o then true
  else match numberedFor u o with
    | some k => k == n
    | none => if isSlot u o then s.obj 0x300 o 0 == n else s.unitOwner u == n

/-- The entry of the object table that applies to a sender (02 R62, R63; 04 R150 for the fabric manager; 08 R251: nobody writes the
owner of a cadence). -/
def State.right (s : State) (w : Sender) (u o m : Nat) (r : Row) : Right :=
  if w.fm ∧ o = 5 ∧ 0x810 ≤ u ∧ u ≤ 0x84F then .ro
  else if w.fm then (if isSlot u o && decide (m ≥ 8) && s.obj 0x300 o 0 != 0xFE then .no else r.fm)
  else if w.svc then r.svc
  else if w.obs then r.obs
  else match w.ld with
    | none => .no
    | some n => if s.owns n u o then r.own else if (s.obj u 6 0).testBit n then r.obs else .no

/-- Whether a sender may read a member. -/
def State.mayRead (s : State) (w : Sender) (u o m : Nat) (r : Row) : Bool := s.right w u o m r != .no

/-- Whether a write of an object of a group unit goes to every descendant (02 R58). -/
def fansOut (o : Nat) : Bool := o == 1 || o == 4 || decide (0x80 ≤ o ∧ o ≤ 0x8F)

/-- Whether a sender may write a member: RW on every unit the write reaches (02 R58, R63). -/
def State.mayWrite (s : State) (w : Sender) (u o m : Nat) (r : Row) : Bool :=
  s.right w u o m r == .rw
    && (!fansOut o || !isGroup u || (subtree u).all (fun v => match rowOf v o m with
      | some x => s.right w v o m x == .rw
      | none => true))

/-! ## The checks of R647 -/

/-- A member that executes a command when it is written (02 R647 point 5). -/
def commandMember (u o : Nat) : Bool :=
  o == 0x140 && [0x200, 0x300, 0x400, 0x900, 0xA00, 0xC00].contains u

/-- Whether an offset and a length lie in a member as its type asks (02 R61, R647). -/
def spanOk (u o : Nat) (r : Row) (off len : Nat) (write : Bool) : Bool :=
  match r.ty with
  | .bytes n => decide (off + len ≤ n) && (!(write && commandMember u o) || (off == 0 && len == n))
  | t => off == 0 && len == t.size

/-- The member a request names, or the status of the first check of R647 that fails: the unit, the object, the member, offset and
length, the role. A child number beyond the unit's child count names no member (log entry 44). -/
def State.access (s : State) (w : Sender) (u obj m off len : Nat) (write fits : Bool) : Except Nat Row :=
  if !unitExists u then .error stNoUnit
  else if obj ≥ 4096 ∨ !hasObject u obj then .error stNoObject
  else if obj = 0x40 ∧ m > (s.children u).length then .error stNoMember
  else match rowOf u obj m with
    | none => .error stNoMember
    | some r =>
      if !fits ∨ !spanOk u obj r off len write then .error stLength
      else if (if write then s.mayWrite w u obj m r else s.mayRead w u obj m r) then .ok r
      else .error stRights

/-! ## Reading -/

/-- The bytes a read of a member returns (02 R60). -/
def State.readMember (s : State) (w : Sender) (u o m : Nat) (r : Row) (off len : Nat) : Bytes :=
  let ld := if w.fm then none else w.ld
  match r.ty with
  | .bytes n => s.tableBytes ld w.obs u o m n off len
  | t => leBytes t.size (s.scalar u o m)

/-- Whether what a member reads comes from a free value: the span unit's aggregates, a voltage. -/
def readsFree (u o m : Nat) : Bool := u == 0x0001 || (u == 0xD20 && o == 0x140 && m == 3)

/-! ## Writing -/

/-- Store a member. -/
def State.plainWrite (s : State) (u o m off : Nat) (r : Row) (b : Bytes) : State :=
  match r.ty with
  | .bytes _ => s.setBlob u o m off b
  | _ => s.setObj u o m (leNat b)

/-- Store a value of 004 or of a trace control in a unit and every descendant that has it (02 R58). -/
def State.fanWrite (s : State) (u o m v : Nat) : State :=
  (subtree u).foldl (fun s x => if (rowOf x o m).isSome then s.setObj x o m v else s) s

/-- A write of 001.00; one that takes 0D00 out of TEST first resumes every halted core (19 R622). -/
def State.stateWrite (s : State) (u v : Nat) : Reply :=
  let leaves : Bool := (subtree u).contains 0xD00 && decide (v ≠ 2) && s.actual 0xD00 == 2
  if leaves then
    match s.requestWrite u v with
    | .error c => .error c
    | .ok _ => s.resumeAll.requestWrite u v
  else s.requestWrite u v

/-- A write of 0700:13n.00 (06 R214). -/
def State.policyWrite (s : State) (n v : Nat) : Reply :=
  let c := s.obj 0x700 (0x130 + n) 1
  checks [ (decide (v > 1), stRange), (v == 1 && (c == 0xFF || (s.cluster c).context != n), stRange) ] (s.setObj 0x700 (0x130 + n) 0 v)

/-- A write of a guest reserve: it counts with the shares and the shared regions' reserves (16 R556, 03 R115). -/
def State.guestWrite (s : State) (m v : Nat) : Reply :=
  let tier := m + 1
  let lim := if tier = 1 then s.obj 0x200 0x101 0 else s.farAssignable
  checks [ (decide (s.sharesBut 16 tier - s.obj 0xC00 0x130 m + v + s.reservesBut 4096 tier > lim), stRange) ]
    ((s.setObj 0xC00 0x130 m v).retryHeld (fun h => h.why == .space && decide (h.ld ≥ 16)))

/-- A write of a cleaning threshold: 134.00 < 132.00 < 131.00 (07 R249). -/
def State.cleaningWrite (s : State) (o v : Nat) : Reply :=
  let at_ (k : Nat) : Nat := if k = o then v else s.obj 0x600 k 0
  checks [ (!decide (at_ 0x134 < at_ 0x132 ∧ at_ 0x132 < at_ 0x131), stRange) ] (s.setObj 0x600 o 0 v)

/-- A write of the cleaning reserve: far assignable stays at or above the far shares and reserves (07 R247). -/
def State.reserveWrite (s : State) (v : Nat) : Reply :=
  let t := s.setObj 0x600 0x130 0 v
  checks [ (decide (t.farAssignable < t.sharesBut 16 2 + t.reservesBut 4096 2), stBusy) ] t

/-- A write of a temperature threshold of the power manager: 161.01 stays above 161.00 (17 R583). -/
def State.thresholdWrite (s : State) (m v : Nat) : Reply :=
  let at_ (k : Nat) : Nat := if k = m then v else s.obj 0xD20 0x161 k
  checks [ (decide (at_ 1 ≤ at_ 0), stRange) ] (s.setObj 0xD20 0x161 m v)

/-- A write of the pattern generator (14 R500). -/
def State.patternWrite (s : State) (ch off : Nat) (b : Bytes) : Reply :=
  let u := 0x510 + ch
  let ready : Bool := ((s.unit u).own == 2 || (s.unit u).own == 3) && s.quiescent u
  let (n, t) := s.tick
  checks [ (!ready, stBusy) ] ((t.setBlob u 0x120 0 off b).setChan ch { t.chan ch with patternRun := some n })

/-- A write of an injection object but the arming (18 R601): only while nothing is armed. -/
def State.injectWrite (s : State) (u o m off : Nat) (r : Row) (b : Bytes) : Reply :=
  checks [ (s.obj u 0x68 0 == 1, stBusy) ] (s.plainWrite u o m off r b)

/-- A write of a control core's debug objects (19 R621). -/
def State.coreWrite (s : State) (k o v : Nat) : Reply :=
  if o = 0x124 then s.haltWrite k v
  else if s.actual 0xD00 ≠ 2 then .error stBusy
  else .ok (s.setObj (0xD10 + k) o 0 v)

/-- A write of an object of the tile mapper, the codecs or the cipher. -/
def State.storeWrite (s : State) (w : Sender) (u o m off : Nat) (r : Row) (b : Bytes) : Reply :=
  let v := leNat b
  if u = 0x200 ∧ o = 0x140 then s.regionCommand w b
  else if u = 0x200 ∧ 0x200 ≤ o ∧ m ≤ 1 then s.shareWrite (o - 0x200) (m + 1) v
  else if u = 0x200 ∧ 0x200 ≤ o then s.ratioWrite (o - 0x200) v
  else if u = 0x300 ∧ o = 0x140 then s.recodeWrite w b
  else if isSlot u o ∧ m = 0 then s.slotOwnerWrite (decide (o ≥ 0x300)) (o % 256) v
  else if isSlot u o ∧ m = 9 then (if o ≥ 0x300 then s.llCommit w (o % 256) v else s.frCommit w (o % 256) v)
  else if u = 0x400 ∧ o = 0x140 then s.keyCommand w b
  else .ok (s.plainWrite u o m off r b)

/-- What a write of a member does, after the checks up to the rights: the object's own checks, and its effect. -/
def State.objWrite (s : State) (w : Sender) (u o m off : Nat) (r : Row) (b : Bytes) : Reply :=
  let v := leNat b
  let scalar : Bool := match r.ty with
    | .bytes _ => false
    | _ => true
  if r.ty = .bool ∧ v > 1 then .error stRange
  else if scalar ∧ !r.chk.ok v then .error stRange
  else if o = 1 then s.stateWrite u v
  else if fansOut o then .ok (s.fanWrite u o m v)
  else if o = 6 ∧ v ≠ 0 ∧ s.obj 0 0x130 0 = 1 then .error stRange
  else if o = 0x68 then s.armWrite u v
  else if 0x60 ≤ o ∧ o ≤ 0x67 then s.injectWrite u o m off r b
  else if u = 0x000 ∧ o = 0x130 then s.qosWrite v
  else if u = 0x000 ∧ o = 0x141 then .ok (s.chrysalisWrite v)
  else if u = 0x100 ∧ o = 0x100 then checks [ (decide (v > 1), stRange) ] (s.setObj 0x100 0x100 0 v)
  else if 0x110 ≤ u ∧ u ≤ 0x11F ∧ o = 0x101 then checks [ (decide (v > 1), stRange) ] (s.setObj u 0x101 0 v)
  else if 0x110 ≤ u ∧ u ≤ 0x11F ∧ o = 0x180 then
    .ok (if s.obj u 0x180 0 = 1 ∧ v = 0 then (s.setObj u 0x180 0 0).consentGone else s.setObj u 0x180 0 v)
  else if u = 0x200 ∨ u = 0x300 ∨ u = 0x400 then s.storeWrite w u o m off r b
  else if u = 0x500 ∧ o = 0x103 then .ok (s.heatWrite v)
  else if u = 0x500 ∧ o = 0x120 then checks [ (decide (v > 2048 + Config.disturbanceSlack), stRange) ] (s.setObj u o 0 v)
  else if 0x510 ≤ u ∧ u ≤ 0x52F ∧ o = 0x120 then s.patternWrite (u - 0x510) off b
  else if u = 0x600 ∧ o = 0x130 then s.reserveWrite v
  else if u = 0x600 ∧ (o = 0x131 ∨ o = 0x132 ∨ o = 0x134) then s.cleaningWrite o v
  else if u = 0x700 ∧ 0x130 ≤ o ∧ o ≤ 0x13F ∧ m = 0 then s.policyWrite (o - 0x130) v
  else if u = 0x700 ∧ ((0x140 ≤ o ∧ o ≤ 0x14F) ∨ (o = 0x150 ∧ m = 1)) then s.slotWrite o m v
  else if u = 0x800 ∧ o = 0x140 then s.scheduleWrite w off b
  else if u = 0x800 ∧ o = 0x160 then s.markerWrite w off b
  else if 0x810 ≤ u ∧ u ≤ 0x84F ∧ o = 0x101 then s.modeWrite w (u - 0x810) v
  else if 0x810 ≤ u ∧ u ≤ 0x84F ∧ o = 0x102 then s.sourceWrite (u - 0x810) v
  else if u = 0x900 ∧ o = 0x140 then s.instarCommand w b
  else if u = 0x900 ∧ o = 0x150 then s.writeSharedTable off b
  else if u = 0xA00 ∧ o = 0x140 then s.jobCommand w b
  else if 0xA40 ≤ u ∧ u ≤ 0xA7F ∧ o = 0x100 then s.assignWrite (u - 0xA40) v
  else if 0xA40 ≤ u ∧ u ≤ 0xA7F ∧ o = 0x101 then s.homeBlocksWrite (u - 0xA40) v
  else if 0xA40 ≤ u ∧ u ≤ 0xA7F ∧ o = 0x105 then checks [ (v == 1, stRange) ] (s.setObj u 0x105 0 0)
  else if u = 0xC00 ∧ o = 0x113 then s.measureWrite v
  else if u = 0xC00 ∧ o = 0x130 then s.guestWrite m v
  else if u = 0xC00 ∧ o = 0x140 then s.evacuateWrite b
  else if u = 0xD00 ∧ o = 0x182 then s.stageWrite off b
  else if u = 0xD00 ∧ o = 0x183 then s.updateCommand w v
  else if 0xD10 ≤ u ∧ u ≤ 0xD17 ∧ 0x120 ≤ o ∧ o ≤ 0x124 then s.coreWrite (u - 0xD10) o v
  else if u = 0xD20 ∧ o = 0x101 then .ok (s.ceilingWrite v)
  else if u = 0xD20 ∧ o = 0x140 then s.capWrite v
  else if u = 0xD20 ∧ o = 0x150 ∧ m = 0 ∧ v = 0 then .ok ((s.setObj u o 0 0).powerWake 3)
  else if u = 0xD20 ∧ o = 0x161 then s.thresholdWrite m v
  else if u = 0xF00 ∧ o = 0x111 then s.freezeWrite v
  else if u = 0xF00 ∧ o = 0x120 then s.snapWrite v
  else if u = 0xF00 ∧ o = 0x180 then s.watchWrite w off b
  else if u = 0xF80 ∧ o = 0x170 then s.rasCommand v
  else .ok (s.plainWrite u o m off r b)

end Sys2Proof.Machine
end

