-- ==== Sys2Proof/Machine/Dict.lean ====
section
/-!
DEFINITION. The dictionary server (02 R67 to R83): messages of the management port, of the mailboxes, of the FM-owned LD and of
other members; sessions, requests, profiles; and the commands that are writes of single objects.
-/
namespace Sys2Proof.Machine

/-! ## Messages (02 R69) -/

/-- AUTH. -/
def stAuth : Nat := 9
/-- SESSION. -/
def stSession : Nat := 0x0A
/-- SEQUENCE. -/
def stSequence : Nat := 0x0B
/-- VERSION. -/
def stVersion : Nat := 0x0D
/-- MEMBER_UNREACHABLE. -/
def stUnreachable : Nat := 0x0E
/-- TYPE. -/
def stType : Nat := 0x0F

/-- The fields of a message. -/
structure Msg where
  version : Nat
  ty : Nat
  session : Nat
  seqNo : Nat
  member : Nat
  flags : Nat
  body : Bytes
  /-- Bytes 0 to 15. -/
  head : Bytes
deriving DecidableEq, Repr

/-- Read a message. -/
def msgOf (b : Bytes) : Msg :=
  { version := field b 2 1, ty := field b 3 1, session := field b 4 4, seqNo := field b 8 4, member := field b 12 1, flags := field b 13 1
    body := slice b 16 (field b 14 2), head := slice b 0 16 }

/-- Whether bytes are an Aqfort message as far as magic and length go: at least header, body and `more` bytes (02 R648). -/
def msgFits (b : Bytes) (more : Nat) : Bool :=
  decide (16 ≤ b.length) && field b 0 2 == 0xAF0D && decide (field b 14 2 ≤ 1024) && decide (16 + field b 14 2 + more ≤ b.length)

/-- The type numbers a requester sends. -/
def requestTypes : List Nat := [1, 2, 3, 0x10, 0x11, 0x12, 0x30, 0x31]

/-- What serving a message gives: a status and a body, or nothing yet when the answer comes later. -/
structure Served where
  status : Option Nat
  body : Bytes := []
  state : State
deriving DecidableEq, Repr

/-- Answered with a status, nothing changed. -/
def refusal (s : State) (c : Nat) : Served := { status := some c, state := s }

/-! ## READ, WRITE, WRITE_IF -/

/-- READ. -/
def State.serveRead' (s : State) (w : Sender) (b : Bytes) : Served :=
  let u := field b 0 2
  let o := field b 2 2
  let m := field b 4 1
  let off := field b 6 4
  let len := field b 10 2
  if b.length ≠ 12 then refusal s stLength
  else match s.access w u o m off len false (decide (len ≤ 1020)) with
    | .error c => refusal s c
    | .ok r =>
      let d := s.readMember w u o m r off len
      { status := some 0, body := d, state := if readsFree u o m then s.tick.2 else s }

/-- The path a deferred answer takes: the CREATE or EVACUATE this write has begun is the last of the waiting ones. -/
def State.deferTo (s : State) (p : Path) (ty : Nat) : State :=
  match s.span.creates.getLast? with
  | some z => { s with span := { s.span with creates := s.span.creates.dropLast ++ [{ z with path := some (p, ty) }] } }
  | none => s

/-- The bytes of a request body: unit, object, member, offset, length, an expected generation, data. -/
def requestBody (u o m off len : Nat) (gen : Option Nat) (data : Bytes) : Bytes :=
  leBytes 2 u ++ leBytes 2 o ++ leBytes 1 m ++ zeros 1 ++ leBytes 4 off ++ leBytes 2 len
    ++ (match gen with
      | some g => leBytes 4 g
      | none => []) ++ data

/-- A message without its tag. -/
def messageBytes (ty session seqNo member : Nat) (body : Bytes) : Bytes :=
  leBytes 2 0xAF0D ++ leBytes 1 1 ++ leBytes 1 ty ++ leBytes 4 session ++ leBytes 4 seqNo ++ leBytes 1 member ++ zeros 1
    ++ leBytes 2 body.length ++ body

/-- The data of the AQFORT packet that passes a request on: 3, the sender's role (1 FM, 2 OBS, 3 SVC, 4 an LD) and LD, the length,
the message (log entry 17). -/
def passedRequest (w : Sender) (f : Bytes) : Bytes :=
  let role := if w.fm then 1 else if w.obs then 2 else if w.svc then 3 else 4
  let d := leBytes 8 3 ++ leBytes 1 role ++ leBytes 1 (w.ld.getD 0) ++ leBytes 2 f.length ++ zeros 4 ++ f
  d ++ zeros ((16 - d.length % 16) % 16)

/-- Pass a request on to a member, and wait for its answer. -/
def State.passOn (s : State) (w : Sender) (m : Nat) (f : Bytes) (path : Option (Path × Nat)) : State :=
  let tag := s.span.nextTag
  let q : RemoteReq := { id := tag, member := m, kind := 6, sent := s.now, path := path }
  let s := { s with span := { s.span with nextTag := (tag + 1) % 2 ^ 32, requests := s.span.requests ++ [q] } }
  s.sendPacket m 6 0 0x10 0 tag 0 0 (passedRequest w f)

/-- A write that fans out from the span unit reaches the other members' module units (02 R58; log entry 26). -/
def State.fanToMembers (s : State) (w : Sender) (o m : Nat) (data : Bytes) : State :=
  s.peers.foldl (fun s k =>
    s.passOn w k (messageBytes 0x11 0 0 0xFF (requestBody 0 o m 0 data.length none data)) none) s

/-- A write whose answer may wait for other members: a CREATE, and an EVACUATE (16 R554, R562). -/
def mayDefer (u o : Nat) (b : Bytes) : Bool :=
  (u == 0x200 && o == 0x140 && field b 0 1 == 1) || (u == 0xC00 && o == 0x140 && field b 2 1 == 1)

/-- WRITE and WRITE_IF. -/
def State.serveWrite' (s : State) (w : Sender) (p : Path) (ty : Nat) (b : Bytes) : Served :=
  let u := field b 0 2
  let o := field b 2 2
  let m := field b 4 1
  let off := field b 6 4
  let len := field b 10 2
  let fixed := if ty = 0x12 then 16 else 12
  let data := b.drop fixed
  if b.length < fixed then refusal s stLength
  else match s.access w u o m off len true (decide (data.length = len)) with
    | .error c => refusal s c
    | .ok r =>
      if ty = 0x12 ∧ field b 12 4 ≠ s.obj u 3 0 then refusal s stGeneration
      else match s.objWrite w u o m off r data with
        | .error c => refusal s c
        | .ok t =>
          let t := if u = 0x0001 ∧ fansOut o = true then t.fanToMembers w o m data else t
          if mayDefer u o data ∧ t.span.creates.length > s.span.creates.length then { status := none, state := t.deferTo p ty }
          else { status := some 0, state := t }

/-! ## Profiles (02 R77 to R83) -/

/-- PROFILE_STORE: the older copy of the slot takes the running values; `ok1` and `ok2` are the read-backs (02 R81). A slot with no
valid copy has its first copy written, with sequence 1; a body that is not one byte is answered LENGTH before the role is looked at,
and a profile number above 3 RANGE (log entry 44). A store takes no time, so none arrives while another runs (log entry 1). -/
def State.serveStore (s : State) (w : Sender) (b : Bytes) (ok1 ok2 : Bool) : Served :=
  let slot := field b 0 1
  if b.length ≠ 1 then refusal s stLength
  else if !(w.fm || w.svc) then refusal s stRights
  else if slot > 3 then refusal s stRange
  else
    let good := s.profileCopy slot
    let k := match good with
      | some (k, _) => if k % 2 = 0 then k + 1 else k - 1
      | none => 2 * slot
    let c : ProfCopy := { valid := ok1 || ok2, seq := ((good.map (·.2.seq)).getD 0 + 1) % 2 ^ 32, firmware := s.obj 0 0 4
                          name := (good.map (·.2.name)).getD (zeros 16), entries := s.profileEntries }
    let s := { s with profiles := tabSet s.profiles k c }
    if ok1 || ok2 then { status := some 0, state := s.setObj 0 0x122 0 ((s.obj 0 0x122 0 + 1) % 2 ^ 32) }
    else { status := some stFlash, state := s.raise 0 6 slot }

/-- The live members of a unit (02 R66). -/
def liveMembers (u : Nat) : List (Nat × Nat × Row) :=
  (objectTables.filter (fun r => r.live && decide (r.uLo ≤ u ∧ u ≤ r.uHi))).flatMap (fun r =>
    (List.range (r.oHi - r.oLo + 1)).flatMap (fun i => (List.range (r.mHi - r.mLo + 1)).map (fun j => (r.oLo + i, r.mLo + j, r))))

/-- Give a unit the live values of a profile copy; a value it does not hold, or out of range, is the factory default (02 R64,
R80). Entries that are ignored count. -/
def State.applyLive (s : State) (c : Option ProfCopy) (u : Nat) : State :=
  let own := ((c.map (·.entries)).getD []).filter (fun e => e.unit == u)
  let s := s.setObj 0 0x122 1 (s.obj 0 0x122 1 + (own.filter ProfEntry.ignored).length)
  (liveMembers u).foldl (fun s x =>
    let r := x.2.2
    let d := leBytes r.ty.size r.dflt
    let b := (c.bind (fun c => c.value u x.1 x.2.1)).getD d
    let ok : Bool := b.length == r.ty.size && s.profileFits u x.1 x.2.1 r b
    s.putMember u x.1 x.2.1 r (if ok then b else d)) s

/-- What live values that have been applied do, as a write of them does: the cap and the ceiling (17 R572, R577), the shares of the rounds (10
R337), deep idle that is no longer allowed (17 R582), the refresh threshold (14 R473). -/
def State.liveTaken (s t : State) : State :=
  let changed (u o m : Nat) : Bool := t.obj u o m != s.obj u o m
  let t := if changed 0xD20 0x140 0 then t.setPower { t.power with window := [] } else t
  let t := if changed 0xD20 0x140 0 && t.partitioned then t.partitionCap else t
  let t := State.pointMoved s t
  let t := if changed 0xD20 0x150 0 && t.obj 0xD20 0x150 0 == 0 then t.powerWake 3 else t
  if changed 0x500 0x103 0 then t.heatWrite (t.obj 0x500 0x103 0) else t

/-- PROFILE_APPLY (02 R82); a slot with no valid copy gives the factory defaults (log entry 44). -/
def State.serveApply (s : State) (w : Sender) (b : Bytes) : Served :=
  let slot := field b 0 1
  if b.length ≠ 1 then refusal s stLength
  else if !(w.fm || w.svc) then refusal s stRights
  else if slot > 3 then refusal s stRange
  else
    let c := (s.profileCopy slot).map (·.2)
    let us := allUnits.filter (fun u => !(liveMembers u).isEmpty)
    let left := us.filter (fun u => !s.quiescent u)
    let t := s.liveTaken ((us.filter s.quiescent).foldl (fun t u => t.applyLive c u) s.noteShares).fitTogether
    let t := (t.setObj 0 0x121 2 (b2n !left.isEmpty)).setObj 0 0x121 3 s.now
    let told := left.take 255
    { status := some 0, body := leBytes 1 told.length ++ told.flatMap (leBytes 2), state := if left.isEmpty then t else t.raise 0 4 0 }

/-! ## The management port on its wire (02 R67, R85) -/

/-- The PLCA node identifier of the management port: the strap, or 0E00:101, as 0E00:100 selects. -/
def State.plcaNode (s : State) : Nat := if s.obj 0xE00 0x100 0 = 0 then s.nodeId else s.obj 0xE00 0x101 0

/-- The UDP port that the module listens on. A command brings the message of a datagram that came there (log entry 44). -/
def State.listensOn (s : State) : Nat := s.obj 0xE00 0x110 0

/-! ## A request with its member (02 R40) -/

/-- Serve a request this module is meant for. -/
def State.serveHere (s : State) (w : Sender) (p : Path) (ty : Nat) (b : Bytes) (ok1 ok2 : Bool) : Served :=
  if ty = 0x10 then s.serveRead' w b
  else if ty = 0x11 ∨ ty = 0x12 then s.serveWrite' w p ty b
  else if ty = 0x30 then s.serveStore w b ok1 ok2
  else if ty = 0x31 then s.serveApply w b
  else refusal s stType

/-- Whether a member field names this module. -/
def State.isHere (s : State) (m : Nat) : Bool := m == 0xFF || m == s.obj 0xC00 0x101 0

/-- Whether a member field names a member that is not reachable; a HELLO, OPEN or CLOSE that names a reachable one is served here,
where its session is (02 R40; log entry 44). -/
def State.memberAbsent (s : State) (m : Nat) : Bool := !s.isHere m && !s.peers.contains m

/-- Serve a request, or pass it on to the member it names. -/
def State.serve (s : State) (w : Sender) (p : Path) (m : Msg) (ok1 ok2 : Bool) : Served :=
  if s.isHere m.member then s.serveHere w p m.ty m.body ok1 ok2
  else if !s.peers.contains m.member then refusal s stUnreachable
  else { status := none, state := s.passOn w m.member (messageBytes m.ty 0 0 0xFF m.body) (some (p, m.ty)) }

/-- Answer what serving gave. -/
def Served.reply (z : Served) (p : Path) (ty : Nat) : State := match z.status with
  | some c => z.state.answer p ty c z.body
  | none => z.state

/-! ## Sessions (02 R70 to R72) -/

/-- Key hashes registered for a role: 1 FM, 2 OBS, 3 SVC. -/
def State.keyHashes (s : State) (role : Nat) : List Bytes :=
  if role = 1 then [s.blob 0xE00 0x120 0 0 32, s.blob 0xE00 0x120 1 0 32].filter (fun h => !allZero h)
  else if role = 2 then ((List.range 8).map (fun i => s.blob 0xE00 0x122 i 0 32)).filter (fun h => !allZero h)
  else if role = 3 then [Config.svcKeyHash] else []

/-- HELLO: a fresh nonce for 10 s, the hash of the identity key, the free sessions. -/
def State.serveHello (s : State) : Served :=
  let (n, s) := s.draw 32
  let live := s.nonces.filter (fun x => decide (x.expires > s.now))
  { status := some 0
    body := n ++ slice Config.identityHash 0 32 ++ leBytes 1 (s.obj 0xE00 0x132 0 - s.sessions.length)
    state := { s with nonces := live ++ [{ value := n, expires := s.now + 10000000000 }] } }

/-- The identifier of a new session: the free value where it is neither 0 nor in use, else the lowest that is. -/
def State.newSession (s : State) : Nat × State :=
  let (k, s) := s.tick
  let ok (i : Nat) : Bool := decide (0 < i ∧ i < 2 ^ 32) && !s.sessions.any (·.id == i)
  let want := Config.sessionId k
  (if ok want then want else (firstBelow 64 ok).getD 1, s)

/-- OPEN: role, ciphertext, signature; a nonce is consumed by its first OPEN (02 R70, R71). A body that is not 772 bytes is answered
LENGTH (log entry 44). -/
def State.serveOpen (s : State) (m : Msg) : Served :=
  let b := m.body
  let role := field b 0 1
  let cipher := slice b 4 384
  let plain := (Config.oaepOpen cipher).getD []
  let secret := plain.take 32
  let nonce := plain.drop 32
  let known := s.nonces.any (fun x => x.value == nonce && decide (x.expires > s.now))
  let s := { s with nonces := s.nonces.filter (fun x => x.value != nonce) }
  let digest := sha256 (m.head ++ leBytes 1 role ++ cipher ++ nonce)
  let signed := (s.keyHashes role).any (fun h => Config.pssVerify h digest (slice b 388 384))
  let barred := s.fw.recovery && role != 3
  if b.length ≠ 772 then refusal s stLength
  else if plain.length ≠ 64 ∨ !known ∨ !signed ∨ barred then refusal (s.bump 0xE00 0x17 1) stAuth
  else if s.sessions.length ≥ s.obj 0xE00 0x132 0 then refusal s stNoResource
  else
    let (id, s) := s.newSession
    let key := hmac256 secret (strBytes 10 "aqfort-mac" ++ nonce ++ leBytes 4 id)
    { status := some 0, body := leBytes 4 id
      state := { s with sessions := s.sessions ++ [{ id := id, role := role, key := key, heard := s.now, firstEvent := s.telem.nextEvent }] } }

/-- The sender behind a session. -/
def Session.sender (z : Session) : Sender :=
  { fm := z.role == 1, obs := z.role == 2, svc := z.role == 3 }

/-- Replace a session. -/
def State.setSession (s : State) (z : Session) : State :=
  { s with sessions := s.sessions.map (fun x => if x.id = z.id then z else x) }

/-- A request of an open session, by its sequence: executed once, its response kept for the window (02 R72). -/
def State.sessionRequest (s : State) (z : Session) (p : Path) (m : Msg) (ok1 ok2 : Bool) : State :=
  let s := s.setSession { z with heard := s.now }
  let q := m.seqNo
  if q + 63 < z.high then s.respond p m.ty stSequence []
  else match tabGet z.done q with
    | some r => if r.isEmpty then s else s.emit (.aqfort p (field r 16 1) (slice r 20 (field r 18 2)) r)
    | none =>
      let s := s.setSession { z with heard := s.now, high := Nat.max z.high q, done := z.done ++ [(q, [])] }
      if m.ty = 3 ∧ s.memberAbsent m.member then s.answer p 3 stUnreachable []
      else if m.ty = 3 then
        let t := s.answer p 3 0 []
        { t with sessions := t.sessions.filter (·.id != z.id) }
      else (s.serve z.sender p m ok1 ok2).reply p m.ty

/-- A management-port frame whose length fits, after the tag: the rest of R648, then the request. -/
def State.taken (s : State) (p : Path) (m : Msg) (z : Option Session) (ok1 ok2 : Bool) : State :=
  if m.version ≠ 1 then s.respond p m.ty stVersion []
  else if !requestTypes.contains m.ty ∨ m.flags.testBit 0 then s.respond p m.ty stType []
  else if m.ty = 1 ∨ m.ty = 2 then
    (if s.memberAbsent m.member then s.respond p m.ty stUnreachable []
     else (if m.ty = 1 then s.serveHello else s.serveOpen m).reply p m.ty)
  else match z with
    | some z => s.sessionRequest z p m ok1 ok2
    | none => s.respond p m.ty stSession []

/-- A frame is dropped, and counted (02 R72, R648). -/
def State.dropFrame (s : State) : State := s.bump 0xE00 0x16 1

/-- Take a frame of the management port: magic and length, the session and its tag, the rest (02 R72, R648). -/
def State.frame (s : State) (f : Bytes) (ok1 ok2 : Bool) : State :=
  let m := msgOf f
  let tagged := m.ty != 1 && m.ty != 2
  let n := 16 + m.body.length
  let tag := if tagged then slice f n 32 else []
  let p := Path.mgmt (BitVec.ofNat 32 m.session) (BitVec.ofNat 32 m.seqNo) tag
  if !msgFits f (if tagged then 32 else 0) then s.dropFrame
  else if !tagged then s.taken p m none ok1 ok2
  else match s.sessions.find? (·.id == m.session) with
    | none => s.taken p m none ok1 ok2
    | some z => if hmac256 z.key (f.take n) = tag then s.taken p m (some z) ok1 ok2 else s.dropFrame

/-- Whether a control core restarts, and the management port holds what comes (02 R74). -/
def State.coreRestarts (s : State) : Bool := (List.range 8).any (fun k => (s.ctl k).restarting)

/-- A frame arrives at the management port (18 R603, 02 R74): injection first; during a restart up to 64 are held. -/
def State.arrive (s : State) (f : Bytes) (ok1 ok2 : Bool) : State :=
  if s.stage = .off ∨ s.stage = .inReset ∨ !s.coresServe then s
  else
    let (mode, s) := s.injectUnit 0xE00
    if mode = 1 then s
    else if mode = 2 then s.dropFrame
    else if s.coreRestarts then (if s.heldMsgs.length < 64 then { s with heldMsgs := s.heldMsgs ++ [f] } else s)
    else s.frame f ok1 ok2

/-! ## In band and by the FM-owned LD (02 R62, R68) -/

/-- A request in band, after the frame: version, type, then the request; no session opens in band. -/
def State.takenInBand (s : State) (w : Sender) (p : Path) (m : Msg) (ok1 ok2 : Bool) : State :=
  if m.version ≠ 1 then s.answer p m.ty stVersion []
  else if !requestTypes.contains m.ty ∨ m.flags.testBit 0 ∨ m.ty ≤ 3 then s.answer p m.ty stType []
  else (s.serve w p m ok1 ok2).reply p m.ty

/-- A message in a mailbox: Invalid Input unless its length is the payload's (02 R68). -/
def State.inBand (s : State) (ld : Fin 16) (f : Bytes) (ok1 ok2 : Bool) : State :=
  if s.stage ≠ .running ∨ (s.ld ld).flr ∨ !s.coresServe then s
  else if !s.bound ld then s.mailboxAnswer ld retUnsupported []
  else if !msgFits f 0 ∨ 16 + field f 14 2 ≠ f.length then s.mailboxAnswer ld retInvalid []
  else s.takenInBand { ld := some ld.val } (.mailbox ld) (msgOf f) ok1 ok2

/-- A message that the fabric manager tunnels to the FM-owned LD. -/
def State.byFmLd (s : State) (f : Bytes) (ok1 ok2 : Bool) : State :=
  if s.stage ≠ .running then s.emit (.fmApi retBusy)
  else if !s.coresServe then s
  else if !msgFits f 0 ∨ 16 + field f 14 2 ≠ f.length then s.emit (.fmApi retInvalid)
  else s.takenInBand { fm := true } .fmLd (msgOf f) ok1 ok2

/-- Bring a request by its path; the tag of the management port follows the body, but for HELLO and OPEN. -/
def State.bring (s : State) (r : Req) (ty : Nat) (body : Bytes) (ok1 ok2 : Bool) : State :=
  match r.path with
  | .mgmt z q tag =>
    s.arrive (messageBytes ty z.toNat q.toNat r.member.toNat body ++ (if ty = 1 ∨ ty = 2 then [] else tag)) ok1 ok2
  | .mailbox ld => s.inBand ld (messageBytes ty 0 0 r.member.toNat body) ok1 ok2
  | .fmLd => s.byFmLd (messageBytes ty 0 0 r.member.toNat body) ok1 ok2
  | .member _ _ => s

/-- Bring a write of an object: WRITE, or WRITE_IF where an expected generation comes with it. -/
def State.sendWrite (s : State) (r : Req) (u o m off : Nat) (data : Bytes) : State :=
  s.bring r (if r.gen.isSome then 0x12 else 0x11) (requestBody u o m off data.length (r.gen.map (·.toNat)) data) true true

/-- A read-back of boot flash that no command names (log entry 7). -/
def State.readBacks (s : State) : Bool × Bool := (Config.flashReadsBack s.fresh 0, Config.flashReadsBack s.fresh 1)

/-! ## The message commands -/

/-- HELLO. -/
def execHello (r : Req) (s : State) : Host.Outcome State Fault Refusal := finish s (s.bring r 1 [] true true)

/-- OPEN. -/
def execOpenReq (r : Req) (role : Byte) (reserved cipher sig : Bytes) (s : State) : Host.Outcome State Fault Refusal :=
  finish s (s.bring r 2 (role :: slice reserved 0 3 ++ cipher ++ sig) true true)

/-- CLOSE. -/
def execCloseReq (r : Req) (s : State) : Host.Outcome State Fault Refusal := finish s (s.bring r 3 [] true true)

/-- READ. -/
def execRead (r : Req) (unit obj : U16) (mem : Byte) (off : U32) (len : U16) (s : State) : Host.Outcome State Fault Refusal :=
  finish s (s.bring r 0x10 (requestBody unit.toNat obj.toNat mem.toNat off.toNat len.toNat none []) true true)

/-- WRITE. -/
def execWrite (r : Req) (unit obj : U16) (mem : Byte) (off : U32) (len : U16) (data : Bytes) (s : State) :
    Host.Outcome State Fault Refusal :=
  finish s (s.bring r 0x11 (requestBody unit.toNat obj.toNat mem.toNat off.toNat len.toNat none data) true true)

/-- WRITE_IF. -/
def execWriteIf (r : Req) (unit obj : U16) (mem : Byte) (off : U32) (len : U16) (gen : U32) (data : Bytes) (s : State) :
    Host.Outcome State Fault Refusal :=
  finish s (s.bring r 0x12 (requestBody unit.toNat obj.toNat mem.toNat off.toNat len.toNat (some gen.toNat) data) true true)

/-- PROFILE_STORE. -/
def execProfileStore (r : Req) (profile : Byte) (readBack1 readBack2 : Bool) (s : State) : Host.Outcome State Fault Refusal :=
  finish s (s.bring r 0x30 [profile] readBack1 readBack2)

/-- PROFILE_APPLY. -/
def execProfileApply (r : Req) (profile : Byte) (s : State) : Host.Outcome State Fault Refusal := finish s (s.bring r 0x31 [profile] true true)

/-- SESSION_IDLE_TIMEOUT (02 R71): a session that has sent nothing for 0E00:130 is closed. -/
def execSessionIdleTimeout (session : U32) (s : State) : Host.Outcome State Fault Refusal :=
  finish s { s with sessions := s.sessions.filter (·.id != session.toNat) }

/-- UNKNOWN_AQFORT_TYPE (02 R648): a frame of the management port as it comes. -/
def execUnknownAqfortType (frame : Bytes) (s : State) : Host.Outcome State Fault Refusal :=
  finish s (let (a, b) := s.readBacks; s.tick.2.arrive frame a b)

/-- AQFORT_MESSAGE (02 R68): a mailbox payload as it comes. -/
def execAqfortMessage (ld : Fin 16) (payload : Bytes) (s : State) : Host.Outcome State Fault Refusal :=
  finish s (let (a, b) := s.readBacks; s.tick.2.inBand ld payload a b)

/-- RESTART_COMPLETE (18 R595): when no core restarts any more, the messages held are taken, oldest first (02 R74). -/
def execRestartComplete (core : Fin 8) (s : State) : Host.Outcome State Fault Refusal :=
  finish s (
    let t := s.coreRestarted core
    if t.coreRestarts then t
    else
      let (a, b) := t.readBacks
      t.heldMsgs.foldl (fun (x : State) f => x.frame f a b) { t with heldMsgs := [] })

/-! ## AQFORT packets (16 R547, log entry 17) -/

/-- A request that a member passed on. -/
def State.passedIn (s : State) (source tag : Nat) (d : Bytes) : State :=
  let role := field d 8 1
  let w : Sender := { fm := role == 1, obs := role == 2, svc := role == 3, ld := if role = 4 then some (field d 9 1 % 16) else none }
  let f := slice d 16 (field d 10 2)
  let p := Path.member (Fin.ofNat 8 source) (BitVec.ofNat 32 tag)
  let m := msgOf f
  if !s.coresServe ∨ !msgFits f 0 then s
  else
    let (a, b) := s.readBacks
    (s.serveHere w p m.ty m.body a b).reply p m.ty

/-- The answer to a request that was passed on. -/
def State.answeredBy (s : State) (source tag : Nat) (d : Bytes) : State :=
  match s.takeRemote source tag (fun q => q.kind == 6) with
  | (some q, s) => (match q.path with
    | some (p, ty) => s.answer p ty (field d 8 1) (slice d 16 (field d 10 2))
    | none => s)
  | (none, s) => s

/-- AQFORT packet: a freeze or snapshot time (19 R611, R613), a request passed on, or its answer (02 R40). -/
def execPktAqfort (source : Fin 8) (body : Bytes) (s : State) : Host.Outcome State Fault Refusal :=
  finish s (s.packetIn source 6 body (fun s =>
    let d := pktData body
    match timeOf d with
    | some (what, t) => s.timeFrom source what t
    | none =>
      if field d 0 8 = 3 then s.passedIn source (pktTag body) d
      else if field d 0 8 = 4 then s.answeredBy source (pktTag body) d
      else s))

/-! ## Writes of single objects -/

/-- REQUESTED_STATE_WRITE (02 R50, R51). -/
def execRequestedStateWrite (r : Req) (unit : U16) (value : Byte) (s : State) : Host.Outcome State Fault Refusal :=
  finish s (s.sendWrite r unit.toNat 1 0 0 [value])

/-- A write of a command member with its command byte in place. -/
def State.commandWrite (s : State) (r : Req) (u at_ : Nat) (op : Byte) (cmd : Bytes) : State :=
  s.sendWrite r u 0x140 0 0 (patch cmd at_ [op])

/-- CREATE (03 R99). -/
def execRegionCreate (r : Req) (cmd : Bytes) (s : State) : Host.Outcome State Fault Refusal := finish s (s.commandWrite r 0x200 0 1 cmd)
/-- MODIFY (03 R101). -/
def execRegionModify (r : Req) (cmd : Bytes) (s : State) : Host.Outcome State Fault Refusal := finish s (s.commandWrite r 0x200 0 2 cmd)
/-- DELETE (03 R102). -/
def execRegionDelete (r : Req) (cmd : Bytes) (s : State) : Host.Outcome State Fault Refusal := finish s (s.commandWrite r 0x200 0 3 cmd)
/-- DISCARD (03 R102). -/
def execRegionDiscard (r : Req) (cmd : Bytes) (s : State) : Host.Outcome State Fault Refusal := finish s (s.commandWrite r 0x200 0 4 cmd)

/-- FR_TABLE_COMMIT (04 R146). -/
def execFrTableCommit (r : Req) (slot : Fin 64) (s : State) : Host.Outcome State Fault Refusal :=
  finish s (s.sendWrite r 0x300 (0x200 + slot) 9 0 [0xFF])
/-- FR_DEFAULT_TABLE_LOAD (04 R146). -/
def execFrDefaultTableLoad (r : Req) (slot : Fin 64) (value : Byte) (s : State) : Host.Outcome State Fault Refusal :=
  finish s (s.sendWrite r 0x300 (0x200 + slot) 9 0 [value])
/-- FR_SLOT_OWNER_WRITE (04 R150). -/
def execFrSlotOwnerWrite (r : Req) (slot : Fin 64) (value : Byte) (s : State) : Host.Outcome State Fault Refusal :=
  finish s (s.sendWrite r 0x300 (0x200 + slot) 0 0 [value])
/-- LL_TABLE_COMMIT (05 R177). -/
def execLlTableCommit (r : Req) (slot : Fin 64) (value : Byte) (s : State) : Host.Outcome State Fault Refusal :=
  finish s (s.sendWrite r 0x300 (0x300 + slot) 9 0 [value])
/-- LL_SLOT_OWNER_WRITE (05 R177). -/
def execLlSlotOwnerWrite (r : Req) (slot : Fin 64) (value : Byte) (s : State) : Host.Outcome State Fault Refusal :=
  finish s (s.sendWrite r 0x300 (0x300 + slot) 0 0 [value])

/-- The bytes of a recode command. -/
def recodeBytes (region : U16) (op : Byte) (rest : Bytes) : Bytes := leBytes 2 region.toNat ++ [op] ++ rest
/-- RECODE_START (04 R155). -/
def execRecodeStart (r : Req) (region : U16) (rest : Bytes) (s : State) : Host.Outcome State Fault Refusal :=
  finish s (s.sendWrite r 0x300 0x140 0 0 (recodeBytes region 1 rest))
/-- RECODE_CANCEL (04 R155). -/
def execRecodeCancel (r : Req) (region : U16) (rest : Bytes) (s : State) : Host.Outcome State Fault Refusal :=
  finish s (s.sendWrite r 0x300 0x140 0 0 (recodeBytes region 2 rest))
/-- LL_RECODE_START (05 R179). -/
def execLlRecodeStart (r : Req) (region : U16) (rest : Bytes) (s : State) : Host.Outcome State Fault Refusal :=
  finish s (s.sendWrite r 0x300 0x140 0 0 (recodeBytes region 3 rest))
/-- LL_RECODE_CANCEL (05 R179). -/
def execLlRecodeCancel (r : Req) (region : U16) (rest : Bytes) (s : State) : Host.Outcome State Fault Refusal :=
  finish s (s.sendWrite r 0x300 0x140 0 0 (recodeBytes region 4 rest))

/-- POLICY_MODE_WRITE (06 R214). -/
def execPolicyModeWrite (r : Req) (ld : Fin 16) (value : Byte) (s : State) : Host.Outcome State Fault Refusal :=
  finish s (s.sendWrite r 0x700 (0x130 + ld) 0 0 [value])
/-- CADENCE_MODE_WRITE (08 R253). -/
def execCadenceModeWrite (r : Req) (cadence : Fin 64) (value : Byte) (s : State) : Host.Outcome State Fault Refusal :=
  finish s (s.sendWrite r (0x810 + cadence) 0x101 0 0 [value])

/-- An entry's bytes with the armed flag as a command sets it. -/
def armedEntry (b : Bytes) (on : Bool) : Bytes := patch b 1 (leBytes 1 (setBit (field b 1 1) 0 on))
/-- SCHEDULE_ENTRY_ARM (08 R265): the entry is written with its armed flag set. -/
def execScheduleEntryArm (r : Req) (entry : Nat) (bytes : Bytes) (s : State) : Host.Outcome State Fault Refusal :=
  finish s (s.sendWrite r 0x800 0x140 0 (32 * entry) (armedEntry bytes true))
/-- SCHEDULE_ENTRY_DISARM (08 R265): the entry is written with its armed flag clear. -/
def execScheduleEntryDisarm (r : Req) (entry : Nat) (bytes : Bytes) (s : State) : Host.Outcome State Fault Refusal :=
  finish s (s.sendWrite r 0x800 0x140 0 (32 * entry) (armedEntry bytes false))

/-- ATTACH (09 R288). -/
def execInstarAttach (r : Req) (cmd : Bytes) (s : State) : Host.Outcome State Fault Refusal := finish s (s.commandWrite r 0x900 0 1 cmd)
/-- DETACH (09 R292). -/
def execInstarDetach (r : Req) (cmd : Bytes) (s : State) : Host.Outcome State Fault Refusal := finish s (s.commandWrite r 0x900 0 2 cmd)
/-- ADVANCE (09 R291). -/
def execInstarAdvance (r : Req) (cmd : Bytes) (s : State) : Host.Outcome State Fault Refusal := finish s (s.commandWrite r 0x900 0 3 cmd)
/-- PUBLISH (09 R296). -/
def execInstarPublish (r : Req) (cmd : Bytes) (s : State) : Host.Outcome State Fault Refusal := finish s (s.commandWrite r 0x900 0 4 cmd)
/-- REVERT (09 R292). -/
def execInstarRevert (r : Req) (cmd : Bytes) (s : State) : Host.Outcome State Fault Refusal := finish s (s.commandWrite r 0x900 0 5 cmd)
/-- LIST_CONFLICTS (09 R298). -/
def execListConflicts (r : Req) (cmd : Bytes) (s : State) : Host.Outcome State Fault Refusal := finish s (s.commandWrite r 0x900 0 6 cmd)
/-- SALVAGE_REATTACH (09 R309). -/
def execSalvageReattach (r : Req) (cmd : Bytes) (s : State) : Host.Outcome State Fault Refusal := finish s (s.commandWrite r 0x900 0 0x10 cmd)
/-- SALVAGE_DISCARD (09 R309). -/
def execSalvageDiscard (r : Req) (cmd : Bytes) (s : State) : Host.Outcome State Fault Refusal := finish s (s.commandWrite r 0x900 0 0x11 cmd)
/-- FORCE_DETACH (09 R310). -/
def execForceDetach (r : Req) (cmd : Bytes) (s : State) : Host.Outcome State Fault Refusal := finish s (s.commandWrite r 0x900 0 0x12 cmd)
/-- SHARED_REGION_ENTRY_WRITE (09 R315). -/
def execSharedRegionEntryWrite (r : Req) (off : U32) (data : Bytes) (s : State) : Host.Outcome State Fault Refusal :=
  finish s (s.sendWrite r 0x900 0x150 0 off.toNat data)

/-- CREATE_REGION_KEY (10 R328). -/
def execCreateRegionKey (r : Req) (cmd : Bytes) (s : State) : Host.Outcome State Fault Refusal := finish s (s.commandWrite r 0x400 0 1 cmd)
/-- ERASE (10 R330). -/
def execKeyErase (r : Req) (cmd : Bytes) (s : State) : Host.Outcome State Fault Refusal := finish s (s.commandWrite r 0x400 0 2 cmd)
/-- SET_USE_MASK (10 R328). -/
def execSetUseMask (r : Req) (cmd : Bytes) (s : State) : Host.Outcome State Fault Refusal := finish s (s.commandWrite r 0x400 0 3 cmd)
/-- DESTROY (10 R332). -/
def execKeyDestroy (r : Req) (cmd : Bytes) (s : State) : Host.Outcome State Fault Refusal := finish s (s.commandWrite r 0x400 0 4 cmd)

/-- QOS_MODE_WRITE (10 R338, R339). -/
def execQosModeWrite (r : Req) (value : Byte) (s : State) : Host.Outcome State Fault Refusal := finish s (s.sendWrite r 0 0x130 0 0 [value])
/-- INJECTION_ARMING (10 R340). -/
def execInjectionArming (r : Req) (unit : U16) (value : Byte) (s : State) : Host.Outcome State Fault Refusal :=
  finish s (s.sendWrite r unit.toNat 0x68 0 0 [value])
/-- STAGING_WRITE (10 R349). -/
def execStagingWrite (r : Req) (mem : Byte) (off : U32) (data : Bytes) (s : State) : Host.Outcome State Fault Refusal :=
  finish s (s.sendWrite r 0xD00 0x182 mem.toNat off.toNat data)
/-- VERIFY (10 R349). -/
def execVerify (r : Req) (s : State) : Host.Outcome State Fault Refusal := finish s (s.sendWrite r 0xD00 0x183 0 0 [1])
/-- Activate at reset (10 R349). -/
def execActivateAtReset (r : Req) (s : State) : Host.Outcome State Fault Refusal := finish s (s.sendWrite r 0xD00 0x183 0 0 [2])
/-- Activate live (10 R350). -/
def execActivateLive (r : Req) (s : State) : Host.Outcome State Fault Refusal := finish s (s.sendWrite r 0xD00 0x183 0 0 [3])
/-- Commit the security version (10 R351). -/
def execCommitSecurityVersion (r : Req) (s : State) : Host.Outcome State Fault Refusal := finish s (s.sendWrite r 0xD00 0x183 0 0 [4])
/-- Cancel an update (10 R352). -/
def execUpdateCancel (r : Req) (s : State) : Host.Outcome State Fault Refusal := finish s (s.sendWrite r 0xD00 0x183 0 0 [5])
/-- Revoke key 0 (10 R353). -/
def execRevokeKey0 (r : Req) (s : State) : Host.Outcome State Fault Refusal := finish s (s.sendWrite r 0xD00 0x183 0 0 [6])

/-- CLUSTER_ASSIGNMENT_WRITE (11 R367). -/
def execClusterAssignmentWrite (r : Req) (cluster : Fin 64) (value : Byte) (s : State) : Host.Outcome State Fault Refusal :=
  finish s (s.sendWrite r (0xA40 + cluster) 0x100 0 0 [value])
/-- HOME_BLOCKS_WRITE (11 R363). -/
def execHomeBlocksWrite (r : Req) (cluster : Fin 64) (value : U16) (s : State) : Host.Outcome State Fault Refusal :=
  finish s (s.sendWrite r (0xA40 + cluster) 0x101 0 0 (leBytes 2 value.toNat))
/-- LOAD (13 R441). -/
def execJobLoad (r : Req) (cmd : Bytes) (s : State) : Host.Outcome State Fault Refusal := finish s (s.commandWrite r 0xA00 0 1 cmd)
/-- UNLOAD (13 R441). -/
def execJobUnload (r : Req) (cmd : Bytes) (s : State) : Host.Outcome State Fault Refusal := finish s (s.commandWrite r 0xA00 0 2 cmd)
/-- STOP (13 R441). -/
def execJobStop (r : Req) (cmd : Bytes) (s : State) : Host.Outcome State Fault Refusal := finish s (s.commandWrite r 0xA00 0 3 cmd)
/-- PATTERN_GENERATOR_WRITE (14 R500). -/
def execPatternGeneratorWrite (r : Req) (ch : Fin 32) (off : U32) (data : Bytes) (s : State) : Host.Outcome State Fault Refusal :=
  finish s (s.sendWrite r (0x510 + ch) 0x120 0 off.toNat data)

/-- MEASURE (16 R557). -/
def execMeasure (r : Req) (value : Byte) (s : State) : Host.Outcome State Fault Refusal := finish s (s.sendWrite r 0xC00 0x113 0 0 [value])
/-- CHRYSALIS_ORDER (16 R563). -/
def execChrysalisOrder (r : Req) (value : Byte) (s : State) : Host.Outcome State Fault Refusal := finish s (s.sendWrite r 0 0x141 0 0 [value])
/-- EVACUATE (16 R562). -/
def execEvacuate (r : Req) (cmd : Bytes) (s : State) : Host.Outcome State Fault Refusal := finish s (s.commandWrite r 0xC00 2 1 cmd)
/-- RECALL (16 R562). -/
def execRecall (r : Req) (cmd : Bytes) (s : State) : Host.Outcome State Fault Refusal := finish s (s.commandWrite r 0xC00 2 2 cmd)
/-- CANCEL of an evacuation or recall (16 R562). -/
def execEvacuationCancel (r : Req) (cmd : Bytes) (s : State) : Host.Outcome State Fault Refusal := finish s (s.commandWrite r 0xC00 2 3 cmd)

/-- POWER_CAP_WRITE (17 R577). -/
def execPowerCapWrite (r : Req) (watts : U16) (s : State) : Host.Outcome State Fault Refusal :=
  finish s (s.sendWrite r 0xD20 0x140 0 0 (leBytes 2 watts.toNat))
/-- CLEAR_REPAIR_MAP (18 R600). -/
def execClearRepairMap (r : Req) (s : State) : Host.Outcome State Fault Refusal := finish s (s.sendWrite r 0xF80 0x170 0 0 [1])
/-- CLEAR_ERROR_HISTORY (18 R604). -/
def execClearErrorHistory (r : Req) (s : State) : Host.Outcome State Fault Refusal := finish s (s.sendWrite r 0xF80 0x170 0 0 [2])
/-- FREEZE (19 R610): the command, or another enabled trigger. -/
def execFreeze (c : TriggerCause) (s : State) : Host.Outcome State Fault Refusal :=
  finish s (match c with
    | .command r => s.sendWrite r 0xF00 0x111 0 0 [1]
    | .trigger b => s.freezeTrigger b)
/-- Release of a freeze (19 R610). -/
def execFreezeRelease (r : Req) (s : State) : Host.Outcome State Fault Refusal := finish s (s.sendWrite r 0xF00 0x111 0 0 [2])
/-- SNAPSHOT_TAKE (19 R612): the command, or another enabled trigger. -/
def execSnapshotTake (c : TriggerCause) (s : State) : Host.Outcome State Fault Refusal :=
  finish s (match c with
    | .command r => s.sendWrite r 0xF00 0x120 0 0 [1]
    | .trigger b => s.snapTrigger b)
/-- Release of a snapshot (19 R614). -/
def execSnapshotRelease (r : Req) (s : State) : Host.Outcome State Fault Refusal := finish s (s.sendWrite r 0xF00 0x120 0 0 [2])
/-- HALT (19 R621, R622): the command, or a breakpoint hit while 0D00 is in TEST. -/
def execHalt (core : Fin 8) (c : Option Req) (s : State) : Host.Outcome State Fault Refusal :=
  finish s (match c with
    | some r => s.sendWrite r (0xD10 + core) 0x124 0 0 [1]
    | none => if s.actual 0xD00 = 2 ∧ s.coreRuns core then s.haltCore core else s)
/-- RESUME (19 R622). -/
def execResume (core : Fin 8) (r : Req) (s : State) : Host.Outcome State Fault Refusal :=
  finish s (s.sendWrite r (0xD10 + core) 0x124 0 0 [2])
/-- STEP (19 R622). -/
def execStepOneInstruction (core : Fin 8) (r : Req) (s : State) : Host.Outcome State Fault Refusal :=
  finish s (s.sendWrite r (0xD10 + core) 0x124 0 0 [3])

/-! ## Configuration requests (15 R510, R515, R528) -/

/-- The state a meaning leaves. -/
def after (s : State) (o : Host.Outcome State Fault Refusal) : State := match o with
  | .next t => t
  | _ => s

/-- The DPA extents an extent list of CXL 3.1 names: start DPA, length and 8 reserved bytes each, after 8 bytes of header; a range
that is not whole extents names one that does not exist (log entry 24). -/
def listedExtents (b : Bytes) : List Nat :=
  (List.range (Nat.min (field b 0 4) ((b.length - 8) / 24))).flatMap (fun i =>
    let a := field b (8 + 24 * i) 8
    let n := field b (16 + 24 * i) 8
    if a % 2 ^ 30 ≠ 0 ∨ n % 2 ^ 30 ≠ 0 ∨ n = 0 ∨ n > 2 ^ 44 then [2 ^ 44] else (List.range (n / 2 ^ 30)).map (a / 2 ^ 30 + ·))

/-- The mailbox's doorbell: the command its registers name is run (15 R528). -/
def State.doorbell (s : State) (n : Nat) : State :=
  let l := s.ld n
  let ld := Fin.ofNat 16 n
  let op := field (memRead l.bar 0x21008 2) 0 2
  let len := Nat.min (leNat (memRead l.bar 0x2100A 3)) 4096
  let b := memRead l.bar 0x21020 len
  after s (
    if op = 0x0001 then execIdentify ld b s
    else if op = 0x0002 then execBackgroundOperationStatus ld b s
    else if op = 0x0003 then execGetResponseMessageLimit ld b s
    else if op = 0x0004 then execSetResponseMessageLimit ld b s
    else if op = 0x0100 then execGetEventRecords ld b s
    else if op = 0x0101 then execClearEventRecords ld b s
    else if op = 0x0102 then execGetEventInterruptPolicy ld b s
    else if op = 0x0103 then execSetEventInterruptPolicy ld b s
    else if op = 0x0300 then execGetTimestamp ld b s
    else if op = 0x0301 then execSetTimestamp ld b s
    else if op = 0x0400 then execGetSupportedLogs ld b s
    else if op = 0x0401 then execGetLog ld b s
    else if op = 0x4000 then execIdentifyMemoryDevice ld b s
    else if op = 0x4200 then execGetHealthInfo ld b s
    else if op = 0x4300 then execGetPoisonList ld b s
    else if op = 0x4800 then execGetDcConfiguration ld b s
    else if op = 0x4801 then execGetDcExtentList ld b s
    else if op = 0x4802 then execAddDynamicCapacityResponse ld (listedExtents b) s
    else if op = 0x4803 then execReleaseDynamicCapacity ld (listedExtents b) s
    else if op = 0xC810 then execAqfortMessage ld b s
    else if op = 0xC820 then execGrantHostTierPages ld b s
    else if op = 0xC821 then execWithdrawHostTierPages ld b s
    else execUnsupportedMailboxCommand ld (BitVec.ofNat 16 op) b s)

/-- The SPDM message an LD sent last. -/
def State.lastSpdm (s : State) (n : Nat) : Bytes :=
  (s.outbox.reverse.findSome? (fun o => match o with
    | .spdm k b => if k = n then some b else none
    | _ => none)).getD []

/-- An SPDM request by its code (10 R348, 15 R515). -/
def State.spdmRequest (s : State) (n : Nat) (b : Bytes) : State :=
  let c := field b 1 1
  if c = 0x84 then s.spdmVersion n b
  else if c = 0xE1 then s.spdmCapabilities n b
  else if c = 0xE3 then s.spdmAlgorithms n b
  else if c = 0x81 then s.spdmDigests n b
  else if c = 0x82 then s.spdmCertificate n b
  else if c = 0x83 then s.spdmChallenge n b
  else if c = 0xE0 then s.spdmMeasurements n b
  else if c = 0xE4 then s.spdmKeyExchange n b
  else s.emit (.spdm n (spdmError 7))

/-- A DOE object: vendor, type, length in 4 B units, data (log entry 24). -/
def doeObject (vendor ty : Nat) (b : Bytes) : Bytes :=
  let b := b ++ zeros ((4 - b.length % 4) % 4)
  leBytes 2 vendor ++ leBytes 2 ty ++ leBytes 4 (2 + b.length / 4) ++ b

/-- The four protocols of the DOE mailbox (15 R515): discovery, CMA/SPDM, secured CMA/SPDM, and CDAT with the CXL vendor number. -/
def doeProtocols : List (Nat × Nat) := [(1, 0), (1, 1), (1, 2), (0x1E98, 2)]

/-- The DOE mailbox runs the object it has taken in and leaves the answer to be read. -/
def State.doeRun (s : State) (n : Nat) : State :=
  let b := (s.ld n).doeIn
  let vendor := field b 0 2
  let ty := field b 2 1
  let req := b.drop 8
  let put (s : State) (d : Bytes) : State := s.setLd n { s.ld n with doeIn := [], doeOut := d }
  if b.length < 8 ∨ field b 4 3 * 4 ≠ b.length then put s []
  else if vendor = 1 ∧ ty = 0 then
    let i := field req 0 1
    let e := nth doeProtocols i (0xFFFF, 0)
    put s (doeObject 1 0 (leBytes 2 e.1 ++ leBytes 1 e.2 ++ leBytes 1 (if i + 1 < doeProtocols.length then i + 1 else 0)))
  else if vendor = 1 ∧ !s.spdmServes n then put s []
  else if vendor = 1 ∧ ty = 1 then
    let s := s.spdmRequest n req
    put s (doeObject 1 1 (s.lastSpdm n))
  else if vendor = 1 ∧ ty = 2 ∧ n ≥ 16 then put s []
  else if vendor = 1 ∧ ty = 2 then
    let s := s.ideKm n req
    put s (doeObject 1 2 (s.lastSpdm n))
  else if vendor = 0x1E98 ∧ ty = 2 then put s (doeObject 0x1E98 2 (Config.cdat n (field req 2 2)))
  else put s []

/-- CONFIGURATION_REQUEST to an LD; number 16 stands for the FM-owned LD 0xFFFF (15 R509). -/
def execConfigurationRequest (ld : Fin 17) (leg : Fin 2) (space : ReqSpace) (addr size : Nat) (data : Option Bytes) (s : State) :
    Host.Outcome State Fault Refusal :=
  finish s (s.configRequest ld leg space addr size data State.doorbell State.doeRun)

end Sys2Proof.Machine
end

