-- ==== Sys2Proof/Machine/Clock.lean ====
section
/-!
DEFINITION. What happens when no command waits: the always-on timebase counts (01 R37, 17 R566), busy units count their busy time
(02 R42), and work that only waited for something else to end goes on.
-/
namespace Sys2Proof.Machine

/-- The units that can hold work (02 R42, R49), for their busy time 010. -/
def workUnits : List Nat :=
  [0x101, 0x102, 0x200, 0x300, 0x400, 0x500, 0x501, 0x502, 0x600, 0x700, 0x800, 0xA00, 0xC00, 0xD00, 0xE00, 0xF00]
    ++ unitRun 0x110 16 ++ unitRun 0x510 32 ++ unitRun 0x610 8 ++ unitRun 0xA40 64 ++ unitRun 0xC10 4 ++ unitRun 0xD10 8
    ++ unitRun 0x1000 256

/-- A nanosecond of busy time for every unit that holds work. -/
def State.countBusy (s : State) : State := (workUnits.filter s.holdsWork).foldl (fun t u => t.bump u 0x10 1) s

/-- Work that goes on by itself: runs that have emptied, instars that nothing holds any longer, clusters that drain, schedule moves that wait, the relocations of a
withdrawal, the mover's share work,
time probes, evacuations, of which blocked ones are tried again every millisecond (log entry 1), the watermarks of the tier policy (06 R203)
and the report of writes that nothing can let through (06 R205). -/
def State.settle (s : State) : State :=
  let s := (s.jobs.filter (fun j => j.2.state == 4)).foldl (fun s j => s.jobCheck j.1) s
  let s := (((s.insts.filter (fun i => s.instCount i.region i.number == 0)).map (·.region)).eraseDups).foldl State.reclaim s
  let s := s.drainClusters.pumpAll.moverSettle.sendProbes
  let s := ((List.range 16).filter (fun n => !(s.ld n).withdrawing.isEmpty)).foldl State.relocatePages s
  let s := (if s.now % 1000000 = 0 then s.unblockEvacs else s).pumpEvacs
  let waiting := (s.held.filter (fun h => h.why == .space)).map s.writePayer
  (waiting ++ s.stuck).eraseDups.foldl State.stuckCheck (s.payers.foldl State.watermark s)

/-- An upset of a caddy line, when one strikes (11 R365; log entry 47). -/
def State.upset (s : State) (t : Nat) : State :=
  { s with caddyBad := (Config.caddyUpset t).elim s.caddyBad (fun l => insAsc l s.caddyBad) }

/-- One nanosecond passes; with PWRGD low nothing counts (17 R566; log entry 1). -/
def idle (s : State) : State :=
  if s.stage = .off then s
  else if s.stage = .running then { s.countBusy.settle.upset s.now with pending := s.pending, now := s.now + 1 }
  else { s with now := s.now + 1 }

end Sys2Proof.Machine
end

