-- ==== Sys2Proof/Machine/Dispatch.lean ====
section
/-!
DEFINITION. The dispatch: one arm for each command, each a direct call of its meaning.
-/
namespace Sys2Proof.Machine

/-- The effect of a command on everything but the queue. -/
def exec (i : Instr) (s : State) : Host.Outcome State Fault Refusal :=
  match i with
  | .hello r => Sys2Proof.Machine.execHello r s
  | .openReq r role reserved cipher sig => Sys2Proof.Machine.execOpenReq r role reserved cipher sig s
  | .closeReq r => Sys2Proof.Machine.execCloseReq r s
  | .read r unit obj mem off len => Sys2Proof.Machine.execRead r unit obj mem off len s
  | .write r unit obj mem off len data => Sys2Proof.Machine.execWrite r unit obj mem off len data s
  | .writeIf r unit obj mem off len gen data => Sys2Proof.Machine.execWriteIf r unit obj mem off len gen data s
  | .profileStore r profile readBack1 readBack2 => Sys2Proof.Machine.execProfileStore r profile readBack1 readBack2 s
  | .profileApply r profile => Sys2Proof.Machine.execProfileApply r profile s
  | .sessionIdleTimeout session => Sys2Proof.Machine.execSessionIdleTimeout session s
  | .requestedStateWrite r unit value => Sys2Proof.Machine.execRequestedStateWrite r unit value s
  | .drainComplete unit => Sys2Proof.Machine.execDrainComplete unit s
  | .divergenceLimitReached unit => Sys2Proof.Machine.execDivergenceLimitReached unit s
  | .initiateDynamicCapacityAdd ld extents => Sys2Proof.Machine.execInitiateDynamicCapacityAdd ld extents s
  | .addDynamicCapacityResponse ld accepted => Sys2Proof.Machine.execAddDynamicCapacityResponse ld accepted s
  | .releaseDynamicCapacity ld extents => Sys2Proof.Machine.execReleaseDynamicCapacity ld extents s
  | .forcedRelease ld extents => Sys2Proof.Machine.execForcedRelease ld extents s
  | .extentReleaseComplete ld extent => Sys2Proof.Machine.execExtentReleaseComplete ld extent s
  | .regionCreate r cmd => Sys2Proof.Machine.execRegionCreate r cmd s
  | .regionModify r cmd => Sys2Proof.Machine.execRegionModify r cmd s
  | .regionDelete r cmd => Sys2Proof.Machine.execRegionDelete r cmd s
  | .regionDiscard r cmd => Sys2Proof.Machine.execRegionDiscard r cmd s
  | .discardedHomeFree index => Sys2Proof.Machine.execDiscardedHomeFree index s
  | .hostRead path hpa tag => Sys2Proof.Machine.execHostRead path hpa tag s
  | .hostWrite path hpa mask data tag => Sys2Proof.Machine.execHostWrite path hpa mask data tag s
  | .frWriteMerge ch => Sys2Proof.Machine.execFrWriteMerge ch s
  | .heldWriteRelease ld => Sys2Proof.Machine.execHeldWriteRelease ld s
  | .agingEpochTick => Sys2Proof.Machine.execAgingEpochTick s
  | .agingScan mapIndex => Sys2Proof.Machine.execAgingScan mapIndex s
  | .frTableCommit r slot => Sys2Proof.Machine.execFrTableCommit r slot s
  | .frDefaultTableLoad r slot value => Sys2Proof.Machine.execFrDefaultTableLoad r slot value s
  | .frSlotOwnerWrite r slot value => Sys2Proof.Machine.execFrSlotOwnerWrite r slot value s
  | .llTableCommit r slot value => Sys2Proof.Machine.execLlTableCommit r slot value s
  | .llSlotOwnerWrite r slot value => Sys2Proof.Machine.execLlSlotOwnerWrite r slot value s
  | .recodeStart r region rest => Sys2Proof.Machine.execRecodeStart r region rest s
  | .recodeCancel r region rest => Sys2Proof.Machine.execRecodeCancel r region rest s
  | .llRecodeStart r region rest => Sys2Proof.Machine.execLlRecodeStart r region rest s
  | .llRecodeCancel r region rest => Sys2Proof.Machine.execLlRecodeCancel r region rest s
  | .moveAlloc ask => Sys2Proof.Machine.execMoveAlloc ask s
  | .moveCopy record => Sys2Proof.Machine.execMoveCopy record s
  | .moveConfirm record => Sys2Proof.Machine.execMoveConfirm record s
  | .t3ReadRetry ld page ok => Sys2Proof.Machine.execT3ReadRetry ld page ok s
  | .t3ReachableAgain ld => Sys2Proof.Machine.execT3ReachableAgain ld s
  | .evacuationComplete => Sys2Proof.Machine.execEvacuationComplete s
  | .policyModeWrite r ld value => Sys2Proof.Machine.execPolicyModeWrite r ld value s
  | .mvMove j q => Sys2Proof.Machine.execMvMove j q s
  | .mvCount j q => Sys2Proof.Machine.execMvCount j q s
  | .mvEncode j q => Sys2Proof.Machine.execMvEncode j q s
  | .mvDecode j q => Sys2Proof.Machine.execMvDecode j q s
  | .mvEncipher j q => Sys2Proof.Machine.execMvEncipher j q s
  | .mvCompare j q => Sys2Proof.Machine.execMvCompare j q s
  | .moverCompletion index => Sys2Proof.Machine.execMoverCompletion index s
  | .farPresenceStable port => Sys2Proof.Machine.execFarPresenceStable port s
  | .farLinkTrainingTimeout port => Sys2Proof.Machine.execFarLinkTrainingTimeout port s
  | .farMemoryActive port m => Sys2Proof.Machine.execFarMemoryActive port m s
  | .farModuleRemoved port => Sys2Proof.Machine.execFarModuleRemoved port s
  | .flushTimeout stream => Sys2Proof.Machine.execFlushTimeout stream s
  | .stripeWriteAck stripe => Sys2Proof.Machine.execStripeWriteAck stripe s
  | .segmentSeal segment => Sys2Proof.Machine.execSegmentSeal segment s
  | .chunkWriteFailure stripe port => Sys2Proof.Machine.execChunkWriteFailure stripe port s
  | .farSectorReadComplete access bad => Sys2Proof.Machine.execFarSectorReadComplete access bad s
  | .farLinkDown port => Sys2Proof.Machine.execFarLinkDown port s
  | .farCompletionTimeout port => Sys2Proof.Machine.execFarCompletionTimeout port s
  | .cleaningCopy => Sys2Proof.Machine.execCleaningCopy s
  | .cleaningFlip index => Sys2Proof.Machine.execCleaningFlip index s
  | .segmentFree segment => Sys2Proof.Machine.execSegmentFree segment s
  | .positionAdvance ld cadence pos => Sys2Proof.Machine.execPositionAdvance ld cadence pos s
  | .rewind ld cadence pos => Sys2Proof.Machine.execRewind ld cadence pos s
  | .cadenceModeWrite r cadence value => Sys2Proof.Machine.execCadenceModeWrite r cadence value s
  | .scheduleEntryArm r entry bytes => Sys2Proof.Machine.execScheduleEntryArm r entry bytes s
  | .scheduleEntryDisarm r entry bytes => Sys2Proof.Machine.execScheduleEntryDisarm r entry bytes s
  | .instarAttach r cmd => Sys2Proof.Machine.execInstarAttach r cmd s
  | .instarDetach r cmd => Sys2Proof.Machine.execInstarDetach r cmd s
  | .instarAdvance r cmd => Sys2Proof.Machine.execInstarAdvance r cmd s
  | .instarPublish r cmd => Sys2Proof.Machine.execInstarPublish r cmd s
  | .instarRevert r cmd => Sys2Proof.Machine.execInstarRevert r cmd s
  | .listConflicts r cmd => Sys2Proof.Machine.execListConflicts r cmd s
  | .salvageReattach r cmd => Sys2Proof.Machine.execSalvageReattach r cmd s
  | .salvageDiscard r cmd => Sys2Proof.Machine.execSalvageDiscard r cmd s
  | .forceDetach r cmd => Sys2Proof.Machine.execForceDetach r cmd s
  | .salvageExpiry attachment => Sys2Proof.Machine.execSalvageExpiry attachment s
  | .versionSpaceFreed region => Sys2Proof.Machine.execVersionSpaceFreed region s
  | .sharedRegionEntryWrite r off data => Sys2Proof.Machine.execSharedRegionEntryWrite r off data s
  | .createRegionKey r cmd => Sys2Proof.Machine.execCreateRegionKey r cmd s
  | .keyErase r cmd => Sys2Proof.Machine.execKeyErase r cmd s
  | .setUseMask r cmd => Sys2Proof.Machine.execSetUseMask r cmd s
  | .keyDestroy r cmd => Sys2Proof.Machine.execKeyDestroy r cmd s
  | .shadowZeroise slot => Sys2Proof.Machine.execShadowZeroise slot s
  | .eraseSweepStep slot => Sys2Proof.Machine.execEraseSweepStep slot s
  | .entropyHealthFailure => Sys2Proof.Machine.execEntropyHealthFailure s
  | .qosModeWrite r value => Sys2Proof.Machine.execQosModeWrite r value s
  | .qosModeInForce => Sys2Proof.Machine.execQosModeInForce s
  | .injectionArming r unit value => Sys2Proof.Machine.execInjectionArming r unit value s
  | .trialBootTimeout => Sys2Proof.Machine.execTrialBootTimeout s
  | .stagingWrite r mem off data => Sys2Proof.Machine.execStagingWrite r mem off data s
  | .verify r => Sys2Proof.Machine.execVerify r s
  | .verifyComplete => Sys2Proof.Machine.execVerifyComplete s
  | .activateAtReset r => Sys2Proof.Machine.execActivateAtReset r s
  | .activateLive r => Sys2Proof.Machine.execActivateLive r s
  | .commitSecurityVersion r => Sys2Proof.Machine.execCommitSecurityVersion r s
  | .updateCancel r => Sys2Proof.Machine.execUpdateCancel r s
  | .revokeKey0 r => Sys2Proof.Machine.execRevokeKey0 r s
  | .getVersion ld req => Sys2Proof.Machine.execGetVersion ld req s
  | .getCapabilities ld req => Sys2Proof.Machine.execGetCapabilities ld req s
  | .negotiateAlgorithms ld req => Sys2Proof.Machine.execNegotiateAlgorithms ld req s
  | .getDigests ld req => Sys2Proof.Machine.execGetDigests ld req s
  | .getCertificate ld req => Sys2Proof.Machine.execGetCertificate ld req s
  | .challenge ld req => Sys2Proof.Machine.execChallenge ld req s
  | .getMeasurements ld req => Sys2Proof.Machine.execGetMeasurements ld req s
  | .keyExchange ld req => Sys2Proof.Machine.execKeyExchange ld req s
  | .ideKm ld req => Sys2Proof.Machine.execIdeKm ld req s
  | .clusterAssignmentWrite r cluster value => Sys2Proof.Machine.execClusterAssignmentWrite r cluster value s
  | .homeBlocksWrite r cluster value => Sys2Proof.Machine.execHomeBlocksWrite r cluster value s
  | .scrubComplete cluster => Sys2Proof.Machine.execScrubComplete cluster s
  | .clusterClockStop cluster => Sys2Proof.Machine.execClusterClockStop cluster s
  | .gAdd t rd rs1 rs2 => Sys2Proof.Machine.execGAdd t rd rs1 rs2 s
  | .gSub t rd rs1 rs2 => Sys2Proof.Machine.execGSub t rd rs1 rs2 s
  | .gAnd t rd rs1 rs2 => Sys2Proof.Machine.execGAnd t rd rs1 rs2 s
  | .gOr t rd rs1 rs2 => Sys2Proof.Machine.execGOr t rd rs1 rs2 s
  | .gXor t rd rs1 rs2 => Sys2Proof.Machine.execGXor t rd rs1 rs2 s
  | .gSll t rd rs1 rs2 => Sys2Proof.Machine.execGSll t rd rs1 rs2 s
  | .gSrl t rd rs1 rs2 => Sys2Proof.Machine.execGSrl t rd rs1 rs2 s
  | .gSra t rd rs1 rs2 => Sys2Proof.Machine.execGSra t rd rs1 rs2 s
  | .gSlt t rd rs1 rs2 => Sys2Proof.Machine.execGSlt t rd rs1 rs2 s
  | .gSltu t rd rs1 rs2 => Sys2Proof.Machine.execGSltu t rd rs1 rs2 s
  | .gMin t rd rs1 rs2 => Sys2Proof.Machine.execGMin t rd rs1 rs2 s
  | .gMax t rd rs1 rs2 => Sys2Proof.Machine.execGMax t rd rs1 rs2 s
  | .gMinu t rd rs1 rs2 => Sys2Proof.Machine.execGMinu t rd rs1 rs2 s
  | .gMaxu t rd rs1 rs2 => Sys2Proof.Machine.execGMaxu t rd rs1 rs2 s
  | .gMul t rd rs1 rs2 => Sys2Proof.Machine.execGMul t rd rs1 rs2 s
  | .gMulh t rd rs1 rs2 => Sys2Proof.Machine.execGMulh t rd rs1 rs2 s
  | .gMulhu t rd rs1 rs2 => Sys2Proof.Machine.execGMulhu t rd rs1 rs2 s
  | .gDiv t rd rs1 rs2 => Sys2Proof.Machine.execGDiv t rd rs1 rs2 s
  | .gDivu t rd rs1 rs2 => Sys2Proof.Machine.execGDivu t rd rs1 rs2 s
  | .gRem t rd rs1 rs2 => Sys2Proof.Machine.execGRem t rd rs1 rs2 s
  | .gRemu t rd rs1 rs2 => Sys2Proof.Machine.execGRemu t rd rs1 rs2 s
  | .gClz t rd rs1 rs2 => Sys2Proof.Machine.execGClz t rd rs1 rs2 s
  | .gCtz t rd rs1 rs2 => Sys2Proof.Machine.execGCtz t rd rs1 rs2 s
  | .gPopc t rd rs1 rs2 => Sys2Proof.Machine.execGPopc t rd rs1 rs2 s
  | .gAddi t rd rs1 imm => Sys2Proof.Machine.execGAddi t rd rs1 imm s
  | .gAndi t rd rs1 imm => Sys2Proof.Machine.execGAndi t rd rs1 imm s
  | .gOri t rd rs1 imm => Sys2Proof.Machine.execGOri t rd rs1 imm s
  | .gXori t rd rs1 imm => Sys2Proof.Machine.execGXori t rd rs1 imm s
  | .gSlli t rd rs1 imm => Sys2Proof.Machine.execGSlli t rd rs1 imm s
  | .gSrli t rd rs1 imm => Sys2Proof.Machine.execGSrli t rd rs1 imm s
  | .gSrai t rd rs1 imm => Sys2Proof.Machine.execGSrai t rd rs1 imm s
  | .gSlti t rd rs1 imm => Sys2Proof.Machine.execGSlti t rd rs1 imm s
  | .gLui t rd imm => Sys2Proof.Machine.execGLui t rd imm s
  | .gLb t rd rs1 imm => Sys2Proof.Machine.execGLb t rd rs1 imm s
  | .gLh t rd rs1 imm => Sys2Proof.Machine.execGLh t rd rs1 imm s
  | .gLw t rd rs1 imm => Sys2Proof.Machine.execGLw t rd rs1 imm s
  | .gLd t rd rs1 imm => Sys2Proof.Machine.execGLd t rd rs1 imm s
  | .gLbu t rd rs1 imm => Sys2Proof.Machine.execGLbu t rd rs1 imm s
  | .gLhu t rd rs1 imm => Sys2Proof.Machine.execGLhu t rd rs1 imm s
  | .gLwu t rd rs1 imm => Sys2Proof.Machine.execGLwu t rd rs1 imm s
  | .gSb t rd rs1 imm => Sys2Proof.Machine.execGSb t rd rs1 imm s
  | .gSh t rd rs1 imm => Sys2Proof.Machine.execGSh t rd rs1 imm s
  | .gSw t rd rs1 imm => Sys2Proof.Machine.execGSw t rd rs1 imm s
  | .gSd t rd rs1 imm => Sys2Proof.Machine.execGSd t rd rs1 imm s
  | .gVld t vd rs1 pm imm => Sys2Proof.Machine.execGVld t vd rs1 pm imm s
  | .gVldnt t vd rs1 pm imm => Sys2Proof.Machine.execGVldnt t vd rs1 pm imm s
  | .gVst t vd rs1 pm imm => Sys2Proof.Machine.execGVst t vd rs1 pm imm s
  | .threadLoadComplete load data => Sys2Proof.Machine.execThreadLoadComplete load data s
  | .gAadd t rd rs1 rs2 order size => Sys2Proof.Machine.execGAadd t rd rs1 rs2 order size s
  | .gAand t rd rs1 rs2 order size => Sys2Proof.Machine.execGAand t rd rs1 rs2 order size s
  | .gAor t rd rs1 rs2 order size => Sys2Proof.Machine.execGAor t rd rs1 rs2 order size s
  | .gAxor t rd rs1 rs2 order size => Sys2Proof.Machine.execGAxor t rd rs1 rs2 order size s
  | .gAmin t rd rs1 rs2 order size => Sys2Proof.Machine.execGAmin t rd rs1 rs2 order size s
  | .gAmax t rd rs1 rs2 order size => Sys2Proof.Machine.execGAmax t rd rs1 rs2 order size s
  | .gAminu t rd rs1 rs2 order size => Sys2Proof.Machine.execGAminu t rd rs1 rs2 order size s
  | .gAmaxu t rd rs1 rs2 order size => Sys2Proof.Machine.execGAmaxu t rd rs1 rs2 order size s
  | .gAswap t rd rs1 rs2 order size => Sys2Proof.Machine.execGAswap t rd rs1 rs2 order size s
  | .gAcas t rd rs1 rs2 order size => Sys2Proof.Machine.execGAcas t rd rs1 rs2 order size s
  | .gAfadd t rd rs1 rs2 order size => Sys2Proof.Machine.execGAfadd t rd rs1 rs2 order size s
  | .gFence t scope kind => Sys2Proof.Machine.execGFence t scope kind s
  | .gVadd t vd vs1 vs2 pm ty rm => Sys2Proof.Machine.execGVadd t vd vs1 vs2 pm ty rm s
  | .gVsub t vd vs1 vs2 pm ty rm => Sys2Proof.Machine.execGVsub t vd vs1 vs2 pm ty rm s
  | .gVmul t vd vs1 vs2 pm ty rm => Sys2Proof.Machine.execGVmul t vd vs1 vs2 pm ty rm s
  | .gVfma t vd vs1 vs2 pm ty rm => Sys2Proof.Machine.execGVfma t vd vs1 vs2 pm ty rm s
  | .gVfnma t vd vs1 vs2 pm ty rm => Sys2Proof.Machine.execGVfnma t vd vs1 vs2 pm ty rm s
  | .gVmin t vd vs1 vs2 pm ty rm => Sys2Proof.Machine.execGVmin t vd vs1 vs2 pm ty rm s
  | .gVmax t vd vs1 vs2 pm ty rm => Sys2Proof.Machine.execGVmax t vd vs1 vs2 pm ty rm s
  | .gVdiv t vd vs1 vs2 pm ty rm => Sys2Proof.Machine.execGVdiv t vd vs1 vs2 pm ty rm s
  | .gVsqrt t vd vs1 vs2 pm ty rm => Sys2Proof.Machine.execGVsqrt t vd vs1 vs2 pm ty rm s
  | .gVrcp t vd vs1 vs2 pm ty rm => Sys2Proof.Machine.execGVrcp t vd vs1 vs2 pm ty rm s
  | .gVrsqrt t vd vs1 vs2 pm ty rm => Sys2Proof.Machine.execGVrsqrt t vd vs1 vs2 pm ty rm s
  | .gVexp2 t vd vs1 vs2 pm ty rm => Sys2Proof.Machine.execGVexp2 t vd vs1 vs2 pm ty rm s
  | .gVlog2 t vd vs1 vs2 pm ty rm => Sys2Proof.Machine.execGVlog2 t vd vs1 vs2 pm ty rm s
  | .gVsinpi t vd vs1 vs2 pm ty rm => Sys2Proof.Machine.execGVsinpi t vd vs1 vs2 pm ty rm s
  | .gVcospi t vd vs1 vs2 pm ty rm => Sys2Proof.Machine.execGVcospi t vd vs1 vs2 pm ty rm s
  | .gVtanh t vd vs1 vs2 pm ty rm => Sys2Proof.Machine.execGVtanh t vd vs1 vs2 pm ty rm s
  | .gVcvt t vd vs1 vs2 pm ty rm => Sys2Proof.Machine.execGVcvt t vd vs1 vs2 pm ty rm s
  | .gVsel t vd vs1 vs2 pm ty rm => Sys2Proof.Machine.execGVsel t vd vs1 vs2 pm ty rm s
  | .gVperm t vd vs1 vs2 pm ty rm => Sys2Proof.Machine.execGVperm t vd vs1 vs2 pm ty rm s
  | .gVredadd t vd vs1 vs2 pm ty rm => Sys2Proof.Machine.execGVredadd t vd vs1 vs2 pm ty rm s
  | .gVredmax t vd vs1 vs2 pm ty rm => Sys2Proof.Machine.execGVredmax t vd vs1 vs2 pm ty rm s
  | .gVredmin t vd vs1 vs2 pm ty rm => Sys2Proof.Machine.execGVredmin t vd vs1 vs2 pm ty rm s
  | .gVand t vd vs1 vs2 pm ty rm => Sys2Proof.Machine.execGVand t vd vs1 vs2 pm ty rm s
  | .gVor t vd vs1 vs2 pm ty rm => Sys2Proof.Machine.execGVor t vd vs1 vs2 pm ty rm s
  | .gVxor t vd vs1 vs2 pm ty rm => Sys2Proof.Machine.execGVxor t vd vs1 vs2 pm ty rm s
  | .gVsll t vd vs1 vs2 pm ty rm => Sys2Proof.Machine.execGVsll t vd vs1 vs2 pm ty rm s
  | .gVsrl t vd vs1 vs2 pm ty rm => Sys2Proof.Machine.execGVsrl t vd vs1 vs2 pm ty rm s
  | .gVsra t vd vs1 vs2 pm ty rm => Sys2Proof.Machine.execGVsra t vd vs1 vs2 pm ty rm s
  | .gVsadd t vd vs1 vs2 pm ty rm => Sys2Proof.Machine.execGVsadd t vd vs1 vs2 pm ty rm s
  | .gVssub t vd vs1 vs2 pm ty rm => Sys2Proof.Machine.execGVssub t vd vs1 vs2 pm ty rm s
  | .gVcmpeq t vd vs1 vs2 pm ty rm => Sys2Proof.Machine.execGVcmpeq t vd vs1 vs2 pm ty rm s
  | .gVcmplt t vd vs1 vs2 pm ty rm => Sys2Proof.Machine.execGVcmplt t vd vs1 vs2 pm ty rm s
  | .gVcmple t vd vs1 vs2 pm ty rm => Sys2Proof.Machine.execGVcmple t vd vs1 vs2 pm ty rm s
  | .gVcmpun t vd vs1 vs2 pm ty rm => Sys2Proof.Machine.execGVcmpun t vd vs1 vs2 pm ty rm s
  | .gVcmpltu t vd vs1 vs2 pm ty rm => Sys2Proof.Machine.execGVcmpltu t vd vs1 vs2 pm ty rm s
  | .gVabs t vd vs1 vs2 pm ty rm => Sys2Proof.Machine.execGVabs t vd vs1 vs2 pm ty rm s
  | .gVneg t vd vs1 vs2 pm ty rm => Sys2Proof.Machine.execGVneg t vd vs1 vs2 pm ty rm s
  | .gVaddx t vd vs1 rs2 pm ty => Sys2Proof.Machine.execGVaddx t vd vs1 rs2 pm ty s
  | .gVsubx t vd vs1 rs2 pm ty => Sys2Proof.Machine.execGVsubx t vd vs1 rs2 pm ty s
  | .gVmulx t vd vs1 rs2 pm ty => Sys2Proof.Machine.execGVmulx t vd vs1 rs2 pm ty s
  | .gVfmax t vd vs1 rs2 pm ty => Sys2Proof.Machine.execGVfmax t vd vs1 rs2 pm ty s
  | .gVbcast t vd vs1 rs2 pm ty => Sys2Proof.Machine.execGVbcast t vd vs1 rs2 pm ty s
  | .gVins t vd vs1 rs2 pm ty => Sys2Proof.Machine.execGVins t vd vs1 rs2 pm ty s
  | .gVext t vd vs1 rs2 pm ty => Sys2Proof.Machine.execGVext t vd vs1 rs2 pm ty s
  | .gVsldn t vd vs1 rs2 pm ty => Sys2Proof.Machine.execGVsldn t vd vs1 rs2 pm ty s
  | .gVslup t vd vs1 rs2 pm ty => Sys2Proof.Machine.execGVslup t vd vs1 rs2 pm ty s
  | .gViota t vd vs1 rs2 pm ty => Sys2Proof.Machine.execGViota t vd vs1 rs2 pm ty s
  | .gPand t pd ps1 ps2 rs => Sys2Proof.Machine.execGPand t pd ps1 ps2 rs s
  | .gPor t pd ps1 ps2 rs => Sys2Proof.Machine.execGPor t pd ps1 ps2 rs s
  | .gPxor t pd ps1 ps2 rs => Sys2Proof.Machine.execGPxor t pd ps1 ps2 rs s
  | .gPandn t pd ps1 ps2 rs => Sys2Proof.Machine.execGPandn t pd ps1 ps2 rs s
  | .gPfromx t pd ps1 ps2 rs => Sys2Proof.Machine.execGPfromx t pd ps1 ps2 rs s
  | .gPtox t pd ps1 ps2 rs => Sys2Proof.Machine.execGPtox t pd ps1 ps2 rs s
  | .gAmma t acc rs1 rs2 bank mode flags => Sys2Proof.Machine.execGAmma t acc rs1 rs2 bank mode flags s
  | .gAzero t acc rs1 rs2 bank mode flags => Sys2Proof.Machine.execGAzero t acc rs1 rs2 bank mode flags s
  | .gAread t acc rs1 rs2 bank mode flags => Sys2Proof.Machine.execGAread t acc rs1 rs2 bank mode flags s
  | .gAwait t acc rs1 rs2 bank mode flags => Sys2Proof.Machine.execGAwait t acc rs1 rs2 bank mode flags s
  | .gAlut t acc rs1 rs2 bank mode flags => Sys2Proof.Machine.execGAlut t acc rs1 rs2 bank mode flags s
  | .gTfraw t rs1 rs2 bank => Sys2Proof.Machine.execGTfraw t rs1 rs2 bank s
  | .gTffr t rs1 rs2 bank => Sys2Proof.Machine.execGTffr t rs1 rs2 bank s
  | .arrayQueueEntryStart cluster entry => Sys2Proof.Machine.execArrayQueueEntryStart cluster entry s
  | .arrayQueueEntryComplete cluster entry => Sys2Proof.Machine.execArrayQueueEntryComplete cluster entry s
  | .gBar t rd rs1 rs2 imm => Sys2Proof.Machine.execGBar t rd rs1 rs2 imm s
  | .gPoswait t rd rs1 rs2 imm => Sys2Proof.Machine.execGPoswait t rd rs1 rs2 imm s
  | .gPosadv t rd rs1 rs2 imm => Sys2Proof.Machine.execGPosadv t rd rs1 rs2 imm s
  | .gMvreq t rd rs1 rs2 imm => Sys2Proof.Machine.execGMvreq t rd rs1 rs2 imm s
  | .gMvwait t rd rs1 rs2 imm => Sys2Proof.Machine.execGMvwait t rd rs1 rs2 imm s
  | .gWaitne t rd rs1 rs2 imm => Sys2Proof.Machine.execGWaitne t rd rs1 rs2 imm s
  | .gBeq t rs1 rs2 off => Sys2Proof.Machine.execGBeq t rs1 rs2 off s
  | .gBne t rs1 rs2 off => Sys2Proof.Machine.execGBne t rs1 rs2 off s
  | .gBlt t rs1 rs2 off => Sys2Proof.Machine.execGBlt t rs1 rs2 off s
  | .gBge t rs1 rs2 off => Sys2Proof.Machine.execGBge t rs1 rs2 off s
  | .gBltu t rs1 rs2 off => Sys2Proof.Machine.execGBltu t rs1 rs2 off s
  | .gBgeu t rs1 rs2 off => Sys2Proof.Machine.execGBgeu t rs1 rs2 off s
  | .gJal t rd imm => Sys2Proof.Machine.execGJal t rd imm s
  | .gJalr t rd rs1 imm => Sys2Proof.Machine.execGJalr t rd rs1 imm s
  | .gSrr t rd rs1 imm => Sys2Proof.Machine.execGSrr t rd rs1 imm s
  | .gSrw t rd rs1 imm => Sys2Proof.Machine.execGSrw t rd rs1 imm s
  | .gExit t rd rs1 imm => Sys2Proof.Machine.execGExit t rd rs1 imm s
  | .gNop t rd rs1 imm => Sys2Proof.Machine.execGNop t rd rs1 imm s
  | .gStop t rd rs1 imm => Sys2Proof.Machine.execGStop t rd rs1 imm s
  | .gIflush t rd rs1 imm => Sys2Proof.Machine.execGIflush t rd rs1 imm s
  | .jobLoad r cmd => Sys2Proof.Machine.execJobLoad r cmd s
  | .jobUnload r cmd => Sys2Proof.Machine.execJobUnload r cmd s
  | .jobStop r cmd => Sys2Proof.Machine.execJobStop r cmd s
  | .jobPlacement j => Sys2Proof.Machine.execJobPlacement j s
  | .jobThreadsStart j => Sys2Proof.Machine.execJobThreadsStart j s
  | .jobTimeLimit j => Sys2Proof.Machine.execJobTimeLimit j s
  | .jobWaitLimit j => Sys2Proof.Machine.execJobWaitLimit j s
  | .refresh ch => Sys2Proof.Machine.execRefresh ch s
  | .commandIssue ch host streams => Sys2Proof.Machine.execCommandIssue ch host streams s
  | .requestAging ch => Sys2Proof.Machine.execRequestAging ch s
  | .granuleReadComplete ch err1 err2 => Sys2Proof.Machine.execGranuleReadComplete ch err1 err2 s
  | .patrolRead ch block granule => Sys2Proof.Machine.execPatrolRead ch block granule s
  | .caParityAlert ch => Sys2Proof.Machine.execCaParityAlert ch s
  | .readCrcFailure ch => Sys2Proof.Machine.execReadCrcFailure ch s
  | .writeCrcFailure ch => Sys2Proof.Machine.execWriteCrcFailure ch s
  | .retrainingComplete ch ok => Sys2Proof.Machine.execRetrainingComplete ch ok s
  | .rowRemap ch => Sys2Proof.Machine.execRowRemap ch s
  | .deviceTemperatureChange ch celsius => Sys2Proof.Machine.execDeviceTemperatureChange ch celsius s
  | .timingRecentre ch large => Sys2Proof.Machine.execTimingRecentre ch large s
  | .segmentFillComplete segment => Sys2Proof.Machine.execSegmentFillComplete segment s
  | .trainingComplete ok margins => Sys2Proof.Machine.execTrainingComplete ok margins s
  | .patternGeneratorWrite r ch off data => Sys2Proof.Machine.execPatternGeneratorWrite r ch off data s
  | .legLoss leg => Sys2Proof.Machine.execLegLoss leg s
  | .configurationRequest ld leg space addr size data => Sys2Proof.Machine.execConfigurationRequest ld leg space addr size data s
  | .busMasterEnableClear ld => Sys2Proof.Machine.execBusMasterEnableClear ld s
  | .busMasterEnableSet ld => Sys2Proof.Machine.execBusMasterEnableSet ld s
  | .d3hotEntry ld => Sys2Proof.Machine.execD3hotEntry ld s
  | .interruptCauseClear ld value => Sys2Proof.Machine.execInterruptCauseClear ld value s
  | .vectorUnmask ld vector => Sys2Proof.Machine.execVectorUnmask ld vector s
  | .functionLevelReset ld => Sys2Proof.Machine.execFunctionLevelReset ld s
  | .flrComplete ld => Sys2Proof.Machine.execFlrComplete ld s
  | .hotReset => Sys2Proof.Machine.execHotReset s
  | .dmaCompletion dma gen data => Sys2Proof.Machine.execDmaCompletion dma gen data s
  | .dmaCompletionTimeout dma => Sys2Proof.Machine.execDmaCompletionTimeout dma s
  | .invalidateRequest ld itag addr size => Sys2Proof.Machine.execInvalidateRequest ld itag addr size s
  | .invalidationCompletion ld itag => Sys2Proof.Machine.execInvalidationCompletion ld itag s
  | .identify ld payload => Sys2Proof.Machine.execIdentify ld payload s
  | .backgroundOperationStatus ld payload => Sys2Proof.Machine.execBackgroundOperationStatus ld payload s
  | .getResponseMessageLimit ld payload => Sys2Proof.Machine.execGetResponseMessageLimit ld payload s
  | .setResponseMessageLimit ld payload => Sys2Proof.Machine.execSetResponseMessageLimit ld payload s
  | .getEventRecords ld payload => Sys2Proof.Machine.execGetEventRecords ld payload s
  | .clearEventRecords ld payload => Sys2Proof.Machine.execClearEventRecords ld payload s
  | .getEventInterruptPolicy ld payload => Sys2Proof.Machine.execGetEventInterruptPolicy ld payload s
  | .setEventInterruptPolicy ld payload => Sys2Proof.Machine.execSetEventInterruptPolicy ld payload s
  | .getTimestamp ld payload => Sys2Proof.Machine.execGetTimestamp ld payload s
  | .setTimestamp ld payload => Sys2Proof.Machine.execSetTimestamp ld payload s
  | .getSupportedLogs ld payload => Sys2Proof.Machine.execGetSupportedLogs ld payload s
  | .getLog ld payload => Sys2Proof.Machine.execGetLog ld payload s
  | .identifyMemoryDevice ld payload => Sys2Proof.Machine.execIdentifyMemoryDevice ld payload s
  | .getHealthInfo ld payload => Sys2Proof.Machine.execGetHealthInfo ld payload s
  | .getPoisonList ld payload => Sys2Proof.Machine.execGetPoisonList ld payload s
  | .getDcConfiguration ld payload => Sys2Proof.Machine.execGetDcConfiguration ld payload s
  | .getDcExtentList ld payload => Sys2Proof.Machine.execGetDcExtentList ld payload s
  | .aqfortMessage ld payload => Sys2Proof.Machine.execAqfortMessage ld payload s
  | .grantHostTierPages ld payload => Sys2Proof.Machine.execGrantHostTierPages ld payload s
  | .withdrawHostTierPages ld payload => Sys2Proof.Machine.execWithdrawHostTierPages ld payload s
  | .withdrawalComplete ld => Sys2Proof.Machine.execWithdrawalComplete ld s
  | .hostBind ld => Sys2Proof.Machine.execHostBind ld s
  | .hostUnbind ld => Sys2Proof.Machine.execHostUnbind ld s
  | .streamTrainingComplete port width => Sys2Proof.Machine.execStreamTrainingComplete port width s
  | .flitReceive port flit => Sys2Proof.Machine.execFlitReceive port flit s
  | .replayTimeout port => Sys2Proof.Machine.execReplayTimeout port s
  | .laneLockLoss port => Sys2Proof.Machine.execLaneLockLoss port s
  | .streamRetrainComplete port width => Sys2Proof.Machine.execStreamRetrainComplete port width s
  | .pktInit port body => Sys2Proof.Machine.execPktInit port body s
  | .pktRoutes source body => Sys2Proof.Machine.execPktRoutes source body s
  | .pktTimeProbe source arrival body => Sys2Proof.Machine.execPktTimeProbe source arrival body s
  | .pktTimeReply source arrival body => Sys2Proof.Machine.execPktTimeReply source arrival body s
  | .pktAdvance source body => Sys2Proof.Machine.execPktAdvance source body s
  | .pktAqfort source body => Sys2Proof.Machine.execPktAqfort source body s
  | .pktKey source body => Sys2Proof.Machine.execPktKey source body s
  | .pktReserve source body => Sys2Proof.Machine.execPktReserve source body s
  | .pktLineRead source body => Sys2Proof.Machine.execPktLineRead source body s
  | .pktLineWrite source body => Sys2Proof.Machine.execPktLineWrite source body s
  | .pktLineData source body => Sys2Proof.Machine.execPktLineData source body s
  | .pktDone source body => Sys2Proof.Machine.execPktDone source body s
  | .pktMoveOpen source body => Sys2Proof.Machine.execPktMoveOpen source body s
  | .pktMoveData source body => Sys2Proof.Machine.execPktMoveData source body s
  | .pktMoveClose source body => Sys2Proof.Machine.execPktMoveClose source body s
  | .spanFormation spanId members => Sys2Proof.Machine.execSpanFormation spanId members s
  | .memberRequestTimeout member => Sys2Proof.Machine.execMemberRequestTimeout member s
  | .measure r value => Sys2Proof.Machine.execMeasure r value s
  | .chrysalisTimeout => Sys2Proof.Machine.execChrysalisTimeout s
  | .chrysalisOrder r value => Sys2Proof.Machine.execChrysalisOrder r value s
  | .evacuate r cmd => Sys2Proof.Machine.execEvacuate r cmd s
  | .recall r cmd => Sys2Proof.Machine.execRecall r cmd s
  | .evacuationCancel r cmd => Sys2Proof.Machine.execEvacuationCancel r cmd s
  | .pwrgdRise => Sys2Proof.Machine.execPwrgdRise s
  | .pwrgdFall => Sys2Proof.Machine.execPwrgdFall s
  | .perstDeassert profSel nodeId => Sys2Proof.Machine.execPerstDeassert profSel nodeId s
  | .perstAssert => Sys2Proof.Machine.execPerstAssert s
  | .fillComplete => Sys2Proof.Machine.execFillComplete s
  | .controlLoopIteration m => Sys2Proof.Machine.execControlLoopIteration m s
  | .powerCapWrite r watts => Sys2Proof.Machine.execPowerCapWrite r watts s
  | .droopEvent domain ns => Sys2Proof.Machine.execDroopEvent domain ns s
  | .idleTimeout => Sys2Proof.Machine.execIdleTimeout s
  | .channelIdleTimeout ch => Sys2Proof.Machine.execChannelIdleTimeout ch s
  | .hrefclkLoss => Sys2Proof.Machine.execHrefclkLoss s
  | .watchdogExpiry core => Sys2Proof.Machine.execWatchdogExpiry core s
  | .restartComplete core => Sys2Proof.Machine.execRestartComplete core s
  | .controlStateParityError => Sys2Proof.Machine.execControlStateParityError s
  | .poisonRecordFreed => Sys2Proof.Machine.execPoisonRecordFreed s
  | .clearRepairMap r => Sys2Proof.Machine.execClearRepairMap r s
  | .clearErrorHistory r => Sys2Proof.Machine.execClearErrorHistory r s
  | .freeze c => Sys2Proof.Machine.execFreeze c s
  | .freezeRelease r => Sys2Proof.Machine.execFreezeRelease r s
  | .freezeLatch => Sys2Proof.Machine.execFreezeLatch s
  | .snapshotTake c => Sys2Proof.Machine.execSnapshotTake c s
  | .snapshotRelease r => Sys2Proof.Machine.execSnapshotRelease r s
  | .snapshotComplete => Sys2Proof.Machine.execSnapshotComplete s
  | .dumpComplete entry ok => Sys2Proof.Machine.execDumpComplete entry ok s
  | .halt core c => Sys2Proof.Machine.execHalt core c s
  | .resume core r => Sys2Proof.Machine.execResume core r s
  | .stepOneInstruction core r => Sys2Proof.Machine.execStepOneInstruction core r s
  | .coreHalted core => Sys2Proof.Machine.execCoreHalted core s
  | .legTrained leg width rate => Sys2Proof.Machine.execLegTrained leg width rate s
  | .hrefclkReturn => Sys2Proof.Machine.execHrefclkReturn s
  | .farLinkRetrained port => Sys2Proof.Machine.execFarLinkRetrained port s
  | .illegalInstruction t word => Sys2Proof.Machine.execIllegalInstruction t word s
  | .unsupportedMailboxCommand ld opcode payload => Sys2Proof.Machine.execUnsupportedMailboxCommand ld opcode payload s
  | .unknownAqfortType frame => Sys2Proof.Machine.execUnknownAqfortType frame s

end Sys2Proof.Machine
end

