-- ==== Sys2Proof/Safety.lean ====
section
/-!
DEFINITION. The terms statements are made in: what it is for a command to complete with an effect, for a request to be admitted and
granted, and what may not change.
-/
namespace Sys2Proof.Machine

/-- A command completes with the effect that leads from `s` to `t`: it answers the next state that is `t` but for the queue and the
clock, which are as they were. -/
def Takes (c : Instr) (s t : State) : Prop := exec c s = .next { t with pending := s.pending, now := s.now }

/-- The machine taken `k` steps ahead, when none of them stops it. -/
def runs : Nat → State → Option State
  | 0, s => some s
  | k + 1, s => match step s with
    | .next t => runs k t
    | _ => none

/-- The commands of a list run one after the other by themselves, `rest` waiting behind them, when none of them stops. -/
def runAll : List Instr → List Instr → State → Option State
  | [], rest, s => some { s with pending := rest }
  | c :: r, rest, s => match exec c { s with pending := r ++ rest } with
    | .next t => runAll r rest t
    | _ => none

/-- The mailbox of an LD takes a command: the module runs, a host is bound and no function level reset is under way. -/
def MailboxServes (s : State) (ld : Nat) : Prop := s.stage = .running ∧ (s.ld ld).flr = false ∧ s.bound ld = true

/-! ## Span packets and SPDM (16 R546, 10 R348) -/

/-- A packet of a type from a member arrives for this member: a span is formed, the packet is whole, and it names both. -/
def PacketFor (s : State) (source kind : Nat) (b : Bytes) : Prop :=
  s.span.mask ≠ 0 ∧ pktOk kind b = true ∧ field b 2 1 = source ∧ field b 3 1 = s.span.member

/-- The state once an arrived packet has freed its units of the port it came by. -/
def State.received (s : State) (source : Nat) (b : Bytes) : State :=
  match tabGet s.span.routes source with
  | some r => s.freeUnits r.1 b
  | none => s

/-- An SPDM request of a code that the LD's responder takes. -/
def SpdmAsks (s : State) (ld code : Nat) (req : Bytes) : Prop := s.spdmServes ld = true ∧ field req 1 1 = code ∧ 4 ≤ req.length

/-! ## Requests (02 R62, R68, R69, R72, R648) -/

/-- The management port of `s` takes a frame, from `t`: out of reset, a core serves and none restarts, injection leaves the frame. -/
def PortTakes (s t : State) : Prop :=
  s.stage ≠ .off ∧ s.stage ≠ .inReset ∧ s.coresServe = true ∧ s.injectUnit 0xE00 = (0, t) ∧ t.coreRestarts = false

/-- The message type of a write: WRITE, or WRITE_IF where the request carries an expected generation. -/
def writeType (r : Req) : Nat := if r.gen.isSome then 0x12 else 0x11

/-- The body of a write. -/
def writeBody (r : Req) (u o m off : Nat) (data : Bytes) : Bytes :=
  requestBody u o m off data.length (r.gen.map (·.toNat)) data

/-- The state a request is served in: at the management port the session has noted the request. -/
def State.taking (s : State) (r : Req) : State :=
  match r.path with
  | .mgmt z q _ =>
    let s := (s.injectUnit 0xE00).2
    match s.sessions.find? (·.id == z.toNat) with
    | some x => s.setSession { x with heard := s.now, high := Nat.max x.high q.toNat, done := x.done ++ [(q.toNat, [])] }
    | none => s
  | _ => s

/-- A request reaches the server, from `w`: this module is meant and runs; in band the LD has a host and no function level reset;
at the management port injection leaves the frame, no control core restarts, the session is open, the tag is right and the
sequence is new and inside the window. -/
def Admits (s : State) (r : Req) (ty : Nat) (body : Bytes) (w : Sender) : Prop :=
  s.coresServe = true ∧ body.length ≤ 1024 ∧ (s.taking r).isHere r.member.toNat = true ∧
  match r.path with
  | .fmLd => s.stage = .running ∧ w = { fm := true }
  | .mailbox ld => s.stage = .running ∧ (s.ld ld).flr = false ∧ s.bound ld = true ∧ w = { ld := some ld.val }
  | .mgmt z q tag =>
    s.stage ≠ .off ∧ s.stage ≠ .inReset ∧ (s.injectUnit 0xE00).1 = 0 ∧ s.coreRestarts = false ∧
    ∃ x, (s.injectUnit 0xE00).2.sessions.find? (·.id == z.toNat) = some x ∧ w = x.sender ∧
      tag.length = 32 ∧ hmac256 x.key (messageBytes ty z.toNat q.toNat r.member.toNat body) = tag ∧
      x.high ≤ q.toNat + 63 ∧ tabGet x.done q.toNat = none
  | .member _ _ => False

/-- A write of a member that the checks of R647 let through: the request is admitted, the unit, object, member, offset, length and
role are right, and an expected generation is the unit's. -/
def Grants (s : State) (r : Req) (u o m off : Nat) (data : Bytes) (w : Sender) (row : Row) : Prop :=
  Admits s r (writeType r) (writeBody r u o m off data) w ∧
  (s.taking r).access w u o m off data.length true true = .ok row ∧
  ∀ g, r.gen = some g → g.toNat = (s.taking r).obj u 3 0

/-- A write that has had its effect is answered OK. -/
def State.written (t : State) (r : Req) : State := t.answer r.path (writeType r) 0 []

/-! ## Instructions (11 R357, 12 R399, R432) -/

/-- The next instruction of a thread can issue a word: its job runs, nothing contains the module, no wait and no load is in its
way. -/
def Ready (s : State) (t : ThreadId) (w : Nat) (c : Ctx) : Prop :=
  s.thread (ThreadKey t) = some c.x ∧ s.job c.jn = some c.job ∧ c.t = t ∧ c.k = ThreadKey t ∧ c.jn = c.x.job ∧ c.word = w ∧
  s.contained = false ∧ s.threadReady t c.x c.job w = true

/-- An instruction issues: its thread is ready, fetches at an aligned address of its own, and the word is legal. -/
def Issues (s : State) (t : ThreadId) (w : Nat) (c : Ctx) : Prop :=
  Ready s t w c ∧ c.x.pc.toNat % 4 = 0 ∧ s.fetchable t c.x.pc.toNat = true ∧ wordLegal w = true

/-- The core has counted an instruction (11 R391). -/
def State.retired (s : State) (t : ThreadId) : State := s.bump (coreUnit t) 0x16 1

end Sys2Proof.Machine
end

