-- ==== Sys2Proof/Certificates/Slice0/Obligations.lean ====
section
/-!
DEFINITION. The statements about the block that provers are given, one definition each.
-/
section
open Sys2Proof Sys2Proof.Machine

/-- A step runs the command at the front of the queue. For every command and state, a step with the command at the front of the
queue is exec of it on the state with the queue's rest. The queue is the model's own (the block model). (Derived:
spec/opcode_table.json.) -/
def Obligations.StepRunsTheFrontCommand : Prop :=
  ∀ (c : Instr) (rest : List Instr) (s : State),
    step { s with pending := c :: rest } = exec c { s with pending := rest }

/-- Queued commands run one after the other, in order, each once. A queue of n commands that the block serves is served in n
steps, first in first out: the steps lead to the state that exec of the commands in that order leads to, and then exactly the
rest of the queue waits. No command removes, adds or reorders one. (Derived: 17_power_clocks_reset.md R566.) -/
def Obligations.QueueIsServedInOrder : Prop :=
  ∀ (cs rest : List Instr) (s : State),
    runs cs.length { s with pending := cs ++ rest } = runAll cs rest s
    ∧ ∀ t, runAll cs rest s = some t → t.pending = rest

/-- Every command answers a next state, but for a patrol read outside the near tier. In every state every command answers a next
state that keeps the queue, except a patrol read of a granule that the layout of the near tier does not have, which stops
with the fault addressOutside; and that is the one fault. (Derived: spec/opcode_table.json, 14_near_tier_controller.md R460,
14_near_tier_controller.md R488.) -/
def Obligations.EveryCommandAnswersANextState : Prop :=
  ∀ (c : Instr) (s : State),
    (∃ t, exec c s = .next t ∧ t.pending = s.pending)
    ∨ ∃ ch block g, c = .patrolRead ch block g ∧ block ≥ chanBlocks ∧ exec c s = .fault .addressOutside

/-- Only PWRGD_RISE sets the always-on timebase. No command but PWRGD_RISE changes the timebase, which a command takes no time of
(log entry 1): the timebase counts on idle steps, by one nanosecond unless PWRGD is low, and PWRGD_RISE starts it at 0.
(Derived: 01_architecture.md R37, 17_power_clocks_reset.md R566.) -/
def Obligations.OnlyPwrgdRiseSetsTheClock : Prop :=
  (∀ (c : Instr) (s t : State), exec c s = .next t → c ≠ .pwrgdRise → t.now = s.now)
  ∧ (∀ (s t : State), s.stage = .off → exec .pwrgdRise s = .next t → t.now = 0 ∧ (s.perst = true → t.stage = .inReset))
  ∧ (∀ (s t : State), s.pending = [] → s.stage ≠ .off → step s = .next t → t.now = s.now + 1 ∧ t.pending = [])
  ∧ (∀ (s : State), s.pending = [] → s.stage = .off → step s = .next s)

/-- The block right after a fundamental reset. At reset the block waits for PERST_N with the timebase at 0, an empty queue, no
session, no extent, an empty tile map, no event, FAULT_N deasserted, and each LD owns its default region. (Registers the spec
gives no reset value stand as log entry 7 says; no clause is about one.) (Derived: 17_power_clocks_reset.md R566,
17_power_clocks_reset.md R570, 03_address_model.md R96.) -/
def Obligations.ResetState : Prop :=
  State.reset.stage = .inReset ∧ State.reset.now = 0 ∧ State.reset.pending = [] ∧ State.reset.sessions = []
  ∧ State.reset.extents = [] ∧ State.reset.tileMap = [] ∧ State.reset.telem.events = [] ∧ State.reset.faults = 0
  ∧ State.reset.jobs = [] ∧ State.reset.keys = [] ∧ memWf State.reset.near = true ∧ memWf State.reset.caddy = true
  ∧ memWf State.reset.farMem = true ∧ ∀ n : Fin 16, State.reset.region n = some (defaultRegion n)

/-- The byte memories keep one canonical form, and read what was written. Writing a byte or a string keeps the form (addresses
strictly rising, no entry that is the byte an unlisted address reads as), a byte inside the written range reads what was
written, and every other byte reads as before. (That a byte nothing has written reads 0 is the model's choice, log entry 6.)
(Derived: 17_power_clocks_reset.md R568.) -/
def Obligations.MemoryKeepsItsCanonicalForm : Prop :=
  ∀ (m : List (Nat × Byte)) (a i : Nat) (b : Byte) (d : Bytes), memWf m = true →
    memWf (memPut m a b) = true ∧ memWf (memWrite m a d) = true
    ∧ memByte (memPut m a b) i = (if i = a then b else memByte m i)
    ∧ (a ≤ i → i < a + d.length → memByte (memWrite m a d) i = d.getD (i - a) 0)
    ∧ (i < a ∨ a + d.length ≤ i → memByte (memWrite m a d) i = memByte m i)

/-- A raised event reaches the event object, the sessions and the event log. An event leaves its code, time, generation and
detail in the unit's object 008, sends one EVENT message to every open session, appends one record with the next sequence
number to the event log of 4,096, and touches nothing but dictionary objects, LDs, messages and telemetry. (Derived:
02_object_dictionary.md R77, 19_debug_telemetry.md R607.) -/
def Obligations.EventIsRecordedAndSent : Prop :=
  ∀ (s : State) (unit code detail : Nat), ∃ B L O T,
    s.raise unit code detail = { s with objs := B, lds := L, outbox := O, telem := T }
    ∧ (s.raise unit code detail).obj unit 8 0 = code ∧ (s.raise unit code detail).obj unit 8 1 = s.now
    ∧ (s.raise unit code detail).obj unit 8 2 = s.obj unit 3 0 ∧ (s.raise unit code detail).obj unit 8 3 = detail
    ∧ (∀ z ∈ s.sessions, Out.event z.id unit code s.now (s.obj unit 3 0) detail
      (z.eventMessage s.telem.nextEvent unit code s.now (s.obj unit 3 0) detail) ∈ (s.raise unit code detail).outbox)
    ∧ T.nextEvent = s.telem.nextEvent + 1
    ∧ ∃ r, T.events.getLast? = some r ∧ r.seqNo = s.telem.nextEvent ∧ r.time = s.now ∧ r.unit = unit ∧ r.code = code
      ∧ r.gen = s.obj unit 3 0 ∧ r.detail = detail

/-- Signalling a vector sets its cause bit and sends one message, or keeps it pending. A signalled vector sets its bit of the
cause register. With MSI-X enabled and the vector unmasked and Bus master enable set, one message with that vector leaves;
masked, it stands pending and nothing leaves; without Bus master enable it waits. (Derived: 15_host_port.md R522,
15_host_port.md R523, 15_host_port.md R524.) -/
def Obligations.InterruptVectorIsSignalled : Prop :=
  ∀ (s : State) (n k : Nat), (s.ld n).msixEnable = true →
    ((s.ld n).msixFunctionMask = false → (s.ld n).msixMasked.contains k = false → (s.ld n).busMaster = true →
      s.signal n k = (s.setLd n { s.ld n with cause := setBit (s.ld n).cause k true }).emit (.msi n k))
    ∧ ((s.ld n).msixFunctionMask = true ∨ (s.ld n).msixMasked.contains k = true →
      (s.signal n k).outbox = s.outbox ∧ ((s.signal n k).ld n).msixPending.contains k = true
      ∧ ((s.signal n k).ld n).cause = setBit (s.ld n).cause k true)
    ∧ ((s.ld n).msixFunctionMask = false → (s.ld n).msixMasked.contains k = false → (s.ld n).busMaster = false →
      (s.signal n k).outbox = s.outbox ∧ ((s.signal n k).ld n).waitingVec.contains k = true
      ∧ ((s.signal n k).ld n).cause = setBit (s.ld n).cause k true)

/-- The dynamic capacity commands have their effect and are answered. An offer that passes its checks puts its extents into the
extent table as OFFERED and answers Success; a response that names only OFFERED extents grants those and drops the others; a
release of GRANTED extents without declared regions starts RELEASING; a forced release of extents in the table does the same
and takes the regions along; and a RELEASING extent that no access of the LD uses any more leaves the table. The return codes
are the model's (log entry 18). (Derived: 03_address_model.md R90, 03_address_model.md R92, 03_address_model.md R93,
03_address_model.md R94, 03_address_model.md R650.) -/
def Obligations.ExtentCommandsComplete : Prop :=
  (∀ (s t : State) (ld : Fin 16) (l : List OfferExtent), s.stage = .running → s.offer ld l = (retSuccess, t) →
    Takes (.initiateDynamicCapacityAdd ld l) s (t.emit (.fmApi retSuccess)))
  ∧ (∀ (s : State) (ld : Fin 16) (acc : List Nat), s.stage = .running → (s.ld ld).flr = false → s.bound ld = true →
    (∀ a ∈ acc, ∃ x, (a, x) ∈ s.extentsOf ld ∧ x.state = 1) →
    Takes (.addDynamicCapacityResponse ld acc) s
      ((((s.extentsOf ld).filter (fun e => e.2.state == 1)).foldl (fun (s : State) e =>
          if acc.contains e.1 then { s.extentsChanged ld with
            extents := tabSet (s.extentsChanged ld).extents (extKey ld e.1) { e.2 with state := 2 } }
          else (s.extentsChanged ld).withdrawOffer ld e.1 e.2) s).mailboxAnswer ld retSuccess []))
  ∧ (∀ (s : State) (ld : Fin 16) (l : List Nat), s.stage = .running → (s.ld ld).flr = false → s.bound ld = true →
    (∀ e ∈ l, ∃ x, s.extent ld e = some x ∧ x.state = 2 ∧ s.regions.any (s.regionIn x) = false) →
    Takes (.releaseDynamicCapacity ld l) s
      ((l.foldl (fun (s : State) e => match s.extent ld e with
        | some x => if x.state = 2 then s.beginRelease ld e x else s
        | none => s) s).mailboxAnswer ld retSuccess []))
  ∧ (∀ (s : State) (ld : Fin 16) (l : List Nat), s.stage = .running → (∀ e ∈ l, (s.extent ld e).isSome = true) →
    (s.forceRelease ld l).1 = retSuccess ∧ Takes (.forcedRelease ld l) s ((s.forceRelease ld l).2.emit (.fmApi retSuccess)))
  ∧ (∀ (s : State) (ld : Fin 16) (e : Nat) (x : ExtEntry), s.extent ld e = some x → x.state = 3 →
    (∀ a ∈ s.accesses, ¬ (a.ld = ld.val ∧ a.dpa / 2 ^ 30 = e)) → (∀ h ∈ s.held, ¬ (h.ld = ld.val ∧ h.dpa / 2 ^ 30 = e)) →
    Takes (.extentReleaseComplete ld e) s (s.endRelease ld e x))

/-- Drains end, divergences are reported, salvage expires. A unit that is DRAINING passes on when its drain is complete; a
divergence clock that reaches its limit raises event 0x0002, counts, and leaves the unit DEGRADED unless it is FAILED or
DEGRADED already; an overlay in salvage that expires goes. (Derived: 02_object_dictionary.md R53, 02_object_dictionary.md
R54, 02_object_dictionary.md R646, 09_shared_regions.md R309.) -/
def Obligations.UnitStateEventsComplete : Prop :=
  (∀ (s : State) (u : U16), 0xA40 ≤ u.toNat → u.toNat ≤ 0xA7F → (s.unit u.toNat).own = 4 →
    (s.cluster (u.toNat - 0xA40)).draining = false → (s.cluster (u.toNat - 0xA40)).changing = false → s.requested u.toNat = 3 → s.clusterEmpty (clusterOf u.toNat) = true →
    Takes (.drainComplete u) s (s.setOwn u.toNat 3 1))
  ∧ (∀ (s : State) (u : U16), (s.unit u.toNat).own = 4 ∨ ((s.unit u.toNat).own = 5 ∧ (s.unit u.toNat).reason = 2) →
    0x610 ≤ u.toNat → u.toNat ≤ 0x617 → Takes (.drainComplete u) s (s.farPortSettle (u.toNat - 0x610)))
  ∧ (∀ (s : State) (u : U16), unitExists u.toNat = true → (s.unit u.toNat).clock.isSome = true → (s.unit u.toNat).fired = false →
    (s.unit u.toNat).own ≠ 5 → (s.unit u.toNat).own ≠ 6 →
    Takes (.divergenceLimitReached u) s
      ((((s.setUnit u.toNat { s.unit u.toNat with diverged := true, fired := true, clock := none }).raise u.toNat 2 0).bump
        u.toNat 0x14 1).setOwn u.toNat 5 2))
  ∧ (∀ (s : State) (i : Nat) (a : Attach), tabGet s.attaches i = some a → a.kind = 3 →
    Takes (.salvageExpiry i) s (((s.endAttach i).bump 0x900 0x20 1).raiseFor [a.ld] 0x900 0x0151 (attachDetail a)))

/-- The events of a near-tier channel have their effect. A refresh precharges every bank and counts; an aged request becomes a
panic request; a granule that arrives is decoded and goes to its access; a patrol read is queued in the background level, and
what it brings is written back corrected; a parity alert replays the buffered commands; a parity alert, a failed CRC and
their limits count and start retraining; retraining ends in service or, when it fails, with the device lost; a large
recentring retrains; the temperature is kept, and a crossing of the threshold raises event 0x0193. (Derived:
14_near_tier_controller.md R470, 14_near_tier_controller.md R471, 14_near_tier_controller.md R484, 14_near_tier_controller.md
R485, 14_near_tier_controller.md R486, 14_near_tier_controller.md R487, 14_near_tier_controller.md R489.) -/
def Obligations.NearTierEventsComplete : Prop :=
  (∀ (s : State) (ch : Fin 32), s.stage = .running → (s.chan ch).selfRefresh = false → Takes (.refresh ch) s (s.doRefresh ch))
  ∧ (∀ (s : State) (ch : Fin 32) (r : RdReq), r ∈ (s.chan ch).reads → r.since + s.obj 0x500 0x131 0 < s.now →
    Takes (.requestAging ch) s ((s.setChan ch { s.chan ch with reads := (s.chan ch).reads.map (fun r =>
        if r.since + s.obj 0x500 0x131 0 < s.now then { r with panic := true } else r) }).panicClock ch 0 []))
  ∧ (∀ (s t u : State) (ch : Fin 32) (e1 e2 : List ByteErr) (r : RdReq) (rest : List RdReq) (d : GranRead),
    (s.chan ch).inflight = r :: rest → u = s.setChan ch { s.chan ch with inflight := rest, crcRun := 0 } →
    u.takeGranule r.gran r.requester e1 e2 = (d, t) →
    (∀ a, r.patrol = false → t.accesses.find? (·.id == r.access) = some a →
      Takes (.granuleReadComplete ch e1 e2) s (t.partDone a.id (r.gran - 16 * a.entry.location) (u.asBegun a r.gran e1 e2 d)))
    ∧ (∀ b, r.patrol = true → d = some b → ((u.chan (u.granChan r.gran)).queuedRaw r.gran).isSome = false → t.chanLost ch = false →
      Takes (.granuleReadComplete ch e1 e2) s (t.setDeviceGranule ch (t.granPlace r.gran).2 (rsEncode b))))
  ∧ (∀ (s : State) (ch : Fin 32) (block g : Nat) (k : Fin 16), block < chanBlocks →
    g = 16 * blockAt s.parityOn ch.val block + k.val → s.segOpen (s.granSeg g) = true → s.stage = .running →
    Takes (.patrolRead ch block k) s (s.enqueueRead { access := 0, gran := g, requester := 0x59, patrol := true }))
  ∧ (∀ (s t : State) (ch : Fin 32), ((s.chan ch).replayTimes.filter (fun t => decide (t + 10000 ≥ s.now))).length < 4 →
    t = (s.chan ch).retry.foldl (fun (u : State) c => u.replayOne ch c) ((s.chan ch).openRows.foldl (fun (u : State) r => u.shutBank ch r.1) s) →
    Takes (.caParityAlert ch) s (((t.setChan ch { t.chan ch with
        replayTimes := ((s.chan ch).replayTimes ++ [s.now]).filter (fun t => decide (t + 10000 ≥ s.now)) }).bump (0x510 + ch) 0x21 1).bump
        (0x510 + ch) 0x11 1))
  ∧ (∀ (s : State) (ch : Fin 32), (s.chan ch).inflight ≠ [] → (s.chan ch).crcRun + 1 < 4 →
    Takes (.readCrcFailure ch) s ((s.setChan ch { s.chan ch with crcRun := (s.chan ch).crcRun + 1 }).bump (0x510 + ch) 0x22 1))
  ∧ (∀ (s : State) (ch : Fin 32), (s.chan ch).crcRun + 1 < 4 →
    Takes (.writeCrcFailure ch) s ((s.setChan ch { s.chan ch with crcRun := (s.chan ch).crcRun + 1 }).bump (0x510 + ch) 0x22 1))
  ∧ (∀ (s : State) (ch : Fin 32), (s.chan ch).crcRun = 3 →
    Takes (.writeCrcFailure ch) s
      (((s.setChan ch { s.chan ch with crcRun := 4 }).bump (0x510 + ch) 0x22 1).retrain ch))
  ∧ (∀ (s : State) (ch : Fin 32), (s.chan ch).retraining = true →
    Takes (.retrainingComplete ch true) s ((s.setChan ch { s.chan ch with retraining := false }).logUnit 2 4 (0x510 + ch) ch)
    ∧ Takes (.retrainingComplete ch false) s ((s.setChan ch { s.chan ch with retraining := false }).loseDevice ch 0x0101 0))
  ∧ (∀ (s : State) (ch : Fin 32), s.chanLost ch = false → Takes (.timingRecentre ch true) s (s.retrain ch))
  ∧ (∀ (s : State) (ch : Fin 32) (c : Int), sextNat 8 (s.obj 0x500 0x103 0) ≤ c → (s.chan ch).hot = true →
    Takes (.deviceTemperatureChange ch c) s (s.setChan ch { s.chan ch with temperature := c }))
  ∧ (∀ (s : State) (ch : Fin 32) (c : Int), sextNat 8 (s.obj 0x500 0x103 0) ≤ c → (s.chan ch).hot = false →
    ∃ n, Takes (.deviceTemperatureChange ch c) s
      ((s.setChan ch { s.chan ch with temperature := c, hot := true, nextRefresh := n }).raise (0x510 + ch) 0x0193 1))

/-- Command slots, write merges and row remaps of a near-tier channel have their effect. A command slot of a channel that serves
makes a refresh that is due, wakes a channel in self-refresh that has work, and otherwise issues what the order of R462
picks, in a lost channel without its devices; a coded entry at the head of the write queue is merged with its line; a
candidate row of a bank with a spare left is copied, remapped and entered in the repair map with event 0x0192. (Derived:
14_near_tier_controller.md R461, 14_near_tier_controller.md R462, 14_near_tier_controller.md R466, 14_near_tier_controller.md
R490.) -/
def Obligations.ChannelWorkCompletes : Prop :=
  (∀ (s : State) (ch : Fin 32) (a : Fin 17) (l : StreamLevels) (streams : List Nat), s.stage = .running → streams = [l.p0.val, l.p1.val, l.p2.val, l.p3.val] →
    (s.chanDown ch = false → (s.chan ch).retraining = false → (s.chan ch).stallUntil ≤ s.now → (s.chan ch).selfRefresh = false →
      Takes (.commandIssue ch a l) s
        ((if s.refreshDue ch = true then s.doRefresh ch else s.pick ch a streams).panicClock ch a streams))
    ∧ (s.chanDown ch = false → (s.chan ch).retraining = false → (s.chan ch).stallUntil ≤ s.now → (s.chan ch).selfRefresh = true →
      (s.chan ch).reads ≠ [] → Takes (.commandIssue ch a l) s ((s.setChan ch { s.chan ch with
        selfRefresh := false, nextRefresh := s.refreshAfter ch (s.chan ch) s.now, lastUse := s.now }).panicClock ch a streams))
    ∧ (s.chanDown ch = true → Takes (.commandIssue ch a l) s ((s.pickLost ch).panicClock ch a streams)))
  ∧ (∀ (s : State) (ch : Fin 32) (q : WqEntry) (e : FrEntry) (form : TileEntry) (t : State),
    (s.chan ch).firstCoded = some (q, e) →
    form = { s.tgt e.mapIndex with elem := e.ty, frWidth := frCode e.width, location := e.loc, home := 1 } →
    t = s.setChan ch (Chan.drainUpdate { s.chan ch with wq := (s.chan ch).wq.erase q }) →
    (∀ f ∈ form.needs e.line, t.queueTakes (16 * e.loc + f) = true) → s.slotFor (s.granParty q.requester (16 * e.loc)) = true →
    Takes (.frWriteMerge ch) s (((t.mergeEntry e false).slotCheck false e.slot).retryHeld (·.why == .crossbar)))
  ∧ (∀ (s u : State) (ch : Fin 32) (bank row sp : Nat) (rest : List (Nat × Nat)),
    (s.chan ch).candidates = (bank, row) :: rest → s.slotFor 16 = true →
    u = (s.setChan ch { s.chan ch with
      candidates := rest, corrected := tabDel (s.chan ch).corrected (65536 * bank + row) }).correctRow ch bank row → tabGet (s.chan ch).remap (65536 * bank + row) = none →
    firstBelow 64 (fun i => !((s.chan ch).remap.filterMap (fun m => if m.1 / 65536 = bank then some m.2 else none)).contains i)
      = some sp →
    ∃ t : State, Takes (.rowRemap ch) s (t.raise (0x510 + ch) 0x0192 (row + 65536 * bank))
      ∧ tabGet (t.chan ch).remap (65536 * bank + row) = some sp ∧ (t.chan ch).candidates = rest
      ∧ t.repairMap = s.repairMap ++ [{ kind := 1, unit := ch, bank := bank, row := row, spare := sp }]
      ∧ t.near = memWrite u.near (nearKey ch ((3007 + sp) * 2048 + bank * 64) 0)
          (memRead u.near (nearKey ch (row * 2048 + bank * 64) 0) 4096))

/-- A move's steps have their effect. ALLOC of a move the policy may make takes a record, reserves the destination and makes the
tile MOVING; COPY counts the move and writes the new form, or asks for the T3 record first; CONFIRM of a move whose
destination is durable flips the entry and frees the source; a failed T3 page poisons its tiles, and T3 becoming reachable
lets the writes that wait for it go on. (Derived: 06_tiers_and_moves.md R189, 06_tiers_and_moves.md R190,
06_tiers_and_moves.md R191, 06_tiers_and_moves.md R192, 06_tiers_and_moves.md R194, 06_tiers_and_moves.md R196,
06_tiers_and_moves.md R209.) -/
def Obligations.MovesComplete : Prop :=
  (∀ (s t u : State) (ask : MoveAsk) (b : MoveBy) (cls r : Nat), s.contained = false → s.policyPaused = false →
    u = s.watermark (s.payer (s.tgt ask.mapIndex).region) → u.moveAsker ask.mapIndex ask.kind ask.tier = some (b, cls) →
    u.startMove ask.mapIndex ask.kind ask.tier cls b = some (r, t) →
    Takes (.moveAlloc ask) s t ∧ (t.tgt ask.mapIndex).state = 2
    ∧ ∃ m, tabGet t.moves r = some m ∧ m.state = 1 ∧ m.key = ask.mapIndex ∧ m.kind = ask.kind ∧ m.dstTier = ask.tier)
  ∧ (∀ (s : State) (r : Nat) (m : Move), s.contained = false → tabGet s.moves r = some m → m.state = 1 → m.kind ≠ 6 →
    s.serves (fun _ o => o.state == 1 && o.kind != 6) r m = true →
    ((s.tgt m.key).home ≠ 3 → Takes (.moveCopy r) s (State.afterCopy s ((s.bump 0x700 0x16 1).copyMove r m none) r))
    ∧ ((s.tgt m.key).home = 3 → Takes (.moveCopy r) s (State.afterCopy s (State.spillRead { s.bump 0x700 0x16 1 with
        moves := tabSet s.moves r { m with state := 2 } } ((s.tgt m.key).location / 2 ^ 40) ((s.tgt m.key).location % 2 ^ 40)
          (s.tgt m.key).length (.move r) none) r)))
  ∧ (∀ (s : State) (r : Nat) (m : Move), s.contained = false → tabGet s.moves r = some m → s.moveDurable r m = true →
    s.caddyLost m.dst = false →
    s.serves s.moveDurable r m = true →
    Takes (.moveConfirm r) s (((s.flipMove r).writeResiduals m).retryFlips) ∧ tabGet (s.flipMove r).moves r = none)
  ∧ (∀ (s t : State) (ld : Fin 16) (page : Nat), s.retryable ld page ≠ [] → s.spillReachable ld = true →
    t = (s.retryable ld page).foldl (fun (u : State) f => u.spillRead ld (f.2.location % 2 ^ 40) f.2.length f.1 (some page)) s →
    ((∀ f ∈ s.retryable ld page, t.dmaWaits f.1 = false) → Takes (.t3ReadRetry ld page true) s t)
    ∧ Takes (.t3ReadRetry ld page false) s (s.pageFailed ld page ((s.retryable ld page).map (·.1))))
  ∧ (∀ (s : State) (ld : Fin 16), s.spillReachable ld = true →
    Takes (.t3ReachableAgain ld) s (s.retryHeld (fun h => h.why == .unreachable && h.ld == ld.val)))

/-- Homes are freed, held writes go on, the policy's clock and the tiles' ages advance. A discarded home goes back to its tier,
one of class 5 once no home of class 4 and no move of a better class waits; writes held for space, for versions or for a
poison record are tried again, oldest first, when the space is there; the aging epoch counts modulo 256; and a stored tile
not used for 64 epochs has its recency moved on and its frequency halved. (Derived: 03_address_model.md R102,
03_address_model.md R114, 06_tiers_and_moves.md R200, 06_tiers_and_moves.md R201, 09_shared_regions.md R306, 18_ras_faults.md
R589.) -/
def Obligations.TileUpkeepCompletes : Prop :=
  (∀ (s : State) (i : Nat) (o : OldHome), s.oldHomes[i]? = some o →
    (s.oldClass o = 5 → (∀ q ∈ s.oldHomes, s.oldClass q ≠ 4) ∧ ∀ m ∈ s.moves, m.2.state = 1 → 5 ≤ m.2.cls) →
    Takes (.discardedHomeFree i) s ((({ s with oldHomes := s.oldHomes.eraseIdx i }).freeHome o.entry).slotsOf o.entry))
  ∧ (∀ (s : State) (ld : Fin 16), Takes (.heldWriteRelease ld) s (s.retryHeld (fun h => h.why == .space && h.ld == ld.val)))
  ∧ (∀ (s : State) (r : Nat), Takes (.versionSpaceFreed r) s (s.retryHeld (fun h => h.why == .versions &&
      (match s.seen { ld := h.ld, job := h.job } h.dpa with
        | .tile i _ _ _ => s.regionAt i == some r
        | _ => true))))
  ∧ (∀ (s : State), s.poisons.length < 65536 → Takes .poisonRecordFreed s (s.retryHeld (fun h => h.why == .poison)))
  ∧ (∀ (s : State), ∃ t : State, Takes .agingEpochTick s t ∧ t.obj 0x700 0x101 0 = (s.obj 0x700 0x101 0 + 1) % 256
      ∧ t.epochs = s.epochs + 1 ∧ t.tileMap = s.tileMap)
  ∧ (∀ (s : State) (k : Nat), (s.entry k).state ≠ 0 → (s.entry k).state ≠ 4 →
    64 ≤ (s.obj 0x700 0x101 0 + 256 - (s.entry k).recency) % 256 →
    ∃ t : State, Takes (.agingScan k) s t ∧ t.entry k = { s.entry k with
          recency := (s.obj 0x700 0x101 0 + 192) % 256
          frequency := (s.entry k).frequency / 2 }
      ∧ ∀ j, j ≠ k → t.entry j = s.entry j)

/-- A DMA completion ends its request and gives its data to whom it is for. A completion of the present generation on an LD that
may issue requests ends the request: the data goes to the host's read, the thread's load, the move or the mover request it
was asked for. One that is dropped ends the request without its data and counts. A request that times out counts and waits
for its retry; a retry that times out fails its page. (Derived: 15_host_port.md R531, 15_host_port.md R532,
06_tiers_and_moves.md R192, 06_tiers_and_moves.md R209.) -/
def Obligations.DmaCompletionsComplete : Prop :=
  (∀ (s : State) (d : Dma) (b : Bytes), s.dmas.find? (·.id == d.id) = some d → s.dmaDropped d d.gen = false →
    (∀ id a, d.for_ = .access id → s.accesses.find? (·.id == id) = some a →
      Takes (.dmaCompletion d.id d.gen (some b)) s (({ s with dmas := s.dmas.filter (·.id != d.id) }).finishDma a b))
    ∧ (∀ id, d.for_ = .load id → Takes (.dmaCompletion d.id d.gen (some b)) s { s with
        dmas := s.dmas.filter (·.id != d.id)
        loads := s.loads.map (fun l => if l.id = id then { l with arrived := true, data := some b } else l) })
    ∧ (∀ id, d.for_ = .request id → Takes (.dmaCompletion d.id d.gen (some b)) s
        (({ s with dmas := s.dmas.filter (·.id != d.id) }).requestRead id (some b)))
    ∧ (∀ r m, d.for_ = .move r → tabGet s.moves r = some m → Takes (.dmaCompletion d.id d.gen (some b)) s
        (State.afterCopy s (({ s with dmas := s.dmas.filter (·.id != d.id) }).copyMove r m (some b)) r)))
  ∧ (∀ (s : State) (d : Dma) (g : Bool) (data : Option Bytes) (id : Nat), s.dmas.find? (·.id == d.id) = some d →
    s.dmaDropped d g = true → d.for_ = .load id →
    Takes (.dmaCompletion d.id g data) s (({ s with dmas := s.dmas.filter (·.id != d.id) }).bump (0x110 + d.ld) 0x1A 1))
  ∧ (∀ (s : State) (d : Dma) (id : Nat), s.dmas.find? (·.id == d.id) = some d → d.gen = (s.ld d.ld).tagGen →
    s.dmaDropped d d.gen = false → d.for_ = .request id → ∀ u : State,
    u = ({ s with dmas := s.dmas.filter (·.id != d.id) } : State).bump (0x110 + d.ld) 0x1B 1 →
    (d.retry = none → Takes (.dmaCompletionTimeout d.id) s u)
    ∧ ∀ p, d.retry = some p → Takes (.dmaCompletionTimeout d.id) s (u.pageFailed d.ld p [.request id]))

/-- Far modules come, are enumerated, are refused and are lost. A module present for the debounce time is released once the
module is out of reset and not OFFLINE by request; one that passes the rows of R223 is put in service with what enumeration
read, one that fails a row stays refused with event 0x0130; a module that does not train in time leaves its port ABSENT; a
link lost or a completion timeout counts and loses the module; a module that is removed leaves nothing; and a link that has
retrained leaves recovery. (Derived: 07_far_store.md R223, 07_far_store.md R224, 07_far_store.md R225, 07_far_store.md R239,
07_far_store.md R250, 20_module_hardware.md R630.) -/
def Obligations.FarModuleEventsComplete : Prop :=
  (∀ (s : State) (p : Fin 8), s.stage = .running → s.requested (0x610 + p) ≠ 3 → s.farRef = true →
    Takes (.farPresenceStable p) s (s.setFarPort p { s.farPort p with present := true, released := true, releasedAt := s.now }))
  ∧ (∀ (s : State) (p : Fin 8), (s.farPort p).released = true → s.farServes p = false →
    Takes (.farLinkTrainingTimeout p) s (s.setOwn (0x610 + p) 0 4).farSettle)
  ∧ (∀ (s : State) (p : Fin 8) (m : FarModuleInfo), (s.farPort p).released = true → s.farServes p = false →
    m.failed = none → m.width = 8 ∨ m.width = 4 → m.rate = 64 ∨ m.rate = 32 → 137438953472 ≤ m.capacity → m.capacity ≤ 1099511627776 →
    s.requested (0x610 + p) ≠ 3 → ∃ F : List Host.Cell, Takes (.farMemoryActive p m) s
      ((({ s with farMem := F } : State).setFarPort p { s.farPort p with
          capacity := m.capacity, width := m.width, rate := m.rate, ids := m.vendor.toNat + 65536 * m.device.toNat
          serial := m.serial.take 8, refused := false, active := true }).setOwn (0x610 + p) (if s.requested (0x610 + p) = 2 then 2 else 1) 0).farSettle
      ∧ ∀ c ∈ F, c ∈ s.farMem ∧ ¬ (farKey p 0 ≤ c.1 ∧ c.1 < farKey p 0 + 2 ^ 41))
  ∧ (∀ (s : State) (p : Fin 8) (m : FarModuleInfo) (r : Nat), (s.farPort p).released = true → s.farServes p = false →
    farRefused m = some r → ∃ F : List Host.Cell, Takes (.farMemoryActive p m) s
      ((((({ s with farMem := F } : State).setFarPort p { s.farPort p with
          capacity := m.capacity, width := m.width, rate := m.rate, ids := m.vendor.toNat + 65536 * m.device.toNat
          serial := m.serial.take 8, refused := true, active := false }).setOwn (0x610 + p) 6 0x0100).raise
            (0x610 + p) 0x0130 r).farPortSettle p)
      ∧ ∀ c ∈ F, c ∈ s.farMem ∧ ¬ (farKey p 0 ≤ c.1 ∧ c.1 < farKey p 0 + 2 ^ 41))
  ∧ (∀ (s : State) (p : Fin 8), s.farServes p = true →
    Takes (.farLinkDown p) s (((s.setFarPort p { s.farPort p with recovering := false }).bump (0x610 + p) 0x35 1).loseFar p))
  ∧ (∀ (s : State) (p : Fin 8), s.farServes p = true → (s.farPort p).recovering = false →
    Takes (.farCompletionTimeout p) s ((s.bump (0x610 + p) 0x34 1).loseFar p))
  ∧ (∀ (s : State) (p : Fin 8), ∃ t : State, Takes (.farModuleRemoved p) s t ∧ t.farPort p = {}
      ∧ ∀ c ∈ t.farMem, ¬ (farKey p 0 ≤ c.1 ∧ c.1 < farKey p 0 + 2 ^ 41))
  ∧ (∀ (s : State) (p : Fin 8), ∃ t : State, Takes (.farLinkRetrained p) s t ∧ (t.farPort p).recovering = false ∧ t.units = s.units)

/-- The far store writes stripes, seals, cleans and frees segments. A stripe that has waited 20 us is padded and issued; an
acknowledged stripe is stored on its members and may make copies durable; the summary's acknowledgement seals the segment; a
failed chunk write closes the segment and writes its records again elsewhere; a record that has been read goes to its access;
cleaning takes the segment R242 chooses and copies its live tiles; a durable copy whose tile is unchanged is flipped and one
whose tile has moved on is dropped; and an idle segment is freed. (Derived: 07_far_store.md R227, 07_far_store.md R231,
07_far_store.md R234, 07_far_store.md R235, 07_far_store.md R236, 07_far_store.md R238, 07_far_store.md R242, 07_far_store.md
R243, 07_far_store.md R244.) -/
def Obligations.FarStoreCommandsComplete : Prop :=
  (∀ (s : State) (k : Fin 18) (g : Nat) (x : Seg), s.openSegment k = some (g, x) → Takes (.flushTimeout k) s (s.flushStripe g))
  ∧ (∀ (s : State) (stripe : Nat) (x : Seg) (i : Nat × Bytes), s.seg (stripe / 64) = some x → stripe % 64 ≠ 63 →
    x.issued.find? (fun i => i.1 == stripe % 64 && stripe % 64 != 63) = some i →
    Takes (.stripeWriteAck stripe) s (((s.setSeg (stripe / 64) { x with
      issued := x.issued.filter (·.1 != stripe % 64), acked := x.acked ++ [stripe % 64] }).storeStripe x stripe i.2).cleanDurable.arrivals))
  ∧ (∀ (s : State) (g : Nat) (x : Seg) (i : Nat × Bytes), s.seg g = some x →
    x.issued.find? (fun i => i.1 == 63) = some i →
    Takes (.segmentSeal g) s ((s.setSeg g { x with issued := x.issued.filter (·.1 != 63), summarised := true, state := 2, sealedAt := s.now }).storeStripe
      x (64 * g + 63) i.2))
  ∧ (∀ (s : State) (stripe : Nat) (p : Fin 8) (x : Seg), s.seg (stripe / 64) = some x → x.mask.testBit p = true →
    stripe % 64 ≠ 63 → (∃ i ∈ x.issued, i.1 = stripe % 64) →
    Takes (.chunkWriteFailure stripe p) s
      (((s.setSeg (stripe / 64) { x with issued := x.issued.filter (·.1 != stripe % 64), crcs := x.keepStripes (· != stripe % 64) }).closeSegment
        (stripe / 64) (stripeSectors x.mask)).appendAgain x.stream
          (s.farRecs.filter (fun f => f.sector / 131072 == stripe / 64 && (s.recStripes f).2.contains (stripe % 64))) p))
  ∧ (∀ (s : State) (a : Access) (bad : List FarBad), s.accesses.find? (fun y => y.id == a.id && decide (y.wait = .far)) = some a →
    Takes (.farSectorReadComplete a.id bad) s (s.finishFar a bad))
  ∧ (∀ (s : State) (g : Nat) (x : Seg), s.cleanChoice = some g → s.seg g = some x →
    Takes .cleaningCopy s ((s.tilesIn g).foldl (fun s k =>
      if (s.tgt k).region = guestRegion ∧ s.farRoom guestPayer (256 * (s.tgt k).length) = false then s
      else if (s.startClean k).nextCopy > s.nextCopy then (s.startClean k).bump 0x600 0x1C (s.tgt k).length else s.startClean k)
      (s.setSeg g { x with state := 3 })))
  ∧ (∀ (s : State) (i : Nat) (c : CleanCopy), tabGet s.cleanCopies i = some c → c.durable = true → (s.tgt c.key).home = 2 →
    (s.tgt c.key).location = c.old → (s.tgt c.key).state = 1 → (s.tgt c.key).length = c.length →
    Takes (.cleaningFlip i) s
      (({ s with cleanCopies := tabDel s.cleanCopies i }).setTgt c.key { s.tgt c.key with location := c.new }))
  ∧ (∀ (s : State) (i : Nat) (c : CleanCopy), tabGet s.cleanCopies i = some c → c.durable = true → (s.tgt c.key).home = 1 →
    (s.tgt c.key).state ≠ 2 → Takes (.cleaningFlip i) s (({ s with cleanCopies := tabDel s.cleanCopies i }).bump 0x600 0x1D 1))
  ∧ (∀ (s : State) (g : Nat) (x : Seg), s.seg g = some x → x.state = 3 → s.segIdle g = true →
    Takes (.segmentFree g) s
      (((({ s with segs := tabDel s.segs g }).bump 0x600 0x1B 1).farSettle).retryHeld (fun h => h.why == HoldFor.space)))

/-- Host reads and writes enter the data path; invalidations are taken and completed. A host read that a committed decoder claims
counts and reads its line; a host write counts and writes its enabled bytes; an invalidate request empties the covered pages
from the cache of translations and counts; and its completion leaves once no DMA read uses a covered page. (Derived:
15_host_port.md R526, 15_host_port.md R527, 06_tiers_and_moves.md R188, 01_architecture.md R27.) -/
def Obligations.HostAccessesComplete : Prop :=
  (∀ (s : State) (ld : Fin 16) (leg : Fin 2) (hpa : U64) (tag : U16) (dpa : Nat), (s.ld ld).hdm hpa.toNat = some dpa →
    s.legReaches leg = true → Takes (.hostRead ⟨ld, leg⟩ hpa tag) s
      (((s.hostLine.bump (0x110 + ld) 0x16 1).markedAdvance ld (dpa / 64 * 64)).hostRead ld leg (dpa / 64 * 64) tag.toNat))
  ∧ (∀ (s : State) (ld : Fin 16) (leg : Fin 2) (hpa mask : U64) (data : Bytes) (tag : U16) (dpa : Nat),
    (s.ld ld).hdm hpa.toNat = some dpa → s.legReaches leg = true →
    Takes (.hostWrite ⟨ld, leg⟩ hpa mask data tag) s ((s.hostLine.bump (0x110 + ld) 0x17 1).write
      { why := .flip, ld := ld, dpa := dpa / 64 * 64, mask := mask.toNat, data := slice data 0 64, by_ := .host leg tag.toNat, since := s.now }))
  ∧ (∀ (s : State) (ld : Fin 16) (itag : Nat) (addr size : U64), s.hostReaches = true → (s.ld ld).invalidations.length < 32 →
    (∀ i ∈ (s.ld ld).invalidations, i.1 ≠ itag) →
    ∃ t : State, Takes (.invalidateRequest ld itag addr size) s (t.bump (0x110 + ld) 0x1C 1)
      ∧ (∀ e ∈ (t.ld ld).atc, pageCovered addr.toNat size.toNat e.1 = false)
      ∧ (itag, addr.toNat, size.toNat) ∈ (t.ld ld).invalidations)
  ∧ (∀ (s : State) (ld : Fin 16) (i : Nat × Nat × Nat), (s.ld ld).invalidations.find? (·.1 == i.1) = some i →
    (∀ d ∈ s.dmas, d.ld = ld.val → ∀ v ∈ d.vas, pageCovered i.2.1 i.2.2 v = false) →
    Takes (.invalidationCompletion ld i.1) s
      ((s.setLd ld { s.ld ld with invalidations := (s.ld ld).invalidations.filter (·.1 != i.1) }).emit (.invalDone ld i.1)))

/-- The mailbox commands that read answer with what the state holds. A mailbox command of the right length that only reads is
answered Success with its output payload, and changes nothing else. (Layouts and return codes are the model's reading of CXL
3.1, log entries 18 and 24.) (Derived: 15_host_port.md R528.) -/
def Obligations.MailboxReadsAnswer : Prop :=
  ∀ (s : State) (ld : Fin 16) (b : Bytes), MailboxServes s ld →
    (b.length = 0 → Takes (.identify ld b) s (s.mailboxAnswer ld retSuccess (leBytes 4 (s.cfgWord ld 0 0) ++ leBytes 4 (s.cfgWord ld 0 0x2C)
      ++ serialText.take 8 ++ leBytes 1 12 ++ leBytes 1 3 ++ s.firmwareText ++ logSizes)))
    ∧ (b.length = 0 → (s.ld ld).background = none → (s.ld ld).backgroundDone = none →
      Takes (.backgroundOperationStatus ld b) s (s.mailboxAnswer ld retSuccess (zeros 8)))
    ∧ (∀ op t, b.length = 0 → (s.ld ld).background = some (op, t) →
      Takes (.backgroundOperationStatus ld b) s (s.mailboxAnswer ld retSuccess (leBytes 2 1 ++ leBytes 2 op ++ zeros 4)))
    ∧ (b.length = 0 → Takes (.getResponseMessageLimit ld b) s (s.mailboxAnswer ld retSuccess (leBytes 1 (Nat.log2 (s.ld ld).respLimit))))
    ∧ (b.length = 1 → field b 0 1 ≤ 4 → ∃ p, Takes (.getEventRecords ld b) s (s.mailboxAnswer ld retSuccess p)
      ∧ (((tabGet (s.ld ld).logs (field b 0 1)).getD []).length ≤ ((s.ld ld).respLimit - 32) / 128 →
        field p 20 2 = ((tabGet (s.ld ld).logs (field b 0 1)).getD []).length % 65536))
    ∧ (b.length = 0 → Takes (.getEventInterruptPolicy ld b) s (s.mailboxAnswer ld retSuccess
      ((List.range 5).map (fun k => BitVec.ofNat 8 (policyByte (nth (s.ld ld).policy k (k + 1)))))))
    ∧ (b.length = 0 → Takes (.getTimestamp ld b) s (s.mailboxAnswer ld retSuccess (leBytes 8 (wrapInt 64 ((s.now : Int) + (s.ld ld).tsOffset)))))
    ∧ (b.length = 0 → Takes (.getSupportedLogs ld b) s (s.mailboxAnswer ld retSuccess
      (leBytes 2 1 ++ zeros 6 ++ effectsUuid ++ leBytes 4 effectsLog.length)))
    ∧ (b.length = 24 → b.take 16 = effectsUuid → field b 16 4 + field b 20 4 ≤ effectsLog.length →
      Takes (.getLog ld b) s (s.mailboxAnswer ld retSuccess (slice effectsLog (field b 16 4) (field b 20 4))))
    ∧ (b.length = 0 → Takes (.identifyMemoryDevice ld b) s (s.mailboxAnswer ld retSuccess
      (s.firmwareText ++ zeros 32 ++ logSizes ++ zeros 4 ++ leBytes 3 4096 ++ zeros 2 ++ zeros 2 ++ leBytes 2 256)))
    ∧ (b.length = 0 → ∃ p, Takes (.getHealthInfo ld b) s (s.mailboxAnswer ld retSuccess p) ∧ p.length = 18
      ∧ field p 0 1 = (if s.actual 0 = 6 then 4 else if s.actual 0 = 5 then 2 else 0))
    ∧ (b.length = 16 → ∃ p, Takes (.getPoisonList ld b) s (s.mailboxAnswer ld retSuccess p)
      ∧ ((s.poisonedDpas ld).filter (fun d => decide (field b 0 8 < d + 65536 ∧ d < field b 0 8 + 64 * field b 8 8)) = [] → p = zeros 32))
    ∧ (b.length = 2 → field b 1 1 = 0 → ∃ p, Takes (.getDcConfiguration ld b) s (s.mailboxAnswer ld retSuccess p)
      ∧ field p 1 1 = (if field b 0 1 ≥ 1 then 1 else 0))
    ∧ (b.length = 8 → field b 4 4 = 0 → ∃ p, Takes (.getDcExtentList ld b) s (s.mailboxAnswer ld retSuccess p)
      ∧ field p 4 4 = ((s.extentsOf ld).filter (fun e => e.2.state == 2)).length % 2 ^ 32)

/-- The mailbox commands that write set what they name and answer Success. The response limit, the event interrupt policy and the
timestamp are kept; cleared records leave their log; granted and withdrawn pages pass into the page table's checks; a
withdrawal whose pages are free is complete and signals vector 0 when it ran in the background; a command the mailbox does
not have is answered Unsupported. (Derived: 15_host_port.md R528, 15_host_port.md R525, 15_host_port.md R530, 15_host_port.md
R537, 06_tiers_and_moves.md R206.) -/
def Obligations.MailboxWritesComplete : Prop :=
  (∀ (s : State) (ld : Fin 16) (b : Bytes), MailboxServes s ld →
    (b.length = 1 → 8 ≤ field b 0 1 → field b 0 1 ≤ 12 → Takes (.setResponseMessageLimit ld b) s
      ((s.setLd ld { s.ld ld with respLimit := 2 ^ field b 0 1 }).mailboxAnswer ld retSuccess (leBytes 1 (field b 0 1))))
    ∧ (b.length = 6 + 2 * field b 2 1 → field b 0 1 ≤ 4 → (field b 1 1).testBit 0 = true → Takes (.clearEventRecords ld b) s
      ((s.setLd ld { s.ld ld with
          logs := tabDel (s.ld ld).logs (field b 0 1)
          logOverflow := tabDel (s.ld ld).logOverflow (field b 0 1) }).mailboxAnswer ld retSuccess []))
    ∧ (∀ recs, b.length = 6 + 2 * field b 2 1 → field b 0 1 ≤ 4 → (field b 1 1).testBit 0 = false →
      recs = (tabGet (s.ld ld).logs (field b 0 1)).getD [] →
      (recs.take (field b 2 1)).map (·.1) = (List.range (field b 2 1)).map (fun i => field b (6 + 2 * i) 2) →
      Takes (.clearEventRecords ld b) s ((s.setLd ld { s.ld ld with
          logs := tabSet (s.ld ld).logs (field b 0 1) (recs.drop (field b 2 1))
          logOverflow := tabDel (s.ld ld).logOverflow (field b 0 1) }).mailboxAnswer ld retSuccess []))
    ∧ (b.length = 4 → (∀ k, k < 4 → field b k 1 % 4 = 1 → field b k 1 / 16 < 6) → (∀ k, k < 4 → field b k 1 % 4 ≤ 1) →
      ∃ t : State, Takes (.setEventInterruptPolicy ld b) s (t.mailboxAnswer ld retSuccess [])
        ∧ ∀ k, k < 4 → nth (t.ld ld).policy k 0 = (if field b k 1 % 4 = 1 then field b k 1 / 16 else 255))
    ∧ (b.length = 8 → Takes (.setTimestamp ld b) s
      ((s.setLd ld { s.ld ld with tsOffset := (leNat b : Int) - s.now, tsSet := true }).mailboxAnswer ld retSuccess []))
    ∧ (b.length = 8 + 16 * field b 0 2 → s.grantBad ld b = false → Takes (.grantHostTierPages ld b) s
      (((s.setLd ld { s.ld ld with pages := (grantedPages b).foldl (fun ps p =>
        tabSet ps p.1 { translate := (field b 2 1).testBit 0, unusable := false, addr := p.2 }) (s.ld ld).pages }).retryLocal).pumpAll.mailboxAnswer
          ld retSuccess []))
    ∧ (∀ p t, s.withdrawPages ld b = (retBackground, p, t) →
      Takes (.withdrawHostTierPages ld b) s (t.mailboxAnswer ld retBackground p))
    ∧ (∀ op : U16, commandEffects.any (·.1 == op.toNat) = false →
      Takes (.unsupportedMailboxCommand ld op b) s (s.mailboxAnswer ld retUnsupported [])))
  ∧ (∀ (s : State) (ld : Fin 16) (op : Nat × Nat), (s.ld ld).withdrawing ≠ [] → (s.ld ld).background = some op →
    s.spillTaken ld (fun p => (s.ld ld).withdrawing.contains p) = 0 →
    ∃ t : State, Takes (.withdrawalComplete ld) s (t.signal ld 0) ∧ (t.ld ld).withdrawing = [] ∧ (t.ld ld).background = none
      ∧ (t.ld ld).backgroundDone = some (0xC821, 0, 0) ∧ ∀ p ∈ (t.ld ld).pages, p.1 ∉ (s.ld ld).withdrawing)

/-- Binding, resets, power states, legs and interrupts have their effect. A host that binds gives its LD a host key and its
requested state and disarms injection; one that unbinds leaves its attachments in salvage and the LD ABSENT; Bus master
enable, D3hot and function level reset do what R532 to R534 say; a leg that trains carries the host's traffic again; clearing
cause bits and unmasking a vector send what waits; a write of a cadence's lines moves its position. (Derived: 15_host_port.md
R506, 15_host_port.md R508, 15_host_port.md R509, 15_host_port.md R511, 15_host_port.md R523, 15_host_port.md R532,
15_host_port.md R533, 15_host_port.md R534, 15_host_port.md R537, 08_cadence.md R254.) -/
def Obligations.HostPortEventsComplete : Prop :=
  (∀ (s : State) (ld : Fin 16), s.bound ld = false → s.stage = .running →
    Takes (.hostBind ld) s (linkUnits.foldl (fun s u => s.disarm 2 u)
      ((s.createHostKey ld).setOwn (0x110 + ld.val) ((s.createHostKey ld).requested (0x110 + ld.val)) 0)))
  ∧ (∀ (s : State) (ld : Fin 16), s.bound ld = true →
    Takes (.hostUnbind ld) s ((s.salvage ld).setOwn (0x110 + ld.val) 0 4))
  ∧ (∀ (s : State) (ld : Fin 16), Takes (.busMasterEnableClear ld) s (s.clearMaster ld) ∧ Takes (.busMasterEnableSet ld) s (s.setMaster ld)
    ∧ Takes (.d3hotEntry ld) s (s.enterD3 ld))
  ∧ (∀ (s : State) (ld : Fin 16), s.stage = .running → Takes (.functionLevelReset ld) s (s.beginFlr ld))
  ∧ (∀ (s : State) (ld : Fin 16), ∃ t : State, Takes (.flrComplete ld) s t ∧ (t.ld ld).flr = false)
  ∧ (∀ s : State, s.stage = .running → ((s.leg 0).up || (s.leg 1).up) = true → ∃ k : Nat, k < 2 ∧ (s.leg k).up = true ∧
    Takes .hotReset s (((List.range 17).foldl (fun t n => State.resetLd t n true) { s with fresh := s.fresh + 1 }).loseLeg k))
  ∧ (∀ (s : State) (k : Fin 2), ((s.leg (1 - k.val)).up = false → Takes (.legLoss k) s (s.loseLeg k))
    ∧ ((s.leg k).up = true → (s.leg (1 - k.val)).up = true →
      Takes (.legLoss k) s ((s.loseLeg k).logUnit 2 5 (0x101 + k.val) (0x101 + k.val))))
  ∧ (∀ (s : State) (k : Fin 2) (w r : Nat), s.stage = .running → (s.leg k).disabled = false → (s.leg k).up = false →
    s.legExists k = true → s.hrefclk = true → s.fw.recovery = false → (s.leg (1 - k.val)).up = true →
    (s.unit (0x101 + k.val)).own ≠ 3 → ((s.unit (0x101 + k.val)).own = 5 → (s.unit (0x101 + k.val)).reason ≠ 2) →
    Takes (.legTrained k w r) s
      { s.setLeg k { s.leg k with up := true, width := w, rate := r, ltssm := 0x11 } with allDown := none })
  ∧ (∀ (s : State) (ld : Fin 16) (v : U32), (s.ld ld).memSpace = true → Takes (.interruptCauseClear ld v) s (s.clearCause ld v.toNat))
  ∧ (∀ (s : State) (ld : Fin 16), Takes (.vectorUnmask ld 64) s ((s.setLd ld { s.ld ld with msixFunctionMask := false }).settleVectors ld))
  ∧ (∀ (s : State) (ld : Fin 16) (k : Nat), k < 64 → (s.ld ld).msixEnable = true →
    Takes (.vectorUnmask ld k) s (s.setVectorMask ld k false))
  ∧ (∀ (s : State) (ld : Fin 16) (c : Fin 64) (p : U64), c.val / 4 = ld.val → (s.ld ld).memSpace = true →
    Takes (.positionAdvance ld c p) s (s.drivenAdvance c.val p.toNat) ∧ Takes (.rewind ld c p) s (s.rewindTo c.val p.toNat))
  ∧ (∀ (s : State) (ld : Fin 17) (leg : Fin 2) (addr size : Nat), s.stage = .running → (s.leg leg).up = true →
    ((s.ld ld).memSpace = true → addr + size ≤ 0x40000 →
      Takes (.configurationRequest ld leg .bar0 addr size none) s (s.emit (.config ld leg 0 (s.barRead ld addr size)))
      ∧ ∀ b, Takes (.configurationRequest ld leg .bar0 addr size (some b)) s (s.barWrite ld addr b State.doorbell))
    ∧ (s.romDecodes ld = true → addr + size ≤ 2 ^ 22 →
      Takes (.configurationRequest ld leg .rom addr size none) s (s.emit (.config ld leg 0 (s.romRead addr size))))
    ∧ (((s.leaveChrysalis ld).ld ld).flr = false → addr < 4096 → addr % 4 + size ≤ 4 → size ≠ 0 →
      Takes (.configurationRequest ld leg .config addr size none) s
        ((s.leaveChrysalis ld).emit (.config ld leg 0 ((s.leaveChrysalis ld).cfgRead ld leg addr size)))
      ∧ ∀ b, Takes (.configurationRequest ld leg .config addr size (some b)) s
        (((s.leaveChrysalis ld).cfgPut ld leg (addr / 4 * 4) (leNat (b.take size) * 256 ^ (addr % 4))
          ((2 ^ size - 1) * 2 ^ (addr % 4)) State.doeRun).emit (.config ld leg 0 []))))

/-- The SPDM responder answers each request, in the order of the protocol. VERSION starts a connection; capabilities, algorithms,
digests, certificates, challenge, measurements and the key exchange are answered once what precedes them has passed, and the
responder notes how far the connection has come; IDE_KM is answered within a secured session. (The layouts are the model's
reading of SPDM 1.2, log entry 29.) (Derived: 10_isolation_security.md R348, 15_host_port.md R515.) -/
def Obligations.SpdmRequestsAnswer : Prop :=
  ∀ (s : State) (ld : Fin 16) (req : Bytes),
    (SpdmAsks s ld 0x84 req → ∃ (x : Spdm) (r : Bytes),
      Takes (.getVersion ld req) s ((s.setSpdm ld x).emit (.spdm ld r)) ∧ x.version = true ∧ x.algorithms = false ∧ field r 1 1 = 4)
    ∧ (SpdmAsks s ld 0xE1 req → (s.spdmOf ld).version = true → ∃ (x : Spdm) (r : Bytes),
      Takes (.getCapabilities ld req) s ((s.setSpdm ld x).emit (.spdm ld r)) ∧ x.capabilities = true ∧ field r 1 1 = 0x61)
    ∧ (SpdmAsks s ld 0xE3 req → (s.spdmOf ld).capabilities = true → 32 ≤ req.length → ∃ (x : Spdm) (r : Bytes),
      Takes (.negotiateAlgorithms ld req) s ((s.setSpdm ld x).emit (.spdm ld r)) ∧ x.algorithms = true ∧ field r 1 1 = 0x63)
    ∧ (SpdmAsks s ld 0x81 req → (s.spdmOf ld).algorithms = true → ∃ x : Spdm,
      Takes (.getDigests ld req) s ((s.setSpdm ld x).emit (.spdm ld (leBytes 1 0x12 ++ leBytes 1 1 ++ zeros 1 ++ leBytes 1 1 ++ sha256 spdmChain))))
    ∧ (SpdmAsks s ld 0x82 req → (s.spdmOf ld).algorithms = true → field req 2 1 = 0 → 8 ≤ req.length → field req 4 2 < spdmChain.length →
      ∃ (x : Spdm) (part : Bytes),
        part = slice spdmChain (field req 4 2) (Nat.min (field req 6 2) (spdmChain.length - field req 4 2))
        ∧ Takes (.getCertificate ld req) s ((s.setSpdm ld x).emit (.spdm ld (leBytes 1 0x12 ++ leBytes 1 2 ++ zeros 2 ++ leBytes 2 part.length
          ++ leBytes 2 (spdmChain.length - field req 4 2 - part.length) ++ part))))
    ∧ (SpdmAsks s ld 0x83 req → (s.spdmOf ld).algorithms = true → field req 2 1 = 0 → 36 ≤ req.length → field req 3 1 = 0 →
      ∃ (x : Spdm) (r : Bytes), Takes (.challenge ld req) s ((s.tick.2.setSpdm ld x).emit (.spdm ld r)) ∧ field r 1 1 = 3)
    ∧ (SpdmAsks s ld 0xE0 req → (s.spdmOf ld).algorithms = true → field req 3 1 = 0 → (field req 2 1).testBit 0 = false →
      ∃ (x : Spdm) (r : Bytes), Takes (.getMeasurements ld req) s ((s.tick.2.setSpdm ld x).emit (.spdm ld r)) ∧ field r 1 1 = 0x60 ∧ field r 2 1 = 6)
    ∧ (SpdmAsks s ld 0xE4 req → (s.spdmOf ld).algorithms = true → field req 3 1 = 0 → 426 ≤ req.length → field req 2 1 = 0 →
      ∃ (x : Spdm) (r : Bytes), Takes (.keyExchange ld req) s ((s.tick.2.tick.2.setSpdm ld x).emit (.spdm ld r)) ∧ x.session.isSome = true
        ∧ field r 1 1 = 0x64)
    ∧ (s.spdmServes ld = true → (s.spdmOf ld).session.isSome = true → field req 0 1 = 0 → field req 1 1 = 4 →
      Takes (.ideKm ld req) s ((s.setSpdm ld { s.spdmOf ld with ide := true }).emit (.spdm ld (zeros 1 ++ leBytes 1 5 ++ slice req 2 6))))

/-- Jobs are placed, started and stopped at their limits, scrubs end, and mover requests are taken and completed. A waiting job
first in its LD's order gets the clusters that fit and the wait is counted; a placed job whose clusters have scrubbed starts;
a run past its time or wait limit stops with status 0x10 or 0x14; a scrub that ends gives the cluster its context, with its
memory zero and its threads gone; an idle cluster's clock stops; a mover request with the right bytes is worked on; and a
finished one writes its completion record and wakes its thread. (Derived: 13_jobs.md R443, 13_jobs.md R447, 13_jobs.md R449,
13_jobs.md R450, 06_tiers_and_moves.md R215, 06_tiers_and_moves.md R216, 11_compute_architecture.md R367,
17_power_clocks_reset.md R575.) -/
def Obligations.JobAndMoverEventsComplete : Prop :=
  (∀ (s : State) (j : Fin 1024) (x : Job) (l : List Nat), s.job j = some x → s.contained = false → x.state = 2 → x.clusters = [] →
    s.firstWaiting x = true → s.placement j x = some l →
    Takes (.jobPlacement j) s (l.foldl (fun (s : State) c =>
        if (((s.startClock c).setCluster c { (s.startClock c).cluster c with job := some j.val }).cluster c).context = jobLd j then
          (s.startClock c).setCluster c { (s.startClock c).cluster c with job := some j.val }
        else ((s.startClock c).setCluster c { (s.startClock c).cluster c with job := some j.val }).beginScrub c (jobLd j)
          (((s.startClock c).setCluster c { (s.startClock c).cluster c with job := some j.val }).obj (0xA40 + c) 0x100 0 != jobLd j))
      ((s.setJob j { x with clusters := l, placedCount := l.length }).bump 0xA00 0x22 (s.now - x.firedAt))))
  ∧ (∀ (s : State) (j : Fin 1024) (x : Job), s.job j = some x → s.contained = false → x.state = 2 → x.clusters ≠ [] →
    (∀ c ∈ x.clusters, (s.cluster c).scrubbing = false) → Takes (.jobThreadsStart j) s (s.startRun j x))
  ∧ (∀ (s : State) (j : Fin 1024) (x : Job), s.job j = some x → x.state = 3 →
    (x.timeLimit ≠ 0 → Takes (.jobTimeLimit j) s (s.stopRun j 0x10))
    ∧ (x.waitLimit ≠ 0 → s.jobWaits j x = true → Takes (.jobWaitLimit j) s (s.stopRun j 0x14)))
  ∧ (∀ (s : State) (c : Fin 64), (s.cluster c).scrubbing = true → (s.cluster c).lookup = none →
    (s.unit (0xA40 + c)).own ≠ 4 → ((s.unit (0xA40 + c)).own = 5 → (s.unit (0xA40 + c)).reason ≠ 2) →
    ∃ t : State, Takes (.scrubComplete c) s (t.raise (0xA40 + c) 0x0170 (s.cluster c).scrubTo)
      ∧ (t.cluster c).context = (s.cluster c).scrubTo ∧ (t.cluster c).scrubbing = false ∧ (t.cluster c).accs = []
      ∧ (∀ th ∈ t.threads, th.1 / 64 ≠ c.val)
      ∧ (∀ m ∈ t.caddy, ¬ (c.val * 2 ^ 22 + s.homeBlocks c * 1024 ≤ m.1 ∧ m.1 < c.val * 2 ^ 22 + 2 ^ 22)))
  ∧ (∀ (s : State) (c : Fin 64), (s.cluster c).job = none → (s.cluster c).queue = [] → (s.cluster c).scrubbing = false →
    (s.cluster c).clockOn = true →
    Takes (.clusterClockStop c) s (s.setCluster c { s.cluster c with clockOn := false, clockStop := s.now }))
  ∧ (∀ (s : State) (j op k : Nat) (b : Bytes) (q : MvReq), s.contained = false → s.policyPaused = false →
    s.mvReqs.find? (fun q => q.job == j && q.bytes == b && !q.started && q.done.isNone && q.op == op) = some q →
    q.formed = true → s.outranked q = false → s.ownTile (jobLd j) q.tileAddr = some k →
    (op = 1 → Takes (.mvMove j b) s (s.reqMove q k)) ∧ (op = 2 → Takes (.mvCount j b) s (s.reqCount q))
    ∧ (op = 3 → Takes (.mvEncode j b) s (s.reqReads q k State.reqEncode))
    ∧ (op = 4 → Takes (.mvDecode j b) s (s.reqReads q k State.reqDecode))
    ∧ (op = 5 → Takes (.mvEncipher j b) s (s.reqEncipher q))
    ∧ (op = 6 → Takes (.mvCompare j b) s (s.reqReads q k State.reqCompare)))
  ∧ (∀ (s : State) (i st res : Nat) (q : MvReq) (x : Job), s.mvReqs[i]? = some q → q.done = some (st, res) → 1 ≤ q.op → q.op ≤ 4 →
    s.mvReqs.find? (·.id == q.id) = some q → s.job q.job = some x →
    ∃ t : State, (∀ y ∈ t.mvReqs, y.id ≠ q.id)
      ∧ Takes (.moverCompletion i) s
        (((match t.place q.job x q.completion 16 with
          | .window c w => t.windowWrite c w (completionRecord q st res s.now)
          | _ => t).endWaits (fun (t : Thread) => t.job == q.job && decide (t.wait = TWait.mover q.completion)) false).jobCheck q.job))

/-- Power, reset, boot, training and the fill lead the module through its stages. PWRGD falling loses every content and stops the
timebase; PERST_N asserted is a fundamental reset; PERST_N deasserted samples the straps and boots the image the flash
directory names, as PWRGD rising does with PERST_N deasserted already; a trained near tier starts the fill, an untrainable
one asserts FAULT_N with cause 4; the fill's end zeroes the near tier and the caddies and enables CXL.mem; a trial boot that
never enables CXL.mem goes back to the other slot. (Derived: 17_power_clocks_reset.md R566, 17_power_clocks_reset.md R567,
17_power_clocks_reset.md R568, 17_power_clocks_reset.md R569, 17_power_clocks_reset.md R570, 10_isolation_security.md R346,
14_near_tier_controller.md R498.) -/
def Obligations.PowerSequenceCompletes : Prop :=
  (∀ (s : State), s.stage = .off → (s.perst = true → exec .pwrgdRise s = .next { s with stage := .inReset, now := 0 })
    ∧ (s.perst = false → exec .pwrgdRise s = .next { State.boot { s with stage := .inReset, now := 0 } with pending := s.pending, now := 0 }))
  ∧ (∀ (s : State), s.stage ≠ .off → ∃ t : State, Takes .pwrgdFall s t ∧ t.stage = .off ∧ t.tileMap = [] ∧ t.near = [] ∧ t.keys = []
    ∧ t.sessions = [] ∧ t.jobs = [])
  ∧ (∀ (s : State), s.stage = .running → ∃ t : State, Takes .perstAssert s t ∧ t.stage = .inReset ∧ t.tileMap = [] ∧ t.near = []
    ∧ t.keys = [] ∧ t.sessions = [] ∧ t.profiles = s.profiles ∧ t.repairMap = s.repairMap ∧ t.errHistory = s.errHistory)
  ∧ (∀ (s : State) (p : Fin 4) (n : Fin 16), s.stage = .inReset →
    Takes (.perstDeassert p n) s (State.boot { s with profSel := p, nodeId := n, perst := false }))
  ∧ (∀ (s : State) (ok : U32) (b : Bytes), s.stage = .starting → s.fw.recovery = false → s.parityOn = false → ok.toNat = 2 ^ 32 - 1 →
    ∃ t : State, Takes (.trainingComplete ok b) s (({ t with stage := .filling }).releaseFar) ∧ t.trainedAt = s.now)
  ∧ (∀ (s : State), s.stage = .filling → ∃ t : State, Takes .fillComplete s t ∧ t.stage = .running ∧ t.near = [] ∧ t.caddy = []
    ∧ t.fw.confirmed = true ∧ t.fw.onTrial = false ∧ (s.fw.onTrial = true → t.fw.trial = false))
  ∧ (∀ (s : State), s.stage = .filling → s.fw.onTrial = true → s.fw.confirmed = false → s.fw.recovery = false →
    ∀ (t : State) (image : FwImage), t = { s.fundamental with fw := { s.fundamental.fw with active := 1 - s.fw.running, trial := false } } →
    t.bootImage (1 - s.fw.running) = some image → Takes .trialBootTimeout s (t.bootFrom (1 - s.fw.running) image 2))

/-- The power manager's events have their effect. A control loop iteration keeps the temperatures and the power and applies its
rules; a droop counts; a quiet module evacuates its upper segments and enters deep idle when they are empty; an idle channel
enters self-refresh; a filled segment is zero and open again; the loss of HREFCLK switches the far references, raises event
0x01D0 and loses the legs, and its return is noted; chrysalis begins after the time without a leg; the QoS mode comes into
force with event 0x0160. (Derived: 17_power_clocks_reset.md R574, 17_power_clocks_reset.md R576, 17_power_clocks_reset.md
R579, 17_power_clocks_reset.md R580, 17_power_clocks_reset.md R581, 17_power_clocks_reset.md R582, 20_module_hardware.md
R630, 16_stream_span.md R560, 16_stream_span.md R563, 10_isolation_security.md R339.) -/
def Obligations.PowerManagerCompletes : Prop :=
  (∀ (s : State) (m : LoopSample), s.stage = .running → ∃ t : State, Takes (.controlLoopIteration m) s t ∧
    ((∀ x ∈ m.temps.take 4, x < 120) → t.power.temps = m.temps.take 4 ∧ t.power.milliwatts = m.milliwatts))
  ∧ (∀ (s : State) (d ns : Nat), d ≤ 1 → ns ≤ 1000 → s.stage = .running → Takes (.droopEvent d ns) s (s.bump 0xD20 0x1C 1))
  ∧ (∀ (s : State), s.stage = .running → s.power.deep = 0 → s.obj 0xD20 0x150 0 = 1 → s.obj 0 0x131 0 = 0 → s.obj 0 0x130 0 = 0 →
    s.quietModule = true → s.contained = false → ∃ t : State, Takes .idleTimeout s t ∧ t.power.deep = 1
      ∧ t.segStates = [(2, 1), (3, 1), (4, 1), (5, 1), (6, 1), (7, 1)] ∧ t.obj 0x700 0x170 0 = 1)
  ∧ (∀ (s : State), s.power.deep = 1 → s.highSegmentsEmpty = true →
    Takes .evacuationComplete s ((s.setObj 0x700 0x170 0 2).enterDeepIdle))
  ∧ (∀ (s : State) (ch : Fin 32), s.power.deep = 2 → (s.chan ch).reads = [] → (s.chan ch).xbar = [] → (s.chan ch).wq = [] →
    (s.chan ch).inflight = [] → Takes (.channelIdleTimeout ch) s (s.setChan ch { s.chan ch with selfRefresh := true, openRows := [] }))
  ∧ (∀ (s : State) (g : Fin 8), (s.segStates.find? (fun x => x.2 == 3)).map (·.1) = some g.val →
    (tabDel s.segStates g).any (fun x => x.2 == 3) = true →
    Takes (.segmentFillComplete g) s { s.zeroSegment g with segStates := tabDel s.segStates g })
  ∧ (∀ (s : State), s.stage = .running → s.hrefclk = true → ∃ (t : State) (d : Nat),
    Takes .hrefclkLoss s (((t.raise 0 0x01D0 d).loseLeg 0).loseLeg 1) ∧ t.hrefclk = false ∧ t.farRefInternal = true)
  ∧ (∀ (s : State), Takes .hrefclkReturn s { s with hrefclk := true })
  ∧ (∀ (s : State), s.stage = .running → s.allDown.isSome = true → s.allLegsDown = true →
    Takes .chrysalisTimeout s (s.enterChrysalis false))
  ∧ (∀ (s : State), s.obj 0 0x131 0 = 0 → s.obj 0 0x130 0 = 1 →
    Takes .qosModeInForce s ((State.pointMoved s (s.setObj 0 0x131 0 1).partitionCap).raise 0 0x160 1))

/-- Containment, freezes, snapshots, dumps, halts and restarts have their effect. A parity error of control state contains the
module, asserts FAULT_N and raises event 0x01C4; a pending freeze latches every counter; a snapshot is held; a dump whose
lines have arrived is written and done; a draining core halts; a restarted core serves again, and with the last one the held
messages are taken. (Derived: 18_ras_faults.md R595, 18_ras_faults.md R596, 19_debug_telemetry.md R609, 19_debug_telemetry.md
R610, 19_debug_telemetry.md R612, 19_debug_telemetry.md R613, 19_debug_telemetry.md R619, 19_debug_telemetry.md R621,
02_object_dictionary.md R74.) -/
def Obligations.RasAndTelemetryEventsComplete : Prop :=
  (∀ (s : State), s.stage = .running → s.contained = false → ∃ t : State, Takes .controlStateParityError s (t.raise 0 0x1C4 0)
      ∧ t.contained = true ∧ t.faults.testBit 0 = true)
  ∧ (∀ (s : State) (b : Nat), Takes (.freeze (.trigger b)) s (s.freezeTrigger b) ∧ Takes (.snapshotTake (.trigger b)) s (s.snapTrigger b))
  ∧ (∀ (s : State), s.telem.freeze = 1 → ∃ t : State, Takes .freezeLatch s t ∧ t.telem.freeze = 2 ∧ t.telem.frozen = s.counters)
  ∧ (∀ (s : State), s.telem.snap = 1 → ∃ t : State, Takes .snapshotComplete s t ∧ t.telem.snap = 2
      ∧ t.telem.snapBytes = (s.snapAll.take 16384).flatMap (fun r => r.bytes s.now))
  ∧ (∀ (s t : State) (n : Nat), (s.dump n).running = true → (∀ l ∈ s.telem.dumpLines, l.watch = n → l.arrived = true) →
    s.dumpWrite n (s.dump n) (s.telem.dumpLines.filter (·.watch == n)) = some t → (t.dump n).state = 1 →
    ∃ u : State, Takes (.dumpComplete n true) s u ∧ (u.dump n).state = 2 ∧ (u.dump n).running = false ∧ (u.dump n).end_ = t.now)
  ∧ (∀ (s : State) (n : Nat), (s.dump n).running = true → Takes (.dumpComplete n false) s (s.failDump n 2))
  ∧ (∀ (s : State) (k : Fin 8), (s.ctl k).halt = 1 → Takes (.coreHalted k) s (s.setCtl k { s.ctl k with halt := 2 }))
  ∧ (∀ (s : State) (k : Fin 8), s.actual 0xD00 = 2 → s.coreRuns k = true → Takes (.halt k none) s (s.haltCore k))
  ∧ (∀ (s : State) (k : Fin 8), (s.coreRestarted k).coreRestarts = true → Takes (.restartComplete k) s (s.coreRestarted k))
  ∧ (∀ (s t : State) (k : Fin 8), t = s.coreRestarted k → t.coreRestarts = false →
    Takes (.restartComplete k) s (t.heldMsgs.foldl (fun x f => x.frame f t.readBacks.1 t.readBacks.2) { t with heldMsgs := [] }))

/-- Key sweeps, a failed entropy source, verification and a watchdog have their effect. A shadow key nothing uses is zeroised; a
sweep step poisons the next tile of the old generation or, with none left, ends the sweep with event 0x0165; a failed entropy
source fails the cipher; an image that verifies waits for activation, one that fails leaves its failure code; a core whose
watchdog expires restarts and gives the snapshot trigger. (Derived: 10_isolation_security.md R325, 10_isolation_security.md
R330, 10_isolation_security.md R331, 10_isolation_security.md R349, 18_ras_faults.md R595.) -/
def Obligations.KeySweepsAndVerificationComplete : Prop :=
  (∀ (s : State) (i : Nat) (z : KeySlot), s.key i = some z → z.state = 2 → s.shadowUsed i z = false →
    Takes (.shadowZeroise i) s (s.setKey i { z with state := 1, shadow := none }))
  ∧ (∀ (s : State) (i : Nat) (z : KeySlot), s.key i = some z → z.sweeping = true →
    (∀ k, s.nextSwept i z = some k → Takes (.eraseSweepStep i) s ((s.sweepTile k).retryFlips))
    ∧ (s.nextSwept i z = none → Takes (.eraseSweepStep i) s
        ((s.setKey i { z with sweeping := false }).raiseFor (if z.kind = 0 then [z.binding] else []) 0x400 0x0165 z.binding)))
  ∧ (∀ (s : State), Takes .entropyHealthFailure s (({ s with drbgFailed := true }).setOwn 0x400 6 3))
  ∧ (∀ (s : State), s.fw.verifying = true → s.fw.cancelling = false →
    Takes .verifyComplete s (match s.checkImage with
      | .ok i => s.setFw { s.fw with verifying := false, slots := tabSet s.fw.slots s.fw.inactive i, staged := 2, failure := 0 }
      | .error c => s.setFw { s.fw with verifying := false, staged := 3, failure := c }))
  ∧ (∀ (s : State) (k : Fin 8), s.coreRuns k = true → (s.ctl k).halt ≠ 2 →
    Takes (.watchdogExpiry k) s ((s.setCtl k { s.ctl k with restarting := true }).snapTrigger 2))

/-- Stream ports train, take flits, replay and retrain; spans form and lose members. A port that trains at 8, 4 or 2 lanes comes
up and sends INIT; a flit is taken; unacknowledged flits are replayed on a timeout; a port that loses lane lock retrains, and
one that retrains comes back with its flits sent again; the peer's INIT puts the port in service with the credits it grants;
a span forms with its routes, keys and time measurements and event 0x01A3; a member that does not answer is lost. (Derived:
16_stream_span.md R538, 16_stream_span.md R541, 16_stream_span.md R542, 16_stream_span.md R543, 16_stream_span.md R544,
16_stream_span.md R545, 16_stream_span.md R549, 16_stream_span.md R559.) -/
def Obligations.StreamPortEventsComplete : Prop :=
  (∀ (s : State) (p : Fin 4), s.stage = .running → s.strefclk = true → (s.sport p).up = false → s.requested (portUnit p) ≠ 3 →
    Takes (.streamTrainingComplete p 8) s
      (((s.lanesAt 8).2.setSport p { up := true, width := 8, lanes := (s.lanesAt 8).1 }).sendInit p))
  ∧ (∀ (s : State) (p : Fin 4) (b : Bytes), (s.sport p).up = true → (s.sport p).retraining = false →
    tabGet s.injects (portUnit p) = none → Takes (.flitReceive p b) s (s.takeFlit p b))
  ∧ (∀ (s : State) (p : Fin 4), (s.sport p).up = true → (s.sport p).retraining = false → (s.sport p).replay ≠ [] →
    Takes (.replayTimeout p) s (s.replayFrom p))
  ∧ (∀ (s : State) (p : Fin 4), Takes (.laneLockLoss p) s (s.retrainPort p))
  ∧ (∀ (s : State) (p : Fin 4), (s.sport p).retraining = true → (s.sport p).replay = [] → (s.sport p).width = 8 →
    Takes (.streamRetrainComplete p 8) s
      ((((s.lanesAt 8).2.setSport p { s.sport p with
        retraining := false, replays := 0, width := 8, lanes := (s.lanesAt 8).1 }).logUnit 2 4 (portUnit p) (portUnit p)).portFlush p))
  ∧ (∀ (s : State) (p : Fin 4) (w : Nat), (s.sport p).retraining = true → w ≠ 8 → w ≠ 4 → w ≠ 2 →
    Takes (.streamRetrainComplete p w) s (((s.portDown p).setOwn (portUnit p) 6 0x0100).raise (portUnit p) 0x01A1 0))
  ∧ (∀ (s : State) (p : Fin 4) (b : Bytes), pktOk 1 b = true → (s.sport p).up = true → (s.sport p).inited = false →
    (pktData b).length = 16 → s.initBad p b = false → s.span.mask = 0 →
    Takes (.pktInit p b) s ((State.setOwn (s.setSport p { s.sport p with
        inited := true, peerMember := field (pktData b) 8 1, peerPort := Config.peerPort p, peerSerial := pktB b
        credits := (List.range 4).map (fun v => (v, field (pktData b) (2 * v) 2)) }) (portUnit p)
          (if s.requested (portUnit p) = 2 then 2 else 1) 1).portFlush p))
  ∧ (∀ (s : State) (ms : Byte), s.stage = .running → s.obj 0xC00 0x100 0 ≠ 0 → s.obj 0xC00 0x100 0 < 2 ^ 32 →
    ms.toNat.testBit (s.obj 0xC00 0x101 0) = true → ms.toNat &&& s.obj 0xC00 0x102 0 = ms.toNat →
    ∃ t : State, Takes (.spanFormation (BitVec.ofNat 32 (s.obj 0xC00 0x100 0)) ms) s
      (((t.spanShow.raise 0xC00 0x01A3 ms.toNat).disarmAll 3).retryRemote)
      ∧ t.span.id = s.obj 0xC00 0x100 0 ∧ t.span.mask = ms.toNat ∧ t.span.member = s.obj 0xC00 0x101 0)
  ∧ (∀ (s : State) (m : Fin 8), (∃ q ∈ s.span.requests, q.member = m.val) → Takes (.memberRequestTimeout m) s (s.memberLost m))

/-- Control packets of the span that arrive have their effect. Each packet frees its units of the port it came by and then does
what its type says: the coordinator's routes are installed, and keys set up with the members they reach; a probe is answered
with both residence totals' places; a reply is measured; a key is taken; an advance moves the cadences driven by that source;
an extent is reserved in the lowest free map block, given up, or refused; a freeze or snapshot time is noted; a request
passed on is served, and an answer goes to its requester. A packet for another member is passed on and counted. (Derived:
16_stream_span.md R546, 16_stream_span.md R547, 16_stream_span.md R549, 16_stream_span.md R552, 16_stream_span.md R554,
16_stream_span.md R557, 16_stream_span.md R558, 16_stream_span.md R559, 10_isolation_security.md R335, 08_cadence.md R260,
19_debug_telemetry.md R611, 02_object_dictionary.md R40.) -/
def Obligations.SpanControlPacketsComplete : Prop :=
  ∀ (s u : State) (k : Fin 8) (b : Bytes) (at_ : U64), u = s.received k b →
    (PacketFor s k 2 b → k.val ≤ u.coordinatorOf → (∀ m ∈ membersOf (pktA b % 256), m ∉ u.span.unreachable) →
      (∀ m ∈ membersOf u.span.mask, m ≠ u.span.member → (pktA b % 256).testBit m = true) →
      Takes (.pktRoutes k b) s (State.setupKeys (State.setRoutes { u with span := { u.span with
        mask := setBit (pktA b % 256) u.span.member true
        unreachable := u.span.unreachable.filter (fun m => !(pktA b % 256).testBit m) } } (slice (pktData b) 0 16))))
    ∧ (PacketFor s k 3 b → Takes (.pktTimeProbe k at_ b) s
        (u.sendPacket k 4 0 0x10 0 (pktTag b) at_.toNat u.now (slice (pktData b) 0 8 ++ zeros 8)))
    ∧ (PacketFor s k 4 b → Takes (.pktTimeReply k at_ b) s (u.takeReply k at_.toNat b))
    ∧ (PacketFor s k 7 b → Takes (.pktKey k b) s (u.takeKey k b))
    ∧ (PacketFor s k 5 b → Takes (.pktAdvance k b) s ((List.range 64).foldl (fun (s : State) c =>
        if s.cadMode c = 4 ∧ s.obj (0x810 + c) 0x102 0 = 256 * k.val + pktB b % 256 then s.advanceOne c (pktA b) else s) u))
    ∧ (PacketFor s k 8 b →
      (pktB b = 0xFFFF → Takes (.pktReserve k b) s (u.dropGuest k (pktA b)))
      ∧ (∀ blk, pktB b ≠ 0xFFFF → pktA b < 32768 → u.dlaFree (pktA b) = true → u.lowestBlock = some blk →
        Takes (.pktReserve k b) s (State.sendPacket { u.clearBlock blk with span := { (u.clearBlock blk).span with
          reservations := (u.clearBlock blk).span.reservations ++ [{ member := k, dla := pktA b, block := blk, guest := true }] } }
            k 0x21 2 0x10 0 (pktTag b) 0 0 []))
      ∧ (pktB b ≠ 0xFFFF → u.dlaFree (pktA b) = false ∨ u.lowestBlock = none →
        Takes (.pktReserve k b) s (u.sendPacket k 0x21 2 0x10 2 (pktTag b) 0 0 [])))
    ∧ (PacketFor s k 6 b →
      (∀ what t, timeOf (pktData b) = some (what, t) → Takes (.pktAqfort k b) s (u.timeFrom k what t))
      ∧ (timeOf (pktData b) = none →
        (field (pktData b) 0 8 = 3 → Takes (.pktAqfort k b) s (u.passedIn k (pktTag b) (pktData b)))
        ∧ (field (pktData b) 0 8 = 4 → Takes (.pktAqfort k b) s (u.answeredBy k (pktTag b) (pktData b)))))
    ∧ (∀ p ∈ [(2, Instr.pktRoutes k b), (3, .pktTimeProbe k at_ b), (4, .pktTimeReply k at_ b), (5, .pktAdvance k b), (6, .pktAqfort k b),
        (7, .pktKey k b), (8, .pktReserve k b)],
      s.span.mask ≠ 0 → pktOk p.1 b = true → field b 2 1 = k → field b 3 1 ≠ s.span.member →
      Takes p.2 s ((u.route (field b 3 1) (u.arriving b)).bump 0xC00 0x1A 1))

/-- Data packets of the span that arrive have their effect. Each packet frees its units of the port it came by and then does what
its type says: a frame line is read or written for the member; a frame line or poison that returns goes to the access that
asked; a done ends its reservation, its write or its remote move, which flips when the target confirms it and is dropped when
the target refuses; a tile moved in is gathered, and at its close placed and confirmed, awaited until its record is durable,
or refused. A packet for another member is passed on and counted. (Derived: 16_stream_span.md R546, 16_stream_span.md R547,
16_stream_span.md R549, 16_stream_span.md R554, 16_stream_span.md R555, 16_stream_span.md R562.) -/
def Obligations.SpanDataPacketsComplete : Prop :=
  ∀ (s u : State) (k : Fin 8) (b : Bytes), u = s.received k b →
    (PacketFor s k 0x10 b → Takes (.pktLineRead k b) s (u.serveRead k b))
    ∧ (PacketFor s k 0x11 b → Takes (.pktLineWrite k b) s (u.serveWrite k b))
    ∧ (∀ (t : State) (q : RemoteReq) (a : Nat), PacketFor s k 0x20 b →
      u.takeRemote k (pktTag b) (fun q => q.kind == 0x10) = (some q, t) → q.access = some a →
      (pktStatus b = 0 → (pktData b).length = 64 → Takes (.pktLineData k b) s (t.partDone a q.line (some (pktData b))))
      ∧ (pktStatus b ≠ 0 → Takes (.pktLineData k b) s (t.partDone a q.line none)))
    ∧ (∀ (t : State) (q : RemoteReq), PacketFor s k 0x21 b →
      u.takeRemote k (pktTag b) (fun q => q.kind == 8 || q.kind == 0x11 || q.kind == 0x32) = (some q, t) →
      (q.kind = 8 → Takes (.pktDone k b) s (t.reserveAnswered k (q.reserve.getD 0) (pktStatus b)))
      ∧ (q.kind = 0x11 → pktStatus b = 0 → t.span.requests.any (fun p => p.held == some (q.held.getD 0)) = false →
        Takes (.pktDone k b) s (t.remoteEnded (q.held.getD 0)))
      ∧ (q.kind = 0x32 → ∀ r y, t.moves.find? (fun m => m.2.kind == 6 && some m.2.tag == q.move) = some (r, y) →
        (pktStatus b = 0 → Takes (.pktDone k b) s ((t.flipRemote r y k).pumpEvacs))
        ∧ (pktStatus b = 2 → Takes (.pktDone k b) s
          (((t.dropMove r).evacStep (t.entry y.key).region false).retryLocal))
        ∧ (pktStatus b ≠ 0 → pktStatus b ≠ 2 → Takes (.pktDone k b) s
          ((((t.bump 0x700 0x16 1).abortMove r (if pktA b = 0 then 9 else pktA b % 256)).evacStep (t.entry y.key).region false).retryLocal))))
    ∧ (PacketFor s k 0x30 b → Takes (.pktMoveOpen k b) s { u with span := { u.span with
        movesIn := u.span.movesIn.filter (fun m => !(m.source == k.val && m.tile == bits (pktA b) 28 0)) ++ [{ source := k
                                                                                                               party := pktParty b
                                                                                                               tile := bits (pktA b) 28 0
                                                                                                               length := pktB b
                                                                                                               entry := slice (pktData b) 0 32 }] } })
    ∧ (PacketFor s k 0x31 b → Takes (.pktMoveData k b) s { u with span := { u.span with
        movesIn := u.span.movesIn.map (fun m => if m.source = k.val ∧ m.tile = bits (pktA b) 28 0 then
          { m with pieces := tabSet m.pieces (pktB b) (pktData b) } else m) } })
    ∧ (∀ t : State, PacketFor s k 0x32 b → t = { u with span := { u.span with
        movesIn := u.span.movesIn.filter (fun m => !(m.source == k.val && m.tile == bits (pktA b) 28 0)) } } →
      (∀ (v : MoveIn) (key : Nat), u.span.movesIn.find? (fun m => m.source == k.val && m.tile == bits (pktA b) 28 0) = some v →
        t.guestTile k (bits (pktA b) 28 0) = some key →
        (∀ w, t.placeMoved key (pktTag b) v = .done w → Takes (.pktMoveClose k b) s (w.sendPacket k 0x21 2 (pktParty b) 0 (pktTag b) 0 0 []))
        ∧ (∀ w, t.placeMoved key (pktTag b) v = .waits w → Takes (.pktMoveClose k b) s w)
        ∧ (t.placeMoved key (pktTag b) v = .full → Takes (.pktMoveClose k b) s (t.sendPacket k 0x21 2 (pktParty b) 2 (pktTag b) 0 0 []))
        ∧ (t.placeMoved key (pktTag b) v = .refused → Takes (.pktMoveClose k b) s (t.sendPacket k 0x21 2 (pktParty b) 3 (pktTag b) 9 0 [])))
      ∧ (t.guestTile k (bits (pktA b) 28 0) = none →
        Takes (.pktMoveClose k b) s (t.sendPacket k 0x21 2 (pktParty b) 2 (pktTag b) 0 0 [])))
    ∧ (∀ p ∈ [(0x10, Instr.pktLineRead k b), (0x11, .pktLineWrite k b), (0x20, .pktLineData k b), (0x21, .pktDone k b),
        (0x30, .pktMoveOpen k b), (0x31, .pktMoveData k b), (0x32, .pktMoveClose k b)],
      s.span.mask ≠ 0 → pktOk p.1 b = true → field b 2 1 = k → field b 3 1 ≠ s.span.member →
      Takes p.2 s ((u.route (field b 3 1) (u.arriving b)).bump 0xC00 0x1A 1))

/-- CREATE, MODIFY, DELETE and DISCARD of a region have their effect and are answered OK. A granted region command that meets the
conditions of its rows takes effect: CREATE enters the region, or asks the other members of a stripe and answers later;
MODIFY replaces the descriptor; DELETE removes the region; DISCARD empties its tiles. (Derived: 03_address_model.md R99,
03_address_model.md R100, 03_address_model.md R101, 03_address_model.md R102, 16_stream_span.md R554.) -/
def Obligations.RegionCommandsTakeEffect : Prop :=
  ∀ (s t : State) (r : Req) (cmd : Bytes) (w : Sender) (row : Row) (id : Nat), t = s.taking r → id = field cmd 2 2 → 
    (∀ b x, b = patch cmd 0 [1] → x = regionOf (slice b 8 64) → Grants s r 0x200 0x140 0 0 b w row →
      t.declared id = none → w.mayActFor x.owner = true → (x.shared = true → w.fm = true) → regionReserved b = false →
      16 ≤ id → id < 4096 → x.base % 65536 = 0 → x.length % 65536 = 0 → x.length ≠ 0 → x.owner < 16 →
      t.rangeGranted x x.shared = true →
      (∀ y ∈ t.regions, 16 ≤ y.1 → y.2.owner = x.owner → overlaps x.base x.length y.2.base y.2.length = false) →
      t.badFields (slice b 8 64) x = false → (∀ c ∈ t.span.creates, c.region ≠ id) → t.writtenIn x = [] →
      (x.shared = true → t.insts.length < 4096) →
      (x.layout ≠ 1 ∨ t.stripeOthers x = [] → Takes (.regionCreate r cmd) s ((t.beginRegion id x).written r))
      ∧ (x.layout = 1 → t.stripeOthers x ≠ [] → (∀ m ∈ t.stripeOthers x, m ∉ t.span.unreachable) →
        ∀ asks : List (Nat × Nat), asks = (t.stripeOthers x).flatMap (fun m => (t.regionDlas x).map (fun e => (m, e))) →
        Takes (.regionCreate r cmd) s ((asks.foldl
          (fun (s : State) (a : Nat × Nat) => s.sendReserve a.1 a.2 id true)
          ({ t with span := { t.span with creates := t.span.creates ++ [({ path := none, region := id, desc := x, waiting := asks, made := [] } : WaitCreate)] } } : State)).deferTo
            r.path (writeType r))))
    ∧ (∀ b x y, b = patch cmd 0 [2] → x = regionOf (slice b 8 64) → Grants s r 0x200 0x140 0 0 b w row → t.declared id = some y →
      w.mayActFor x.owner = true → w.mayActFor y.owner = true → (x.shared = true ∨ y.shared = true → w.fm = true) →
      regionReserved b = false → t.badFields (slice b 8 64) x = false →
      x.base = y.base → x.length = y.length → x.owner = y.owner → x.layout = y.layout → x.stripe = y.stripe →
      (id < 16 → { x with codec := y.codec, elem := y.elem, frSlot := y.frSlot, llSlot := y.llSlot, tierMask := y.tierMask, steep := y.steep } = y) →
      (t.regionWritten id y ≠ [] → x.codec = y.codec ∧ x.elem = y.elem ∧ x.keyKind = y.keyKind ∧ x.keyBinding = y.keyBinding
        ∧ x.keyGen = y.keyGen ∧ x.shared = y.shared ∧ x.residual = y.residual ∧ t.frWidthOf x = t.frWidthOf y) →
      (x.shared = true → y.shared = false → t.insts.length < 4096) →
      ∀ u : State, u = { t with regions := tabSet t.regions id x } →
      Takes (.regionModify r cmd) s (((((if x.shared = true ∧ y.shared = false then u.beginShared id
        else if y.shared = true ∧ x.shared = false then u.endShared id else u).unnameSlots y).nameSlots x)).written r))
    ∧ (∀ b x, b = patch cmd 0 [3] → Grants s r 0x200 0x140 0 0 b w row → t.declared id = some x → w.mayActFor x.owner = true →
      (x.shared = true → w.fm = true ∧ t.sharedInUse id = false) → regionReserved b = false → 16 ≤ id →
      Takes (.regionDelete r cmd) s ((t.removeRegion id x).written r))
    ∧ (∀ b x, b = patch cmd 0 [4] → Grants s r 0x200 0x140 0 0 b w row → t.declared id = some x → w.mayActFor x.owner = true →
      (x.shared = true → w.fm = true ∧ t.sharedInUse id = false) → regionReserved b = false →
      Takes (.regionDiscard r cmd) s ((if x.shared then t.discardShared id x else (t.discardRegion id x).renewStripe id x).written r))

/-- Codec slot commits and owner writes, and recode sweeps, have their effect and are answered OK. A granted commit of an idle
slot puts the image in force under the next generation; an owner write empties the slot; a recode start takes a free sweep,
done at once when it has no tiles; a cancel ends the region's sweep and its moves. (Derived: 04_fixed_rate_codec.md R146,
04_fixed_rate_codec.md R150, 04_fixed_rate_codec.md R155, 05_lossless_codec.md R177, 05_lossless_codec.md R179.) -/
def Obligations.CodecCommandsTakeEffect : Prop :=
  ∀ (s t : State) (r : Req) (w : Sender) (row : Row), t = s.taking r →
    (∀ slot : Fin 64,
      (Grants s r 0x300 (0x200 + slot) 9 0 [0xFF] w row → t.ownsSlot w false slot = true → (frTableOf (t.slotImage false slot 528)).isSome = true →
        t.slotIdle false slot = true → Takes (.frTableCommit r slot) s ((t.loadSlot false slot (t.slotImage false slot 528)).written r))
      ∧ (∀ v : Byte, v.toNat ≤ 8 → Grants s r 0x300 (0x200 + slot) 9 0 [v] w row → t.ownsSlot w false slot = true → t.slotIdle false slot = true →
        Takes (.frDefaultTableLoad r slot v) s
          (((t.loadSlot false slot (tableImage (defaultTable v.toNat))).setBlob 0x300 (slotObj false slot) 8 0 (tableImage (defaultTable v.toNat))).written r))
      ∧ (Grants s r 0x300 (0x300 + slot) 9 0 [0xFF] w row → t.ownsSlot w true slot = true → (llTablesOf (t.slotImage true slot 2072)).isSome = true →
        t.slotIdle true slot = true → Takes (.llTableCommit r slot 0xFF) s ((t.loadSlot true slot (t.slotImage true slot 2072)).written r))
      ∧ (∀ (ll : Bool) (v : Byte) (u : State), Grants s r 0x300 (slotObj ll slot) 0 0 [v] w row → (v.toNat ≤ 15 ∨ v = 0xFE ∨ v = 0xFF) →
        t.slotIdle ll slot = true → u = (t.setObj 0x300 (slotObj ll slot) 0 v.toNat).setObj 0x300 (slotObj ll slot) 1 0 →
        Takes (if ll then .llSlotOwnerWrite r slot v else .frSlotOwnerWrite r slot v) s
          (({ u with blobs := u.blobs.filter (fun c => !decide (okey 0x300 (slotObj ll slot) 8 * 2 ^ 30 ≤ c.1
            ∧ c.1 < okey 0x300 (slotObj ll slot) 8 * 2 ^ 30 + 2 ^ 30)) } : State).written r)))
    ∧ (∀ (region : U16) (x : Region) (ll : Bool) (i : Nat), t.declared region.toNat = some x → w.mayActFor x.owner = true →
      (x.shared = true → w.fm = true ∧ (∀ a ∈ t.attaches, a.2.region = region.toNat → 3 ≤ a.2.kind)
        ∧ (t.insts.filter (fun i => i.region == region.toNat)).length ≤ 1) → x.layout ≠ 1 →
      Grants s r 0x300 0x140 0 0 (recodeBytes region (if ll then 3 else 1) (zeros 5)) w row →
      (∀ z ∈ t.sweeps, z.2.region = region.toNat → z.2.state ≠ 1) →
      firstBelow 16 (fun i => (tabGet t.sweeps i).all (fun z => z.state != 1)) = some i →
      ∀ z : Sweep, z = { region := region.toNat, state := 1, ll := ll, left := [], recoded := 0 } →
      Takes (if ll then .llRecodeStart r region (zeros 5) else .recodeStart r region (zeros 5)) s
        ((State.settleSweeps { t with sweeps := tabSet t.sweeps i { z with left := t.sweepTiles z } }).written r))
    ∧ (∀ (region : U16) (x : Region) (ll : Bool) (i : Nat) (z : Sweep), t.declared region.toNat = some x → w.mayActFor x.owner = true →
      (x.shared = true → w.fm = true) → Grants s r 0x300 0x140 0 0 (recodeBytes region (if ll then 4 else 2) (zeros 5)) w row →
      t.sweeps.find? (fun z => z.2.region == region.toNat && z.2.state == 1) = some (i, z) → z.ll = ll →
      Takes (if ll then .llRecodeCancel r region (zeros 5) else .recodeCancel r region (zeros 5)) s
        ((State.abortWhere { t with sweeps := tabSet t.sweeps i { z with state := 3 } } 0x0D
          (fun m => decide (m.by_ = .sweep i) && m.state != 3)).written r))

/-- Writes of states, modes, caps, orders, assignments, patterns and arming take effect and are answered OK. A granted write of a
requested state reaches the unit's whole subtree and, from the span unit, the other members; the policy, cadence and QoS
modes, the power cap, the chrysalis order, MEASURE, a cluster's assignment and home blocks, a channel's pattern and the
arming of injection have the effect their rules give. (Derived: 02_object_dictionary.md R50, 02_object_dictionary.md R58,
06_tiers_and_moves.md R214, 08_cadence.md R253, 10_isolation_security.md R338, 10_isolation_security.md R340,
11_compute_architecture.md R363, 11_compute_architecture.md R367, 14_near_tier_controller.md R500, 16_stream_span.md R557,
16_stream_span.md R563, 17_power_clocks_reset.md R577.) -/
def Obligations.ModeCommandsTakeEffect : Prop :=
  ∀ (s t : State) (r : Req) (w : Sender) (row : Row), t = s.taking r →
    (∀ (unit : U16) (v : Byte) (u : State), Grants s r unit.toNat 1 0 0 [v] w row → 1 ≤ v.toNat → v.toNat ≤ 3 → t.lastCores unit.toNat v.toNat = false →
      u = State.requestAll (if (subtree unit.toNat).contains 0xD00 = true ∧ v.toNat ≠ 2 ∧ t.actual 0xD00 = 2 then t.resumeAll else t) unit.toNat v.toNat →
      Takes (.requestedStateWrite r unit v) s ((if unit.toNat = 1 then u.fanToMembers w 1 0 [v] else u).written r))
    ∧ (∀ (ld : Fin 16) (v : Byte), Grants s r 0x700 (0x130 + ld) 0 0 [v] w row → v.toNat ≤ 1 →
      (v.toNat = 1 → t.obj 0x700 (0x130 + ld) 1 ≠ 0xFF ∧ (t.cluster (t.obj 0x700 (0x130 + ld) 1)).context = ld.val) →
      Takes (.policyModeWrite r ld v) s ((t.setObj 0x700 (0x130 + ld) 0 v.toNat).written r))
    ∧ (∀ (c : Fin 64) (v : Byte), Grants s r (0x810 + c) 0x101 0 0 [v] w row → v.toNat ≤ 4 → (v.toNat = 4 ∨ t.cadMode c = 4 → w.fm = true) →
      Takes (.cadenceModeWrite r c v) s ((t.setObj (0x810 + c) 0x101 0 v.toNat).written r))
    ∧ (∀ v : Byte, Grants s r 0 0x130 0 0 [v] w row → v.toNat ≤ 1 →
      (v.toNat = 1 → t.anyObserver = false ∧ capReserve (t.obj 0xD20 0x140 0) ≤ t.idleSlots) →
      Takes (.qosModeWrite r v) s ((if v.toNat = 1 then (t.setObj 0 0x130 0 1).powerWake 4 else t.setObj 0 0x130 0 0).written r))
    ∧ (∀ (c : U16), Grants s r 0xD20 0x140 0 0 (leBytes 2 c.toNat) w row → 200 ≤ c.toNat → c.toNat ≤ 350 →
      (t.obj 0 0x131 0 = 1 ∨ t.obj 0 0x130 0 = 1 → capReserve c.toNat ≤ t.idleSlots) →
      ∀ u : State, u = (t.setObj 0xD20 0x140 0 c.toNat).setPower { t.power with window := [] } →
      Takes (.powerCapWrite r c) s ((if t.obj 0 0x131 0 = 1 then State.pointMoved t u.partitionCap else u).written r))
    ∧ (∀ v : Byte, Grants s r 0 0x141 0 0 [v] w row → v.toNat ≤ 1 → Takes (.chrysalisOrder r v) s ((t.chrysalisWrite v.toNat).written r))
    ∧ (Grants s r 0xC00 0x113 0 0 [1] w row → Takes (.measure r 1) s ((t.measureOffsets t.peers).written r))
    ∧ (∀ (c : Fin 64) (v : Byte) (u : State), Grants s r (0xA40 + c) 0x100 0 0 [v] w row → (v.toNat ≤ 15 ∨ v = 0xFF) → (t.cluster c).job = none →
      u = (t.setObj (0xA40 + c) 0x100 0 v.toNat).setObj (0xA40 + c) 5 0 v.toNat →
      Takes (.clusterAssignmentWrite r c v) s ((if t.obj (0xA40 + c) 0x100 0 ≠ v.toNat then u.reassign c true else u).written r))
    ∧ (∀ (c : Fin 64) (v : U16) (u : State), Grants s r (0xA40 + c) 0x101 0 0 (leBytes 2 v.toNat) w row → v.toNat ≤ 3072 → v.toNat % 64 = 0 →
      (t.cluster c).job = none → u = t.setObj (0xA40 + c) 0x101 0 v.toNat →
      Takes (.homeBlocksWrite r c v) s ((if t.homeBlocks c ≠ v.toNat then u.reassign c false else u).written r))
    ∧ (∀ (ch : Fin 32) (off : U32) (data : Bytes) (u : State) (n : Nat), Grants s r (0x510 + ch) 0x120 0 off.toNat data w row →
      ((t.unit (0x510 + ch)).own = 2 ∨ (t.unit (0x510 + ch)).own = 3) → t.quiescent (0x510 + ch) = true → t.tick = (n, u) →
      Takes (.patternGeneratorWrite r ch off data) s
        (((u.setBlob (0x510 + ch) 0x120 0 off.toNat data).setChan ch { t.chan ch with patternRun := some n }).written r))
    ∧ (∀ (unit : U16) (u : State), Grants s r unit.toNat 0x68 0 0 [1] w row → t.mayArm unit.toNat = (true, u) →
      ∀ g : Nat, g = u.obj unit.toNat 0x67 0 * 65536 + u.obj unit.toNat 0x67 0 →
      Takes (.injectionArming r unit 1) s ((((((({ u with injects := tabSet u.injects unit.toNat { armed := true, gen := g, seen := 0 } } : State).setObj unit.toNat 0x68 0 1).setObj unit.toNat 0x69 0 0).setObj
          unit.toNat 0x6B 0 1).raise unit.toNat 0x1C6 (u.obj unit.toNat 0x60 0))).written r))
    ∧ (∀ (unit : U16) (i : Inject), Grants s r unit.toNat 0x68 0 0 [0] w row → tabGet t.injects unit.toNat = some i →
      Takes (.injectionArming r unit 0) s (((({ t with injects := tabSet t.injects unit.toNat { i with armed := false } } : State).setObj
        unit.toNat 0x68 0 0).setObj unit.toNat 0x6B 0 0).written r))
    ∧ (∀ unit : U16, Grants s r unit.toNat 0x68 0 0 [0] w row → tabGet t.injects unit.toNat = none →
      Takes (.injectionArming r unit 0) s (t.written r))

/-- A schedule entry that is armed waits for its position, and one that is disarmed is idle again. An entry written whole with
its armed flag set, which passes the checks of arming, is stored and waits with nothing issued; an armed entry written with
the flag clear and nothing else changed is stored with status 0. (Derived: 08_cadence.md R263, 08_cadence.md R265.) -/
def Obligations.ScheduleCommandsTakeEffect : Prop :=
  ∀ (s t : State) (r : Req) (w : Sender) (row : Row) (n : Nat) (bytes b : Bytes) (x : Sched), t = s.taking r → bytes.length = 32 → x = t.entryOf n →
    (b = armedEntry bytes true → Grants s r 0x800 0x140 0 (32 * n) b w row → w.inSlice 32768 (32 * n) 32 = true → x.armed = false →
      ({ x with bytes := b } : Sched).cad / 4 = schedLd n → t.badEntry n b = false →
      Takes (.scheduleEntryArm r n bytes) s ((t.setEntryOf n { x with
        bytes := b
        status := 1
        lam := none
        issued := false
        done := false
        waiting := []
        late := false
        reachedAt := none
        noSpace := false
        unreachable := false
        restart := false
        decodeWait := 0
        transferWait := 0 }).written r))
    ∧ (b = armedEntry bytes false → Grants s r 0x800 0x140 0 (32 * n) b w row → w.inSlice 32768 (32 * n) 32 = true → x.armed = true →
      patch b 1 (zeros 1) = patch x.bytes 1 (zeros 1) → field b 1 1 < 8 → (allZero b = true ∨ ({ x with bytes := b } : Sched).cad / 4 = schedLd n) →
      Takes (.scheduleEntryDisarm r n bytes) s ((t.setEntryOf n { x with
        bytes := b
        status := 0
        lam := none
        issued := false
        done := false
        waiting := []
        late := false
        reachedAt := none }).written r))

/-- The instar commands and a write of the shared region table have their effect and are answered OK. ATTACH enters an attachment
on an instar, with a version for a writer; DETACH ends it; ADVANCE moves it; PUBLISH publishes its overlay; REVERT drops the
tiles named and reports them; LIST CONFLICTS lists them; REATTACH gives a salvaged overlay back; DISCARD and FORCE DETACH end
one; a shared region's entry takes its masks, mode and reserves, and attachments lose what the masks take away. (Derived:
09_shared_regions.md R282, 09_shared_regions.md R288, 09_shared_regions.md R292, 09_shared_regions.md R293,
09_shared_regions.md R295, 09_shared_regions.md R298, 09_shared_regions.md R309, 09_shared_regions.md R310,
09_shared_regions.md R312, 09_shared_regions.md R313, 09_shared_regions.md R315.) -/
def Obligations.InstarCommandsTakeEffect : Prop :=
  ∀ (s t : State) (r : Req) (cmd b : Bytes) (w : Sender) (row : Row) (op : Byte) (c : InstarCmd), t = s.taking r → b = patch cmd 0 [op] →
    c = instarCmdOf b → Grants s r 0x900 0x140 0 0 b w row → c.reserved = false → (t.sharedOf c.region).isSome = true →
    (∀ (ld : Nat) (x : Region), w.ld = some ld → c.ld = 0 → t.memberRight w c.region false = true → t.region c.region = some x →
      (∀ (id n : Nat) (v : Nat) (u : State), op = 1 → (c.access = 1 ∨ c.access = 2) → (c.access = 2 → t.memberRight w c.region true = true) →
        n = t.namedInst c.region c.inst → (t.instOf c.region n).isSome = true → t.memberHolds x ld = true → t.noAttach w c.region = true →
        t.freeAttach = some id → (c.access = 2 → ∀ y, t.sharedOf c.region = some y → y.counter < 0xFFFFFFFF) →
        (v, u) = (if c.access = 2 then t.drawVersion c.region else (0, t)) →
        Takes (.instarAttach r cmd) s ((({ u with attaches := tabSet u.attaches id { region := c.region
                                                                                     ld := ld
                                                                                     kind := c.access
                                                                                     base := n
                                                                                     ver := v
                                                                                     keyGen := x.keyGen
                                                                                     since := u.now } } : State).bump 0x900 0x16 1).written r))
      ∧ (∀ (id : Nat) (a : Attach), c.access = 0 → t.attachOf ld c.region = some (id, a) →
        (op = 2 → Takes (.instarDetach r cmd) s ((t.endAttach id).written r))
        ∧ (op = 3 → (t.instOf c.region (t.namedInst c.region c.inst)).isSome = true → Takes (.instarAdvance r cmd) s
            ((State.reclaim { t with attaches := tabSet t.attaches id { a with base := t.namedInst c.region c.inst } } c.region).written r))
        ∧ (op = 4 → t.memberRight w c.region true = true → a.kind = 2 → c.inst = a.base →
            Takes (.instarPublish r cmd) s ((t.publishBy a.ld id a c.stamp).2.written r))
        ∧ (op = 5 → t.memberRight w c.region true = true → x.rangeOut c.first c.count = false → ∀ (k : Nat) (u : State),
            t.dropOverlay id (fun i => decide (c.first ≤ i ∧ i < c.first + c.count)) = (k, u) →
            Takes (.instarRevert r cmd) s ((((u.bump 0x900 0x1A k).setResult a.ld 5 0 c.region a.base 0 []).retryFlips).written r))
        ∧ (op = 6 → x.rangeOut c.first 1 = false → Takes (.listConflicts r cmd) s ((t.setConflicts a.ld 6 0 c.region a.base (t.conflictsOf id a)
            ((t.conflictsOf id a).filter (fun i => decide (c.first ≤ i)))).written r)))
      ∧ (∀ (id : Nat) (a : Attach), op = 0x10 → c.access = 0 → t.memberRight w c.region true = true → t.salvaged ld c.region = some (id, a) →
        a.keyGen = x.keyGen → t.noAttach w c.region = true →
        Takes (.salvageReattach r cmd) s ((({ t with attaches := tabSet t.attaches id { a with kind := 2, since := t.now } } : State).bump
          0x900 0x16 1).written r)))
    ∧ (w.fm = true → c.access = 0 → c.ld < 16 → ∀ (id : Nat) (a : Attach),
      (op = 0x11 → t.salvaged c.ld c.region = some (id, a) → Takes (.salvageDiscard r cmd) s ((t.endSalvage id).written r))
      ∧ (op = 0x12 → t.attachOf c.ld c.region = some (id, a) → Takes (.forceDetach r cmd) s ((t.endAttach id).written r)))

/-- A write of the shared region table gives an entry its masks, mode and reserves. A granted write that lies in one entry of a
shared region, changes only the fields the fabric manager may set, adds readers only from the use mask of the region's key
and keeps the reserves within the tiers, takes effect, and each attachment loses what the new masks take away; a write over
several entries writes each in turn. (Derived: 03_address_model.md R115, 09_shared_regions.md R282, 09_shared_regions.md
R301, 09_shared_regions.md R311, 09_shared_regions.md R315, 10_isolation_security.md R324.) -/
def Obligations.SharedTableWritesTakeEffect : Prop :=
  ∀ (s t : State) (r : Req) (w : Sender) (row : Row) (off : U32) (data : Bytes), t = s.taking r → Grants s r 0x900 0x150 0 off.toNat data w row →
    (∀ (id : Nat) (b : Bytes) (x y : Shared), data ≠ [] → id = off.toNat / 64 → (off.toNat + data.length - 1) / 64 = id →
      b = patch (t.sharedEntry id) (off.toNat - 64 * id) data → b ≠ t.sharedEntry id → t.sharedOf id = some x →
      y = { x with mode := field b 0 1, readMask := field b 2 2, writeMask := field b 4 2, nearReserve := field b 16 8, farReserve := field b 24 8 } →
      sharedFixed b = sharedFixed (t.sharedEntry id) → y.mode ≤ 1 → y.writeMask &&& y.readMask = y.writeMask → t.maskAllowed id x y = true →
      t.reservesBut id 1 + y.nearReserve + t.sharesBut 16 1 ≤ t.obj 0x200 0x101 0 →
      t.reservesBut id 2 + y.farReserve + t.sharesBut 16 2 ≤ t.farAssignable →
      (y.mode ≠ x.mode → ∀ v ∈ t.versions, v.2.region = id → v.2.owner = none) →
      Takes (.sharedRegionEntryWrite r off data) s (((t.setShared id y).maskChange id y).written r))
    ∧ (data = [] → Takes (.sharedRegionEntryWrite r off data) s (t.written r))
    ∧ (∀ u : State, t.writeSharedTable off.toNat data = .ok u → Takes (.sharedRegionEntryWrite r off data) s (u.written r))

/-- Region keys are created, erased, masked and destroyed as the key commands say. A granted CREATE REGION KEY draws a key into
the lowest free slot and reports its binding; ERASE replaces the key, keeps the old one for what is under way and starts the
sweep; SET USE MASK sets the mask of a region key; DESTROY removes a region key nothing uses and tells the span. (Derived:
10_isolation_security.md R328, 10_isolation_security.md R329, 10_isolation_security.md R330, 10_isolation_security.md R332.) -/
def Obligations.KeyCommandsTakeEffect : Prop :=
  ∀ (s t : State) (r : Req) (cmd b : Bytes) (w : Sender) (row : Row) (op : Byte), t = s.taking r → b = patch cmd 0 [op] →
    Grants s r 0x400 0x140 0 0 b w row → field b 8 8 = 0 →
    (∀ (i : Nat) (k : Bytes) (u : State), op = 1 → w.fm = true → field b 1 1 = 0 → field b 4 4 = 0 → t.drbgFailed = false →
      (List.range 4080).find? (fun i => (t.key (16 + i)).isNone) = some i → t.draw 64 = (k, u) →
      Takes (.createRegionKey r cmd) s (((State.setObj { u.setKey (16 + i) { state := 1
                                                                             kind := 1
                                                                             gen := 1
                                                                             binding := u.nextBinding
                                                                             useMask := field b 2 2
                                                                             key := k
                                                                             created := u.now } with nextBinding := u.nextBinding + 1 }
        0x400 0x141 0 (u.nextBinding + 2 ^ 32 + 2 ^ 48))).written r))
    ∧ (∀ (i : Nat) (z : KeySlot), t.namedKey (field b 4 4) = some (i, z) →
      (op = 2 → (w.fm = true ∨ (field b 4 4 < 16 ∧ w.ld = some (field b 4 4))) → field b 1 3 = 0 → z.state ≠ 2 → t.drbgFailed = false →
        Takes (.keyErase r cmd) s ((t.eraseKey i z).written r))
      ∧ (op = 3 → w.fm = true → field b 1 1 = 0 → z.kind ≠ 0 →
        (∀ d ∈ t.keyRegions z, ∀ x, t.sharedOf d.1 = some x → ∀ n < 16, z.useMask.testBit n = true → x.readMask.testBit n = true →
          (field b 2 2).testBit n = true) →
        Takes (.setUseMask r cmd) s ((t.setKey i { z with useMask := field b 2 2 }).written r))
      ∧ (op = 4 → w.fm = true → field b 1 3 = 0 → z.kind ≠ 0 → z.state ≠ 2 → t.keyRegions z = [] →
        (∀ e ∈ t.tileMap, carriesKey i e.2 = false) → (∀ v ∈ t.versions, carriesKey i v.2.entry = false) →
        Takes (.keyDestroy r cmd) s
          ((t.peers.foldl (fun (s : State) m => s.sendKey m z true) { t with keys := tabDel t.keys i }).written r)))

/-- Staging an image and the six update commands have their effect and are answered OK. Image bytes go to the inactive slot,
whose image they end; VERIFY starts; a verified image is activated at the next reset, or at once with the control cores
restarted one at a time; the running image's security version is committed; a cancel empties the slot; key 0 is revoked by
SVC while the image is signed with key 1. (Derived: 10_isolation_security.md R349, 10_isolation_security.md R350,
10_isolation_security.md R351, 10_isolation_security.md R352, 10_isolation_security.md R353.) -/
def Obligations.UpdateCommandsTakeEffect : Prop :=
  ∀ (s t : State) (r : Req) (w : Sender) (row : Row) (f : Firmware), t = s.taking r → f = t.fw →
    (∀ (m : Byte) (off : U32) (data : Bytes), Grants s r 0xD00 0x182 m.toNat off.toNat data w row →
      Takes (.stagingWrite r m off data) s ((t.setFw { f with
        staging := memWrite f.staging (2 ^ 24 * f.inactive + off.toNat) data
        slots := tabDel f.slots f.inactive
        staged := 1
        failure := 0 }).written r))
    ∧ (Grants s r 0xD00 0x183 0 0 [1] w row → f.verifying = false → Takes (.verify r) s ((t.setFw { f with verifying := true }).written r))
    ∧ (Grants s r 0xD00 0x183 0 0 [2] w row → f.staged = 2 →
      Takes (.activateAtReset r) s ((t.setFw { f with active := f.inactive, trial := true, staged := 4, pending := true }).written r))
    ∧ (∀ i : FwImage, Grants s r 0xD00 0x183 0 0 [3] w row → tabGet f.slots f.inactive = some i → f.staged = 2 → i.dataPath = f.image.dataPath →
      Takes (.activateLive r) s (((((t.setFw { f with
        active := f.inactive, running := f.inactive, trial := false, pending := false, staged := 0, recovery := false }).setObj
          0 0 4 i.version).raise 0xD00 0x163 i.version).rollFrom 0).written r))
    ∧ (Grants s r 0xD00 0x183 0 0 [4] w row → f.trial = false → f.securityFuse < f.image.security →
      Takes (.commitSecurityVersion r) s ((t.setFw { f with securityFuse := f.image.security }).written r))
    ∧ (Grants s r 0xD00 0x183 0 0 [5] w row → Takes (.updateCancel r) s
      ((if f.verifying then t.setFw { f with cancelling := true } else if f.pending then
        t.setFw { f.emptied with active := f.running, trial := false, pending := false } else t.setFw f.emptied).written r))
    ∧ (Grants s r 0xD00 0x183 0 0 [6] w row → w.svc = true → f.image.key = 1 →
      Takes (.revokeKey0 r) s ((t.setFw { f with key0Revoked := true }).written r))

/-- LOAD, UNLOAD and STOP of a job, and EVACUATE, RECALL and CANCEL of a region, have their effect. A granted LOAD of a sound
descriptor and image makes the slot LOADED; UNLOAD empties it; STOP stops the run with status 0x12. EVACUATE asks the target
for the extents and is answered later; RECALL starts a sweep that brings the tiles back; CANCEL ends what runs, its moves and
its requests. (Derived: 13_jobs.md R440, 13_jobs.md R441, 13_jobs.md R442, 16_stream_span.md R562.) -/
def Obligations.JobAndSpanCommandsTakeEffect : Prop :=
  ∀ (s t : State) (r : Req) (cmd b : Bytes) (w : Sender) (row : Row) (op : Byte), t = s.taking r →
    (b = patch cmd 0 [op] → Grants s r 0xA00 0x140 0 0 b w row → field b 1 1 = 0 → field b 4 4 = 0 → ∀ j : Nat, j = field b 2 2 →
      (∀ (x : Job) (img : Bytes) (u : State), op = 1 → w.fm = false → w.ld = some (jobLd j) → (∀ y, t.job j = some y → y.state = 1) →
        x = { state := 1, desc := slice b 8 64 } → descBad x.desc = false → t.rawPrivate (jobLd j) x.image x.imageLen = true →
        t.linesNow { ld := jobLd j } x.image (ceilDiv x.imageLen 64) 0x53 = (.inr img, u) → imageOk (img.take x.imageLen) = true →
        x.entry < field (img.take x.imageLen) 12 4 → (x.policy = true → x.wanted = 1 ∧ t.obj 0x700 (0x130 + jobLd j) 1 ≠ 0xFF) →
        (x.output = 0xFFFF ∨ t.outputOk (jobLd j) x.output = true) →
        Takes (.jobLoad r cmd) s ((u.setJob j x).written r))
      ∧ (∀ x : Job, t.job j = some x →
        (op = 2 → w.fm = false → w.ld = some (jobLd j) → x.state = 1 →
          Takes (.jobUnload r cmd) s (({ t with jobs := tabDel t.jobs j } : State).written r))
        ∧ (op = 3 → w.mayActFor (jobLd j) = true → Takes (.jobStop r cmd) s ((t.stopRun j 0x12).written r))))
    ∧ (b = patch cmd 2 [op] → Grants s r 0xC00 0x140 0 0 b w row → ∀ (id m : Nat) (x : Region), id = field b 0 2 → m = field b 3 1 →
      t.declared id = some x → x.shared = false → allZero (slice b 4 12) = true →
      (op = 1 → x.layout ≠ 1 → m < 8 → m ≠ t.span.member → m ∈ t.expected → t.evacOf id = none → (∀ c ∈ t.span.creates, c.region ≠ id) → m ∈ t.peers →
        (t.span.evacs.filter (fun e => e.2.state == 1)).length + (t.span.creates.filter (fun c => c.target.isSome)).length < 4 →
        Takes (.evacuate r cmd) s (State.deferTo (t.askReserve { path := none
                                                                 region := id
                                                                 desc := x
                                                                 waiting := (t.regionDlas x).map (fun d => (m, d))
                                                                 made := []
                                                                 target := some m }) r.path (writeType r)))
      ∧ (∀ i : Nat, op = 2 → x.layout = 1 → t.evacOf id = none → (∀ c ∈ t.span.creates, c.region ≠ id) → t.freeEvac = some i →
        (t.span.evacs.filter (fun e => e.2.state == 1)).length + (t.span.creates.filter (fun c => c.target.isSome)).length < 4 →
        Takes (.recall r cmd) s
          (((t.setEvac i { region := id, cmd := 2, state := 1, member := m, remaining := (t.remoteTiles id x).length }).pumpEvac i).written r))
      ∧ (op = 3 → t.evacOf id = none → Takes (.evacuationCancel r cmd) s (t.written r))
      ∧ (∀ (i : Nat) (v : SpanEvac), op = 3 → t.evacOf id = some (i, v) → ∀ u : State,
        u = (t.setEvac i { v with state := 3 }).abortWhere 0xD (fun y => y.kind == 6 && ((t.setEvac i { v with state := 3 }).entry y.key).region == id) →
        Takes (.evacuationCancel r cmd) s ((State.retryLocal { u with span := { u.span with
          recalls := u.span.recalls.filter (fun k => !((u.entry k).region == id))
          requests := u.span.requests.filter (fun q => !(q.kind == 0x10 && q.move.any (fun k => (u.entry k).region == id)))
          lines := u.span.lines.filter (fun l => !(l.1 == 1 && (u.entry l.2.1).region == id)) } }).written r)))

/-- The commands on the repair map, the error history, the freeze, the snapshot and a control core take effect and are answered
OK. The repair map is cleared while every channel is OFFLINE; the error history is cleared; a freeze or snapshot command is a
trigger of source 0 and its release ends it; in TEST a control core halts, resumes and steps. (Derived: 18_ras_faults.md
R600, 18_ras_faults.md R604, 19_debug_telemetry.md R610, 19_debug_telemetry.md R612, 19_debug_telemetry.md R614,
19_debug_telemetry.md R621, 19_debug_telemetry.md R622.) -/
def Obligations.DebugCommandsTakeEffect : Prop :=
  ∀ (s t : State) (r : Req) (w : Sender) (row : Row), t = s.taking r →
    (Grants s r 0xF80 0x170 0 0 [1] w row → (∀ u ∈ unitRun 0x510 32, (t.unit u).own = 3) →
      Takes (.clearRepairMap r) s (({ t with repairMap := [], repairSeq := t.repairSeq + 1 } : State).written r))
    ∧ (Grants s r 0xF80 0x170 0 0 [2] w row → Takes (.clearErrorHistory r) s (({ t with errHistory := [] } : State).written r))
    ∧ (Grants s r 0xF00 0x111 0 0 [1] w row → Takes (.freeze (.command r)) s ((t.freezeTrigger 0).written r))
    ∧ (Grants s r 0xF00 0x111 0 0 [2] w row → t.telem.freeze = 2 →
      Takes (.freezeRelease r) s (({ t with telem := { t.telem with freeze := 0 } } : State).written r))
    ∧ (Grants s r 0xF00 0x111 0 0 [2] w row → t.telem.freeze ≠ 2 → Takes (.freezeRelease r) s (t.written r))
    ∧ (Grants s r 0xF00 0x120 0 0 [1] w row → Takes (.snapshotTake (.command r)) s ((t.snapTrigger 0).written r))
    ∧ (Grants s r 0xF00 0x120 0 0 [2] w row → t.telem.snap = 2 →
      Takes (.snapshotRelease r) s (({ t with telem := { t.telem with snap := 0, snapBytes := [] } } : State).written r))
    ∧ (Grants s r 0xF00 0x120 0 0 [2] w row → t.telem.snap ≠ 2 → Takes (.snapshotRelease r) s (t.written r))
    ∧ (∀ k : Fin 8, t.actual 0xD00 = 2 →
      (Grants s r (0xD10 + k) 0x124 0 0 [1] w row → t.coreRuns k = true → (t.ctl k).halt = 0 →
        Takes (.halt k (some r)) s ((t.setCtl k { t.ctl k with halt := 1 }).written r))
      ∧ (Grants s r (0xD10 + k) 0x124 0 0 [2] w row → (t.ctl k).halt ≠ 0 →
        Takes (.resume k r) s ((t.setCtl k { t.ctl k with halt := 0 }).written r))
      ∧ (Grants s r (0xD10 + k) 0x124 0 0 [3] w row → (t.ctl k).halt = 2 →
        Takes (.stepOneInstruction k r) s ((t.setCtl k { t.ctl k with halt := 1 }).written r)))

/-- HELLO gives a nonce, OPEN a session, CLOSE ends it, and frames the server does not know are refused. At the management port
HELLO answers a fresh nonce that lives 10 s, the identity hash and the free sessions; OPEN with a live nonce, the right
ciphertext and signature opens a session, and is answered AUTH or NO_RESOURCE otherwise; CLOSE ends it; a session silent too
long is closed; a frame that does not fit is dropped and counted and one of an unknown type is answered TYPE; a mailbox
payload is served as the request it carries. (Derived: 02_object_dictionary.md R68, 02_object_dictionary.md R69,
02_object_dictionary.md R70, 02_object_dictionary.md R71, 02_object_dictionary.md R72, 02_object_dictionary.md R648.) -/
def Obligations.SessionsOpenAndClose : Prop :=
  (∀ (s t u : State) (z q : U32) (tag n : Bytes) (g : Option U32) (m : Byte), PortTakes s t → (t.isHere m.toNat = true ∨ m.toNat ∈ t.peers) →
    t.draw 32 = (n, u) → Takes (.hello { path := .mgmt z q tag, member := m, gen := g }) s
      (State.answer { u with nonces := u.nonces.filter (fun x => decide (x.expires > u.now)) ++ [{ value := n, expires := u.now + 10000000000 }] }
        (.mgmt z q []) 1 0 (n ++ slice Config.identityHash 0 32 ++ leBytes 1 (u.obj 0xE00 0x132 0 - u.sessions.length))))
  ∧ (∀ (s t u v : State) (z q : U32) (tag : Bytes) (g : Option U32) (m : Byte) (role : Byte) (reserved cipher sig plain : Bytes) (id : Nat) (good : Bool),
    PortTakes s t → (t.isHere m.toNat = true ∨ m.toNat ∈ t.peers) → cipher.length = 384 → sig.length = 384 →
    plain = (Config.oaepOpen cipher).getD [] →
    good = (decide (plain.length = 64) && t.nonces.any (fun x => x.value == plain.drop 32 && decide (t.now < x.expires))
      && (t.keyHashes role.toNat).any (fun h => Config.pssVerify h (sha256 (slice (messageBytes 2 z.toNat q.toNat m.toNat
        (role :: slice reserved 0 3 ++ cipher ++ sig)) 0 16 ++ leBytes 1 role.toNat ++ cipher ++ plain.drop 32)) sig)
      && (!t.fw.recovery || role == 3)) →
    u = { t with nonces := t.nonces.filter (fun x => x.value != plain.drop 32) } → u.newSession = (id, v) →
    Takes (.openReq { path := .mgmt z q tag, member := m, gen := g } role reserved cipher sig) s
      (if good = false then State.answer (u.bump 0xE00 0x17 1) (.mgmt z q []) 2 9 []
       else if t.obj 0xE00 0x132 0 ≤ t.sessions.length then State.answer u (.mgmt z q []) 2 0x0C []
       else State.answer { v with sessions := v.sessions ++ [{ id := id
                                                               role := role.toNat
                                                               key := hmac256 (plain.take 32) (strBytes 10 "aqfort-mac" ++ plain.drop 32 ++ leBytes 4 id)
                                                               heard := v.now
                                                               firstEvent := v.telem.nextEvent }] } (.mgmt z q []) 2 0 (leBytes 4 id)))
  ∧ (∀ (s t : State) (z q : U32) (tag : Bytes) (m : Byte) (g : Option U32) (x : Session) (u : State), PortTakes s t →
    t.sessions.find? (·.id == z.toNat) = some x → tag.length = 32 → hmac256 x.key (messageBytes 3 z.toNat q.toNat m.toNat []) = tag →
    x.high ≤ q.toNat + 63 → tabGet x.done q.toNat = none → (t.isHere m.toNat = true ∨ m.toNat ∈ t.peers) →
    u = State.answer (t.setSession { x with heard := t.now, high := Nat.max x.high q.toNat, done := x.done ++ [(q.toNat, [])] }) (.mgmt z q tag) 3 0 [] →
    Takes (.closeReq { path := .mgmt z q tag, member := m, gen := g }) s { u with sessions := u.sessions.filter (·.id != x.id) })
  ∧ (∀ (s : State) (z : U32), Takes (.sessionIdleTimeout z) s { s with sessions := s.sessions.filter (·.id != z.toNat) })
  ∧ (∀ (s t : State) (f : Bytes), PortTakes s.tick.2 t → field f 3 1 ≠ 1 → field f 3 1 ≠ 2 →
    (msgFits f 32 = false → Takes (.unknownAqfortType f) s (t.bump 0xE00 0x16 1))
    ∧ (∀ x : Session, msgFits f 32 = true → t.sessions.find? (·.id == field f 4 4) = some x →
      hmac256 x.key (f.take (16 + field f 14 2)) = slice f (16 + field f 14 2) 32 → field f 2 1 = 1 → field f 3 1 ∉ requestTypes →
      Takes (.unknownAqfortType f) s (t.respond (.mgmt (BitVec.ofNat 32 (field f 4 4)) (BitVec.ofNat 32 (field f 8 4))
        (slice f (16 + field f 14 2) 32)) (field f 3 1) 0x0F [])))
  ∧ (∀ (s : State) (ld : Fin 16) (b : Bytes), s.stage = .running → (s.ld ld).flr = false → s.coresServe = true → s.bound ld = true →
    msgFits b 0 = true → b.length = 16 + field b 14 2 → field b 2 1 = 1 →
    (field b 3 1 ∉ requestTypes → Takes (.aqfortMessage ld b) s (s.tick.2.answer (.mailbox ld) (field b 3 1) 0x0F []))
    ∧ (field b 3 1 ∈ [0x10, 0x11, 0x12, 0x30, 0x31] → (field b 13 1).testBit 0 = false → s.isHere (field b 12 1) = true →
      Takes (.aqfortMessage ld b) s ((s.tick.2.serveHere { ld := some ld.val } (.mailbox ld) (field b 3 1) (slice b 16 (field b 14 2))
        s.readBacks.1 s.readBacks.2).reply (.mailbox ld) (field b 3 1))))

/-- READ answers the member, WRITE and WRITE_IF store it, PROFILE_STORE copies and PROFILE_APPLY gives profile values. A READ
that passes the checks answers the member's bytes; a WRITE, or a WRITE_IF with the unit's generation, of a member without an
effect of its own stores it; PROFILE_STORE replaces the older copy of the slot and counts; PROFILE_APPLY gives every
quiescent unit the live values of the profile (values that do not fit together fall back to their defaults: the model's
choice, log entry 44) and lists the others. (Derived: 02_object_dictionary.md R61, 02_object_dictionary.md R63,
02_object_dictionary.md R64, 02_object_dictionary.md R80, 02_object_dictionary.md R81, 02_object_dictionary.md R82.) -/
def Obligations.ReadsWritesAndProfilesAnswer : Prop :=
  ∀ (s t : State) (r : Req) (w : Sender), t = s.taking r →
    (∀ (row : Row) (u o : U16) (m : Byte) (off : U32) (len : U16),
      Admits s r 0x10 (requestBody u.toNat o.toNat m.toNat off.toNat len.toNat none []) w → len.toNat ≤ 1020 →
      t.access w u.toNat o.toNat m.toNat off.toNat len.toNat false true = .ok row →
      Takes (.read r u o m off len) s ((if readsFree u.toNat o.toNat m.toNat then t.tick.2 else t).answer r.path 0x10 0
        (t.readMember w u.toNat o.toNat m.toNat row off.toNat len.toNat)))
    ∧ (∀ (row : Row) (u o : U16) (m : Byte) (off : U32) (len : U16) (g : U32) (data : Bytes) (v : State), data.length = len.toNat → u.toNat ≠ 1 →
      t.objWrite w u.toNat o.toNat m.toNat off.toNat row data = .ok v → mayDefer u.toNat o.toNat data = false →
      (Grants s { r with gen := none } u.toNat o.toNat m.toNat off.toNat data w row →
        Takes (.write r u o m off len data) s (v.answer r.path 0x11 0 []))
      ∧ (Grants s { r with gen := some g } u.toNat o.toNat m.toNat off.toNat data w row →
        Takes (.writeIf r u o m off len g data) s (v.answer r.path 0x12 0 [])))
    ∧ (∀ (row : Row) (o : U16) (m : Byte) (len : U16) (g : U32) (data : Bytes),
      (o.toNat = 0x120 ∨ o.toNat = 0x122 ∨ o.toNat = 0x130 ∨ o.toNat = 0x132) → data.length = len.toNat → row.chk.ok (leNat data) = true →
      (row.ty = .bool → leNat data ≤ 1) →
      (Grants s { r with gen := none } 0xE00 o.toNat m.toNat 0 data w row →
        Takes (.write r 0xE00 o m 0 len data) s ((t.plainWrite 0xE00 o.toNat m.toNat 0 row data).answer r.path 0x11 0 []))
      ∧ (Grants s { r with gen := some g } 0xE00 o.toNat m.toNat 0 data w row →
        Takes (.writeIf r 0xE00 o m 0 len g data) s ((t.plainWrite 0xE00 o.toNat m.toNat 0 row data).answer r.path 0x12 0 [])))
    ∧ (∀ (slot : Byte) (k n : Nat) (nm : Bytes) (ok1 ok2 : Bool) (u : State), Admits s r 0x30 [slot] w → (w.fm = true ∨ w.svc = true) → slot.toNat ≤ 3 →
      (ok1 = true ∨ ok2 = true) →
      (match t.profileCopy slot.toNat with
        | some (i, c) => k = (if i % 2 = 0 then i + 1 else i - 1) ∧ n = c.seq ∧ nm = c.name
        | none => k = 2 * slot.toNat ∧ n = 0 ∧ nm = zeros 16) →
      u = { t with profiles := tabSet t.profiles k { valid := true
                                                     seq := (n + 1) % 2 ^ 32
                                                     firmware := t.obj 0 0 4
                                                     name := nm
                                                     entries := t.profileEntries } } →
      Takes (.profileStore r slot ok1 ok2) s ((u.setObj 0 0x122 0 ((u.obj 0 0x122 0 + 1) % 2 ^ 32)).answer r.path 0x30 0 []))
    ∧ (∀ (slot : Byte) (us : List Nat) (u : State), Admits s r 0x31 [slot] w → (w.fm = true ∨ w.svc = true) → slot.toNat ≤ 3 →
      us = allUnits.filter (fun u => !(liveMembers u).isEmpty) →
      u = ((t.liveTaken ((us.filter t.quiescent).foldl (fun (v : State) x => v.applyLive ((t.profileCopy slot.toNat).map (·.2)) x)
        t.noteShares).fitTogether).setObj 0 0x121 2
        (b2n !(us.filter (fun x => !t.quiescent x)).isEmpty)) →
      Takes (.profileApply r slot) s (State.answer (if (us.filter (fun x => !t.quiescent x)).isEmpty then u.setObj 0 0x121 3 u.now
          else (u.setObj 0 0x121 3 u.now).raise 0 4 0) r.path 0x31 0
        (leBytes 1 ((us.filter (fun x => !t.quiescent x)).take 255).length ++ ((us.filter (fun x => !t.quiescent x)).take 255).flatMap (leBytes 2))))

/-- A request that a check refuses is answered with that check's status and changes nothing. An admitted READ, WRITE or WRITE_IF
that fails the check of its unit, object, member, length or role, the generation, or the object's own checks is answered with
the status of the first that fails, and the state is otherwise the one it was served in. (Derived: 02_object_dictionary.md
R76, 02_object_dictionary.md R647.) -/
def Obligations.RefusedRequestsChangeNothing : Prop :=
  ∀ (s t : State) (r : Req) (w : Sender) (u o : U16) (m : Byte) (off : U32) (len : U16) (c : Nat), t = s.taking r →
    (Admits s r 0x10 (requestBody u.toNat o.toNat m.toNat off.toNat len.toNat none []) w →
      t.access w u.toNat o.toNat m.toNat off.toNat len.toNat false (decide (len.toNat ≤ 1020)) = .error c →
      Takes (.read r u o m off len) s (t.answer r.path 0x10 c []))
    ∧ (∀ (data : Bytes), Admits s r 0x11 (requestBody u.toNat o.toNat m.toNat off.toNat len.toNat none data) w →
      t.access w u.toNat o.toNat m.toNat off.toNat len.toNat true (decide (data.length = len.toNat)) = .error c →
      Takes (.write r u o m off len data) s (t.answer r.path 0x11 c []))
    ∧ (∀ (data : Bytes) (g : U32) (row : Row), Admits s r 0x12 (requestBody u.toNat o.toNat m.toNat off.toNat len.toNat (some g.toNat) data) w →
      data.length = len.toNat → t.access w u.toNat o.toNat m.toNat off.toNat len.toNat true true = .ok row → g.toNat ≠ t.obj u.toNat 3 0 →
      Takes (.writeIf r u o m off len g data) s (t.answer r.path 0x12 8 []))
    ∧ (∀ (data : Bytes) (g : Option U32) (row : Row), g = none → data.length = len.toNat →
      Grants s { r with gen := g } u.toNat o.toNat m.toNat off.toNat data w row →
      t.objWrite w u.toNat o.toNat m.toNat off.toNat row data = .error c → Takes (.write r u o m off len data) s (t.answer r.path 0x11 c []))

/-- The checks of a request run in the order unit, object, member, length, role. The first check that fails gives the status:
NO_UNIT, NO_OBJECT, NO_MEMBER, LENGTH, RIGHTS; a request that passes all of them names a row of the object tables. (Derived:
02_object_dictionary.md R61, 02_object_dictionary.md R63, 02_object_dictionary.md R647.) -/
def Obligations.ChecksRunInOrder : Prop :=
  ∀ (s : State) (w : Sender) (u o m off len : Nat) (write fits : Bool),
    (unitExists u = false → s.access w u o m off len write fits = .error 1)
    ∧ (unitExists u = true → (o ≥ 4096 ∨ hasObject u o = false) → s.access w u o m off len write fits = .error 2)
    ∧ (unitExists u = true → o < 4096 → hasObject u o = true → (rowOf u o m = none ∨ o = 0x40 ∧ m > (s.children u).length) →
      s.access w u o m off len write fits = .error 3)
    ∧ (∀ row, unitExists u = true → o < 4096 → hasObject u o = true → rowOf u o m = some row → (o = 0x40 → m ≤ (s.children u).length) →
      (fits = false ∨ spanOk u o row off len write = false → s.access w u o m off len write fits = .error 5)
      ∧ (fits = true → spanOk u o row off len write = true →
        s.access w u o m off len write fits = if (if write then s.mayWrite w u o m row else s.mayRead w u o m row) = true then .ok row else .error 4))

/-- A scalar instruction of two registers writes its result to rd and passes to the next instruction. Each instruction of SOP
that issues writes the value its row gives from rs1 and rs2 to rd, nothing when rd is x0, moves the pc by 4 and is counted,
and changes nothing else. (Derived: 11_compute_architecture.md R391, 12_gaisk_isa.md R393, 12_gaisk_isa.md R401.) -/
def Obligations.ScalarInstructionsWriteTheirResult : Prop :=
  ∀ (s : State) (t : ThreadId) (c : Ctx) (rd rs1 rs2 : BitVec 5) (a b : U64), a = c.x.rx rs1 → b = c.x.rx rs2 →
    ∀ p ∈ ([(Instr.gAdd t rd rs1 rs2, 0x000, a + b), (.gSub t rd rs1 rs2, 0x001, a - b), (.gAnd t rd rs1 rs2, 0x002, a &&& b),
      (.gOr t rd rs1 rs2, 0x003, a ||| b), (.gXor t rd rs1 rs2, 0x004, a ^^^ b), (.gSll t rd rs1 rs2, 0x005, a <<< (b.toNat % 64)),
      (.gSrl t rd rs1 rs2, 0x006, a >>> (b.toNat % 64)), (.gSra t rd rs1 rs2, 0x007, a.sshiftRight (b.toNat % 64)),
      (.gSlt t rd rs1 rs2, 0x008, if a.toInt < b.toInt then 1 else 0), (.gSltu t rd rs1 rs2, 0x009, if a.toNat < b.toNat then 1 else 0),
      (.gMin t rd rs1 rs2, 0x00A, if a.toInt < b.toInt then a else b), (.gMax t rd rs1 rs2, 0x00B, if a.toInt < b.toInt then b else a),
      (.gMinu t rd rs1 rs2, 0x00C, if a.toNat < b.toNat then a else b), (.gMaxu t rd rs1 rs2, 0x00D, if a.toNat < b.toNat then b else a),
      (.gMul t rd rs1 rs2, 0x010, BitVec.ofNat 64 (a.toNat * b.toNat)), (.gMulh t rd rs1 rs2, 0x011, BitVec.ofInt 64 (a.toInt * b.toInt / 2 ^ 64)),
      (.gMulhu t rd rs1 rs2, 0x012, BitVec.ofNat 64 (a.toNat * b.toNat / 2 ^ 64)), (.gCtz t rd rs1 rs2, 0x019,
        BitVec.ofNat 64 (((List.range 64).find? (fun i => a.getLsbD i)).getD 64)),
      (.gClz t rd rs1 rs2, 0x018, BitVec.ofNat 64 (((List.range 64).find? (fun i => a.getMsbD i)).getD 64)),
      (.gPopc t rd rs1 rs2, 0x01A, BitVec.ofNat 64 ((List.range 64).filter (fun i => a.getLsbD i)).length)] : List (Instr × Nat × U64)),
    Issues s t (wordS3 0x01 p.2.1 rd rs1 rs2) c →
    Takes p.1 s ((s.setThread c.k { c.x.wx rd p.2.2 with pc := c.x.pc + 4 }).retired t)

/-- Integer division raises no exception, and its corners have the values the rule gives. DIV, DIVU, REM and REMU that issue
write a result whatever the operands are: a divisor of 0 gives all ones and the dividend, -2^63 by -1 gives -2^63 and 0, and
every other pair the quotient toward zero and the remainder. (Stated: 12_gaisk_isa.md R402.) -/
def Obligations.DivisionRaisesNoException : Prop :=
  ∀ (s : State) (t : ThreadId) (c : Ctx) (rd rs1 rs2 : BitVec 5) (a b : U64), a = c.x.rx rs1 → b = c.x.rx rs2 →
    ∃ q r qu ru : U64,
      (b = 0 → q = 0xFFFFFFFFFFFFFFFF ∧ qu = 0xFFFFFFFFFFFFFFFF ∧ r = a ∧ ru = a)
      ∧ (a = 0x8000000000000000 → b = 0xFFFFFFFFFFFFFFFF → q = 0x8000000000000000 ∧ r = 0)
      ∧ (b ≠ 0 → (a = 0x8000000000000000 → b ≠ 0xFFFFFFFFFFFFFFFF) → q.toInt = a.toInt.tdiv b.toInt ∧ r.toInt = a.toInt.tmod b.toInt)
      ∧ (b ≠ 0 → qu.toNat = a.toNat / b.toNat ∧ ru.toNat = a.toNat % b.toNat)
      ∧ ∀ p ∈ ([(Instr.gDiv t rd rs1 rs2, 0x014, q), (.gDivu t rd rs1 rs2, 0x015, qu), (.gRem t rd rs1 rs2, 0x016, r),
          (.gRemu t rd rs1 rs2, 0x017, ru)] : List (Instr × Nat × U64)),
        Issues s t (wordS3 0x01 p.2.1 rd rs1 rs2) c → Takes p.1 s ((s.setThread c.k { c.x.wx rd p.2.2 with pc := c.x.pc + 4 }).retired t)

/-- An instruction with an immediate writes rd from rs1 and the sign-extended immediate; a shift needs its upper bits 0. The
eight instructions of SOPI compute rd from rs1 and the sign-extended imm12, the shifts by imm12[5:0]; a shift with
imm12[11:6] not 0 is an illegal word; LUI gives imm20 times 4,096, sign-extended from bit 31. (Stated: 12_gaisk_isa.md R403.) -/
def Obligations.ImmediateInstructionsWriteTheirResult : Prop :=
  ∀ (s : State) (t : ThreadId) (c : Ctx) (rd rs1 : BitVec 5) (imm : BitVec 12) (a b : U64), a = c.x.rx rs1 → b = BitVec.ofInt 64 imm.toInt →
    (∀ p ∈ ([(Instr.gAddi t rd rs1 imm, 0, a + b), (.gAndi t rd rs1 imm, 1, a &&& b), (.gOri t rd rs1 imm, 2, a ||| b), (.gXori t rd rs1 imm, 3, a ^^^ b),
        (.gSlli t rd rs1 imm, 4, a <<< (imm.toNat % 64)), (.gSrli t rd rs1 imm, 5, a >>> (imm.toNat % 64)),
        (.gSrai t rd rs1 imm, 6, a.sshiftRight (imm.toNat % 64)), (.gSlti t rd rs1 imm, 7, if a.toInt < b.toInt then 1 else 0)] : List (Instr × Nat × U64)),
      (Issues s t (wordSI 0x02 p.2.1 rd rs1 imm) c → Takes p.1 s ((s.setThread c.k { c.x.wx rd p.2.2 with pc := c.x.pc + 4 }).retired t))
      ∧ (4 ≤ p.2.1 → p.2.1 ≤ 6 → imm.toNat / 64 ≠ 0 → Ready s t (wordSI 0x02 p.2.1 rd rs1 imm) c → c.x.pc.toNat % 4 = 0 →
        s.fetchable t c.x.pc.toNat = true → Takes p.1 s (s.except t 1 false (wordSI 0x02 p.2.1 rd rs1 imm) c.x.pc.toNat 0)))
    ∧ (∀ i : BitVec 20, Issues s t (wordSU 0x03 rd i) c → Takes (.gLui t rd i) s
        ((s.setThread c.k { c.x.wx rd (BitVec.ofInt 64 (i.toInt * 4096)) with pc := c.x.pc + 4 }).retired t))

/-- A taken branch and a jump move the pc to their target; a jump writes the address after it to rd. A branch whose comparison
holds moves the pc by 4 times its offset, another one by 4; JAL and JALR write pc + 4 to rd and go to their targets, JALR's
with bits [1:0] cleared. (Derived: 12_gaisk_isa.md R393, 12_gaisk_isa.md R431.) -/
def Obligations.BranchesAndJumpsMoveThePc : Prop :=
  ∀ (s : State) (t : ThreadId) (c : Ctx) (rd rs1 rs2 : BitVec 5) (off : BitVec 12) (a b : U64), a = c.x.rx rs1 → b = c.x.rx rs2 →
    (∀ p ∈ ([(Instr.gBeq t rs1 rs2 off, 0, decide (a = b)), (.gBne t rs1 rs2 off, 1, decide (a ≠ b)), (.gBlt t rs1 rs2 off, 2, decide (a.toInt < b.toInt)),
        (.gBge t rs1 rs2 off, 3, decide (b.toInt ≤ a.toInt)), (.gBltu t rs1 rs2 off, 4, decide (a.toNat < b.toNat)),
        (.gBgeu t rs1 rs2 off, 5, decide (b.toNat ≤ a.toNat))] : List (Instr × Nat × Bool)),
      Issues s t (wordB p.2.1 rs1 rs2 off) c →
      Takes p.1 s ((s.setThread c.k { c.x with pc := if p.2.2 then c.x.pc + BitVec.ofInt 64 (4 * off.toInt) else c.x.pc + 4 }).retired t))
    ∧ (∀ i : BitVec 20, Issues s t (wordSU 0x61 rd i) c →
      Takes (.gJal t rd i) s ((s.setThread c.k { c.x.wx rd (c.x.pc + 4) with pc := c.x.pc + BitVec.ofInt 64 (4 * i.toInt) }).retired t))
    ∧ (Issues s t (wordSI 0x62 0 rd rs1 off) c → ∃ target : U64, target.toNat = (a + BitVec.ofInt 64 off.toInt).toNat / 4 * 4 ∧
      Takes (.gJalr t rd rs1 off) s ((s.setThread c.k { c.x.wx rd (c.x.pc + 4) with pc := target }).retired t))

/-- SRR, SRW, EXIT, NOP, STOP, IFLUSH and FENCE have their effect. SRR gives each listed special register; SRW writes the four
flags of the status word; EXIT ends the thread and, with the last one, the run; NOP and IFLUSH only pass on; a FENCE passes
on when nothing it orders is outstanding and waits until then, and with acquire order at job or system scope the core's L1
keeps no line; STOP raises the user-stop exception. (The cycle count is a free value, log entry 5.) (Derived: 12_gaisk_isa.md
R396, 12_gaisk_isa.md R397, 12_gaisk_isa.md R408, 12_gaisk_isa.md R431, 12_gaisk_isa.md R434, 13_jobs.md R447.) -/
def Obligations.SystemInstructionsHaveTheirEffect : Prop :=
  ∀ (s : State) (t : ThreadId) (c : Ctx) (rd rs1 : BitVec 5) (imm : BitVec 12) (x : Thread), x = { c.x with pc := c.x.pc + 4 } →
    (∀ q ∈ ([(0x000, c.x.index), (0x001, c.job.threadCount), (0x002, t.cluster.val), (0x003, t.core.val), (0x004, t.slot.val), (0x005, c.jn / 64),
        (0x006, c.jn), (0x010, c.x.status), (0x012, s.now), (0x013, c.job.launchPos), (0x014, s.position c.job.launchCad),
        (0x020, 0x400000000000 + t.cluster.val * 0x400000), (0x021, (3072 - s.homeBlocks t.cluster) * 1024), (0x022, 0x800000000000),
        (0x023, c.job.hostLen)] : List (Nat × Nat)), imm.toNat = q.1 → Issues s t (wordSI 0x63 0 rd rs1 imm) c →
      Takes (.gSrr t rd rs1 imm) s ((s.setThread c.k { c.x.wx rd (BitVec.ofNat 64 q.2) with pc := c.x.pc + 4 }).retired t))
    ∧ (imm.toNat = 0x011 → Issues s t (wordSI 0x63 0 rd rs1 imm) c → Takes (.gSrr t rd rs1 imm) s
        ((State.setThread { s with fresh := s.fresh + 1 } c.k { c.x.wx rd (BitVec.ofNat 64 (Config.cycles s.fresh)) with pc := c.x.pc + 4 }).retired t))
    ∧ (Issues s t (wordSI 0x63 1 rd rs1 imm) c →
      Takes (.gSrw t rd rs1 imm) s ((s.setThread c.k { x with status := (c.x.rx rs1).toNat % 16 }).retired t))
    ∧ (Issues s t (wordSI 0x63 2 rd rs1 imm) c → s.loadsOf t = [] → Takes (.gExit t rd rs1 imm) s
      (((((s.setThread c.k { c.x with ended := true }).setJob c.jn { c.job with exits := c.job.exits + 1, lastExit := s.now }).jobCheck c.jn)).retired t))
    ∧ (Issues s t (wordSI 0x63 3 rd rs1 imm) c → Takes (.gNop t rd rs1 imm) s ((s.setThread c.k x).retired t))
    ∧ (Issues s t (wordSI 0x63 4 rd rs1 imm) c →
      Takes (.gStop t rd rs1 imm) s (s.except t 0x0F false (wordSI 0x63 4 rd rs1 imm) c.x.pc.toNat imm.toNat))
    ∧ (Issues s t (wordSI 0x63 5 rd rs1 imm) c → Takes (.gIflush t rd rs1 imm) s ((s.setThread c.k x).retired t))
    ∧ (∀ scope kind : BitVec 2, Issues s t (wordFN scope kind) c →
      (kind = 2 ∨ s.unperformed t scope.toNat = false → Takes (.gFence t scope kind) s
        (((if scope ≠ 0 ∧ kind ≠ 1 then s.l1Forget t (fun _ => true) else s).setThread c.k x).retired t))
      ∧ (kind ≠ 2 → s.unperformed t scope.toNat = true → Takes (.gFence t scope kind) s s))

/-- An illegal word, a misaligned fetch and a fetch outside raise their exceptions, which leave the record and stop the run. A
word that is not legal raises exception 0x01, whichever instruction it is given to; a fetch at an address that is not a
multiple of 4 raises 0x03; one outside the DPA range and the thread's own window raises 0x04; an exception of a running job
writes the 32-byte record and stops the run with its code. (Derived: 12_gaisk_isa.md R399, 12_gaisk_isa.md R432,
12_gaisk_isa.md R433, 12_gaisk_isa.md R434, 12_gaisk_isa.md R435.) -/
def Obligations.ExceptionsAreRecordedAndStopTheRun : Prop :=
  (∀ (s : State) (t : ThreadId) (word : U32) (c : Ctx), Ready s t word.toNat c → c.x.pc.toNat % 4 = 0 → s.fetchable t c.x.pc.toNat = true →
    wordLegal word.toNat = false → Takes (.illegalInstruction t word) s (s.except t 1 false word.toNat c.x.pc.toNat 0))
  ∧ (∀ (s : State) (t : ThreadId) (c : Ctx) (w : Nat) (i : Instr), Ready s t w c →
    (∃ rd rs1 rs2 : BitVec 5, ∃ imm : BitVec 12, ∃ p ∈ [(wordS3 0x01 0 rd rs1 rs2, Instr.gAdd t rd rs1 rs2), (wordSI 0x02 0 rd rs1 imm, .gAddi t rd rs1 imm),
      (wordSI 0x10 3 rd rs1 imm, .gLd t rd rs1 imm), (wordSI 0x11 3 rd rs1 imm, .gSd t rd rs1 imm), (wordB 0 rs1 rs2 imm, .gBeq t rs1 rs2 imm),
      (wordSI 0x63 3 rd rs1 imm, .gNop t rd rs1 imm)], p = (w, i)) →
    (c.x.pc.toNat % 4 ≠ 0 → Takes i s (s.except t 3 false w c.x.pc.toNat c.x.pc.toNat))
    ∧ (c.x.pc.toNat % 4 = 0 → s.fetchable t c.x.pc.toNat = false → Takes i s (s.except t 4 false w c.x.pc.toNat c.x.pc.toNat)))
  ∧ (∀ (s : State) (t : ThreadId) (pc : Nat), s.fetchable t pc = true ↔ (pc + 4 ≤ 0x100000000000
      ∨ 0x400000000000 + t.cluster.val * 0x400000 ≤ pc ∧ pc + 4 ≤ 0x400000000000 + t.cluster.val * 0x400000 + (3072 - s.homeBlocks t.cluster) * 1024))
  ∧ (∀ (s : State) (t : ThreadId) (code word pc a j : Nat) (d : Bool) (x : Job), s.jobOf (ThreadKey t) = some j → s.job j = some x →
    (∀ r : Bytes, x.state = 3 → r = leBytes 1 code ++ leBytes 1 t.cluster.val ++ leBytes 1 (16 * t.core.val + t.slot.val)
      ++ leBytes 1 (if d then 1 else 0) ++ leBytes 4 word ++ leBytes 8 pc ++ leBytes 8 a ++ leBytes 8 (s.position x.launchCad) →
      s.except t code d word pc a = State.stopRun (s.setJob j { x with record := r }) j code)
    ∧ (x.state ≠ 3 → s.except t code d word pc a = s))

/-- A register reads what was written to it, x0 reads 0 and p0 all ones. In a thread that holds its 32, 16 and 8 registers, a
written register reads back and the others keep their values; x0 and p0 read as they always do; a thread at the start of a
job holds its registers, and a write of a register keeps their number. (Derived: 12_gaisk_isa.md R393.) -/
def Obligations.RegistersReadBack : Prop :=
  (∀ (x : Thread) (r q : BitVec 5) (v : U64), x.x.length = 32 → (x.wx r v).rx q = (if q = 0 then 0 else if q = r then v else x.rx q) ∧ (x.wx r v).x.length = 32)
  ∧ (∀ (x : Thread) (r q : BitVec 4) (v : BitVec 512), x.v.length = 16 → (x.wv r v).rv q = (if q = r then v else x.rv q) ∧ (x.wv r v).v.length = 16)
  ∧ (∀ (x : Thread) (r q : BitVec 3) (v : U64), x.p.length = 8 →
    (x.wp r v).rp q = (if q = 0 then BitVec.allOnes 64 else if q = r then v else x.rp q) ∧ (x.wp r v).p.length = 8)
  ∧ (∀ (j i : Nat) (pc : U64), (Thread.fresh j i pc).x.length = 32 ∧ (Thread.fresh j i pc).v.length = 16 ∧ (Thread.fresh j i pc).p.length = 8
    ∧ (Thread.fresh j i pc).pc = pc ∧ (Thread.fresh j i pc).status = 0
    ∧ (∀ r, (Thread.fresh j i pc).rx r = 0) ∧ (∀ r, (Thread.fresh j i pc).rv r = 0) ∧ (∀ r ≠ 0, (Thread.fresh j i pc).rp r = 0))

/-- A load reads, and a store writes, the place its address names: a caddy window at once, DPA and the host window through the
tiers or DMA. A load of a window gives its register the little-endian value, sign-extended for LB, LH and LW, or the bytes
under the predicate; a load of DPA is served by the L1 of its core or, as one of the host window, becomes outstanding and its
register takes the value later; a load of a caddy line whose check fails raises exception 0x05; a store of a window writes it
at once, one of DPA becomes a write of the thread and one of the host window a DMA write; a misaligned access raises
exception 0x02 and an address with no place 0x04; a VST without a predicate bit makes no access. (Derived:
11_compute_architecture.md R361, 11_compute_architecture.md R362, 11_compute_architecture.md R384, 12_gaisk_isa.md R404,
12_gaisk_isa.md R405.) -/
def Obligations.LoadsAndStoresReachTheirPlace : Prop :=
  ∀ (s : State) (t : ThreadId) (c : Ctx) (rd rs1 : BitVec 5) (vd : BitVec 4) (pm : BitVec 3) (imm : BitVec 12) (i : BitVec 11) (a va : Nat),
    a = (c.x.rx rs1 + BitVec.ofInt 64 imm.toInt).toNat → va = (c.x.rx rs1 + BitVec.ofInt 64 (64 * i.toInt)).toNat →
    (∀ p ∈ ([(Instr.gLb t rd rs1 imm, wordSI 0x10 0 rd rs1 imm, a, 1, LoadKind.scalar rd.toNat 1 true),
        (.gLh t rd rs1 imm, wordSI 0x10 1 rd rs1 imm, a, 2, .scalar rd.toNat 2 true), (.gLw t rd rs1 imm, wordSI 0x10 2 rd rs1 imm, a, 4, .scalar rd.toNat 4 true),
        (.gLd t rd rs1 imm, wordSI 0x10 3 rd rs1 imm, a, 8, .scalar rd.toNat 8 true), (.gLbu t rd rs1 imm, wordSI 0x10 4 rd rs1 imm, a, 1, .scalar rd.toNat 1 false),
        (.gLhu t rd rs1 imm, wordSI 0x10 5 rd rs1 imm, a, 2, .scalar rd.toNat 2 false), (.gLwu t rd rs1 imm, wordSI 0x10 6 rd rs1 imm, a, 4, .scalar rd.toNat 4 false),
        (.gVld t vd rs1 pm i, wordVM 0x12 0 vd rs1 pm i, va, 64, .vector vd.toNat (c.x.rp pm).toNat true),
        (.gVldnt t vd rs1 pm i, wordVM 0x12 1 vd rs1 pm i, va, 64, .vector vd.toNat (c.x.rp pm).toNat false)] : List (Instr × Nat × Nat × Nat × LoadKind)),
      Issues s t p.2.1 c → ∀ (x : Thread), x = { c.x with pc := c.x.pc + 4 } →
      (p.2.2.1 % p.2.2.2.1 ≠ 0 → Takes p.1 s (s.except t 2 false p.2.1 c.x.pc.toNat p.2.2.1))
      ∧ (p.2.2.1 % p.2.2.2.1 = 0 →
        (s.place c.jn c.job p.2.2.1 p.2.2.2.1 = .nowhere → Takes p.1 s (s.except t 4 false p.2.1 c.x.pc.toNat p.2.2.1))
        ∧ (∀ (cl w : Nat) (u : State), s.place c.jn c.job p.2.2.1 p.2.2.2.1 = .window cl w → u = s.startClock cl →
          (u.windowBad cl w p.2.2.2.1 = false → Takes p.1 s ((u.setThread c.k (x.loaded p.2.2.2.2 (u.windowRead cl w p.2.2.2.1))).retired t))
          ∧ (u.windowBad cl w p.2.2.2.1 = true →
            Takes p.1 s ((u.windowFail cl w p.2.2.2.1).except t 5 false p.2.1 c.x.pc.toNat p.2.2.1)))
        ∧ (∀ (d : Nat), s.place c.jn c.job p.2.2.1 p.2.2.2.1 = .dpa d → s.lineBusy c p.2.2.1 = false →
          (s.storesHeld t = false ∨ s.lineHeld c.ld d = false) → s.noRef c d = false →
          Takes p.1 s (match s.l1Read c d with
            | (some b, u) => (u.setThread c.k (x.loaded p.2.2.2.2 (b.drop (d % 64)))).retired t
            | (none, u) => (((u.newLoad c p.2.2.2.2 p.2.2.1).2.setThread c.k x).readAt { view := c.view, load := some (u.newLoad c p.2.2.2.2 p.2.2.1).1, req := c.req } d).retired t))
        ∧ (∀ (off h id : Nat) (u v : State), s.place c.jn c.job p.2.2.1 p.2.2.2.1 = .host off → s.mayMaster c.ld = true → s.allLegsDown = false →
          s.lineLoading t p.2.2.1 = false → s.hostAddr c off = (some h, u) → u.newLoad c p.2.2.2.2 p.2.2.1 = (id, v) →
          Takes p.1 s (((v.setThread c.k x).dmaSend c.ld (.load id) [(h, p.2.2.2.1)]
            (if c.job.virtual then pagesOf (c.job.hostAddr + off) p.2.2.2.1 else []) none).retired t))))
    ∧ (∀ p ∈ ([(Instr.gSb t rd rs1 imm, wordSI 0x11 0 rd rs1 imm, a, 1, 1, leBytes 1 (c.x.rx rd).toNat),
        (.gSh t rd rs1 imm, wordSI 0x11 1 rd rs1 imm, a, 2, 3, leBytes 2 (c.x.rx rd).toNat), (.gSw t rd rs1 imm, wordSI 0x11 2 rd rs1 imm, a, 4, 15, leBytes 4 (c.x.rx rd).toNat),
        (.gSd t rd rs1 imm, wordSI 0x11 3 rd rs1 imm, a, 8, 255, leBytes 8 (c.x.rx rd).toNat),
        (.gVst t vd rs1 pm i, wordVM 0x13 0 vd rs1 pm i, va, 64, (c.x.rp pm).toNat, leBytes 64 (c.x.rv vd).toNat)] : List (Instr × Nat × Nat × Nat × Nat × Bytes)),
      Issues s t p.2.1 c → ∀ (n mask : Nat) (b : Bytes) (x : Thread), n = p.2.2.2.1 → mask = p.2.2.2.2.1 → b = p.2.2.2.2.2 →
        x = { c.x with pc := c.x.pc + 4 } →
      (mask = 0 → Takes p.1 s ((s.setThread c.k x).retired t))
      ∧ (mask ≠ 0 → p.2.2.1 % n ≠ 0 → Takes p.1 s (s.except t 2 false p.2.1 c.x.pc.toNat p.2.2.1))
      ∧ (mask ≠ 0 → p.2.2.1 % n = 0 →
        (s.place c.jn c.job p.2.2.1 n = .nowhere → Takes p.1 s (s.except t 4 false p.2.1 c.x.pc.toNat p.2.2.1))
        ∧ (∀ (cl w : Nat) (u : State), s.place c.jn c.job p.2.2.1 n = .window cl w → u = s.startClock cl →
          Takes p.1 s (((u.setThread c.k x).windowWrite cl w
            ((List.range n).map (fun j => if mask.testBit j then nth b j 0 else nth (u.windowRead cl w n) j 0))).retired t))
        ∧ (∀ (d : Nat), s.place c.jn c.job p.2.2.1 n = .dpa d → s.lineBusy c p.2.2.1 = false → s.noRef c d = false →
          Takes p.1 s ((((s.l1Forget t (· == d / 64)).setThread c.k x).write { why := .flip
                                                                               ld := c.ld
                                                                               dpa := d / 64 * 64
                                                                               mask := mask * 2 ^ (d % 64)
                                                                               data := slice (zeros (d % 64) ++ b.take n) 0 64
                                                                               by_ := .thread t
                                                                               since := s.now
                                                                               job := some c.jn }).retired t))
        ∧ (∀ (off h : Nat) (u : State), s.place c.jn c.job p.2.2.1 n = .host off → s.mayMaster c.ld = true → s.allLegsDown = false →
          s.lineLoading t p.2.2.1 = false → s.hostAddr c off = (some h, u) → (∀ j < n, mask.testBit j = true) →
          Takes p.1 s (((u.dmaPut c.ld h b).setThread c.k x).retired t))))

/-- A load whose line has come gives its register its value; poison raises exception 0x06. An outstanding load of DPA whose line
has arrived, or of the host window whose data comes, leaves the list, its wait is traced, its register takes the value, and a
line of DPA is offered to the core's L1; a poisoned one raises poison consumed with the line's address. (Derived:
06_tiers_and_moves.md R195, 11_compute_architecture.md R362, 11_compute_architecture.md R382, 12_gaisk_isa.md R404,
12_gaisk_isa.md R434.) -/
def Obligations.LoadsComplete : Prop :=
  ∀ (s : State) (l : Load) (x : Thread) (u : State), s.loads.find? (fun y => y.id == l.id) = some l → s.thread (ThreadKey l.thread) = some x →
    ((∃ rd n sg, l.kind = .scalar rd n sg) ∨ (∃ vd m nt, l.kind = .vector vd m nt)) →
    (l.arrived = true → u = ({ s with loads := s.loads.filter (fun y => y.id != l.id) } : State).traceLoad l x.job →
      (∀ b, l.data = some b → Takes (.threadLoadComplete l.id none) s
        (if l.addr < 0x100000000000 then (u.l1Fill l b).setThread (ThreadKey l.thread) (x.loaded l.kind (b.drop (l.addr % 64)))
          else u.setThread (ThreadKey l.thread) (x.loaded l.kind b)))
      ∧ (l.data = none → Takes (.threadLoadComplete l.id none) s (u.except l.thread 6 false l.word l.pc (l.addr / 64 * 64))))
    ∧ (l.arrived = false → 0x800000000000 ≤ l.addr → (∃ d ∈ s.dmas, d.for_ = .load l.id) →
      u = ({ s with dmas := s.dmas.filter (fun d => d.for_ != .load l.id), loads := s.loads.filter (fun y => y.id != l.id) } : State).traceLoad l x.job →
      (∀ b, Takes (.threadLoadComplete l.id (some b)) s (u.setThread (ThreadKey l.thread) (x.loaded l.kind b)))
      ∧ Takes (.threadLoadComplete l.id none) s (u.except l.thread 6 false l.word l.pc (l.addr / 64 * 64)))

/-- An atomic gives rd the old value and the location the new one. An atomic on an aligned location of a caddy window reads the
old value, writes the value its row gives and returns the old value zero-extended; one on DPA whose line can be read does the
same at the location's home; on the host window, or outside, it raises exception 0x04; misaligned it raises 0x02, and on a
caddy line whose check fails 0x05. With acquire order the core's L1 keeps no line, else not the atomic's. AFADD rounds to
nearest even and raises the flags of its sum. (Derived: 11_compute_architecture.md R388, 11_compute_architecture.md R390,
12_gaisk_isa.md R406, 12_gaisk_isa.md R407.) -/
def Obligations.AtomicsReturnTheOldValue : Prop :=
  ∀ (s : State) (t : ThreadId) (c : Ctx) (rd rs1 rs2 : BitVec 5) (order size : BitVec 2) (n m a y z : Nat), n = 2 ^ (size.toNat + 1) → m = 2 ^ (8 * n) →
    a = (c.x.rx rs1).toNat → y = (c.x.rx rs2).toNat % m → z = (c.x.rx rd).toNat % m →
    ∀ p ∈ ([(Instr.gAadd t rd rs1 rs2 order size, 0, fun old => ((old + y) % m, {})), (.gAand t rd rs1 rs2 order size, 1, fun old => (old &&& y, {})),
      (.gAor t rd rs1 rs2 order size, 2, fun old => (old ||| y, {})), (.gAxor t rd rs1 rs2 order size, 3, fun old => (old ^^^ y, {})),
      (.gAmin t rd rs1 rs2 order size, 4, fun old => (if sextNat (8 * n) old < sextNat (8 * n) y then old else y, {})),
      (.gAmax t rd rs1 rs2 order size, 5, fun old => (if sextNat (8 * n) old < sextNat (8 * n) y then y else old, {})),
      (.gAminu t rd rs1 rs2 order size, 6, fun old => (Nat.min old y, {})), (.gAmaxu t rd rs1 rs2 order size, 7, fun old => (Nat.max old y, {})),
      (.gAswap t rd rs1 rs2 order size, 8, fun _ => (y, {})), (.gAcas t rd rs1 rs2 order size, 9, fun old => (if old = z then y else old, {})),
      (.gAfadd t rd rs1 rs2 order size, 10, fun old => if n = 2 then bf16.add .rne old y else fp32.add .rne old y)] : List (Instr × Nat × (Nat → Nat × Flags))),
    Issues s t (wordAT p.2.1 rd rs1 rs2 order size) c →
    (a % n ≠ 0 → Takes p.1 s (s.except t 2 false (wordAT p.2.1 rd rs1 rs2 order size) c.x.pc.toNat a))
    ∧ (a % n = 0 →
      (∀ off, (s.place c.jn c.job a n = .nowhere ∨ s.place c.jn c.job a n = .host off) →
        Takes p.1 s (s.except t 4 false (wordAT p.2.1 rd rs1 rs2 order size) c.x.pc.toNat a))
      ∧ (∀ (cl w old : Nat) (u : State) (x : Thread), s.place c.jn c.job a n = .window cl w →
        (order.toNat < 2 ∨ s.loadsOf t = [] ∧ s.storesHeld t = false) → old = leNat ((s.startClock cl).windowRead cl w n) →
        x = ((c.x.wx rd (BitVec.ofNat 64 old)).accrue (p.2.2 old).2) →
        u = (if order.toNat % 2 = 1 then (s.startClock cl).l1Forget t (fun _ => true) else s.startClock cl) →
        ((s.startClock cl).windowBad cl w n = false →
          Takes p.1 s (((u.setThread c.k { x with pc := c.x.pc + 4 }).windowWrite cl w (leBytes n (p.2.2 old).1)).retired t))
        ∧ ((s.startClock cl).windowBad cl w n = true →
          Takes p.1 s ((u.windowFail cl w n).except t 5 false (wordAT p.2.1 rd rs1 rs2 order size) c.x.pc.toNat a)))
      ∧ (∀ (d key old i : Nat) (line : Bytes) (u : State) (x : Thread) (rem : Option Nat), s.place c.jn c.job a n = .dpa d → s.lineBusy c a = false →
        (order.toNat < 2 ∨ s.loadsOf t = [] ∧ s.storesHeld t = false) → s.seen c.view d = .tile i (some key) rem true →
        ((s.regionAt i).bind s.region).any Region.isFr = false → (s.tgt key).state ≠ 4 → (s.tgt key).state ≠ 2 → (s.tgt key).home < 2 →
        (s.poisonSet key).testBit (d / 64 % 1024) = false → s.lineHeld c.ld d = false →
        s.lineNow c.view d (0x10 + t.cluster.val) = (some line, u) → old = field line (d % 64) n →
        x = ((c.x.wx rd (BitVec.ofNat 64 old)).accrue (p.2.2 old).2) →
        Takes p.1 s ((((u.write { why := .flip
                                  ld := c.ld
                                  dpa := d / 64 * 64
                                  mask := (2 ^ n - 1) * 2 ^ (d % 64)
                                  data := patch line (d % 64) (leBytes n (p.2.2 old).1)
                                  by_ := .thread t
                                  since := u.now
                                  job := some c.jn }).l1Atomic t order.toNat a).setThread c.k { x with pc := c.x.pc + 4 }).retired t)))

/-- A vector instruction writes the lanes its row gives, accrues its flags and keeps the vector unit busy. Each VOP and VOPX
instruction that issues gives vd the lanes its row computes under the predicate, or a predicate for a compare, or an x
register for VEXT; the flags it raises stay set in the status word; the core counts the cycles of its vector unit, 8 for VDIV
and VSQRT; the pc moves by 4. (Derived: 11_compute_architecture.md R371, 11_compute_architecture.md R372,
11_compute_architecture.md R373, 11_compute_architecture.md R374, 11_compute_architecture.md R375, 11_compute_architecture.md
R391, 12_gaisk_isa.md R409, 12_gaisk_isa.md R410, 12_gaisk_isa.md R411, 12_gaisk_isa.md R412, 12_gaisk_isa.md R413.) -/
def Obligations.VectorInstructionsWriteTheirLanes : Prop :=
  ∀ (s : State) (t : ThreadId) (c : Ctx) (vd vs1 vs2 : BitVec 4) (rs2 : BitVec 5) (pm ty : BitVec 3) (rm : Bool) (y : VTy) (p : U64) (a b d : BitVec 512)
    (m : Rm), y = vty ty → p = c.x.rp pm → a = c.x.rv vs1 → b = c.x.rv vs2 → d = c.x.rv vd → m = (if rm then .rtz else .rne) →
    (∀ q ∈ ([(Instr.gVadd t vd vs1 vs2 pm ty rm, 0x00, vLanes y p (fun a b _ => elAdd y m a b) a b d),
        (.gVsub t vd vs1 vs2 pm ty rm, 0x01, vLanes y p (fun a b _ => elSub y m a b) a b d), (.gVmul t vd vs1 vs2 pm ty rm, 0x02, vLanes y p (fun a b _ => elMul y m a b) a b d),
        (.gVfma t vd vs1 vs2 pm ty rm, 0x03, vLanes y p (elFma y m false) a b d), (.gVfnma t vd vs1 vs2 pm ty rm, 0x04, vLanes y p (elFma y m true) a b d),
        (.gVmin t vd vs1 vs2 pm ty rm, 0x05, vLanes y p (fun a b _ => elMinMax y false a b) a b d), (.gVmax t vd vs1 vs2 pm ty rm, 0x06, vLanes y p (fun a b _ => elMinMax y true a b) a b d),
        (.gVdiv t vd vs1 vs2 pm ty rm, 0x07, vLanes y p (fun a b _ => elDiv y m a b) a b d), (.gVsqrt t vd vs1 vs2 pm ty rm, 0x08, vLanes y p (fun a _ _ => elSqrt y m a) a b d),
        (.gVrcp t vd vs1 vs2 pm ty rm, 0x09, vLanes y p (fun a _ _ => EstFn.rcp.eval a) a b d), (.gVrsqrt t vd vs1 vs2 pm ty rm, 0x0A, vLanes y p (fun a _ _ => EstFn.rsqrt.eval a) a b d),
        (.gVexp2 t vd vs1 vs2 pm ty rm, 0x0B, vLanes y p (fun a _ _ => EstFn.exp2.eval a) a b d), (.gVlog2 t vd vs1 vs2 pm ty rm, 0x0C, vLanes y p (fun a _ _ => EstFn.log2.eval a) a b d),
        (.gVsinpi t vd vs1 vs2 pm ty rm, 0x0D, vLanes y p (fun a _ _ => EstFn.sinPi.eval a) a b d), (.gVcospi t vd vs1 vs2 pm ty rm, 0x0E, vLanes y p (fun a _ _ => EstFn.cosPi.eval a) a b d),
        (.gVtanh t vd vs1 vs2 pm ty rm, 0x0F, vLanes y p (fun a _ _ => EstFn.tanh.eval a) a b d),
        (.gVcvt t vd vs1 vs2 pm ty rm, 0x10, vConvert (vs2.toNat % 8) ty.toNat (vty (vs2.truncate 3)) (vcvtTy ty) (vs2.toNat.testBit 3) m p a d),
        (.gVsel t vd vs1 vs2 pm ty rm, 0x11, vIndexed y p (fun i => nth (laneList y a) i 0) b, {}),
        (.gVperm t vd vs1 vs2 pm ty rm, 0x12, vIndexed y p (fun i => nth (laneList y a) (nth (laneList y b) i 0 % y.lanes) 0) d, {}),
        (.gVredadd t vd vs1 vs2 pm ty rm, 0x13, vReduceAdd y m p a), (.gVredmax t vd vs1 vs2 pm ty rm, 0x14, vReduceMinMax y true p a),
        (.gVredmin t vd vs1 vs2 pm ty rm, 0x15, vReduceMinMax y false p a), (.gVand t vd vs1 vs2 pm ty rm, 0x18, vLanes y p (fun a b _ => (a &&& b, {})) a b d),
        (.gVor t vd vs1 vs2 pm ty rm, 0x19, vLanes y p (fun a b _ => (a ||| b, {})) a b d), (.gVxor t vd vs1 vs2 pm ty rm, 0x1A, vLanes y p (fun a b _ => (a ^^^ b, {})) a b d),
        (.gVsll t vd vs1 vs2 pm ty rm, 0x1B, vLanes y p (fun a b _ => elShift y false false a b) a b d), (.gVsrl t vd vs1 vs2 pm ty rm, 0x1C, vLanes y p (fun a b _ => elShift y true false a b) a b d),
        (.gVsra t vd vs1 vs2 pm ty rm, 0x1D, vLanes y p (fun a b _ => elShift y true true a b) a b d), (.gVsadd t vd vs1 vs2 pm ty rm, 0x1E, vLanes y p (fun a b _ => elSat y (y.signed a + y.signed b)) a b d),
        (.gVssub t vd vs1 vs2 pm ty rm, 0x1F, vLanes y p (fun a b _ => elSat y (y.signed a - y.signed b)) a b d),
        (.gVabs t vd vs1 vs2 pm ty rm, 0x25, vLanes y p (fun a _ _ => elAbs y a) a b d), (.gVneg t vd vs1 vs2 pm ty rm, 0x26, vLanes y p (fun a _ _ => elNeg y a) a b d)]
        : List (Instr × Nat × BitVec 512 × Flags)), Issues s t (wordV q.2.1 vd vs1 vs2 pm ty rm) c →
      Takes q.1 s (((s.bump (coreUnit t) 0x18 (if q.2.1 = 0x07 ∨ q.2.1 = 0x08 then 8 else 1)).setThread c.k
        { (c.x.wv vd q.2.2.1) with status := c.x.status ||| q.2.2.2.toNat, pc := c.x.pc + 4 }).retired t))
    ∧ (∀ q ∈ ([(Instr.gVcmpeq t vd vs1 vs2 pm ty rm, 0), (.gVcmplt t vd vs1 vs2 pm ty rm, 1), (.gVcmple t vd vs1 vs2 pm ty rm, 2),
        (.gVcmpun t vd vs1 vs2 pm ty rm, 3), (.gVcmpltu t vd vs1 vs2 pm ty rm, 4)] : List (Instr × Nat)),
      Issues s t (wordV (0x20 + q.2) vd vs1 vs2 pm ty rm) c → ∀ (r : U64 × Flags), r = vCompare y q.2 p a b →
      Takes q.1 s (((s.bump (coreUnit t) 0x18 1).setThread c.k
        { (c.x.wp (vd.truncate 3) r.1) with status := c.x.status ||| r.2.toNat, pc := c.x.pc + 4 }).retired t))
    ∧ (∀ q ∈ ([(Instr.gVaddx t vd vs1 rs2 pm ty, 0x00, vLanes y p (fun a b _ => elAdd y .rne a b) a (vSplat y (c.x.rx rs2)) d),
        (.gVsubx t vd vs1 rs2 pm ty, 0x01, vLanes y p (fun a b _ => elSub y .rne a b) a (vSplat y (c.x.rx rs2)) d),
        (.gVmulx t vd vs1 rs2 pm ty, 0x02, vLanes y p (fun a b _ => elMul y .rne a b) a (vSplat y (c.x.rx rs2)) d),
        (.gVfmax t vd vs1 rs2 pm ty, 0x03, vLanes y p (elFma y .rne false) a (vSplat y (c.x.rx rs2)) d),
        (.gVbcast t vd vs1 rs2 pm ty, 0x08, vIndexed y p (fun i => nth (laneList y (vSplat y (c.x.rx rs2))) i 0) d, {}),
        (.gVins t vd vs1 rs2 pm ty, 0x09, vIndexed y p (fun i => if i = 0 then (c.x.rx rs2).toNat % 2 ^ y.bits else nth (laneList y d) i 0) d, {}),
        (.gVsldn t vd vs1 rs2 pm ty, 0x0B, vIndexed y p (fun i => nth (laneList y a) (i + (c.x.rx rs2).toNat % 2 ^ y.bits) 0) d, {}),
        (.gVslup t vd vs1 rs2 pm ty, 0x0C, vIndexed y p (fun i => if i < (c.x.rx rs2).toNat % 2 ^ y.bits then 0 else nth (laneList y a) (i - (c.x.rx rs2).toNat % 2 ^ y.bits) 0) d, {}),
        (.gViota t vd vs1 rs2 pm ty, 0x10, vIndexed y p (fun i => i) d, {})] : List (Instr × Nat × BitVec 512 × Flags)),
      Issues s t (wordVX q.2.1 vd vs1 rs2 pm ty) c →
      Takes q.1 s (((s.bump (coreUnit t) 0x18 1).setThread c.k { (c.x.wv vd q.2.2.1) with status := c.x.status ||| q.2.2.2.toNat, pc := c.x.pc + 4 }).retired t))
    ∧ (Issues s t (wordVX 0x0A vd vs1 rs2 pm ty) c → Takes (.gVext t vd vs1 rs2 pm ty) s (((s.bump (coreUnit t) 0x18 1).setThread c.k
        { c.x.wx rs2 (BitVec.ofNat 64 (nth (laneList y a) 0 0)) with pc := c.x.pc + 4 }).retired t))

/-- A lane whose predicate bit is 0 keeps its old value; one whose bit is 1 takes its result. For every element type, lane i of
what a lane-by-lane operation writes is its result, cut to the lane, when predicate bit w times i is 1, and the old value of
the destination when it is 0. (Derived: 12_gaisk_isa.md R395, 12_gaisk_isa.md R409.) -/
def Obligations.LanesFollowTheirPredicate : Prop :=
  ∀ (n : BitVec 3) (p : U64) (f : Nat → Nat → Nat → Nat × Flags) (a b d : BitVec 512) (i : Nat), n.toNat ≤ 6 → i < (vty n).lanes →
    nth (laneList (vty n) (vLanes (vty n) p f a b d).1) i 0 = (if p.getLsbD ((vty n).bytes * i) then
      (f (nth (laneList (vty n) a) i 0) (nth (laneList (vty n) b) i 0) (nth (laneList (vty n) d) i 0)).1 % 2 ^ (vty n).bits
      else nth (laneList (vty n) d) i 0)

/-- POP computes a predicate from predicates, or moves it from or to an x register. PAND, POR, PXOR and PANDN give pd their row
of ps1 and ps2; PFROMX gives pd x[rs]; PTOX gives x[rs] the predicate of its pd field. Nothing else changes but the pc and
the count. (Stated: 12_gaisk_isa.md R414.) -/
def Obligations.PredicateInstructionsWriteTheirResult : Prop :=
  ∀ (s : State) (t : ThreadId) (c : Ctx) (pd ps1 ps2 : BitVec 3) (rs : BitVec 5) (a b : U64), a = c.x.rp ps1 → b = c.x.rp ps2 →
    (∀ q ∈ ([(Instr.gPand t pd ps1 ps2 rs, 0, a &&& b), (.gPor t pd ps1 ps2 rs, 1, a ||| b), (.gPxor t pd ps1 ps2 rs, 2, a ^^^ b),
        (.gPandn t pd ps1 ps2 rs, 3, a &&& ~~~b), (.gPfromx t pd ps1 ps2 rs, 4, c.x.rx rs)] : List (Instr × Nat × U64)),
      Issues s t (wordP q.2.1 pd ps1 ps2 rs) c → Takes q.1 s ((s.setThread c.k { c.x.wp pd q.2.2 with pc := c.x.pc + 4 }).retired t))
    ∧ (Issues s t (wordP 5 pd ps1 ps2 rs) c →
      Takes (.gPtox t pd ps1 ps2 rs) s ((s.setThread c.k { c.x.wx rs (c.x.rp pd) with pc := c.x.pc + 4 }).retired t))

/-- An array or tile-fetch instruction that passes its checks enters the cluster's queue; AWAIT waits for the thread's own
entries. An instruction of AOP but AWAIT, and a TFETCH, that finds room in the queue of 16 and whose parameter word and
addresses are right enters it with the values of its registers; AWAIT passes on when no entry of its thread is queued, and
waits otherwise. (Derived: 11_compute_architecture.md R358, 12_gaisk_isa.md R415, 12_gaisk_isa.md R416, 12_gaisk_isa.md R417,
12_gaisk_isa.md R420, 12_gaisk_isa.md R421, 12_gaisk_isa.md R424.) -/
def Obligations.ArrayInstructionsEnterTheQueue : Prop :=
  ∀ (s u : State) (t : ThreadId) (c : Ctx) (acc : BitVec 3) (rs1 rs2 : BitVec 5) (bank : Bool) (mode : BitVec 3) (flags : BitVec 4) (x : Thread),
    x = { c.x with pc := c.x.pc + 4 } → u = s.startClock t.cluster →
    (∀ p ∈ ([(Instr.gAmma t acc rs1 rs2 bank mode flags, wordA 0 acc rs1 rs2 bank mode flags, 0), (.gAzero t acc rs1 rs2 bank mode flags, wordA 1 acc rs1 rs2 bank mode flags, 1),
        (.gAread t acc rs1 rs2 bank mode flags, wordA 2 acc rs1 rs2 bank mode flags, 2), (.gAlut t acc rs1 rs2 bank mode flags, wordA 4 acc rs1 rs2 bank mode flags, 4),
        (.gTfraw t rs1 rs2 bank, wordTF 0 rs1 rs2 bank, 16), (.gTffr t rs1 rs2 bank, wordTF 1 rs1 rs2 bank, 17)] : List (Instr × Nat × Nat)),
      Issues s t p.2.1 c → (s.cluster t.cluster).queue.length < 16 → ∀ e : QEntry,
      e = QEntry.mk (s.cluster t.cluster).nextEntry t c.x.pc.toNat p.2.1 (c.x.rx rs1).toNat (c.x.rx rs2).toNat false 0 none →
      (p.2.2 = 0 → ammaBad e (s.fillWidth (s.cluster t.cluster) e.bank) = false ∧ s.rowOutside c e.a e.stride (aBytes e.mode e.depth) = none) →
      (p.2.2 = 2 → areadBad e = false ∧ s.rowOutside c e.a e.stride (16 * readBytes e.format) = none) →
      (16 ≤ p.2.2 → fetchBad e = false ∧ e.a % 64 = 0 ∧ e.a + 64 * e.count ≤ 0x100000000000) →
      Takes p.1 s (((u.setCluster t.cluster { u.cluster t.cluster with queue := (u.cluster t.cluster).queue ++ [e]
                                                                       nextEntry := (u.cluster t.cluster).nextEntry + 1 }).setThread c.k x).retired t))
    ∧ (Issues s t (wordA 3 acc rs1 rs2 bank mode flags) c →
      ((∀ e ∈ (s.cluster t.cluster).queue, e.thread ≠ t) → Takes (.gAwait t acc rs1 rs2 bank mode flags) s ((s.setThread c.k x).retired t))
      ∧ ((∃ e ∈ (s.cluster t.cluster).queue, e.thread = t) → Takes (.gAwait t acc rs1 rs2 bank mode flags) s
          ((s.setThread c.k { x with wait := .array, waitSince := s.now, waitPos := s.position c.job.launchCad }).retired t)))

/-- An array queue entry that nothing earlier holds back starts, and leaves the queue with its effect. An entry that depends on
no earlier one and passes its checks runs: ALUT loads the lookup and a tile fetch asks for its lines in turn; an entry that
fails a check leaves with its deferred exception. When it completes, AZERO has zeroed its accumulator, AMMA has added its
products to it, unless a caddy line of its rows fails its check, which raises exception 0x05, AREAD has written its rows to
the window, and a tile fetch has placed the lines that came. (Derived: 11_compute_architecture.md R376,
11_compute_architecture.md R377, 11_compute_architecture.md R378, 12_gaisk_isa.md R415, 12_gaisk_isa.md R416, 12_gaisk_isa.md
R421, 12_gaisk_isa.md R422, 12_gaisk_isa.md R423, 12_gaisk_isa.md R424, 12_gaisk_isa.md R425.) -/
def Obligations.ArrayEntriesRun : Prop :=
  ∀ (s : State) (c : Fin 64) (e : QEntry) (j : Nat), (s.cluster c).queue.find? (fun d => d.id == e.id) = some e →
    (s.jobOf (ThreadKey e.thread) = some j → s.contained = false → e.running = false → mayStart (s.cluster c).queue e = true →
      (s.cluster c).scrubbing = false → s.fetchHeld (jobLd j) e = false → ∀ (go : State → Option (Nat × Nat) → State) (mark : Option (Nat × Nat) → QEntry → QEntry),
      mark = (fun f d => if d.id = e.id then { d with running := true, started := s.now, fault := f } else d) →
      go = (fun (s : State) f => s.setCluster c { s.cluster c with queue := (s.cluster c).queue.map (mark f) }) →
      (∀ f, s.runFault (s.cluster c) (jobLd j) e = some f → Takes (.arrayQueueEntryStart c e.id) s (s.leaveQueue c e (some f)))
      ∧ (s.runFault (s.cluster c) (jobLd j) e = none →
        (e.func ≤ 2 → Takes (.arrayQueueEntryStart c e.id) s (go s none))
        ∧ (e.func = 4 → Takes (.arrayQueueEntryStart c e.id) s ((go s none).loadLookup c (e.a % 64)))
        ∧ (∀ u : State, 16 ≤ e.func → s.fetchLines { ld := jobLd j, job := some j } (s.cluster c) e (List.range e.count) = (none, u) →
          Takes (.arrayQueueEntryStart c e.id) s (go u none))))
    ∧ (e.running = true → e.func < 16 → ∀ a, s.rowBad c e = some a → Takes (.arrayQueueEntryComplete c e.id) s
      ((s.windowFail c (a - windowBase c) (aBytes e.mode e.depth)).leaveQueue c e (some (5, a))))
    ∧ (e.running = true → (e.func < 16 → s.rowBad c e = none) →
      (e.func = 1 → Takes (.arrayQueueEntryComplete c e.id) s
        ((s.setCluster c ((s.cluster c).setAcc e.acc (e.mode == 5) (List.replicate 256 0))).leaveQueue c e none))
      ∧ (∀ rows : List Bytes, e.func = 0 →
        rows = (List.range 16).map (fun i => s.windowRead c (e.a + i * e.stride - windowBase c) (aBytes e.mode e.depth)) →
        Takes (.arrayQueueEntryComplete c e.id) s ((((s.setCluster c ((s.cluster c).setAcc e.acc (e.mode == 5)
          (ammaResult e rows ((s.cluster c).bank e.bank) (s.cluster c).lookup ((s.cluster c).acc e.acc)))).bump (0xA40 + c) 0x17
            (e.depth / modeGroup e.mode)).bump (0xA40 + c) 0x23 (s.now - e.started)).leaveQueue c e none))
      ∧ (e.func = 2 → Takes (.arrayQueueEntryComplete c e.id) s (((List.range 16).foldl (fun (u : State) i =>
          u.windowWrite c (e.a + i * e.stride - windowBase c)
            ((List.range 16).flatMap (fun k => areadBytes e (nth ((s.cluster c).acc e.acc) (16 * i + k) 0)))) s).leaveQueue c e none))
      ∧ (∀ (mine : Load → Bool) (u : State), 16 ≤ e.func →
        mine = (fun l => l.thread.cluster == c && (match l.kind with | .fetch n _ => n == e.id | _ => false)) →
        (∀ l ∈ s.loads, mine l = true → l.arrived = true) →
        State.placeLines { s with loads := s.loads.filter (fun l => !mine l) } e (s.loads.filter mine) = (none, u) →
        Takes (.arrayQueueEntryComplete c e.id) s (u.leaveQueue c e e.fault)))

/-- Barriers, position waits, driven advances, mover requests and their waits have their effect. BAR gives its arrival index and
waits, and the last arrival frees the barrier and wakes the others; a count of 0, above the job's threads or other than the
barrier's raises exception 0x0D; POSWAIT and WAITNE pass on when their condition holds and wait otherwise; POSADV advances
the cadence; MVREQ hands the mover 32 bytes of the window and is refused with 0x0C outside the policy job; MVWAIT passes on
when a completion record has been written at its address since the last request that names it, and waits otherwise (log entry
33). (Derived: 12_gaisk_isa.md R426, 12_gaisk_isa.md R427, 12_gaisk_isa.md R428, 12_gaisk_isa.md R429, 12_gaisk_isa.md R430.) -/
def Obligations.SynchronisationHasItsEffect : Prop :=
  ∀ (s : State) (t : ThreadId) (c : Ctx) (rd rs1 rs2 : BitVec 5) (imm : BitVec 6) (a b : Nat) (x : Thread) (wait : TWait → Thread),
    a = (c.x.rx rs1).toNat → b = (c.x.rx rs2).toNat → x = { c.x with pc := c.x.pc + 4 } →
    wait = (fun w => { x with wait := w, waitSince := s.now, waitPos := s.position c.job.launchCad }) →
    (Issues s t (wordSY 0 rd rs1 rs2 imm) c → s.unperformed t (b2n (imm.toNat.testBit 4)) = false →
      ∀ (n : Nat) (r : Barrier) (y : Thread), n = imm.toNat % 16 →
      r = (tabGet (s.barriers c (imm.toNat.testBit 4)) n).getD { count := a, arrived := [] } →
      y = { c.x.wx rd (BitVec.ofNat 64 r.arrived.length) with pc := c.x.pc + 4 } →
      (a ≠ 0 → a ≤ c.job.threadCount → r.count = a →
        (r.arrived.length + 1 = a → ∀ v u : State, v = (if imm.toNat.testBit 4 then s.l1Forget t (fun _ => true) else s) →
          u = (v.setBarriers c (imm.toNat.testBit 4) (tabDel (s.barriers c (imm.toNat.testBit 4)) n)).setThread c.k y →
          Takes (.gBar t rd rs1 rs2 imm) s (((u.threads.filter (fun z => r.arrived.any (fun q => ThreadKey q == z.1))).foldl
            (fun (v : State) z => v.endWait z.1 z.2 false) u).retired t))
        ∧ (r.arrived.length + 1 ≠ a → Takes (.gBar t rd rs1 rs2 imm) s
          (((s.setBarriers c (imm.toNat.testBit 4) (tabSet (s.barriers c (imm.toNat.testBit 4)) n { r with arrived := r.arrived ++ [t] })).setThread c.k
            { y with wait := .barrier n (imm.toNat.testBit 4), waitSince := s.now, waitPos := s.position c.job.launchCad }).retired t)))
      ∧ (a = 0 ∨ c.job.threadCount < a ∨ r.count ≠ a →
        Takes (.gBar t rd rs1 rs2 imm) s (s.except t 0x0D false (wordSY 0 rd rs1 rs2 imm) c.x.pc.toNat imm.toNat)))
    ∧ (Issues s t (wordSY 1 rd rs1 rs2 imm) c → Takes (.gPoswait t rd rs1 rs2 imm) s
      ((s.setThread c.k (if a ≤ s.position c.job.launchCad then x else wait (.position a))).retired t))
    ∧ (Issues s t (wordSY 2 rd rs1 rs2 imm) c → Takes (.gPosadv t rd rs1 rs2 imm) s
      (((s.setThread c.k x).drivenAdvance (4 * c.ld + imm.toNat % 4) a).retired t))
    ∧ (Issues s t (wordSY 3 rd rs1 rs2 imm) c →
      (s.isPolicyThread c = false → Takes (.gMvreq t rd rs1 rs2 imm) s (s.except t 0x0C false (wordSY 3 rd rs1 rs2 imm) c.x.pc.toNat 0))
      ∧ (∀ (cl w : Nat) (q : MvReq), s.isPolicyThread c = true → a % 32 = 0 → s.place c.jn c.job a 32 = .window cl w →
        (s.mvReqs.filter (fun q => q.thread.cluster == t.cluster)).length < 64 → s.windowBad cl w 32 = false →
        q = { id := s.nextLoad
              job := c.jn
              thread := t
              op := field (s.windowRead cl w 32) 0 1
              completion := field (s.windowRead cl w 32) 24 8
              bytes := s.windowRead cl w 32
              since := s.now } →
        ∀ u : State, u = s.setJob c.jn { c.job with records := c.job.records.filter (· != q.completion) } →
        Takes (.gMvreq t rd rs1 rs2 imm) s ((State.setThread { u with mvReqs := u.mvReqs ++ [q], nextLoad := u.nextLoad + 1 } c.k
          { c.x.wx rd 0 with pc := c.x.pc + 4 }).retired t)))
    ∧ (∀ (cl w : Nat), Issues s t (wordSY 4 rd rs1 rs2 imm) c → s.place c.jn c.job a 16 = .window cl w →
      Takes (.gMvwait t rd rs1 rs2 imm) s ((s.setThread c.k
        (if c.job.records.contains a then x else wait (.mover a))).retired t))
    ∧ (∀ (cl w : Nat) (u : State), Issues s t (wordSY 5 rd rs1 rs2 imm) c → a % 8 = 0 → s.place c.jn c.job a 8 = .window cl w → u = s.startClock cl →
      (u.windowBad cl w 8 = false → Takes (.gWaitne t rd rs1 rs2 imm) s ((if leNat (u.windowRead cl w 8) ≠ b then
        (u.l1Forget t (fun _ => true)).setThread c.k x else u.setThread c.k (wait (.notEqual a b))).retired t))
      ∧ (u.windowBad cl w 8 = true → Takes (.gWaitne t rd rs1 rs2 imm) s ((u.windowFail cl w 8).except t 5 false (wordSY 5 rd rs1 rs2 imm) c.x.pc.toNat a)))

end
end

