-- ==== Sys2Proof/Laws/Bytes.lean ====
section
/-!
SUPPORT. The laws of byte strings: lengths, little-endian numbers, fields and slices of appended strings.
-/
namespace Sys2Proof.Machine

@[simp] theorem leBytes_length (n v : Nat) : (leBytes n v).length = n := by
  induction n generalizing v with
  | zero => rfl
  | succ n ih => simp [leBytes, ih]

/-- Reading back little-endian bytes. -/
theorem leNat_leBytes (n v : Nat) : leNat (leBytes n v) = v % 256 ^ n := by
  induction n generalizing v with
  | zero => simp [leBytes, leNat, Nat.mod_one]
  | succ n ih =>
    simp only [leBytes, leNat, ih, BitVec.toNat_ofNat]
    rw [show 256 ^ (n + 1) = 256 * 256 ^ n by ring, Nat.mod_mul]

/-- A number that fits reads back. -/
theorem leNat_leBytes_of_lt {n v : Nat} (h : v < 256 ^ n) : leNat (leBytes n v) = v := by
  rw [leNat_leBytes, Nat.mod_eq_of_lt h]

@[simp] theorem zeros_length (n : Nat) : (zeros n).length = n := by simp [zeros]

@[simp] theorem slice_length (b : Bytes) (off n : Nat) : (slice b off n).length = n := by
  simp [slice]

/-- A slice past a first part. -/
theorem slice_append_right (a b : Bytes) (off n : Nat) (h : a.length ≤ off) : slice (a ++ b) off n = slice b (off - a.length) n := by
  simp [slice, List.drop_append, List.drop_eq_nil_of_le h]

/-- A slice that is a whole first part. -/
theorem slice_append_whole (a b : Bytes) : slice (a ++ b) 0 a.length = a := by simp [slice, zeros]

/-- A slice that is all of a string. -/
theorem slice_all (a : Bytes) (n : Nat) (h : n = a.length) : slice a 0 n = a := by subst h; simp [slice, zeros]

/-- A field of `n` bytes at the place a number was laid out. -/
theorem field_append (a c : Bytes) (off n v : Nat) (h : off = a.length) (hv : v < 256 ^ n) :
    field (a ++ (leBytes n v ++ c)) off n = v := by
  subst h
  have : slice (leBytes n v ++ c) 0 n = leBytes n v := by simpa using slice_append_whole (leBytes n v) c
  rw [field, slice_append_right _ _ _ _ (le_refl _), Nat.sub_self, this, leNat_leBytes_of_lt hv]

/-- A byte patched in is the byte read there. -/
theorem field_patch_byte (b : Bytes) (k : Nat) (x : Byte) (h : k ≤ b.length) : field (patch b k [x]) k 1 = x.toNat := by
  simp [field, patch, slice, leNat, h, zeros]

end Sys2Proof.Machine
end

