-- ==== Sys2Proof/Laws/Tables.lean ====
section
/-!
SUPPORT. The laws of the sparse tables and of the byte memories: a read after a write, and the canonical form.
-/
namespace Sys2Proof.Machine

/-! ## Tables -/

/-- Keys strictly rising, as a statement about pairs. -/
theorem tabSorted_iff {α : Type} (t : List (Nat × α)) : tabSorted t = true ↔ t.Pairwise (fun x y => x.1 < y.1) := by
  induction t with
  | nil => simp [tabSorted]
  | cons x r ih =>
    cases r with
    | nil => simp [tabSorted]
    | cons y r =>
      rw [show tabSorted (x :: y :: r) = (decide (x.1 < y.1) && tabSorted (y :: r)) from rfl, Bool.and_eq_true, ih,
        decide_eq_true_eq, List.pairwise_cons (a := x)]
      refine ⟨fun ⟨h, p⟩ => ⟨fun z hz => ?_, p⟩, fun ⟨h, p⟩ => ⟨h y (by simp), p⟩⟩
      rcases List.mem_cons.1 hz with rfl | hz
      · exact h
      · exact lt_trans h (List.rel_of_pairwise_cons p hz)

/-- A table reads what was put there. -/
@[simp] theorem tabGet_tabSet_same {α : Type} (t : List (Nat × α)) (k : Nat) (a : α) : tabGet (tabSet t k a) k = some a := by
  induction t with
  | nil => simp [tabSet, tabGet]
  | cons x r ih =>
    obtain ⟨j, b⟩ := x
    simp only [tabSet]
    split
    · simp [tabGet]
    · split
      · simp [tabGet]
      · simp only [tabGet]
        rw [if_neg (by omega), ih]

/-- Putting at one key leaves every other key. -/
theorem tabGet_tabSet_of_ne {α : Type} (t : List (Nat × α)) {k i : Nat} (a : α) (h : k ≠ i) :
    tabGet (tabSet t k a) i = tabGet t i := by
  induction t with
  | nil => simp [tabSet, tabGet, h]
  | cons x r ih =>
    obtain ⟨j, b⟩ := x
    simp only [tabSet]
    split
    · simp [tabGet, h]
    · split
      · subst_vars; simp [tabGet, h]
      · simp only [tabGet, ih]

/-- A read after a write of a table. -/
theorem tabGet_tabSet {α : Type} (t : List (Nat × α)) (k i : Nat) (a : α) :
    tabGet (tabSet t k a) i = if k = i then some a else tabGet t i := by
  split
  · subst_vars; simp
  · rw [tabGet_tabSet_of_ne]; assumption

/-- The keys of a table after a put. -/
theorem mem_tabSet {α : Type} {t : List (Nat × α)} {k : Nat} {a : α} {x : Nat × α} (h : x ∈ tabSet t k a) : x = (k, a) ∨ x ∈ t := by
  induction t with
  | nil => simpa [tabSet] using h
  | cons y r ih =>
    obtain ⟨j, b⟩ := y
    simp only [tabSet] at h
    split at h
    · simpa using h
    · split at h
      · rcases List.mem_cons.1 h with h | h
        · exact .inl h
        · exact .inr (by simp [h])
      · rcases List.mem_cons.1 h with h | h
        · exact .inr (by simp [h])
        · rcases ih h with h | h
          · exact .inl h
          · exact .inr (by simp [h])

/-- A put keeps the keys rising. -/
theorem tabSorted_tabSet {α : Type} {t : List (Nat × α)} (k : Nat) (a : α) (h : tabSorted t = true) :
    tabSorted (tabSet t k a) = true := by
  rw [tabSorted_iff] at *
  induction t with
  | nil => simp [tabSet]
  | cons y r ih =>
    obtain ⟨j, b⟩ := y
    rw [List.pairwise_cons] at h
    simp only [tabSet]
    split
    · rename_i hk
      refine List.pairwise_cons.2 ⟨fun z hz => ?_, List.pairwise_cons.2 h⟩
      rcases List.mem_cons.1 hz with rfl | hz
      · exact hk
      · exact lt_trans hk (h.1 z hz)
    · split
      · subst_vars; exact List.pairwise_cons.2 h
      · refine List.pairwise_cons.2 ⟨fun z hz => ?_, ih h.2⟩
        rcases mem_tabSet hz with rfl | hz
        · show j < k; omega
        · exact h.1 z hz

/-- What a removal leaves was there before. -/
theorem tabDel_sublist {α : Type} (t : List (Nat × α)) (k : Nat) : (tabDel t k).Sublist t := by
  induction t with
  | nil => simp [tabDel]
  | cons y r ih =>
    obtain ⟨j, b⟩ := y
    simp only [tabDel]
    split
    · exact ih.cons _
    · exact ih.cons_cons _

/-- A removal keeps the keys rising. -/
theorem tabSorted_tabDel {α : Type} {t : List (Nat × α)} (k : Nat) (h : tabSorted t = true) : tabSorted (tabDel t k) = true := by
  rw [tabSorted_iff] at *
  exact h.sublist (tabDel_sublist t k)

/-- A read after a removal. -/
theorem tabGet_tabDel {α : Type} (t : List (Nat × α)) (k i : Nat) :
    tabGet (tabDel t k) i = if k = i then none else tabGet t i := by
  induction t with
  | nil => simp [tabDel, tabGet]
  | cons y r ih =>
    obtain ⟨j, b⟩ := y
    simp only [tabDel]
    split
    · subst_vars; rw [ih]; split
      · rfl
      · simp only [tabGet]; rw [if_neg (by assumption)]
    · simp only [tabGet, ih]
      split <;> split <;> simp_all

/-! ## Byte memories -/

/-- The canonical form, in two parts. -/
theorem memWf_iff (m : List (Nat × Byte)) : memWf m = true ↔ m.Pairwise (fun x y => x.1 < y.1) ∧ ∀ c ∈ m, c.2 ≠ 0 := by
  simp [memWf, tabSorted_iff]

/-- Writing one byte keeps the canonical form. -/
theorem memWf_memPut {m : List (Nat × Byte)} (a : Nat) (b : Byte) (h : memWf m = true) : memWf (memPut m a b) = true := by
  rw [memWf_iff] at *
  rw [← tabSorted_iff] at *
  simp only [memPut]
  split
  · exact ⟨tabSorted_tabDel a h.1, fun c hc => h.2 c ((tabDel_sublist m a).subset hc)⟩
  · refine ⟨tabSorted_tabSet a b h.1, fun c hc => ?_⟩
    rcases mem_tabSet hc with rfl | hc
    · assumption
    · exact h.2 c hc

/-- A byte read after a byte written. -/
theorem memByte_memPut (m : List (Nat × Byte)) (a i : Nat) (b : Byte) :
    memByte (memPut m a b) i = if a = i then b else memByte m i := by
  simp only [memByte, memPut]
  split
  · rw [tabGet_tabDel]; split <;> simp_all
  · rw [tabGet_tabSet]; split <;> simp_all

/-- The cells of a string lie inside its range and hold no zero. -/
theorem mem_memCells {a : Nat} {d : Bytes} {c : Nat × Byte} (h : c ∈ memCells a d) : a ≤ c.1 ∧ c.1 < a + d.length ∧ c.2 ≠ 0 := by
  induction d generalizing a with
  | nil => simp [memCells] at h
  | cons b r ih =>
    simp only [memCells] at h
    split at h
    · have := ih h; simp only [List.length_cons]; exact ⟨by omega, by omega, this.2.2⟩
    · rcases List.mem_cons.1 h with rfl | h
      · simp only [List.length_cons]; exact ⟨le_refl _, by omega, by assumption⟩
      · have := ih h; simp only [List.length_cons]; exact ⟨by omega, by omega, this.2.2⟩

/-- The cells of a string rise. -/
theorem memCells_sorted (a : Nat) (d : Bytes) : (memCells a d).Pairwise (fun x y => x.1 < y.1) := by
  induction d generalizing a with
  | nil => simp [memCells]
  | cons b r ih =>
    simp only [memCells]
    split
    · exact ih _
    · exact List.pairwise_cons.2 ⟨fun z hz => by have := mem_memCells hz; show a < z.1; omega, ih _⟩

/-- Writing a string keeps the canonical form. -/
theorem memWf_memWrite {m : List (Nat × Byte)} (a : Nat) (d : Bytes) (h : memWf m = true) : memWf (memWrite m a d) = true := by
  rw [memWf_iff] at *
  refine ⟨?_, fun c hc => ?_⟩
  · rw [memWrite, List.pairwise_append, List.pairwise_append]
    refine ⟨⟨h.1.filter _, memCells_sorted a d, fun x hx y hy => ?_⟩, h.1.filter _, fun x hx y hy => ?_⟩
    · have := mem_memCells hy; simp at hx; omega
    · simp only [List.mem_filter, decide_eq_true_eq] at hy
      rcases List.mem_append.1 hx with hx | hx
      · simp only [List.mem_filter, decide_eq_true_eq] at hx; omega
      · have := mem_memCells hx; omega
  · simp only [memWrite, List.mem_append, List.mem_filter] at hc
    rcases hc with (hc | hc) | hc
    · exact h.2 c hc.1
    · exact (mem_memCells hc).2.2
    · exact h.2 c hc.1

/-- A listed key reads its value. -/
theorem tabGet_of_mem {α : Type} {t : List (Nat × α)} (h : t.Pairwise (fun x y => x.1 < y.1)) {k : Nat} {a : α} (hm : (k, a) ∈ t) :
    tabGet t k = some a := by
  induction t with
  | nil => simp at hm
  | cons y r ih =>
    obtain ⟨j, b⟩ := y
    rw [List.pairwise_cons] at h
    rcases List.mem_cons.1 hm with hm | hm
    · obtain ⟨rfl, rfl⟩ := Prod.mk.inj hm; simp [tabGet]
    · have := h.1 _ hm
      simp only [tabGet]; rw [if_neg (by simp at this; omega)]; exact ih h.2 hm

/-- A key that reads a value is listed with it. -/
theorem mem_of_tabGet {α : Type} {t : List (Nat × α)} {k : Nat} {a : α} (h : tabGet t k = some a) : (k, a) ∈ t := by
  induction t with
  | nil => simp [tabGet] at h
  | cons y r ih =>
    obtain ⟨j, b⟩ := y
    simp only [tabGet] at h
    split at h
    · simp_all
    · simp [ih h]

/-- A read of an appended table. -/
theorem tabGet_append {α : Type} (t u : List (Nat × α)) (k : Nat) : tabGet (t ++ u) k = (tabGet t k).or (tabGet u k) := by
  induction t with
  | nil => simp [tabGet]
  | cons y r ih => obtain ⟨j, b⟩ := y; simp only [List.cons_append, tabGet, ih]; split <;> simp

/-- A read of a filtered table. -/
theorem tabGet_filter_key {α : Type} (t : List (Nat × α)) (p : Nat → Bool) (k : Nat) :
    tabGet (t.filter (fun c => p c.1)) k = if p k then tabGet t k else none := by
  induction t with
  | nil => simp [tabGet]
  | cons y r ih =>
    obtain ⟨j, b⟩ := y
    simp only [List.filter_cons, tabGet]
    by_cases hj : p j
    · simp only [hj, if_true, tabGet, ih]
      split
      · subst_vars; simp [hj]
      · rfl
    · have hj' : p j = false := by simpa using hj
      simp only [hj', Bool.false_eq_true, if_false, ih]
      by_cases hk : j = k
      · subst hk; simp [hj']
      · simp [hk]

/-- A byte of the cells of a string. -/
theorem tabGet_memCells (a i : Nat) (d : Bytes) :
    (tabGet (memCells a d) i).getD 0 = if a ≤ i then d.getD (i - a) 0 else 0 := by
  induction d generalizing a with
  | nil => simp [memCells, tabGet]
  | cons b r ih =>
    simp only [memCells]
    split
    · rename_i hb
      rw [ih]
      by_cases h : a = i
      · subst h; simp [hb]
      · by_cases h2 : a < i
        · rw [if_pos (by omega), if_pos (by omega), show i - a = (i - (a + 1)) + 1 by omega]; simp
        · rw [if_neg (by omega), if_neg (by omega)]
    · simp only [tabGet]
      by_cases h : a = i
      · subst h; simp
      · rw [if_neg h, ih]
        by_cases h2 : a < i
        · rw [if_pos (by omega), if_pos (by omega), show i - a = (i - (a + 1)) + 1 by omega]; simp
        · rw [if_neg (by omega), if_neg (by omega)]

/-- A byte read after a string written: the string's byte inside its range, the old byte outside. -/
theorem memByte_memWrite (m : List (Nat × Byte)) (a i : Nat) (d : Bytes) :
    memByte (memWrite m a d) i = if a ≤ i ∧ i < a + d.length then d.getD (i - a) 0 else memByte m i := by
  have h1 := tabGet_filter_key m (fun k => decide (k < a)) i
  have h2 := tabGet_filter_key m (fun k => decide (a + d.length ≤ k)) i
  simp only [decide_eq_true_eq] at h1 h2
  have h3 : ¬ (a ≤ i ∧ i < a + d.length) → tabGet (memCells a d) i = none := by
    intro hn
    cases hc : tabGet (memCells a d) i with
    | none => rfl
    | some v => have := mem_memCells (mem_of_tabGet hc); exact absurd ⟨this.1, this.2.1⟩ hn
  simp only [memByte, memWrite]
  rw [tabGet_append, tabGet_append, h1, h2]
  by_cases hi : a ≤ i ∧ i < a + d.length
  · rw [if_pos hi, if_neg (by omega), if_neg (by omega)]
    have := tabGet_memCells a i d
    rw [if_pos hi.1] at this
    simpa using this
  · rw [if_neg hi, h3 hi]
    by_cases h : i < a
    · rw [if_pos h, if_neg (by omega)]; simp
    · rw [if_neg h, if_pos (by omega)]; simp

end Sys2Proof.Machine
end

