-- ==== Sys2Proof/Laws/State.lean ====
section
/-!
SUPPORT. What the updates of the state leave alone: one lemma for each field and each update, so that no proof unfolds a record
update; and what each update makes its own reader read.
-/
namespace Sys2Proof.Machine

/-! ## What an update does to its own reader -/

/-- Keys of distinct members of one unit and object differ. -/
theorem okey_member (u o m m' : Nat) : okey u o m = okey u o m' ↔ m = m' := by simp [okey]
/-- A member reads what was stored. -/
@[simp] theorem State.obj_setObj_same (s : State) (u o m v : Nat) : (s.setObj u o m v).obj u o m = v := by
  simp only [State.obj, State.setObj]
  split <;> simp_all [tabGet_tabDel]
/-- A member reads what it did after another was stored. -/
theorem State.obj_setObj_of_ne (s : State) (u o m v u' o' m' : Nat) (h : okey u o m ≠ okey u' o' m') :
    (s.setObj u o m v).obj u' o' m' = s.obj u' o' m' := by
  simp only [State.obj, State.setObj]
  split
  · rw [tabGet_tabDel, if_neg h]
  · rw [tabGet_tabSet_of_ne _ _ h]
/-- A counter counts, modulo 2^64. -/
@[simp] theorem State.count_bump_same (s : State) (u o n : Nat) : (s.bump u o n).count u o = (s.count u o + n) % 2 ^ 64 := by
  have h : ∀ v, (tabGet (if v = 0 then tabDel s.objs (okey u o 0) else tabSet s.objs (okey u o 0) v) (okey u o 0)).getD 0 = v := by
    intro v
    split <;> simp_all [tabGet_tabDel]
  exact h _
/-- Another member is as it was after a count. -/
theorem State.obj_bump_of_ne (s : State) (u o n u' o' m' : Nat) (h : okey u o 0 ≠ okey u' o' m') :
    (s.bump u o n).obj u' o' m' = s.obj u' o' m' := by
  simp only [State.obj, State.bump]
  generalize (s.count u o + n) % 2 ^ 64 = v
  split
  · rw [tabGet_tabDel, if_neg h]
  · rw [tabGet_tabSet_of_ne _ _ h]
/-- An LD reads what was put. -/
@[simp] theorem State.ld_setLd_same (s : State) (n : Nat) (l : Ld) : (s.setLd n l).ld n = l := by simp [State.ld, State.setLd]
/-- Another LD is as it was. -/
theorem State.ld_setLd_of_ne (s : State) (n k : Nat) (l : Ld) (h : n ≠ k) : (s.setLd n l).ld k = s.ld k := by
  simp [State.ld, State.setLd, tabGet_tabSet_of_ne _ _ h]
/-- A unit reads what was put. -/
@[simp] theorem State.unit_setUnit_same (s : State) (u : Nat) (x : UnitSt) : (s.setUnit u x).unit u = x := by
  simp [State.unit, State.setUnit]
/-- Another unit is as it was. -/
theorem State.unit_setUnit_of_ne (s : State) (u k : Nat) (x : UnitSt) (h : u ≠ k) : (s.setUnit u x).unit k = s.unit k := by
  simp [State.unit, State.setUnit, tabGet_tabSet_of_ne _ _ h]
/-- A channel reads what was put. -/
@[simp] theorem State.chan_setChan_same (s : State) (c : Nat) (x : Chan) : (s.setChan c x).chan c = x := by
  simp [State.chan, State.setChan]
/-- A cluster reads what was put. -/
@[simp] theorem State.cluster_setCluster_same (s : State) (c : Nat) (x : Cluster) : (s.setCluster c x).cluster c = x := by
  simp [State.cluster, State.setCluster]
/-- A stream port reads what was put. -/
@[simp] theorem State.sport_setSport_same (s : State) (k : Nat) (x : SPort) : (s.setSport k x).sport k = x := by
  simp [State.sport, State.setSport]
/-- A tile map entry reads what was put into the map. -/
@[simp] theorem State.entry_putEntry_same (s : State) (i : Nat) (e : TileEntry) : (s.putEntry i e).entry i = e := by
  simp only [State.entry, State.putEntry]
  split <;> simp_all [tabGet_tabDel]
/-- Another tile map entry is as it was in the map. -/
theorem State.entry_putEntry_of_ne (s : State) (i k : Nat) (e : TileEntry) (h : i ≠ k) : (s.putEntry i e).entry k = s.entry k := by
  simp only [State.entry, State.putEntry]
  split
  · rw [tabGet_tabDel, if_neg h]
  · rw [tabGet_tabSet_of_ne _ _ h]
/-- The free-value number a tick gives. -/
@[simp] theorem State.tick_fst (s : State) : s.tick.1 = s.fresh := rfl
/-- A tick counts. -/
@[simp] theorem State.tick_fresh (s : State) : s.tick.2.fresh = s.fresh + 1 := rfl
/-- A message leaves last. -/
@[simp] theorem State.emit_outbox (s : State) (o : Out) : (s.emit o).outbox = s.outbox ++ [o] := rfl

/-! ## emit -/

@[simp] theorem State.emit_pending (s : State) (o : Out) : (s.emit o).pending = s.pending := rfl
@[simp] theorem State.emit_fresh (s : State) (o : Out) : (s.emit o).fresh = s.fresh := rfl
@[simp] theorem State.emit_now (s : State) (o : Out) : (s.emit o).now = s.now := rfl
@[simp] theorem State.emit_stage (s : State) (o : Out) : (s.emit o).stage = s.stage := rfl
@[simp] theorem State.emit_profSel (s : State) (o : Out) : (s.emit o).profSel = s.profSel := rfl
@[simp] theorem State.emit_nodeId (s : State) (o : Out) : (s.emit o).nodeId = s.nodeId := rfl
@[simp] theorem State.emit_hrefclk (s : State) (o : Out) : (s.emit o).hrefclk = s.hrefclk := rfl
@[simp] theorem State.emit_strefclk (s : State) (o : Out) : (s.emit o).strefclk = s.strefclk := rfl
@[simp] theorem State.emit_farRefInternal (s : State) (o : Out) : (s.emit o).farRefInternal = s.farRefInternal := rfl
@[simp] theorem State.emit_units (s : State) (o : Out) : (s.emit o).units = s.units := rfl
@[simp] theorem State.emit_objs (s : State) (o : Out) : (s.emit o).objs = s.objs := rfl
@[simp] theorem State.emit_blobs (s : State) (o : Out) : (s.emit o).blobs = s.blobs := rfl
@[simp] theorem State.emit_sessions (s : State) (o : Out) : (s.emit o).sessions = s.sessions := rfl
@[simp] theorem State.emit_nonces (s : State) (o : Out) : (s.emit o).nonces = s.nonces := rfl
@[simp] theorem State.emit_heldMsgs (s : State) (o : Out) : (s.emit o).heldMsgs = s.heldMsgs := rfl
@[simp] theorem State.emit_profiles (s : State) (o : Out) : (s.emit o).profiles = s.profiles := rfl
@[simp] theorem State.emit_extents (s : State) (o : Out) : (s.emit o).extents = s.extents := rfl
@[simp] theorem State.emit_tags (s : State) (o : Out) : (s.emit o).tags = s.tags := rfl
@[simp] theorem State.emit_regions (s : State) (o : Out) : (s.emit o).regions = s.regions := rfl
@[simp] theorem State.emit_tileMap (s : State) (o : Out) : (s.emit o).tileMap = s.tileMap := rfl
@[simp] theorem State.emit_oldHomes (s : State) (o : Out) : (s.emit o).oldHomes = s.oldHomes := rfl
@[simp] theorem State.emit_versions (s : State) (o : Out) : (s.emit o).versions = s.versions := rfl
@[simp] theorem State.emit_nextVersion (s : State) (o : Out) : (s.emit o).nextVersion = s.nextVersion := rfl
@[simp] theorem State.emit_mapCache (s : State) (o : Out) : (s.emit o).mapCache = s.mapCache := rfl
@[simp] theorem State.emit_near (s : State) (o : Out) : (s.emit o).near = s.near := rfl
@[simp] theorem State.emit_channels (s : State) (o : Out) : (s.emit o).channels = s.channels := rfl
@[simp] theorem State.emit_segStates (s : State) (o : Out) : (s.emit o).segStates = s.segStates := rfl
@[simp] theorem State.emit_trainedAt (s : State) (o : Out) : (s.emit o).trainedAt = s.trainedAt := rfl
@[simp] theorem State.emit_caddy (s : State) (o : Out) : (s.emit o).caddy = s.caddy := rfl
@[simp] theorem State.emit_caddyBad (s : State) (o : Out) : (s.emit o).caddyBad = s.caddyBad := rfl
@[simp] theorem State.emit_caddyFailed (s : State) (o : Out) : (s.emit o).caddyFailed = s.caddyFailed := rfl
@[simp] theorem State.emit_caddySoft (s : State) (o : Out) : (s.emit o).caddySoft = s.caddySoft := rfl
@[simp] theorem State.emit_farPorts (s : State) (o : Out) : (s.emit o).farPorts = s.farPorts := rfl
@[simp] theorem State.emit_farMem (s : State) (o : Out) : (s.emit o).farMem = s.farMem := rfl
@[simp] theorem State.emit_segs (s : State) (o : Out) : (s.emit o).segs = s.segs := rfl
@[simp] theorem State.emit_segSeq (s : State) (o : Out) : (s.emit o).segSeq = s.segSeq := rfl
@[simp] theorem State.emit_farRecs (s : State) (o : Out) : (s.emit o).farRecs = s.farRecs := rfl
@[simp] theorem State.emit_t3crcs (s : State) (o : Out) : (s.emit o).t3crcs = s.t3crcs := rfl
@[simp] theorem State.emit_cleanCopies (s : State) (o : Out) : (s.emit o).cleanCopies = s.cleanCopies := rfl
@[simp] theorem State.emit_nextCopy (s : State) (o : Out) : (s.emit o).nextCopy = s.nextCopy := rfl
@[simp] theorem State.emit_accesses (s : State) (o : Out) : (s.emit o).accesses = s.accesses := rfl
@[simp] theorem State.emit_nextAccess (s : State) (o : Out) : (s.emit o).nextAccess = s.nextAccess := rfl
@[simp] theorem State.emit_sweeps (s : State) (o : Out) : (s.emit o).sweeps = s.sweeps := rfl
@[simp] theorem State.emit_frTables (s : State) (o : Out) : (s.emit o).frTables = s.frTables := rfl
@[simp] theorem State.emit_llTables (s : State) (o : Out) : (s.emit o).llTables = s.llTables := rfl
@[simp] theorem State.emit_moves (s : State) (o : Out) : (s.emit o).moves = s.moves := rfl
@[simp] theorem State.emit_perst (s : State) (o : Out) : (s.emit o).perst = s.perst := rfl
@[simp] theorem State.emit_moveWaits (s : State) (o : Out) : (s.emit o).moveWaits = s.moveWaits := rfl
@[simp] theorem State.emit_moveUses (s : State) (o : Out) : (s.emit o).moveUses = s.moveUses := rfl
@[simp] theorem State.emit_shareLog (s : State) (o : Out) : (s.emit o).shareLog = s.shareLog := rfl
@[simp] theorem State.emit_writeAborts (s : State) (o : Out) : (s.emit o).writeAborts = s.writeAborts := rfl
@[simp] theorem State.emit_epochs (s : State) (o : Out) : (s.emit o).epochs = s.epochs := rfl
@[simp] theorem State.emit_demoting (s : State) (o : Out) : (s.emit o).demoting = s.demoting := rfl
@[simp] theorem State.emit_stuck (s : State) (o : Out) : (s.emit o).stuck = s.stuck := rfl
@[simp] theorem State.emit_held (s : State) (o : Out) : (s.emit o).held = s.held := rfl
@[simp] theorem State.emit_cads (s : State) (o : Out) : (s.emit o).cads = s.cads := rfl
@[simp] theorem State.emit_sched (s : State) (o : Out) : (s.emit o).sched = s.sched := rfl
@[simp] theorem State.emit_markers (s : State) (o : Out) : (s.emit o).markers = s.markers := rfl
@[simp] theorem State.emit_pins (s : State) (o : Out) : (s.emit o).pins = s.pins := rfl
@[simp] theorem State.emit_tallies (s : State) (o : Out) : (s.emit o).tallies = s.tallies := rfl
@[simp] theorem State.emit_shareds (s : State) (o : Out) : (s.emit o).shareds = s.shareds := rfl
@[simp] theorem State.emit_insts (s : State) (o : Out) : (s.emit o).insts = s.insts := rfl
@[simp] theorem State.emit_headInst (s : State) (o : Out) : (s.emit o).headInst = s.headInst := rfl
@[simp] theorem State.emit_attaches (s : State) (o : Out) : (s.emit o).attaches = s.attaches := rfl
@[simp] theorem State.emit_results (s : State) (o : Out) : (s.emit o).results = s.results := rfl
@[simp] theorem State.emit_conflicts (s : State) (o : Out) : (s.emit o).conflicts = s.conflicts := rfl
@[simp] theorem State.emit_keys (s : State) (o : Out) : (s.emit o).keys = s.keys := rfl
@[simp] theorem State.emit_nextBinding (s : State) (o : Out) : (s.emit o).nextBinding = s.nextBinding := rfl
@[simp] theorem State.emit_drbgFailed (s : State) (o : Out) : (s.emit o).drbgFailed = s.drbgFailed := rfl
@[simp] theorem State.emit_drbgUses (s : State) (o : Out) : (s.emit o).drbgUses = s.drbgUses := rfl
@[simp] theorem State.emit_injects (s : State) (o : Out) : (s.emit o).injects = s.injects := rfl
@[simp] theorem State.emit_fw (s : State) (o : Out) : (s.emit o).fw = s.fw := rfl
@[simp] theorem State.emit_spdm (s : State) (o : Out) : (s.emit o).spdm = s.spdm := rfl
@[simp] theorem State.emit_clusters (s : State) (o : Out) : (s.emit o).clusters = s.clusters := rfl
@[simp] theorem State.emit_threads (s : State) (o : Out) : (s.emit o).threads = s.threads := rfl
@[simp] theorem State.emit_loads (s : State) (o : Out) : (s.emit o).loads = s.loads := rfl
@[simp] theorem State.emit_nextLoad (s : State) (o : Out) : (s.emit o).nextLoad = s.nextLoad := rfl
@[simp] theorem State.emit_mvReqs (s : State) (o : Out) : (s.emit o).mvReqs = s.mvReqs := rfl
@[simp] theorem State.emit_jobs (s : State) (o : Out) : (s.emit o).jobs = s.jobs := rfl
@[simp] theorem State.emit_lds (s : State) (o : Out) : (s.emit o).lds = s.lds := rfl
@[simp] theorem State.emit_dmas (s : State) (o : Out) : (s.emit o).dmas = s.dmas := rfl
@[simp] theorem State.emit_nextDma (s : State) (o : Out) : (s.emit o).nextDma = s.nextDma := rfl
@[simp] theorem State.emit_legs (s : State) (o : Out) : (s.emit o).legs = s.legs := rfl
@[simp] theorem State.emit_sports (s : State) (o : Out) : (s.emit o).sports = s.sports := rfl
@[simp] theorem State.emit_span (s : State) (o : Out) : (s.emit o).span = s.span := rfl
@[simp] theorem State.emit_allDown (s : State) (o : Out) : (s.emit o).allDown = s.allDown := rfl
@[simp] theorem State.emit_chrysalis (s : State) (o : Out) : (s.emit o).chrysalis = s.chrysalis := rfl
@[simp] theorem State.emit_power (s : State) (o : Out) : (s.emit o).power = s.power := rfl
@[simp] theorem State.emit_poisons (s : State) (o : Out) : (s.emit o).poisons = s.poisons := rfl
@[simp] theorem State.emit_errLog (s : State) (o : Out) : (s.emit o).errLog = s.errLog := rfl
@[simp] theorem State.emit_errSeq (s : State) (o : Out) : (s.emit o).errSeq = s.errSeq := rfl
@[simp] theorem State.emit_errFull (s : State) (o : Out) : (s.emit o).errFull = s.errFull := rfl
@[simp] theorem State.emit_errHistory (s : State) (o : Out) : (s.emit o).errHistory = s.errHistory := rfl
@[simp] theorem State.emit_repairMap (s : State) (o : Out) : (s.emit o).repairMap = s.repairMap := rfl
@[simp] theorem State.emit_repairSeq (s : State) (o : Out) : (s.emit o).repairSeq = s.repairSeq := rfl
@[simp] theorem State.emit_contained (s : State) (o : Out) : (s.emit o).contained = s.contained := rfl
@[simp] theorem State.emit_faults (s : State) (o : Out) : (s.emit o).faults = s.faults := rfl
@[simp] theorem State.emit_lastRaised (s : State) (o : Out) : (s.emit o).lastRaised = s.lastRaised := rfl
@[simp] theorem State.emit_telem (s : State) (o : Out) : (s.emit o).telem = s.telem := rfl
@[simp] theorem State.emit_cores (s : State) (o : Out) : (s.emit o).cores = s.cores := rfl

/-! ## setObj -/

@[simp] theorem State.setObj_pending (s : State) (u o m v : Nat) : (s.setObj u o m v).pending = s.pending := rfl
@[simp] theorem State.setObj_outbox (s : State) (u o m v : Nat) : (s.setObj u o m v).outbox = s.outbox := rfl
@[simp] theorem State.setObj_fresh (s : State) (u o m v : Nat) : (s.setObj u o m v).fresh = s.fresh := rfl
@[simp] theorem State.setObj_now (s : State) (u o m v : Nat) : (s.setObj u o m v).now = s.now := rfl
@[simp] theorem State.setObj_stage (s : State) (u o m v : Nat) : (s.setObj u o m v).stage = s.stage := rfl
@[simp] theorem State.setObj_profSel (s : State) (u o m v : Nat) : (s.setObj u o m v).profSel = s.profSel := rfl
@[simp] theorem State.setObj_nodeId (s : State) (u o m v : Nat) : (s.setObj u o m v).nodeId = s.nodeId := rfl
@[simp] theorem State.setObj_hrefclk (s : State) (u o m v : Nat) : (s.setObj u o m v).hrefclk = s.hrefclk := rfl
@[simp] theorem State.setObj_strefclk (s : State) (u o m v : Nat) : (s.setObj u o m v).strefclk = s.strefclk := rfl
@[simp] theorem State.setObj_farRefInternal (s : State) (u o m v : Nat) : (s.setObj u o m v).farRefInternal = s.farRefInternal := rfl
@[simp] theorem State.setObj_units (s : State) (u o m v : Nat) : (s.setObj u o m v).units = s.units := rfl
@[simp] theorem State.setObj_blobs (s : State) (u o m v : Nat) : (s.setObj u o m v).blobs = s.blobs := rfl
@[simp] theorem State.setObj_sessions (s : State) (u o m v : Nat) : (s.setObj u o m v).sessions = s.sessions := rfl
@[simp] theorem State.setObj_nonces (s : State) (u o m v : Nat) : (s.setObj u o m v).nonces = s.nonces := rfl
@[simp] theorem State.setObj_heldMsgs (s : State) (u o m v : Nat) : (s.setObj u o m v).heldMsgs = s.heldMsgs := rfl
@[simp] theorem State.setObj_profiles (s : State) (u o m v : Nat) : (s.setObj u o m v).profiles = s.profiles := rfl
@[simp] theorem State.setObj_extents (s : State) (u o m v : Nat) : (s.setObj u o m v).extents = s.extents := rfl
@[simp] theorem State.setObj_tags (s : State) (u o m v : Nat) : (s.setObj u o m v).tags = s.tags := rfl
@[simp] theorem State.setObj_regions (s : State) (u o m v : Nat) : (s.setObj u o m v).regions = s.regions := rfl
@[simp] theorem State.setObj_tileMap (s : State) (u o m v : Nat) : (s.setObj u o m v).tileMap = s.tileMap := rfl
@[simp] theorem State.setObj_oldHomes (s : State) (u o m v : Nat) : (s.setObj u o m v).oldHomes = s.oldHomes := rfl
@[simp] theorem State.setObj_versions (s : State) (u o m v : Nat) : (s.setObj u o m v).versions = s.versions := rfl
@[simp] theorem State.setObj_nextVersion (s : State) (u o m v : Nat) : (s.setObj u o m v).nextVersion = s.nextVersion := rfl
@[simp] theorem State.setObj_mapCache (s : State) (u o m v : Nat) : (s.setObj u o m v).mapCache = s.mapCache := rfl
@[simp] theorem State.setObj_near (s : State) (u o m v : Nat) : (s.setObj u o m v).near = s.near := rfl
@[simp] theorem State.setObj_channels (s : State) (u o m v : Nat) : (s.setObj u o m v).channels = s.channels := rfl
@[simp] theorem State.setObj_segStates (s : State) (u o m v : Nat) : (s.setObj u o m v).segStates = s.segStates := rfl
@[simp] theorem State.setObj_trainedAt (s : State) (u o m v : Nat) : (s.setObj u o m v).trainedAt = s.trainedAt := rfl
@[simp] theorem State.setObj_caddy (s : State) (u o m v : Nat) : (s.setObj u o m v).caddy = s.caddy := rfl
@[simp] theorem State.setObj_caddyBad (s : State) (u o m v : Nat) : (s.setObj u o m v).caddyBad = s.caddyBad := rfl
@[simp] theorem State.setObj_caddyFailed (s : State) (u o m v : Nat) : (s.setObj u o m v).caddyFailed = s.caddyFailed := rfl
@[simp] theorem State.setObj_caddySoft (s : State) (u o m v : Nat) : (s.setObj u o m v).caddySoft = s.caddySoft := rfl
@[simp] theorem State.setObj_farPorts (s : State) (u o m v : Nat) : (s.setObj u o m v).farPorts = s.farPorts := rfl
@[simp] theorem State.setObj_farMem (s : State) (u o m v : Nat) : (s.setObj u o m v).farMem = s.farMem := rfl
@[simp] theorem State.setObj_segs (s : State) (u o m v : Nat) : (s.setObj u o m v).segs = s.segs := rfl
@[simp] theorem State.setObj_segSeq (s : State) (u o m v : Nat) : (s.setObj u o m v).segSeq = s.segSeq := rfl
@[simp] theorem State.setObj_farRecs (s : State) (u o m v : Nat) : (s.setObj u o m v).farRecs = s.farRecs := rfl
@[simp] theorem State.setObj_t3crcs (s : State) (u o m v : Nat) : (s.setObj u o m v).t3crcs = s.t3crcs := rfl
@[simp] theorem State.setObj_cleanCopies (s : State) (u o m v : Nat) : (s.setObj u o m v).cleanCopies = s.cleanCopies := rfl
@[simp] theorem State.setObj_nextCopy (s : State) (u o m v : Nat) : (s.setObj u o m v).nextCopy = s.nextCopy := rfl
@[simp] theorem State.setObj_accesses (s : State) (u o m v : Nat) : (s.setObj u o m v).accesses = s.accesses := rfl
@[simp] theorem State.setObj_nextAccess (s : State) (u o m v : Nat) : (s.setObj u o m v).nextAccess = s.nextAccess := rfl
@[simp] theorem State.setObj_sweeps (s : State) (u o m v : Nat) : (s.setObj u o m v).sweeps = s.sweeps := rfl
@[simp] theorem State.setObj_frTables (s : State) (u o m v : Nat) : (s.setObj u o m v).frTables = s.frTables := rfl
@[simp] theorem State.setObj_llTables (s : State) (u o m v : Nat) : (s.setObj u o m v).llTables = s.llTables := rfl
@[simp] theorem State.setObj_moves (s : State) (u o m v : Nat) : (s.setObj u o m v).moves = s.moves := rfl
@[simp] theorem State.setObj_perst (s : State) (u o m v : Nat) : (s.setObj u o m v).perst = s.perst := rfl
@[simp] theorem State.setObj_moveWaits (s : State) (u o m v : Nat) : (s.setObj u o m v).moveWaits = s.moveWaits := rfl
@[simp] theorem State.setObj_moveUses (s : State) (u o m v : Nat) : (s.setObj u o m v).moveUses = s.moveUses := rfl
@[simp] theorem State.setObj_shareLog (s : State) (u o m v : Nat) : (s.setObj u o m v).shareLog = s.shareLog := rfl
@[simp] theorem State.setObj_writeAborts (s : State) (u o m v : Nat) : (s.setObj u o m v).writeAborts = s.writeAborts := rfl
@[simp] theorem State.setObj_epochs (s : State) (u o m v : Nat) : (s.setObj u o m v).epochs = s.epochs := rfl
@[simp] theorem State.setObj_demoting (s : State) (u o m v : Nat) : (s.setObj u o m v).demoting = s.demoting := rfl
@[simp] theorem State.setObj_stuck (s : State) (u o m v : Nat) : (s.setObj u o m v).stuck = s.stuck := rfl
@[simp] theorem State.setObj_held (s : State) (u o m v : Nat) : (s.setObj u o m v).held = s.held := rfl
@[simp] theorem State.setObj_cads (s : State) (u o m v : Nat) : (s.setObj u o m v).cads = s.cads := rfl
@[simp] theorem State.setObj_sched (s : State) (u o m v : Nat) : (s.setObj u o m v).sched = s.sched := rfl
@[simp] theorem State.setObj_markers (s : State) (u o m v : Nat) : (s.setObj u o m v).markers = s.markers := rfl
@[simp] theorem State.setObj_pins (s : State) (u o m v : Nat) : (s.setObj u o m v).pins = s.pins := rfl
@[simp] theorem State.setObj_tallies (s : State) (u o m v : Nat) : (s.setObj u o m v).tallies = s.tallies := rfl
@[simp] theorem State.setObj_shareds (s : State) (u o m v : Nat) : (s.setObj u o m v).shareds = s.shareds := rfl
@[simp] theorem State.setObj_insts (s : State) (u o m v : Nat) : (s.setObj u o m v).insts = s.insts := rfl
@[simp] theorem State.setObj_headInst (s : State) (u o m v : Nat) : (s.setObj u o m v).headInst = s.headInst := rfl
@[simp] theorem State.setObj_attaches (s : State) (u o m v : Nat) : (s.setObj u o m v).attaches = s.attaches := rfl
@[simp] theorem State.setObj_results (s : State) (u o m v : Nat) : (s.setObj u o m v).results = s.results := rfl
@[simp] theorem State.setObj_conflicts (s : State) (u o m v : Nat) : (s.setObj u o m v).conflicts = s.conflicts := rfl
@[simp] theorem State.setObj_keys (s : State) (u o m v : Nat) : (s.setObj u o m v).keys = s.keys := rfl
@[simp] theorem State.setObj_nextBinding (s : State) (u o m v : Nat) : (s.setObj u o m v).nextBinding = s.nextBinding := rfl
@[simp] theorem State.setObj_drbgFailed (s : State) (u o m v : Nat) : (s.setObj u o m v).drbgFailed = s.drbgFailed := rfl
@[simp] theorem State.setObj_drbgUses (s : State) (u o m v : Nat) : (s.setObj u o m v).drbgUses = s.drbgUses := rfl
@[simp] theorem State.setObj_injects (s : State) (u o m v : Nat) : (s.setObj u o m v).injects = s.injects := rfl
@[simp] theorem State.setObj_fw (s : State) (u o m v : Nat) : (s.setObj u o m v).fw = s.fw := rfl
@[simp] theorem State.setObj_spdm (s : State) (u o m v : Nat) : (s.setObj u o m v).spdm = s.spdm := rfl
@[simp] theorem State.setObj_clusters (s : State) (u o m v : Nat) : (s.setObj u o m v).clusters = s.clusters := rfl
@[simp] theorem State.setObj_threads (s : State) (u o m v : Nat) : (s.setObj u o m v).threads = s.threads := rfl
@[simp] theorem State.setObj_loads (s : State) (u o m v : Nat) : (s.setObj u o m v).loads = s.loads := rfl
@[simp] theorem State.setObj_nextLoad (s : State) (u o m v : Nat) : (s.setObj u o m v).nextLoad = s.nextLoad := rfl
@[simp] theorem State.setObj_mvReqs (s : State) (u o m v : Nat) : (s.setObj u o m v).mvReqs = s.mvReqs := rfl
@[simp] theorem State.setObj_jobs (s : State) (u o m v : Nat) : (s.setObj u o m v).jobs = s.jobs := rfl
@[simp] theorem State.setObj_lds (s : State) (u o m v : Nat) : (s.setObj u o m v).lds = s.lds := rfl
@[simp] theorem State.setObj_dmas (s : State) (u o m v : Nat) : (s.setObj u o m v).dmas = s.dmas := rfl
@[simp] theorem State.setObj_nextDma (s : State) (u o m v : Nat) : (s.setObj u o m v).nextDma = s.nextDma := rfl
@[simp] theorem State.setObj_legs (s : State) (u o m v : Nat) : (s.setObj u o m v).legs = s.legs := rfl
@[simp] theorem State.setObj_sports (s : State) (u o m v : Nat) : (s.setObj u o m v).sports = s.sports := rfl
@[simp] theorem State.setObj_span (s : State) (u o m v : Nat) : (s.setObj u o m v).span = s.span := rfl
@[simp] theorem State.setObj_allDown (s : State) (u o m v : Nat) : (s.setObj u o m v).allDown = s.allDown := rfl
@[simp] theorem State.setObj_chrysalis (s : State) (u o m v : Nat) : (s.setObj u o m v).chrysalis = s.chrysalis := rfl
@[simp] theorem State.setObj_power (s : State) (u o m v : Nat) : (s.setObj u o m v).power = s.power := rfl
@[simp] theorem State.setObj_poisons (s : State) (u o m v : Nat) : (s.setObj u o m v).poisons = s.poisons := rfl
@[simp] theorem State.setObj_errLog (s : State) (u o m v : Nat) : (s.setObj u o m v).errLog = s.errLog := rfl
@[simp] theorem State.setObj_errSeq (s : State) (u o m v : Nat) : (s.setObj u o m v).errSeq = s.errSeq := rfl
@[simp] theorem State.setObj_errFull (s : State) (u o m v : Nat) : (s.setObj u o m v).errFull = s.errFull := rfl
@[simp] theorem State.setObj_errHistory (s : State) (u o m v : Nat) : (s.setObj u o m v).errHistory = s.errHistory := rfl
@[simp] theorem State.setObj_repairMap (s : State) (u o m v : Nat) : (s.setObj u o m v).repairMap = s.repairMap := rfl
@[simp] theorem State.setObj_repairSeq (s : State) (u o m v : Nat) : (s.setObj u o m v).repairSeq = s.repairSeq := rfl
@[simp] theorem State.setObj_contained (s : State) (u o m v : Nat) : (s.setObj u o m v).contained = s.contained := rfl
@[simp] theorem State.setObj_faults (s : State) (u o m v : Nat) : (s.setObj u o m v).faults = s.faults := rfl
@[simp] theorem State.setObj_lastRaised (s : State) (u o m v : Nat) : (s.setObj u o m v).lastRaised = s.lastRaised := rfl
@[simp] theorem State.setObj_telem (s : State) (u o m v : Nat) : (s.setObj u o m v).telem = s.telem := rfl
@[simp] theorem State.setObj_cores (s : State) (u o m v : Nat) : (s.setObj u o m v).cores = s.cores := rfl

/-! ## bump -/

@[simp] theorem State.bump_pending (s : State) (u o n : Nat) : (s.bump u o n).pending = s.pending := rfl
@[simp] theorem State.bump_outbox (s : State) (u o n : Nat) : (s.bump u o n).outbox = s.outbox := rfl
@[simp] theorem State.bump_fresh (s : State) (u o n : Nat) : (s.bump u o n).fresh = s.fresh := rfl
@[simp] theorem State.bump_now (s : State) (u o n : Nat) : (s.bump u o n).now = s.now := rfl
@[simp] theorem State.bump_stage (s : State) (u o n : Nat) : (s.bump u o n).stage = s.stage := rfl
@[simp] theorem State.bump_profSel (s : State) (u o n : Nat) : (s.bump u o n).profSel = s.profSel := rfl
@[simp] theorem State.bump_nodeId (s : State) (u o n : Nat) : (s.bump u o n).nodeId = s.nodeId := rfl
@[simp] theorem State.bump_hrefclk (s : State) (u o n : Nat) : (s.bump u o n).hrefclk = s.hrefclk := rfl
@[simp] theorem State.bump_strefclk (s : State) (u o n : Nat) : (s.bump u o n).strefclk = s.strefclk := rfl
@[simp] theorem State.bump_farRefInternal (s : State) (u o n : Nat) : (s.bump u o n).farRefInternal = s.farRefInternal := rfl
@[simp] theorem State.bump_units (s : State) (u o n : Nat) : (s.bump u o n).units = s.units := rfl
@[simp] theorem State.bump_blobs (s : State) (u o n : Nat) : (s.bump u o n).blobs = s.blobs := rfl
@[simp] theorem State.bump_sessions (s : State) (u o n : Nat) : (s.bump u o n).sessions = s.sessions := rfl
@[simp] theorem State.bump_nonces (s : State) (u o n : Nat) : (s.bump u o n).nonces = s.nonces := rfl
@[simp] theorem State.bump_heldMsgs (s : State) (u o n : Nat) : (s.bump u o n).heldMsgs = s.heldMsgs := rfl
@[simp] theorem State.bump_profiles (s : State) (u o n : Nat) : (s.bump u o n).profiles = s.profiles := rfl
@[simp] theorem State.bump_extents (s : State) (u o n : Nat) : (s.bump u o n).extents = s.extents := rfl
@[simp] theorem State.bump_tags (s : State) (u o n : Nat) : (s.bump u o n).tags = s.tags := rfl
@[simp] theorem State.bump_regions (s : State) (u o n : Nat) : (s.bump u o n).regions = s.regions := rfl
@[simp] theorem State.bump_tileMap (s : State) (u o n : Nat) : (s.bump u o n).tileMap = s.tileMap := rfl
@[simp] theorem State.bump_oldHomes (s : State) (u o n : Nat) : (s.bump u o n).oldHomes = s.oldHomes := rfl
@[simp] theorem State.bump_versions (s : State) (u o n : Nat) : (s.bump u o n).versions = s.versions := rfl
@[simp] theorem State.bump_nextVersion (s : State) (u o n : Nat) : (s.bump u o n).nextVersion = s.nextVersion := rfl
@[simp] theorem State.bump_mapCache (s : State) (u o n : Nat) : (s.bump u o n).mapCache = s.mapCache := rfl
@[simp] theorem State.bump_near (s : State) (u o n : Nat) : (s.bump u o n).near = s.near := rfl
@[simp] theorem State.bump_channels (s : State) (u o n : Nat) : (s.bump u o n).channels = s.channels := rfl
@[simp] theorem State.bump_segStates (s : State) (u o n : Nat) : (s.bump u o n).segStates = s.segStates := rfl
@[simp] theorem State.bump_trainedAt (s : State) (u o n : Nat) : (s.bump u o n).trainedAt = s.trainedAt := rfl
@[simp] theorem State.bump_caddy (s : State) (u o n : Nat) : (s.bump u o n).caddy = s.caddy := rfl
@[simp] theorem State.bump_caddyBad (s : State) (u o n : Nat) : (s.bump u o n).caddyBad = s.caddyBad := rfl
@[simp] theorem State.bump_caddyFailed (s : State) (u o n : Nat) : (s.bump u o n).caddyFailed = s.caddyFailed := rfl
@[simp] theorem State.bump_caddySoft (s : State) (u o n : Nat) : (s.bump u o n).caddySoft = s.caddySoft := rfl
@[simp] theorem State.bump_farPorts (s : State) (u o n : Nat) : (s.bump u o n).farPorts = s.farPorts := rfl
@[simp] theorem State.bump_farMem (s : State) (u o n : Nat) : (s.bump u o n).farMem = s.farMem := rfl
@[simp] theorem State.bump_segs (s : State) (u o n : Nat) : (s.bump u o n).segs = s.segs := rfl
@[simp] theorem State.bump_segSeq (s : State) (u o n : Nat) : (s.bump u o n).segSeq = s.segSeq := rfl
@[simp] theorem State.bump_farRecs (s : State) (u o n : Nat) : (s.bump u o n).farRecs = s.farRecs := rfl
@[simp] theorem State.bump_t3crcs (s : State) (u o n : Nat) : (s.bump u o n).t3crcs = s.t3crcs := rfl
@[simp] theorem State.bump_cleanCopies (s : State) (u o n : Nat) : (s.bump u o n).cleanCopies = s.cleanCopies := rfl
@[simp] theorem State.bump_nextCopy (s : State) (u o n : Nat) : (s.bump u o n).nextCopy = s.nextCopy := rfl
@[simp] theorem State.bump_accesses (s : State) (u o n : Nat) : (s.bump u o n).accesses = s.accesses := rfl
@[simp] theorem State.bump_nextAccess (s : State) (u o n : Nat) : (s.bump u o n).nextAccess = s.nextAccess := rfl
@[simp] theorem State.bump_sweeps (s : State) (u o n : Nat) : (s.bump u o n).sweeps = s.sweeps := rfl
@[simp] theorem State.bump_frTables (s : State) (u o n : Nat) : (s.bump u o n).frTables = s.frTables := rfl
@[simp] theorem State.bump_llTables (s : State) (u o n : Nat) : (s.bump u o n).llTables = s.llTables := rfl
@[simp] theorem State.bump_moves (s : State) (u o n : Nat) : (s.bump u o n).moves = s.moves := rfl
@[simp] theorem State.bump_perst (s : State) (u o n : Nat) : (s.bump u o n).perst = s.perst := rfl
@[simp] theorem State.bump_moveWaits (s : State) (u o n : Nat) : (s.bump u o n).moveWaits = s.moveWaits := rfl
@[simp] theorem State.bump_moveUses (s : State) (u o n : Nat) : (s.bump u o n).moveUses = s.moveUses := rfl
@[simp] theorem State.bump_shareLog (s : State) (u o n : Nat) : (s.bump u o n).shareLog = s.shareLog := rfl
@[simp] theorem State.bump_writeAborts (s : State) (u o n : Nat) : (s.bump u o n).writeAborts = s.writeAborts := rfl
@[simp] theorem State.bump_epochs (s : State) (u o n : Nat) : (s.bump u o n).epochs = s.epochs := rfl
@[simp] theorem State.bump_demoting (s : State) (u o n : Nat) : (s.bump u o n).demoting = s.demoting := rfl
@[simp] theorem State.bump_stuck (s : State) (u o n : Nat) : (s.bump u o n).stuck = s.stuck := rfl
@[simp] theorem State.bump_held (s : State) (u o n : Nat) : (s.bump u o n).held = s.held := rfl
@[simp] theorem State.bump_cads (s : State) (u o n : Nat) : (s.bump u o n).cads = s.cads := rfl
@[simp] theorem State.bump_sched (s : State) (u o n : Nat) : (s.bump u o n).sched = s.sched := rfl
@[simp] theorem State.bump_markers (s : State) (u o n : Nat) : (s.bump u o n).markers = s.markers := rfl
@[simp] theorem State.bump_pins (s : State) (u o n : Nat) : (s.bump u o n).pins = s.pins := rfl
@[simp] theorem State.bump_tallies (s : State) (u o n : Nat) : (s.bump u o n).tallies = s.tallies := rfl
@[simp] theorem State.bump_shareds (s : State) (u o n : Nat) : (s.bump u o n).shareds = s.shareds := rfl
@[simp] theorem State.bump_insts (s : State) (u o n : Nat) : (s.bump u o n).insts = s.insts := rfl
@[simp] theorem State.bump_headInst (s : State) (u o n : Nat) : (s.bump u o n).headInst = s.headInst := rfl
@[simp] theorem State.bump_attaches (s : State) (u o n : Nat) : (s.bump u o n).attaches = s.attaches := rfl
@[simp] theorem State.bump_results (s : State) (u o n : Nat) : (s.bump u o n).results = s.results := rfl
@[simp] theorem State.bump_conflicts (s : State) (u o n : Nat) : (s.bump u o n).conflicts = s.conflicts := rfl
@[simp] theorem State.bump_keys (s : State) (u o n : Nat) : (s.bump u o n).keys = s.keys := rfl
@[simp] theorem State.bump_nextBinding (s : State) (u o n : Nat) : (s.bump u o n).nextBinding = s.nextBinding := rfl
@[simp] theorem State.bump_drbgFailed (s : State) (u o n : Nat) : (s.bump u o n).drbgFailed = s.drbgFailed := rfl
@[simp] theorem State.bump_drbgUses (s : State) (u o n : Nat) : (s.bump u o n).drbgUses = s.drbgUses := rfl
@[simp] theorem State.bump_injects (s : State) (u o n : Nat) : (s.bump u o n).injects = s.injects := rfl
@[simp] theorem State.bump_fw (s : State) (u o n : Nat) : (s.bump u o n).fw = s.fw := rfl
@[simp] theorem State.bump_spdm (s : State) (u o n : Nat) : (s.bump u o n).spdm = s.spdm := rfl
@[simp] theorem State.bump_clusters (s : State) (u o n : Nat) : (s.bump u o n).clusters = s.clusters := rfl
@[simp] theorem State.bump_threads (s : State) (u o n : Nat) : (s.bump u o n).threads = s.threads := rfl
@[simp] theorem State.bump_loads (s : State) (u o n : Nat) : (s.bump u o n).loads = s.loads := rfl
@[simp] theorem State.bump_nextLoad (s : State) (u o n : Nat) : (s.bump u o n).nextLoad = s.nextLoad := rfl
@[simp] theorem State.bump_mvReqs (s : State) (u o n : Nat) : (s.bump u o n).mvReqs = s.mvReqs := rfl
@[simp] theorem State.bump_jobs (s : State) (u o n : Nat) : (s.bump u o n).jobs = s.jobs := rfl
@[simp] theorem State.bump_lds (s : State) (u o n : Nat) : (s.bump u o n).lds = s.lds := rfl
@[simp] theorem State.bump_dmas (s : State) (u o n : Nat) : (s.bump u o n).dmas = s.dmas := rfl
@[simp] theorem State.bump_nextDma (s : State) (u o n : Nat) : (s.bump u o n).nextDma = s.nextDma := rfl
@[simp] theorem State.bump_legs (s : State) (u o n : Nat) : (s.bump u o n).legs = s.legs := rfl
@[simp] theorem State.bump_sports (s : State) (u o n : Nat) : (s.bump u o n).sports = s.sports := rfl
@[simp] theorem State.bump_span (s : State) (u o n : Nat) : (s.bump u o n).span = s.span := rfl
@[simp] theorem State.bump_allDown (s : State) (u o n : Nat) : (s.bump u o n).allDown = s.allDown := rfl
@[simp] theorem State.bump_chrysalis (s : State) (u o n : Nat) : (s.bump u o n).chrysalis = s.chrysalis := rfl
@[simp] theorem State.bump_power (s : State) (u o n : Nat) : (s.bump u o n).power = s.power := rfl
@[simp] theorem State.bump_poisons (s : State) (u o n : Nat) : (s.bump u o n).poisons = s.poisons := rfl
@[simp] theorem State.bump_errLog (s : State) (u o n : Nat) : (s.bump u o n).errLog = s.errLog := rfl
@[simp] theorem State.bump_errSeq (s : State) (u o n : Nat) : (s.bump u o n).errSeq = s.errSeq := rfl
@[simp] theorem State.bump_errFull (s : State) (u o n : Nat) : (s.bump u o n).errFull = s.errFull := rfl
@[simp] theorem State.bump_errHistory (s : State) (u o n : Nat) : (s.bump u o n).errHistory = s.errHistory := rfl
@[simp] theorem State.bump_repairMap (s : State) (u o n : Nat) : (s.bump u o n).repairMap = s.repairMap := rfl
@[simp] theorem State.bump_repairSeq (s : State) (u o n : Nat) : (s.bump u o n).repairSeq = s.repairSeq := rfl
@[simp] theorem State.bump_contained (s : State) (u o n : Nat) : (s.bump u o n).contained = s.contained := rfl
@[simp] theorem State.bump_faults (s : State) (u o n : Nat) : (s.bump u o n).faults = s.faults := rfl
@[simp] theorem State.bump_lastRaised (s : State) (u o n : Nat) : (s.bump u o n).lastRaised = s.lastRaised := rfl
@[simp] theorem State.bump_telem (s : State) (u o n : Nat) : (s.bump u o n).telem = s.telem := rfl
@[simp] theorem State.bump_cores (s : State) (u o n : Nat) : (s.bump u o n).cores = s.cores := rfl

/-! ## setBlob -/

@[simp] theorem State.setBlob_pending (s : State) (u o m off : Nat) (b : Bytes) : (s.setBlob u o m off b).pending = s.pending := rfl
@[simp] theorem State.setBlob_outbox (s : State) (u o m off : Nat) (b : Bytes) : (s.setBlob u o m off b).outbox = s.outbox := rfl
@[simp] theorem State.setBlob_fresh (s : State) (u o m off : Nat) (b : Bytes) : (s.setBlob u o m off b).fresh = s.fresh := rfl
@[simp] theorem State.setBlob_now (s : State) (u o m off : Nat) (b : Bytes) : (s.setBlob u o m off b).now = s.now := rfl
@[simp] theorem State.setBlob_stage (s : State) (u o m off : Nat) (b : Bytes) : (s.setBlob u o m off b).stage = s.stage := rfl
@[simp] theorem State.setBlob_profSel (s : State) (u o m off : Nat) (b : Bytes) : (s.setBlob u o m off b).profSel = s.profSel := rfl
@[simp] theorem State.setBlob_nodeId (s : State) (u o m off : Nat) (b : Bytes) : (s.setBlob u o m off b).nodeId = s.nodeId := rfl
@[simp] theorem State.setBlob_hrefclk (s : State) (u o m off : Nat) (b : Bytes) : (s.setBlob u o m off b).hrefclk = s.hrefclk := rfl
@[simp] theorem State.setBlob_strefclk (s : State) (u o m off : Nat) (b : Bytes) : (s.setBlob u o m off b).strefclk = s.strefclk := rfl
@[simp] theorem State.setBlob_farRefInternal (s : State) (u o m off : Nat) (b : Bytes) : (s.setBlob u o m off b).farRefInternal = s.farRefInternal := rfl
@[simp] theorem State.setBlob_units (s : State) (u o m off : Nat) (b : Bytes) : (s.setBlob u o m off b).units = s.units := rfl
@[simp] theorem State.setBlob_objs (s : State) (u o m off : Nat) (b : Bytes) : (s.setBlob u o m off b).objs = s.objs := rfl
@[simp] theorem State.setBlob_sessions (s : State) (u o m off : Nat) (b : Bytes) : (s.setBlob u o m off b).sessions = s.sessions := rfl
@[simp] theorem State.setBlob_nonces (s : State) (u o m off : Nat) (b : Bytes) : (s.setBlob u o m off b).nonces = s.nonces := rfl
@[simp] theorem State.setBlob_heldMsgs (s : State) (u o m off : Nat) (b : Bytes) : (s.setBlob u o m off b).heldMsgs = s.heldMsgs := rfl
@[simp] theorem State.setBlob_profiles (s : State) (u o m off : Nat) (b : Bytes) : (s.setBlob u o m off b).profiles = s.profiles := rfl
@[simp] theorem State.setBlob_extents (s : State) (u o m off : Nat) (b : Bytes) : (s.setBlob u o m off b).extents = s.extents := rfl
@[simp] theorem State.setBlob_tags (s : State) (u o m off : Nat) (b : Bytes) : (s.setBlob u o m off b).tags = s.tags := rfl
@[simp] theorem State.setBlob_regions (s : State) (u o m off : Nat) (b : Bytes) : (s.setBlob u o m off b).regions = s.regions := rfl
@[simp] theorem State.setBlob_tileMap (s : State) (u o m off : Nat) (b : Bytes) : (s.setBlob u o m off b).tileMap = s.tileMap := rfl
@[simp] theorem State.setBlob_oldHomes (s : State) (u o m off : Nat) (b : Bytes) : (s.setBlob u o m off b).oldHomes = s.oldHomes := rfl
@[simp] theorem State.setBlob_versions (s : State) (u o m off : Nat) (b : Bytes) : (s.setBlob u o m off b).versions = s.versions := rfl
@[simp] theorem State.setBlob_nextVersion (s : State) (u o m off : Nat) (b : Bytes) : (s.setBlob u o m off b).nextVersion = s.nextVersion := rfl
@[simp] theorem State.setBlob_mapCache (s : State) (u o m off : Nat) (b : Bytes) : (s.setBlob u o m off b).mapCache = s.mapCache := rfl
@[simp] theorem State.setBlob_near (s : State) (u o m off : Nat) (b : Bytes) : (s.setBlob u o m off b).near = s.near := rfl
@[simp] theorem State.setBlob_channels (s : State) (u o m off : Nat) (b : Bytes) : (s.setBlob u o m off b).channels = s.channels := rfl
@[simp] theorem State.setBlob_segStates (s : State) (u o m off : Nat) (b : Bytes) : (s.setBlob u o m off b).segStates = s.segStates := rfl
@[simp] theorem State.setBlob_trainedAt (s : State) (u o m off : Nat) (b : Bytes) : (s.setBlob u o m off b).trainedAt = s.trainedAt := rfl
@[simp] theorem State.setBlob_caddy (s : State) (u o m off : Nat) (b : Bytes) : (s.setBlob u o m off b).caddy = s.caddy := rfl
@[simp] theorem State.setBlob_caddyBad (s : State) (u o m off : Nat) (b : Bytes) : (s.setBlob u o m off b).caddyBad = s.caddyBad := rfl
@[simp] theorem State.setBlob_caddyFailed (s : State) (u o m off : Nat) (b : Bytes) : (s.setBlob u o m off b).caddyFailed = s.caddyFailed := rfl
@[simp] theorem State.setBlob_caddySoft (s : State) (u o m off : Nat) (b : Bytes) : (s.setBlob u o m off b).caddySoft = s.caddySoft := rfl
@[simp] theorem State.setBlob_farPorts (s : State) (u o m off : Nat) (b : Bytes) : (s.setBlob u o m off b).farPorts = s.farPorts := rfl
@[simp] theorem State.setBlob_farMem (s : State) (u o m off : Nat) (b : Bytes) : (s.setBlob u o m off b).farMem = s.farMem := rfl
@[simp] theorem State.setBlob_segs (s : State) (u o m off : Nat) (b : Bytes) : (s.setBlob u o m off b).segs = s.segs := rfl
@[simp] theorem State.setBlob_segSeq (s : State) (u o m off : Nat) (b : Bytes) : (s.setBlob u o m off b).segSeq = s.segSeq := rfl
@[simp] theorem State.setBlob_farRecs (s : State) (u o m off : Nat) (b : Bytes) : (s.setBlob u o m off b).farRecs = s.farRecs := rfl
@[simp] theorem State.setBlob_t3crcs (s : State) (u o m off : Nat) (b : Bytes) : (s.setBlob u o m off b).t3crcs = s.t3crcs := rfl
@[simp] theorem State.setBlob_cleanCopies (s : State) (u o m off : Nat) (b : Bytes) : (s.setBlob u o m off b).cleanCopies = s.cleanCopies := rfl
@[simp] theorem State.setBlob_nextCopy (s : State) (u o m off : Nat) (b : Bytes) : (s.setBlob u o m off b).nextCopy = s.nextCopy := rfl
@[simp] theorem State.setBlob_accesses (s : State) (u o m off : Nat) (b : Bytes) : (s.setBlob u o m off b).accesses = s.accesses := rfl
@[simp] theorem State.setBlob_nextAccess (s : State) (u o m off : Nat) (b : Bytes) : (s.setBlob u o m off b).nextAccess = s.nextAccess := rfl
@[simp] theorem State.setBlob_sweeps (s : State) (u o m off : Nat) (b : Bytes) : (s.setBlob u o m off b).sweeps = s.sweeps := rfl
@[simp] theorem State.setBlob_frTables (s : State) (u o m off : Nat) (b : Bytes) : (s.setBlob u o m off b).frTables = s.frTables := rfl
@[simp] theorem State.setBlob_llTables (s : State) (u o m off : Nat) (b : Bytes) : (s.setBlob u o m off b).llTables = s.llTables := rfl
@[simp] theorem State.setBlob_moves (s : State) (u o m off : Nat) (b : Bytes) : (s.setBlob u o m off b).moves = s.moves := rfl
@[simp] theorem State.setBlob_perst (s : State) (u o m off : Nat) (b : Bytes) : (s.setBlob u o m off b).perst = s.perst := rfl
@[simp] theorem State.setBlob_moveWaits (s : State) (u o m off : Nat) (b : Bytes) : (s.setBlob u o m off b).moveWaits = s.moveWaits := rfl
@[simp] theorem State.setBlob_moveUses (s : State) (u o m off : Nat) (b : Bytes) : (s.setBlob u o m off b).moveUses = s.moveUses := rfl
@[simp] theorem State.setBlob_shareLog (s : State) (u o m off : Nat) (b : Bytes) : (s.setBlob u o m off b).shareLog = s.shareLog := rfl
@[simp] theorem State.setBlob_writeAborts (s : State) (u o m off : Nat) (b : Bytes) : (s.setBlob u o m off b).writeAborts = s.writeAborts := rfl
@[simp] theorem State.setBlob_epochs (s : State) (u o m off : Nat) (b : Bytes) : (s.setBlob u o m off b).epochs = s.epochs := rfl
@[simp] theorem State.setBlob_demoting (s : State) (u o m off : Nat) (b : Bytes) : (s.setBlob u o m off b).demoting = s.demoting := rfl
@[simp] theorem State.setBlob_stuck (s : State) (u o m off : Nat) (b : Bytes) : (s.setBlob u o m off b).stuck = s.stuck := rfl
@[simp] theorem State.setBlob_held (s : State) (u o m off : Nat) (b : Bytes) : (s.setBlob u o m off b).held = s.held := rfl
@[simp] theorem State.setBlob_cads (s : State) (u o m off : Nat) (b : Bytes) : (s.setBlob u o m off b).cads = s.cads := rfl
@[simp] theorem State.setBlob_sched (s : State) (u o m off : Nat) (b : Bytes) : (s.setBlob u o m off b).sched = s.sched := rfl
@[simp] theorem State.setBlob_markers (s : State) (u o m off : Nat) (b : Bytes) : (s.setBlob u o m off b).markers = s.markers := rfl
@[simp] theorem State.setBlob_pins (s : State) (u o m off : Nat) (b : Bytes) : (s.setBlob u o m off b).pins = s.pins := rfl
@[simp] theorem State.setBlob_tallies (s : State) (u o m off : Nat) (b : Bytes) : (s.setBlob u o m off b).tallies = s.tallies := rfl
@[simp] theorem State.setBlob_shareds (s : State) (u o m off : Nat) (b : Bytes) : (s.setBlob u o m off b).shareds = s.shareds := rfl
@[simp] theorem State.setBlob_insts (s : State) (u o m off : Nat) (b : Bytes) : (s.setBlob u o m off b).insts = s.insts := rfl
@[simp] theorem State.setBlob_headInst (s : State) (u o m off : Nat) (b : Bytes) : (s.setBlob u o m off b).headInst = s.headInst := rfl
@[simp] theorem State.setBlob_attaches (s : State) (u o m off : Nat) (b : Bytes) : (s.setBlob u o m off b).attaches = s.attaches := rfl
@[simp] theorem State.setBlob_results (s : State) (u o m off : Nat) (b : Bytes) : (s.setBlob u o m off b).results = s.results := rfl
@[simp] theorem State.setBlob_conflicts (s : State) (u o m off : Nat) (b : Bytes) : (s.setBlob u o m off b).conflicts = s.conflicts := rfl
@[simp] theorem State.setBlob_keys (s : State) (u o m off : Nat) (b : Bytes) : (s.setBlob u o m off b).keys = s.keys := rfl
@[simp] theorem State.setBlob_nextBinding (s : State) (u o m off : Nat) (b : Bytes) : (s.setBlob u o m off b).nextBinding = s.nextBinding := rfl
@[simp] theorem State.setBlob_drbgFailed (s : State) (u o m off : Nat) (b : Bytes) : (s.setBlob u o m off b).drbgFailed = s.drbgFailed := rfl
@[simp] theorem State.setBlob_drbgUses (s : State) (u o m off : Nat) (b : Bytes) : (s.setBlob u o m off b).drbgUses = s.drbgUses := rfl
@[simp] theorem State.setBlob_injects (s : State) (u o m off : Nat) (b : Bytes) : (s.setBlob u o m off b).injects = s.injects := rfl
@[simp] theorem State.setBlob_fw (s : State) (u o m off : Nat) (b : Bytes) : (s.setBlob u o m off b).fw = s.fw := rfl
@[simp] theorem State.setBlob_spdm (s : State) (u o m off : Nat) (b : Bytes) : (s.setBlob u o m off b).spdm = s.spdm := rfl
@[simp] theorem State.setBlob_clusters (s : State) (u o m off : Nat) (b : Bytes) : (s.setBlob u o m off b).clusters = s.clusters := rfl
@[simp] theorem State.setBlob_threads (s : State) (u o m off : Nat) (b : Bytes) : (s.setBlob u o m off b).threads = s.threads := rfl
@[simp] theorem State.setBlob_loads (s : State) (u o m off : Nat) (b : Bytes) : (s.setBlob u o m off b).loads = s.loads := rfl
@[simp] theorem State.setBlob_nextLoad (s : State) (u o m off : Nat) (b : Bytes) : (s.setBlob u o m off b).nextLoad = s.nextLoad := rfl
@[simp] theorem State.setBlob_mvReqs (s : State) (u o m off : Nat) (b : Bytes) : (s.setBlob u o m off b).mvReqs = s.mvReqs := rfl
@[simp] theorem State.setBlob_jobs (s : State) (u o m off : Nat) (b : Bytes) : (s.setBlob u o m off b).jobs = s.jobs := rfl
@[simp] theorem State.setBlob_lds (s : State) (u o m off : Nat) (b : Bytes) : (s.setBlob u o m off b).lds = s.lds := rfl
@[simp] theorem State.setBlob_dmas (s : State) (u o m off : Nat) (b : Bytes) : (s.setBlob u o m off b).dmas = s.dmas := rfl
@[simp] theorem State.setBlob_nextDma (s : State) (u o m off : Nat) (b : Bytes) : (s.setBlob u o m off b).nextDma = s.nextDma := rfl
@[simp] theorem State.setBlob_legs (s : State) (u o m off : Nat) (b : Bytes) : (s.setBlob u o m off b).legs = s.legs := rfl
@[simp] theorem State.setBlob_sports (s : State) (u o m off : Nat) (b : Bytes) : (s.setBlob u o m off b).sports = s.sports := rfl
@[simp] theorem State.setBlob_span (s : State) (u o m off : Nat) (b : Bytes) : (s.setBlob u o m off b).span = s.span := rfl
@[simp] theorem State.setBlob_allDown (s : State) (u o m off : Nat) (b : Bytes) : (s.setBlob u o m off b).allDown = s.allDown := rfl
@[simp] theorem State.setBlob_chrysalis (s : State) (u o m off : Nat) (b : Bytes) : (s.setBlob u o m off b).chrysalis = s.chrysalis := rfl
@[simp] theorem State.setBlob_power (s : State) (u o m off : Nat) (b : Bytes) : (s.setBlob u o m off b).power = s.power := rfl
@[simp] theorem State.setBlob_poisons (s : State) (u o m off : Nat) (b : Bytes) : (s.setBlob u o m off b).poisons = s.poisons := rfl
@[simp] theorem State.setBlob_errLog (s : State) (u o m off : Nat) (b : Bytes) : (s.setBlob u o m off b).errLog = s.errLog := rfl
@[simp] theorem State.setBlob_errSeq (s : State) (u o m off : Nat) (b : Bytes) : (s.setBlob u o m off b).errSeq = s.errSeq := rfl
@[simp] theorem State.setBlob_errFull (s : State) (u o m off : Nat) (b : Bytes) : (s.setBlob u o m off b).errFull = s.errFull := rfl
@[simp] theorem State.setBlob_errHistory (s : State) (u o m off : Nat) (b : Bytes) : (s.setBlob u o m off b).errHistory = s.errHistory := rfl
@[simp] theorem State.setBlob_repairMap (s : State) (u o m off : Nat) (b : Bytes) : (s.setBlob u o m off b).repairMap = s.repairMap := rfl
@[simp] theorem State.setBlob_repairSeq (s : State) (u o m off : Nat) (b : Bytes) : (s.setBlob u o m off b).repairSeq = s.repairSeq := rfl
@[simp] theorem State.setBlob_contained (s : State) (u o m off : Nat) (b : Bytes) : (s.setBlob u o m off b).contained = s.contained := rfl
@[simp] theorem State.setBlob_faults (s : State) (u o m off : Nat) (b : Bytes) : (s.setBlob u o m off b).faults = s.faults := rfl
@[simp] theorem State.setBlob_lastRaised (s : State) (u o m off : Nat) (b : Bytes) : (s.setBlob u o m off b).lastRaised = s.lastRaised := rfl
@[simp] theorem State.setBlob_telem (s : State) (u o m off : Nat) (b : Bytes) : (s.setBlob u o m off b).telem = s.telem := rfl
@[simp] theorem State.setBlob_cores (s : State) (u o m off : Nat) (b : Bytes) : (s.setBlob u o m off b).cores = s.cores := rfl

/-! ## setLd -/

@[simp] theorem State.setLd_pending (s : State) (n : Nat) (l : Ld) : (s.setLd n l).pending = s.pending := rfl
@[simp] theorem State.setLd_outbox (s : State) (n : Nat) (l : Ld) : (s.setLd n l).outbox = s.outbox := rfl
@[simp] theorem State.setLd_fresh (s : State) (n : Nat) (l : Ld) : (s.setLd n l).fresh = s.fresh := rfl
@[simp] theorem State.setLd_now (s : State) (n : Nat) (l : Ld) : (s.setLd n l).now = s.now := rfl
@[simp] theorem State.setLd_stage (s : State) (n : Nat) (l : Ld) : (s.setLd n l).stage = s.stage := rfl
@[simp] theorem State.setLd_profSel (s : State) (n : Nat) (l : Ld) : (s.setLd n l).profSel = s.profSel := rfl
@[simp] theorem State.setLd_nodeId (s : State) (n : Nat) (l : Ld) : (s.setLd n l).nodeId = s.nodeId := rfl
@[simp] theorem State.setLd_hrefclk (s : State) (n : Nat) (l : Ld) : (s.setLd n l).hrefclk = s.hrefclk := rfl
@[simp] theorem State.setLd_strefclk (s : State) (n : Nat) (l : Ld) : (s.setLd n l).strefclk = s.strefclk := rfl
@[simp] theorem State.setLd_farRefInternal (s : State) (n : Nat) (l : Ld) : (s.setLd n l).farRefInternal = s.farRefInternal := rfl
@[simp] theorem State.setLd_units (s : State) (n : Nat) (l : Ld) : (s.setLd n l).units = s.units := rfl
@[simp] theorem State.setLd_objs (s : State) (n : Nat) (l : Ld) : (s.setLd n l).objs = s.objs := rfl
@[simp] theorem State.setLd_blobs (s : State) (n : Nat) (l : Ld) : (s.setLd n l).blobs = s.blobs := rfl
@[simp] theorem State.setLd_sessions (s : State) (n : Nat) (l : Ld) : (s.setLd n l).sessions = s.sessions := rfl
@[simp] theorem State.setLd_nonces (s : State) (n : Nat) (l : Ld) : (s.setLd n l).nonces = s.nonces := rfl
@[simp] theorem State.setLd_heldMsgs (s : State) (n : Nat) (l : Ld) : (s.setLd n l).heldMsgs = s.heldMsgs := rfl
@[simp] theorem State.setLd_profiles (s : State) (n : Nat) (l : Ld) : (s.setLd n l).profiles = s.profiles := rfl
@[simp] theorem State.setLd_extents (s : State) (n : Nat) (l : Ld) : (s.setLd n l).extents = s.extents := rfl
@[simp] theorem State.setLd_tags (s : State) (n : Nat) (l : Ld) : (s.setLd n l).tags = s.tags := rfl
@[simp] theorem State.setLd_regions (s : State) (n : Nat) (l : Ld) : (s.setLd n l).regions = s.regions := rfl
@[simp] theorem State.setLd_tileMap (s : State) (n : Nat) (l : Ld) : (s.setLd n l).tileMap = s.tileMap := rfl
@[simp] theorem State.setLd_oldHomes (s : State) (n : Nat) (l : Ld) : (s.setLd n l).oldHomes = s.oldHomes := rfl
@[simp] theorem State.setLd_versions (s : State) (n : Nat) (l : Ld) : (s.setLd n l).versions = s.versions := rfl
@[simp] theorem State.setLd_nextVersion (s : State) (n : Nat) (l : Ld) : (s.setLd n l).nextVersion = s.nextVersion := rfl
@[simp] theorem State.setLd_mapCache (s : State) (n : Nat) (l : Ld) : (s.setLd n l).mapCache = s.mapCache := rfl
@[simp] theorem State.setLd_near (s : State) (n : Nat) (l : Ld) : (s.setLd n l).near = s.near := rfl
@[simp] theorem State.setLd_channels (s : State) (n : Nat) (l : Ld) : (s.setLd n l).channels = s.channels := rfl
@[simp] theorem State.setLd_segStates (s : State) (n : Nat) (l : Ld) : (s.setLd n l).segStates = s.segStates := rfl
@[simp] theorem State.setLd_trainedAt (s : State) (n : Nat) (l : Ld) : (s.setLd n l).trainedAt = s.trainedAt := rfl
@[simp] theorem State.setLd_caddy (s : State) (n : Nat) (l : Ld) : (s.setLd n l).caddy = s.caddy := rfl
@[simp] theorem State.setLd_caddyBad (s : State) (n : Nat) (l : Ld) : (s.setLd n l).caddyBad = s.caddyBad := rfl
@[simp] theorem State.setLd_caddyFailed (s : State) (n : Nat) (l : Ld) : (s.setLd n l).caddyFailed = s.caddyFailed := rfl
@[simp] theorem State.setLd_caddySoft (s : State) (n : Nat) (l : Ld) : (s.setLd n l).caddySoft = s.caddySoft := rfl
@[simp] theorem State.setLd_farPorts (s : State) (n : Nat) (l : Ld) : (s.setLd n l).farPorts = s.farPorts := rfl
@[simp] theorem State.setLd_farMem (s : State) (n : Nat) (l : Ld) : (s.setLd n l).farMem = s.farMem := rfl
@[simp] theorem State.setLd_segs (s : State) (n : Nat) (l : Ld) : (s.setLd n l).segs = s.segs := rfl
@[simp] theorem State.setLd_segSeq (s : State) (n : Nat) (l : Ld) : (s.setLd n l).segSeq = s.segSeq := rfl
@[simp] theorem State.setLd_farRecs (s : State) (n : Nat) (l : Ld) : (s.setLd n l).farRecs = s.farRecs := rfl
@[simp] theorem State.setLd_t3crcs (s : State) (n : Nat) (l : Ld) : (s.setLd n l).t3crcs = s.t3crcs := rfl
@[simp] theorem State.setLd_cleanCopies (s : State) (n : Nat) (l : Ld) : (s.setLd n l).cleanCopies = s.cleanCopies := rfl
@[simp] theorem State.setLd_nextCopy (s : State) (n : Nat) (l : Ld) : (s.setLd n l).nextCopy = s.nextCopy := rfl
@[simp] theorem State.setLd_accesses (s : State) (n : Nat) (l : Ld) : (s.setLd n l).accesses = s.accesses := rfl
@[simp] theorem State.setLd_nextAccess (s : State) (n : Nat) (l : Ld) : (s.setLd n l).nextAccess = s.nextAccess := rfl
@[simp] theorem State.setLd_sweeps (s : State) (n : Nat) (l : Ld) : (s.setLd n l).sweeps = s.sweeps := rfl
@[simp] theorem State.setLd_frTables (s : State) (n : Nat) (l : Ld) : (s.setLd n l).frTables = s.frTables := rfl
@[simp] theorem State.setLd_llTables (s : State) (n : Nat) (l : Ld) : (s.setLd n l).llTables = s.llTables := rfl
@[simp] theorem State.setLd_moves (s : State) (n : Nat) (l : Ld) : (s.setLd n l).moves = s.moves := rfl
@[simp] theorem State.setLd_perst (s : State) (n : Nat) (l : Ld) : (s.setLd n l).perst = s.perst := rfl
@[simp] theorem State.setLd_moveWaits (s : State) (n : Nat) (l : Ld) : (s.setLd n l).moveWaits = s.moveWaits := rfl
@[simp] theorem State.setLd_moveUses (s : State) (n : Nat) (l : Ld) : (s.setLd n l).moveUses = s.moveUses := rfl
@[simp] theorem State.setLd_shareLog (s : State) (n : Nat) (l : Ld) : (s.setLd n l).shareLog = s.shareLog := rfl
@[simp] theorem State.setLd_writeAborts (s : State) (n : Nat) (l : Ld) : (s.setLd n l).writeAborts = s.writeAborts := rfl
@[simp] theorem State.setLd_epochs (s : State) (n : Nat) (l : Ld) : (s.setLd n l).epochs = s.epochs := rfl
@[simp] theorem State.setLd_demoting (s : State) (n : Nat) (l : Ld) : (s.setLd n l).demoting = s.demoting := rfl
@[simp] theorem State.setLd_stuck (s : State) (n : Nat) (l : Ld) : (s.setLd n l).stuck = s.stuck := rfl
@[simp] theorem State.setLd_held (s : State) (n : Nat) (l : Ld) : (s.setLd n l).held = s.held := rfl
@[simp] theorem State.setLd_cads (s : State) (n : Nat) (l : Ld) : (s.setLd n l).cads = s.cads := rfl
@[simp] theorem State.setLd_sched (s : State) (n : Nat) (l : Ld) : (s.setLd n l).sched = s.sched := rfl
@[simp] theorem State.setLd_markers (s : State) (n : Nat) (l : Ld) : (s.setLd n l).markers = s.markers := rfl
@[simp] theorem State.setLd_pins (s : State) (n : Nat) (l : Ld) : (s.setLd n l).pins = s.pins := rfl
@[simp] theorem State.setLd_tallies (s : State) (n : Nat) (l : Ld) : (s.setLd n l).tallies = s.tallies := rfl
@[simp] theorem State.setLd_shareds (s : State) (n : Nat) (l : Ld) : (s.setLd n l).shareds = s.shareds := rfl
@[simp] theorem State.setLd_insts (s : State) (n : Nat) (l : Ld) : (s.setLd n l).insts = s.insts := rfl
@[simp] theorem State.setLd_headInst (s : State) (n : Nat) (l : Ld) : (s.setLd n l).headInst = s.headInst := rfl
@[simp] theorem State.setLd_attaches (s : State) (n : Nat) (l : Ld) : (s.setLd n l).attaches = s.attaches := rfl
@[simp] theorem State.setLd_results (s : State) (n : Nat) (l : Ld) : (s.setLd n l).results = s.results := rfl
@[simp] theorem State.setLd_conflicts (s : State) (n : Nat) (l : Ld) : (s.setLd n l).conflicts = s.conflicts := rfl
@[simp] theorem State.setLd_keys (s : State) (n : Nat) (l : Ld) : (s.setLd n l).keys = s.keys := rfl
@[simp] theorem State.setLd_nextBinding (s : State) (n : Nat) (l : Ld) : (s.setLd n l).nextBinding = s.nextBinding := rfl
@[simp] theorem State.setLd_drbgFailed (s : State) (n : Nat) (l : Ld) : (s.setLd n l).drbgFailed = s.drbgFailed := rfl
@[simp] theorem State.setLd_drbgUses (s : State) (n : Nat) (l : Ld) : (s.setLd n l).drbgUses = s.drbgUses := rfl
@[simp] theorem State.setLd_injects (s : State) (n : Nat) (l : Ld) : (s.setLd n l).injects = s.injects := rfl
@[simp] theorem State.setLd_fw (s : State) (n : Nat) (l : Ld) : (s.setLd n l).fw = s.fw := rfl
@[simp] theorem State.setLd_spdm (s : State) (n : Nat) (l : Ld) : (s.setLd n l).spdm = s.spdm := rfl
@[simp] theorem State.setLd_clusters (s : State) (n : Nat) (l : Ld) : (s.setLd n l).clusters = s.clusters := rfl
@[simp] theorem State.setLd_threads (s : State) (n : Nat) (l : Ld) : (s.setLd n l).threads = s.threads := rfl
@[simp] theorem State.setLd_loads (s : State) (n : Nat) (l : Ld) : (s.setLd n l).loads = s.loads := rfl
@[simp] theorem State.setLd_nextLoad (s : State) (n : Nat) (l : Ld) : (s.setLd n l).nextLoad = s.nextLoad := rfl
@[simp] theorem State.setLd_mvReqs (s : State) (n : Nat) (l : Ld) : (s.setLd n l).mvReqs = s.mvReqs := rfl
@[simp] theorem State.setLd_jobs (s : State) (n : Nat) (l : Ld) : (s.setLd n l).jobs = s.jobs := rfl
@[simp] theorem State.setLd_dmas (s : State) (n : Nat) (l : Ld) : (s.setLd n l).dmas = s.dmas := rfl
@[simp] theorem State.setLd_nextDma (s : State) (n : Nat) (l : Ld) : (s.setLd n l).nextDma = s.nextDma := rfl
@[simp] theorem State.setLd_legs (s : State) (n : Nat) (l : Ld) : (s.setLd n l).legs = s.legs := rfl
@[simp] theorem State.setLd_sports (s : State) (n : Nat) (l : Ld) : (s.setLd n l).sports = s.sports := rfl
@[simp] theorem State.setLd_span (s : State) (n : Nat) (l : Ld) : (s.setLd n l).span = s.span := rfl
@[simp] theorem State.setLd_allDown (s : State) (n : Nat) (l : Ld) : (s.setLd n l).allDown = s.allDown := rfl
@[simp] theorem State.setLd_chrysalis (s : State) (n : Nat) (l : Ld) : (s.setLd n l).chrysalis = s.chrysalis := rfl
@[simp] theorem State.setLd_power (s : State) (n : Nat) (l : Ld) : (s.setLd n l).power = s.power := rfl
@[simp] theorem State.setLd_poisons (s : State) (n : Nat) (l : Ld) : (s.setLd n l).poisons = s.poisons := rfl
@[simp] theorem State.setLd_errLog (s : State) (n : Nat) (l : Ld) : (s.setLd n l).errLog = s.errLog := rfl
@[simp] theorem State.setLd_errSeq (s : State) (n : Nat) (l : Ld) : (s.setLd n l).errSeq = s.errSeq := rfl
@[simp] theorem State.setLd_errFull (s : State) (n : Nat) (l : Ld) : (s.setLd n l).errFull = s.errFull := rfl
@[simp] theorem State.setLd_errHistory (s : State) (n : Nat) (l : Ld) : (s.setLd n l).errHistory = s.errHistory := rfl
@[simp] theorem State.setLd_repairMap (s : State) (n : Nat) (l : Ld) : (s.setLd n l).repairMap = s.repairMap := rfl
@[simp] theorem State.setLd_repairSeq (s : State) (n : Nat) (l : Ld) : (s.setLd n l).repairSeq = s.repairSeq := rfl
@[simp] theorem State.setLd_contained (s : State) (n : Nat) (l : Ld) : (s.setLd n l).contained = s.contained := rfl
@[simp] theorem State.setLd_faults (s : State) (n : Nat) (l : Ld) : (s.setLd n l).faults = s.faults := rfl
@[simp] theorem State.setLd_lastRaised (s : State) (n : Nat) (l : Ld) : (s.setLd n l).lastRaised = s.lastRaised := rfl
@[simp] theorem State.setLd_telem (s : State) (n : Nat) (l : Ld) : (s.setLd n l).telem = s.telem := rfl
@[simp] theorem State.setLd_cores (s : State) (n : Nat) (l : Ld) : (s.setLd n l).cores = s.cores := rfl

/-! ## setUnit -/

@[simp] theorem State.setUnit_pending (s : State) (u : Nat) (x : UnitSt) : (s.setUnit u x).pending = s.pending := rfl
@[simp] theorem State.setUnit_outbox (s : State) (u : Nat) (x : UnitSt) : (s.setUnit u x).outbox = s.outbox := rfl
@[simp] theorem State.setUnit_fresh (s : State) (u : Nat) (x : UnitSt) : (s.setUnit u x).fresh = s.fresh := rfl
@[simp] theorem State.setUnit_now (s : State) (u : Nat) (x : UnitSt) : (s.setUnit u x).now = s.now := rfl
@[simp] theorem State.setUnit_stage (s : State) (u : Nat) (x : UnitSt) : (s.setUnit u x).stage = s.stage := rfl
@[simp] theorem State.setUnit_profSel (s : State) (u : Nat) (x : UnitSt) : (s.setUnit u x).profSel = s.profSel := rfl
@[simp] theorem State.setUnit_nodeId (s : State) (u : Nat) (x : UnitSt) : (s.setUnit u x).nodeId = s.nodeId := rfl
@[simp] theorem State.setUnit_hrefclk (s : State) (u : Nat) (x : UnitSt) : (s.setUnit u x).hrefclk = s.hrefclk := rfl
@[simp] theorem State.setUnit_strefclk (s : State) (u : Nat) (x : UnitSt) : (s.setUnit u x).strefclk = s.strefclk := rfl
@[simp] theorem State.setUnit_farRefInternal (s : State) (u : Nat) (x : UnitSt) : (s.setUnit u x).farRefInternal = s.farRefInternal := rfl
@[simp] theorem State.setUnit_objs (s : State) (u : Nat) (x : UnitSt) : (s.setUnit u x).objs = s.objs := rfl
@[simp] theorem State.setUnit_blobs (s : State) (u : Nat) (x : UnitSt) : (s.setUnit u x).blobs = s.blobs := rfl
@[simp] theorem State.setUnit_sessions (s : State) (u : Nat) (x : UnitSt) : (s.setUnit u x).sessions = s.sessions := rfl
@[simp] theorem State.setUnit_nonces (s : State) (u : Nat) (x : UnitSt) : (s.setUnit u x).nonces = s.nonces := rfl
@[simp] theorem State.setUnit_heldMsgs (s : State) (u : Nat) (x : UnitSt) : (s.setUnit u x).heldMsgs = s.heldMsgs := rfl
@[simp] theorem State.setUnit_profiles (s : State) (u : Nat) (x : UnitSt) : (s.setUnit u x).profiles = s.profiles := rfl
@[simp] theorem State.setUnit_extents (s : State) (u : Nat) (x : UnitSt) : (s.setUnit u x).extents = s.extents := rfl
@[simp] theorem State.setUnit_tags (s : State) (u : Nat) (x : UnitSt) : (s.setUnit u x).tags = s.tags := rfl
@[simp] theorem State.setUnit_regions (s : State) (u : Nat) (x : UnitSt) : (s.setUnit u x).regions = s.regions := rfl
@[simp] theorem State.setUnit_tileMap (s : State) (u : Nat) (x : UnitSt) : (s.setUnit u x).tileMap = s.tileMap := rfl
@[simp] theorem State.setUnit_oldHomes (s : State) (u : Nat) (x : UnitSt) : (s.setUnit u x).oldHomes = s.oldHomes := rfl
@[simp] theorem State.setUnit_versions (s : State) (u : Nat) (x : UnitSt) : (s.setUnit u x).versions = s.versions := rfl
@[simp] theorem State.setUnit_nextVersion (s : State) (u : Nat) (x : UnitSt) : (s.setUnit u x).nextVersion = s.nextVersion := rfl
@[simp] theorem State.setUnit_mapCache (s : State) (u : Nat) (x : UnitSt) : (s.setUnit u x).mapCache = s.mapCache := rfl
@[simp] theorem State.setUnit_near (s : State) (u : Nat) (x : UnitSt) : (s.setUnit u x).near = s.near := rfl
@[simp] theorem State.setUnit_channels (s : State) (u : Nat) (x : UnitSt) : (s.setUnit u x).channels = s.channels := rfl
@[simp] theorem State.setUnit_segStates (s : State) (u : Nat) (x : UnitSt) : (s.setUnit u x).segStates = s.segStates := rfl
@[simp] theorem State.setUnit_trainedAt (s : State) (u : Nat) (x : UnitSt) : (s.setUnit u x).trainedAt = s.trainedAt := rfl
@[simp] theorem State.setUnit_caddy (s : State) (u : Nat) (x : UnitSt) : (s.setUnit u x).caddy = s.caddy := rfl
@[simp] theorem State.setUnit_caddyBad (s : State) (u : Nat) (x : UnitSt) : (s.setUnit u x).caddyBad = s.caddyBad := rfl
@[simp] theorem State.setUnit_caddyFailed (s : State) (u : Nat) (x : UnitSt) : (s.setUnit u x).caddyFailed = s.caddyFailed := rfl
@[simp] theorem State.setUnit_caddySoft (s : State) (u : Nat) (x : UnitSt) : (s.setUnit u x).caddySoft = s.caddySoft := rfl
@[simp] theorem State.setUnit_farPorts (s : State) (u : Nat) (x : UnitSt) : (s.setUnit u x).farPorts = s.farPorts := rfl
@[simp] theorem State.setUnit_farMem (s : State) (u : Nat) (x : UnitSt) : (s.setUnit u x).farMem = s.farMem := rfl
@[simp] theorem State.setUnit_segs (s : State) (u : Nat) (x : UnitSt) : (s.setUnit u x).segs = s.segs := rfl
@[simp] theorem State.setUnit_segSeq (s : State) (u : Nat) (x : UnitSt) : (s.setUnit u x).segSeq = s.segSeq := rfl
@[simp] theorem State.setUnit_farRecs (s : State) (u : Nat) (x : UnitSt) : (s.setUnit u x).farRecs = s.farRecs := rfl
@[simp] theorem State.setUnit_t3crcs (s : State) (u : Nat) (x : UnitSt) : (s.setUnit u x).t3crcs = s.t3crcs := rfl
@[simp] theorem State.setUnit_cleanCopies (s : State) (u : Nat) (x : UnitSt) : (s.setUnit u x).cleanCopies = s.cleanCopies := rfl
@[simp] theorem State.setUnit_nextCopy (s : State) (u : Nat) (x : UnitSt) : (s.setUnit u x).nextCopy = s.nextCopy := rfl
@[simp] theorem State.setUnit_accesses (s : State) (u : Nat) (x : UnitSt) : (s.setUnit u x).accesses = s.accesses := rfl
@[simp] theorem State.setUnit_nextAccess (s : State) (u : Nat) (x : UnitSt) : (s.setUnit u x).nextAccess = s.nextAccess := rfl
@[simp] theorem State.setUnit_sweeps (s : State) (u : Nat) (x : UnitSt) : (s.setUnit u x).sweeps = s.sweeps := rfl
@[simp] theorem State.setUnit_frTables (s : State) (u : Nat) (x : UnitSt) : (s.setUnit u x).frTables = s.frTables := rfl
@[simp] theorem State.setUnit_llTables (s : State) (u : Nat) (x : UnitSt) : (s.setUnit u x).llTables = s.llTables := rfl
@[simp] theorem State.setUnit_moves (s : State) (u : Nat) (x : UnitSt) : (s.setUnit u x).moves = s.moves := rfl
@[simp] theorem State.setUnit_perst (s : State) (u : Nat) (x : UnitSt) : (s.setUnit u x).perst = s.perst := rfl
@[simp] theorem State.setUnit_moveWaits (s : State) (u : Nat) (x : UnitSt) : (s.setUnit u x).moveWaits = s.moveWaits := rfl
@[simp] theorem State.setUnit_moveUses (s : State) (u : Nat) (x : UnitSt) : (s.setUnit u x).moveUses = s.moveUses := rfl
@[simp] theorem State.setUnit_shareLog (s : State) (u : Nat) (x : UnitSt) : (s.setUnit u x).shareLog = s.shareLog := rfl
@[simp] theorem State.setUnit_writeAborts (s : State) (u : Nat) (x : UnitSt) : (s.setUnit u x).writeAborts = s.writeAborts := rfl
@[simp] theorem State.setUnit_epochs (s : State) (u : Nat) (x : UnitSt) : (s.setUnit u x).epochs = s.epochs := rfl
@[simp] theorem State.setUnit_demoting (s : State) (u : Nat) (x : UnitSt) : (s.setUnit u x).demoting = s.demoting := rfl
@[simp] theorem State.setUnit_stuck (s : State) (u : Nat) (x : UnitSt) : (s.setUnit u x).stuck = s.stuck := rfl
@[simp] theorem State.setUnit_held (s : State) (u : Nat) (x : UnitSt) : (s.setUnit u x).held = s.held := rfl
@[simp] theorem State.setUnit_cads (s : State) (u : Nat) (x : UnitSt) : (s.setUnit u x).cads = s.cads := rfl
@[simp] theorem State.setUnit_sched (s : State) (u : Nat) (x : UnitSt) : (s.setUnit u x).sched = s.sched := rfl
@[simp] theorem State.setUnit_markers (s : State) (u : Nat) (x : UnitSt) : (s.setUnit u x).markers = s.markers := rfl
@[simp] theorem State.setUnit_pins (s : State) (u : Nat) (x : UnitSt) : (s.setUnit u x).pins = s.pins := rfl
@[simp] theorem State.setUnit_tallies (s : State) (u : Nat) (x : UnitSt) : (s.setUnit u x).tallies = s.tallies := rfl
@[simp] theorem State.setUnit_shareds (s : State) (u : Nat) (x : UnitSt) : (s.setUnit u x).shareds = s.shareds := rfl
@[simp] theorem State.setUnit_insts (s : State) (u : Nat) (x : UnitSt) : (s.setUnit u x).insts = s.insts := rfl
@[simp] theorem State.setUnit_headInst (s : State) (u : Nat) (x : UnitSt) : (s.setUnit u x).headInst = s.headInst := rfl
@[simp] theorem State.setUnit_attaches (s : State) (u : Nat) (x : UnitSt) : (s.setUnit u x).attaches = s.attaches := rfl
@[simp] theorem State.setUnit_results (s : State) (u : Nat) (x : UnitSt) : (s.setUnit u x).results = s.results := rfl
@[simp] theorem State.setUnit_conflicts (s : State) (u : Nat) (x : UnitSt) : (s.setUnit u x).conflicts = s.conflicts := rfl
@[simp] theorem State.setUnit_keys (s : State) (u : Nat) (x : UnitSt) : (s.setUnit u x).keys = s.keys := rfl
@[simp] theorem State.setUnit_nextBinding (s : State) (u : Nat) (x : UnitSt) : (s.setUnit u x).nextBinding = s.nextBinding := rfl
@[simp] theorem State.setUnit_drbgFailed (s : State) (u : Nat) (x : UnitSt) : (s.setUnit u x).drbgFailed = s.drbgFailed := rfl
@[simp] theorem State.setUnit_drbgUses (s : State) (u : Nat) (x : UnitSt) : (s.setUnit u x).drbgUses = s.drbgUses := rfl
@[simp] theorem State.setUnit_injects (s : State) (u : Nat) (x : UnitSt) : (s.setUnit u x).injects = s.injects := rfl
@[simp] theorem State.setUnit_fw (s : State) (u : Nat) (x : UnitSt) : (s.setUnit u x).fw = s.fw := rfl
@[simp] theorem State.setUnit_spdm (s : State) (u : Nat) (x : UnitSt) : (s.setUnit u x).spdm = s.spdm := rfl
@[simp] theorem State.setUnit_clusters (s : State) (u : Nat) (x : UnitSt) : (s.setUnit u x).clusters = s.clusters := rfl
@[simp] theorem State.setUnit_threads (s : State) (u : Nat) (x : UnitSt) : (s.setUnit u x).threads = s.threads := rfl
@[simp] theorem State.setUnit_loads (s : State) (u : Nat) (x : UnitSt) : (s.setUnit u x).loads = s.loads := rfl
@[simp] theorem State.setUnit_nextLoad (s : State) (u : Nat) (x : UnitSt) : (s.setUnit u x).nextLoad = s.nextLoad := rfl
@[simp] theorem State.setUnit_mvReqs (s : State) (u : Nat) (x : UnitSt) : (s.setUnit u x).mvReqs = s.mvReqs := rfl
@[simp] theorem State.setUnit_jobs (s : State) (u : Nat) (x : UnitSt) : (s.setUnit u x).jobs = s.jobs := rfl
@[simp] theorem State.setUnit_lds (s : State) (u : Nat) (x : UnitSt) : (s.setUnit u x).lds = s.lds := rfl
@[simp] theorem State.setUnit_dmas (s : State) (u : Nat) (x : UnitSt) : (s.setUnit u x).dmas = s.dmas := rfl
@[simp] theorem State.setUnit_nextDma (s : State) (u : Nat) (x : UnitSt) : (s.setUnit u x).nextDma = s.nextDma := rfl
@[simp] theorem State.setUnit_legs (s : State) (u : Nat) (x : UnitSt) : (s.setUnit u x).legs = s.legs := rfl
@[simp] theorem State.setUnit_sports (s : State) (u : Nat) (x : UnitSt) : (s.setUnit u x).sports = s.sports := rfl
@[simp] theorem State.setUnit_span (s : State) (u : Nat) (x : UnitSt) : (s.setUnit u x).span = s.span := rfl
@[simp] theorem State.setUnit_allDown (s : State) (u : Nat) (x : UnitSt) : (s.setUnit u x).allDown = s.allDown := rfl
@[simp] theorem State.setUnit_chrysalis (s : State) (u : Nat) (x : UnitSt) : (s.setUnit u x).chrysalis = s.chrysalis := rfl
@[simp] theorem State.setUnit_power (s : State) (u : Nat) (x : UnitSt) : (s.setUnit u x).power = s.power := rfl
@[simp] theorem State.setUnit_poisons (s : State) (u : Nat) (x : UnitSt) : (s.setUnit u x).poisons = s.poisons := rfl
@[simp] theorem State.setUnit_errLog (s : State) (u : Nat) (x : UnitSt) : (s.setUnit u x).errLog = s.errLog := rfl
@[simp] theorem State.setUnit_errSeq (s : State) (u : Nat) (x : UnitSt) : (s.setUnit u x).errSeq = s.errSeq := rfl
@[simp] theorem State.setUnit_errFull (s : State) (u : Nat) (x : UnitSt) : (s.setUnit u x).errFull = s.errFull := rfl
@[simp] theorem State.setUnit_errHistory (s : State) (u : Nat) (x : UnitSt) : (s.setUnit u x).errHistory = s.errHistory := rfl
@[simp] theorem State.setUnit_repairMap (s : State) (u : Nat) (x : UnitSt) : (s.setUnit u x).repairMap = s.repairMap := rfl
@[simp] theorem State.setUnit_repairSeq (s : State) (u : Nat) (x : UnitSt) : (s.setUnit u x).repairSeq = s.repairSeq := rfl
@[simp] theorem State.setUnit_contained (s : State) (u : Nat) (x : UnitSt) : (s.setUnit u x).contained = s.contained := rfl
@[simp] theorem State.setUnit_faults (s : State) (u : Nat) (x : UnitSt) : (s.setUnit u x).faults = s.faults := rfl
@[simp] theorem State.setUnit_lastRaised (s : State) (u : Nat) (x : UnitSt) : (s.setUnit u x).lastRaised = s.lastRaised := rfl
@[simp] theorem State.setUnit_telem (s : State) (u : Nat) (x : UnitSt) : (s.setUnit u x).telem = s.telem := rfl
@[simp] theorem State.setUnit_cores (s : State) (u : Nat) (x : UnitSt) : (s.setUnit u x).cores = s.cores := rfl

/-! ## setSport -/

@[simp] theorem State.setSport_pending (s : State) (k : Nat) (x : SPort) : (s.setSport k x).pending = s.pending := rfl
@[simp] theorem State.setSport_outbox (s : State) (k : Nat) (x : SPort) : (s.setSport k x).outbox = s.outbox := rfl
@[simp] theorem State.setSport_fresh (s : State) (k : Nat) (x : SPort) : (s.setSport k x).fresh = s.fresh := rfl
@[simp] theorem State.setSport_now (s : State) (k : Nat) (x : SPort) : (s.setSport k x).now = s.now := rfl
@[simp] theorem State.setSport_stage (s : State) (k : Nat) (x : SPort) : (s.setSport k x).stage = s.stage := rfl
@[simp] theorem State.setSport_profSel (s : State) (k : Nat) (x : SPort) : (s.setSport k x).profSel = s.profSel := rfl
@[simp] theorem State.setSport_nodeId (s : State) (k : Nat) (x : SPort) : (s.setSport k x).nodeId = s.nodeId := rfl
@[simp] theorem State.setSport_hrefclk (s : State) (k : Nat) (x : SPort) : (s.setSport k x).hrefclk = s.hrefclk := rfl
@[simp] theorem State.setSport_strefclk (s : State) (k : Nat) (x : SPort) : (s.setSport k x).strefclk = s.strefclk := rfl
@[simp] theorem State.setSport_farRefInternal (s : State) (k : Nat) (x : SPort) : (s.setSport k x).farRefInternal = s.farRefInternal := rfl
@[simp] theorem State.setSport_units (s : State) (k : Nat) (x : SPort) : (s.setSport k x).units = s.units := rfl
@[simp] theorem State.setSport_objs (s : State) (k : Nat) (x : SPort) : (s.setSport k x).objs = s.objs := rfl
@[simp] theorem State.setSport_blobs (s : State) (k : Nat) (x : SPort) : (s.setSport k x).blobs = s.blobs := rfl
@[simp] theorem State.setSport_sessions (s : State) (k : Nat) (x : SPort) : (s.setSport k x).sessions = s.sessions := rfl
@[simp] theorem State.setSport_nonces (s : State) (k : Nat) (x : SPort) : (s.setSport k x).nonces = s.nonces := rfl
@[simp] theorem State.setSport_heldMsgs (s : State) (k : Nat) (x : SPort) : (s.setSport k x).heldMsgs = s.heldMsgs := rfl
@[simp] theorem State.setSport_profiles (s : State) (k : Nat) (x : SPort) : (s.setSport k x).profiles = s.profiles := rfl
@[simp] theorem State.setSport_extents (s : State) (k : Nat) (x : SPort) : (s.setSport k x).extents = s.extents := rfl
@[simp] theorem State.setSport_tags (s : State) (k : Nat) (x : SPort) : (s.setSport k x).tags = s.tags := rfl
@[simp] theorem State.setSport_regions (s : State) (k : Nat) (x : SPort) : (s.setSport k x).regions = s.regions := rfl
@[simp] theorem State.setSport_tileMap (s : State) (k : Nat) (x : SPort) : (s.setSport k x).tileMap = s.tileMap := rfl
@[simp] theorem State.setSport_oldHomes (s : State) (k : Nat) (x : SPort) : (s.setSport k x).oldHomes = s.oldHomes := rfl
@[simp] theorem State.setSport_versions (s : State) (k : Nat) (x : SPort) : (s.setSport k x).versions = s.versions := rfl
@[simp] theorem State.setSport_nextVersion (s : State) (k : Nat) (x : SPort) : (s.setSport k x).nextVersion = s.nextVersion := rfl
@[simp] theorem State.setSport_mapCache (s : State) (k : Nat) (x : SPort) : (s.setSport k x).mapCache = s.mapCache := rfl
@[simp] theorem State.setSport_near (s : State) (k : Nat) (x : SPort) : (s.setSport k x).near = s.near := rfl
@[simp] theorem State.setSport_channels (s : State) (k : Nat) (x : SPort) : (s.setSport k x).channels = s.channels := rfl
@[simp] theorem State.setSport_segStates (s : State) (k : Nat) (x : SPort) : (s.setSport k x).segStates = s.segStates := rfl
@[simp] theorem State.setSport_trainedAt (s : State) (k : Nat) (x : SPort) : (s.setSport k x).trainedAt = s.trainedAt := rfl
@[simp] theorem State.setSport_caddy (s : State) (k : Nat) (x : SPort) : (s.setSport k x).caddy = s.caddy := rfl
@[simp] theorem State.setSport_caddyBad (s : State) (k : Nat) (x : SPort) : (s.setSport k x).caddyBad = s.caddyBad := rfl
@[simp] theorem State.setSport_caddyFailed (s : State) (k : Nat) (x : SPort) : (s.setSport k x).caddyFailed = s.caddyFailed := rfl
@[simp] theorem State.setSport_caddySoft (s : State) (k : Nat) (x : SPort) : (s.setSport k x).caddySoft = s.caddySoft := rfl
@[simp] theorem State.setSport_farPorts (s : State) (k : Nat) (x : SPort) : (s.setSport k x).farPorts = s.farPorts := rfl
@[simp] theorem State.setSport_farMem (s : State) (k : Nat) (x : SPort) : (s.setSport k x).farMem = s.farMem := rfl
@[simp] theorem State.setSport_segs (s : State) (k : Nat) (x : SPort) : (s.setSport k x).segs = s.segs := rfl
@[simp] theorem State.setSport_segSeq (s : State) (k : Nat) (x : SPort) : (s.setSport k x).segSeq = s.segSeq := rfl
@[simp] theorem State.setSport_farRecs (s : State) (k : Nat) (x : SPort) : (s.setSport k x).farRecs = s.farRecs := rfl
@[simp] theorem State.setSport_t3crcs (s : State) (k : Nat) (x : SPort) : (s.setSport k x).t3crcs = s.t3crcs := rfl
@[simp] theorem State.setSport_cleanCopies (s : State) (k : Nat) (x : SPort) : (s.setSport k x).cleanCopies = s.cleanCopies := rfl
@[simp] theorem State.setSport_nextCopy (s : State) (k : Nat) (x : SPort) : (s.setSport k x).nextCopy = s.nextCopy := rfl
@[simp] theorem State.setSport_accesses (s : State) (k : Nat) (x : SPort) : (s.setSport k x).accesses = s.accesses := rfl
@[simp] theorem State.setSport_nextAccess (s : State) (k : Nat) (x : SPort) : (s.setSport k x).nextAccess = s.nextAccess := rfl
@[simp] theorem State.setSport_sweeps (s : State) (k : Nat) (x : SPort) : (s.setSport k x).sweeps = s.sweeps := rfl
@[simp] theorem State.setSport_frTables (s : State) (k : Nat) (x : SPort) : (s.setSport k x).frTables = s.frTables := rfl
@[simp] theorem State.setSport_llTables (s : State) (k : Nat) (x : SPort) : (s.setSport k x).llTables = s.llTables := rfl
@[simp] theorem State.setSport_moves (s : State) (k : Nat) (x : SPort) : (s.setSport k x).moves = s.moves := rfl
@[simp] theorem State.setSport_perst (s : State) (k : Nat) (x : SPort) : (s.setSport k x).perst = s.perst := rfl
@[simp] theorem State.setSport_moveWaits (s : State) (k : Nat) (x : SPort) : (s.setSport k x).moveWaits = s.moveWaits := rfl
@[simp] theorem State.setSport_moveUses (s : State) (k : Nat) (x : SPort) : (s.setSport k x).moveUses = s.moveUses := rfl
@[simp] theorem State.setSport_shareLog (s : State) (k : Nat) (x : SPort) : (s.setSport k x).shareLog = s.shareLog := rfl
@[simp] theorem State.setSport_writeAborts (s : State) (k : Nat) (x : SPort) : (s.setSport k x).writeAborts = s.writeAborts := rfl
@[simp] theorem State.setSport_epochs (s : State) (k : Nat) (x : SPort) : (s.setSport k x).epochs = s.epochs := rfl
@[simp] theorem State.setSport_demoting (s : State) (k : Nat) (x : SPort) : (s.setSport k x).demoting = s.demoting := rfl
@[simp] theorem State.setSport_stuck (s : State) (k : Nat) (x : SPort) : (s.setSport k x).stuck = s.stuck := rfl
@[simp] theorem State.setSport_held (s : State) (k : Nat) (x : SPort) : (s.setSport k x).held = s.held := rfl
@[simp] theorem State.setSport_cads (s : State) (k : Nat) (x : SPort) : (s.setSport k x).cads = s.cads := rfl
@[simp] theorem State.setSport_sched (s : State) (k : Nat) (x : SPort) : (s.setSport k x).sched = s.sched := rfl
@[simp] theorem State.setSport_markers (s : State) (k : Nat) (x : SPort) : (s.setSport k x).markers = s.markers := rfl
@[simp] theorem State.setSport_pins (s : State) (k : Nat) (x : SPort) : (s.setSport k x).pins = s.pins := rfl
@[simp] theorem State.setSport_tallies (s : State) (k : Nat) (x : SPort) : (s.setSport k x).tallies = s.tallies := rfl
@[simp] theorem State.setSport_shareds (s : State) (k : Nat) (x : SPort) : (s.setSport k x).shareds = s.shareds := rfl
@[simp] theorem State.setSport_insts (s : State) (k : Nat) (x : SPort) : (s.setSport k x).insts = s.insts := rfl
@[simp] theorem State.setSport_headInst (s : State) (k : Nat) (x : SPort) : (s.setSport k x).headInst = s.headInst := rfl
@[simp] theorem State.setSport_attaches (s : State) (k : Nat) (x : SPort) : (s.setSport k x).attaches = s.attaches := rfl
@[simp] theorem State.setSport_results (s : State) (k : Nat) (x : SPort) : (s.setSport k x).results = s.results := rfl
@[simp] theorem State.setSport_conflicts (s : State) (k : Nat) (x : SPort) : (s.setSport k x).conflicts = s.conflicts := rfl
@[simp] theorem State.setSport_keys (s : State) (k : Nat) (x : SPort) : (s.setSport k x).keys = s.keys := rfl
@[simp] theorem State.setSport_nextBinding (s : State) (k : Nat) (x : SPort) : (s.setSport k x).nextBinding = s.nextBinding := rfl
@[simp] theorem State.setSport_drbgFailed (s : State) (k : Nat) (x : SPort) : (s.setSport k x).drbgFailed = s.drbgFailed := rfl
@[simp] theorem State.setSport_drbgUses (s : State) (k : Nat) (x : SPort) : (s.setSport k x).drbgUses = s.drbgUses := rfl
@[simp] theorem State.setSport_injects (s : State) (k : Nat) (x : SPort) : (s.setSport k x).injects = s.injects := rfl
@[simp] theorem State.setSport_fw (s : State) (k : Nat) (x : SPort) : (s.setSport k x).fw = s.fw := rfl
@[simp] theorem State.setSport_spdm (s : State) (k : Nat) (x : SPort) : (s.setSport k x).spdm = s.spdm := rfl
@[simp] theorem State.setSport_clusters (s : State) (k : Nat) (x : SPort) : (s.setSport k x).clusters = s.clusters := rfl
@[simp] theorem State.setSport_threads (s : State) (k : Nat) (x : SPort) : (s.setSport k x).threads = s.threads := rfl
@[simp] theorem State.setSport_loads (s : State) (k : Nat) (x : SPort) : (s.setSport k x).loads = s.loads := rfl
@[simp] theorem State.setSport_nextLoad (s : State) (k : Nat) (x : SPort) : (s.setSport k x).nextLoad = s.nextLoad := rfl
@[simp] theorem State.setSport_mvReqs (s : State) (k : Nat) (x : SPort) : (s.setSport k x).mvReqs = s.mvReqs := rfl
@[simp] theorem State.setSport_jobs (s : State) (k : Nat) (x : SPort) : (s.setSport k x).jobs = s.jobs := rfl
@[simp] theorem State.setSport_lds (s : State) (k : Nat) (x : SPort) : (s.setSport k x).lds = s.lds := rfl
@[simp] theorem State.setSport_dmas (s : State) (k : Nat) (x : SPort) : (s.setSport k x).dmas = s.dmas := rfl
@[simp] theorem State.setSport_nextDma (s : State) (k : Nat) (x : SPort) : (s.setSport k x).nextDma = s.nextDma := rfl
@[simp] theorem State.setSport_legs (s : State) (k : Nat) (x : SPort) : (s.setSport k x).legs = s.legs := rfl
@[simp] theorem State.setSport_span (s : State) (k : Nat) (x : SPort) : (s.setSport k x).span = s.span := rfl
@[simp] theorem State.setSport_allDown (s : State) (k : Nat) (x : SPort) : (s.setSport k x).allDown = s.allDown := rfl
@[simp] theorem State.setSport_chrysalis (s : State) (k : Nat) (x : SPort) : (s.setSport k x).chrysalis = s.chrysalis := rfl
@[simp] theorem State.setSport_power (s : State) (k : Nat) (x : SPort) : (s.setSport k x).power = s.power := rfl
@[simp] theorem State.setSport_poisons (s : State) (k : Nat) (x : SPort) : (s.setSport k x).poisons = s.poisons := rfl
@[simp] theorem State.setSport_errLog (s : State) (k : Nat) (x : SPort) : (s.setSport k x).errLog = s.errLog := rfl
@[simp] theorem State.setSport_errSeq (s : State) (k : Nat) (x : SPort) : (s.setSport k x).errSeq = s.errSeq := rfl
@[simp] theorem State.setSport_errFull (s : State) (k : Nat) (x : SPort) : (s.setSport k x).errFull = s.errFull := rfl
@[simp] theorem State.setSport_errHistory (s : State) (k : Nat) (x : SPort) : (s.setSport k x).errHistory = s.errHistory := rfl
@[simp] theorem State.setSport_repairMap (s : State) (k : Nat) (x : SPort) : (s.setSport k x).repairMap = s.repairMap := rfl
@[simp] theorem State.setSport_repairSeq (s : State) (k : Nat) (x : SPort) : (s.setSport k x).repairSeq = s.repairSeq := rfl
@[simp] theorem State.setSport_contained (s : State) (k : Nat) (x : SPort) : (s.setSport k x).contained = s.contained := rfl
@[simp] theorem State.setSport_faults (s : State) (k : Nat) (x : SPort) : (s.setSport k x).faults = s.faults := rfl
@[simp] theorem State.setSport_lastRaised (s : State) (k : Nat) (x : SPort) : (s.setSport k x).lastRaised = s.lastRaised := rfl
@[simp] theorem State.setSport_telem (s : State) (k : Nat) (x : SPort) : (s.setSport k x).telem = s.telem := rfl
@[simp] theorem State.setSport_cores (s : State) (k : Nat) (x : SPort) : (s.setSport k x).cores = s.cores := rfl

/-! ## setChan -/

@[simp] theorem State.setChan_pending (s : State) (c : Nat) (x : Chan) : (s.setChan c x).pending = s.pending := rfl
@[simp] theorem State.setChan_outbox (s : State) (c : Nat) (x : Chan) : (s.setChan c x).outbox = s.outbox := rfl
@[simp] theorem State.setChan_fresh (s : State) (c : Nat) (x : Chan) : (s.setChan c x).fresh = s.fresh := rfl
@[simp] theorem State.setChan_now (s : State) (c : Nat) (x : Chan) : (s.setChan c x).now = s.now := rfl
@[simp] theorem State.setChan_stage (s : State) (c : Nat) (x : Chan) : (s.setChan c x).stage = s.stage := rfl
@[simp] theorem State.setChan_profSel (s : State) (c : Nat) (x : Chan) : (s.setChan c x).profSel = s.profSel := rfl
@[simp] theorem State.setChan_nodeId (s : State) (c : Nat) (x : Chan) : (s.setChan c x).nodeId = s.nodeId := rfl
@[simp] theorem State.setChan_hrefclk (s : State) (c : Nat) (x : Chan) : (s.setChan c x).hrefclk = s.hrefclk := rfl
@[simp] theorem State.setChan_strefclk (s : State) (c : Nat) (x : Chan) : (s.setChan c x).strefclk = s.strefclk := rfl
@[simp] theorem State.setChan_farRefInternal (s : State) (c : Nat) (x : Chan) : (s.setChan c x).farRefInternal = s.farRefInternal := rfl
@[simp] theorem State.setChan_units (s : State) (c : Nat) (x : Chan) : (s.setChan c x).units = s.units := rfl
@[simp] theorem State.setChan_objs (s : State) (c : Nat) (x : Chan) : (s.setChan c x).objs = s.objs := rfl
@[simp] theorem State.setChan_blobs (s : State) (c : Nat) (x : Chan) : (s.setChan c x).blobs = s.blobs := rfl
@[simp] theorem State.setChan_sessions (s : State) (c : Nat) (x : Chan) : (s.setChan c x).sessions = s.sessions := rfl
@[simp] theorem State.setChan_nonces (s : State) (c : Nat) (x : Chan) : (s.setChan c x).nonces = s.nonces := rfl
@[simp] theorem State.setChan_heldMsgs (s : State) (c : Nat) (x : Chan) : (s.setChan c x).heldMsgs = s.heldMsgs := rfl
@[simp] theorem State.setChan_profiles (s : State) (c : Nat) (x : Chan) : (s.setChan c x).profiles = s.profiles := rfl
@[simp] theorem State.setChan_extents (s : State) (c : Nat) (x : Chan) : (s.setChan c x).extents = s.extents := rfl
@[simp] theorem State.setChan_tags (s : State) (c : Nat) (x : Chan) : (s.setChan c x).tags = s.tags := rfl
@[simp] theorem State.setChan_regions (s : State) (c : Nat) (x : Chan) : (s.setChan c x).regions = s.regions := rfl
@[simp] theorem State.setChan_tileMap (s : State) (c : Nat) (x : Chan) : (s.setChan c x).tileMap = s.tileMap := rfl
@[simp] theorem State.setChan_oldHomes (s : State) (c : Nat) (x : Chan) : (s.setChan c x).oldHomes = s.oldHomes := rfl
@[simp] theorem State.setChan_versions (s : State) (c : Nat) (x : Chan) : (s.setChan c x).versions = s.versions := rfl
@[simp] theorem State.setChan_nextVersion (s : State) (c : Nat) (x : Chan) : (s.setChan c x).nextVersion = s.nextVersion := rfl
@[simp] theorem State.setChan_mapCache (s : State) (c : Nat) (x : Chan) : (s.setChan c x).mapCache = s.mapCache := rfl
@[simp] theorem State.setChan_near (s : State) (c : Nat) (x : Chan) : (s.setChan c x).near = s.near := rfl
@[simp] theorem State.setChan_segStates (s : State) (c : Nat) (x : Chan) : (s.setChan c x).segStates = s.segStates := rfl
@[simp] theorem State.setChan_trainedAt (s : State) (c : Nat) (x : Chan) : (s.setChan c x).trainedAt = s.trainedAt := rfl
@[simp] theorem State.setChan_caddy (s : State) (c : Nat) (x : Chan) : (s.setChan c x).caddy = s.caddy := rfl
@[simp] theorem State.setChan_caddyBad (s : State) (c : Nat) (x : Chan) : (s.setChan c x).caddyBad = s.caddyBad := rfl
@[simp] theorem State.setChan_caddyFailed (s : State) (c : Nat) (x : Chan) : (s.setChan c x).caddyFailed = s.caddyFailed := rfl
@[simp] theorem State.setChan_caddySoft (s : State) (c : Nat) (x : Chan) : (s.setChan c x).caddySoft = s.caddySoft := rfl
@[simp] theorem State.setChan_farPorts (s : State) (c : Nat) (x : Chan) : (s.setChan c x).farPorts = s.farPorts := rfl
@[simp] theorem State.setChan_farMem (s : State) (c : Nat) (x : Chan) : (s.setChan c x).farMem = s.farMem := rfl
@[simp] theorem State.setChan_segs (s : State) (c : Nat) (x : Chan) : (s.setChan c x).segs = s.segs := rfl
@[simp] theorem State.setChan_segSeq (s : State) (c : Nat) (x : Chan) : (s.setChan c x).segSeq = s.segSeq := rfl
@[simp] theorem State.setChan_farRecs (s : State) (c : Nat) (x : Chan) : (s.setChan c x).farRecs = s.farRecs := rfl
@[simp] theorem State.setChan_t3crcs (s : State) (c : Nat) (x : Chan) : (s.setChan c x).t3crcs = s.t3crcs := rfl
@[simp] theorem State.setChan_cleanCopies (s : State) (c : Nat) (x : Chan) : (s.setChan c x).cleanCopies = s.cleanCopies := rfl
@[simp] theorem State.setChan_nextCopy (s : State) (c : Nat) (x : Chan) : (s.setChan c x).nextCopy = s.nextCopy := rfl
@[simp] theorem State.setChan_accesses (s : State) (c : Nat) (x : Chan) : (s.setChan c x).accesses = s.accesses := rfl
@[simp] theorem State.setChan_nextAccess (s : State) (c : Nat) (x : Chan) : (s.setChan c x).nextAccess = s.nextAccess := rfl
@[simp] theorem State.setChan_sweeps (s : State) (c : Nat) (x : Chan) : (s.setChan c x).sweeps = s.sweeps := rfl
@[simp] theorem State.setChan_frTables (s : State) (c : Nat) (x : Chan) : (s.setChan c x).frTables = s.frTables := rfl
@[simp] theorem State.setChan_llTables (s : State) (c : Nat) (x : Chan) : (s.setChan c x).llTables = s.llTables := rfl
@[simp] theorem State.setChan_moves (s : State) (c : Nat) (x : Chan) : (s.setChan c x).moves = s.moves := rfl
@[simp] theorem State.setChan_perst (s : State) (c : Nat) (x : Chan) : (s.setChan c x).perst = s.perst := rfl
@[simp] theorem State.setChan_moveWaits (s : State) (c : Nat) (x : Chan) : (s.setChan c x).moveWaits = s.moveWaits := rfl
@[simp] theorem State.setChan_moveUses (s : State) (c : Nat) (x : Chan) : (s.setChan c x).moveUses = s.moveUses := rfl
@[simp] theorem State.setChan_shareLog (s : State) (c : Nat) (x : Chan) : (s.setChan c x).shareLog = s.shareLog := rfl
@[simp] theorem State.setChan_writeAborts (s : State) (c : Nat) (x : Chan) : (s.setChan c x).writeAborts = s.writeAborts := rfl
@[simp] theorem State.setChan_epochs (s : State) (c : Nat) (x : Chan) : (s.setChan c x).epochs = s.epochs := rfl
@[simp] theorem State.setChan_demoting (s : State) (c : Nat) (x : Chan) : (s.setChan c x).demoting = s.demoting := rfl
@[simp] theorem State.setChan_stuck (s : State) (c : Nat) (x : Chan) : (s.setChan c x).stuck = s.stuck := rfl
@[simp] theorem State.setChan_held (s : State) (c : Nat) (x : Chan) : (s.setChan c x).held = s.held := rfl
@[simp] theorem State.setChan_cads (s : State) (c : Nat) (x : Chan) : (s.setChan c x).cads = s.cads := rfl
@[simp] theorem State.setChan_sched (s : State) (c : Nat) (x : Chan) : (s.setChan c x).sched = s.sched := rfl
@[simp] theorem State.setChan_markers (s : State) (c : Nat) (x : Chan) : (s.setChan c x).markers = s.markers := rfl
@[simp] theorem State.setChan_pins (s : State) (c : Nat) (x : Chan) : (s.setChan c x).pins = s.pins := rfl
@[simp] theorem State.setChan_tallies (s : State) (c : Nat) (x : Chan) : (s.setChan c x).tallies = s.tallies := rfl
@[simp] theorem State.setChan_shareds (s : State) (c : Nat) (x : Chan) : (s.setChan c x).shareds = s.shareds := rfl
@[simp] theorem State.setChan_insts (s : State) (c : Nat) (x : Chan) : (s.setChan c x).insts = s.insts := rfl
@[simp] theorem State.setChan_headInst (s : State) (c : Nat) (x : Chan) : (s.setChan c x).headInst = s.headInst := rfl
@[simp] theorem State.setChan_attaches (s : State) (c : Nat) (x : Chan) : (s.setChan c x).attaches = s.attaches := rfl
@[simp] theorem State.setChan_results (s : State) (c : Nat) (x : Chan) : (s.setChan c x).results = s.results := rfl
@[simp] theorem State.setChan_conflicts (s : State) (c : Nat) (x : Chan) : (s.setChan c x).conflicts = s.conflicts := rfl
@[simp] theorem State.setChan_keys (s : State) (c : Nat) (x : Chan) : (s.setChan c x).keys = s.keys := rfl
@[simp] theorem State.setChan_nextBinding (s : State) (c : Nat) (x : Chan) : (s.setChan c x).nextBinding = s.nextBinding := rfl
@[simp] theorem State.setChan_drbgFailed (s : State) (c : Nat) (x : Chan) : (s.setChan c x).drbgFailed = s.drbgFailed := rfl
@[simp] theorem State.setChan_drbgUses (s : State) (c : Nat) (x : Chan) : (s.setChan c x).drbgUses = s.drbgUses := rfl
@[simp] theorem State.setChan_injects (s : State) (c : Nat) (x : Chan) : (s.setChan c x).injects = s.injects := rfl
@[simp] theorem State.setChan_fw (s : State) (c : Nat) (x : Chan) : (s.setChan c x).fw = s.fw := rfl
@[simp] theorem State.setChan_spdm (s : State) (c : Nat) (x : Chan) : (s.setChan c x).spdm = s.spdm := rfl
@[simp] theorem State.setChan_clusters (s : State) (c : Nat) (x : Chan) : (s.setChan c x).clusters = s.clusters := rfl
@[simp] theorem State.setChan_threads (s : State) (c : Nat) (x : Chan) : (s.setChan c x).threads = s.threads := rfl
@[simp] theorem State.setChan_loads (s : State) (c : Nat) (x : Chan) : (s.setChan c x).loads = s.loads := rfl
@[simp] theorem State.setChan_nextLoad (s : State) (c : Nat) (x : Chan) : (s.setChan c x).nextLoad = s.nextLoad := rfl
@[simp] theorem State.setChan_mvReqs (s : State) (c : Nat) (x : Chan) : (s.setChan c x).mvReqs = s.mvReqs := rfl
@[simp] theorem State.setChan_jobs (s : State) (c : Nat) (x : Chan) : (s.setChan c x).jobs = s.jobs := rfl
@[simp] theorem State.setChan_lds (s : State) (c : Nat) (x : Chan) : (s.setChan c x).lds = s.lds := rfl
@[simp] theorem State.setChan_dmas (s : State) (c : Nat) (x : Chan) : (s.setChan c x).dmas = s.dmas := rfl
@[simp] theorem State.setChan_nextDma (s : State) (c : Nat) (x : Chan) : (s.setChan c x).nextDma = s.nextDma := rfl
@[simp] theorem State.setChan_legs (s : State) (c : Nat) (x : Chan) : (s.setChan c x).legs = s.legs := rfl
@[simp] theorem State.setChan_sports (s : State) (c : Nat) (x : Chan) : (s.setChan c x).sports = s.sports := rfl
@[simp] theorem State.setChan_span (s : State) (c : Nat) (x : Chan) : (s.setChan c x).span = s.span := rfl
@[simp] theorem State.setChan_allDown (s : State) (c : Nat) (x : Chan) : (s.setChan c x).allDown = s.allDown := rfl
@[simp] theorem State.setChan_chrysalis (s : State) (c : Nat) (x : Chan) : (s.setChan c x).chrysalis = s.chrysalis := rfl
@[simp] theorem State.setChan_power (s : State) (c : Nat) (x : Chan) : (s.setChan c x).power = s.power := rfl
@[simp] theorem State.setChan_poisons (s : State) (c : Nat) (x : Chan) : (s.setChan c x).poisons = s.poisons := rfl
@[simp] theorem State.setChan_errLog (s : State) (c : Nat) (x : Chan) : (s.setChan c x).errLog = s.errLog := rfl
@[simp] theorem State.setChan_errSeq (s : State) (c : Nat) (x : Chan) : (s.setChan c x).errSeq = s.errSeq := rfl
@[simp] theorem State.setChan_errFull (s : State) (c : Nat) (x : Chan) : (s.setChan c x).errFull = s.errFull := rfl
@[simp] theorem State.setChan_errHistory (s : State) (c : Nat) (x : Chan) : (s.setChan c x).errHistory = s.errHistory := rfl
@[simp] theorem State.setChan_repairMap (s : State) (c : Nat) (x : Chan) : (s.setChan c x).repairMap = s.repairMap := rfl
@[simp] theorem State.setChan_repairSeq (s : State) (c : Nat) (x : Chan) : (s.setChan c x).repairSeq = s.repairSeq := rfl
@[simp] theorem State.setChan_contained (s : State) (c : Nat) (x : Chan) : (s.setChan c x).contained = s.contained := rfl
@[simp] theorem State.setChan_faults (s : State) (c : Nat) (x : Chan) : (s.setChan c x).faults = s.faults := rfl
@[simp] theorem State.setChan_lastRaised (s : State) (c : Nat) (x : Chan) : (s.setChan c x).lastRaised = s.lastRaised := rfl
@[simp] theorem State.setChan_telem (s : State) (c : Nat) (x : Chan) : (s.setChan c x).telem = s.telem := rfl
@[simp] theorem State.setChan_cores (s : State) (c : Nat) (x : Chan) : (s.setChan c x).cores = s.cores := rfl

/-! ## setCluster -/

@[simp] theorem State.setCluster_pending (s : State) (c : Nat) (x : Cluster) : (s.setCluster c x).pending = s.pending := rfl
@[simp] theorem State.setCluster_outbox (s : State) (c : Nat) (x : Cluster) : (s.setCluster c x).outbox = s.outbox := rfl
@[simp] theorem State.setCluster_fresh (s : State) (c : Nat) (x : Cluster) : (s.setCluster c x).fresh = s.fresh := rfl
@[simp] theorem State.setCluster_now (s : State) (c : Nat) (x : Cluster) : (s.setCluster c x).now = s.now := rfl
@[simp] theorem State.setCluster_stage (s : State) (c : Nat) (x : Cluster) : (s.setCluster c x).stage = s.stage := rfl
@[simp] theorem State.setCluster_profSel (s : State) (c : Nat) (x : Cluster) : (s.setCluster c x).profSel = s.profSel := rfl
@[simp] theorem State.setCluster_nodeId (s : State) (c : Nat) (x : Cluster) : (s.setCluster c x).nodeId = s.nodeId := rfl
@[simp] theorem State.setCluster_hrefclk (s : State) (c : Nat) (x : Cluster) : (s.setCluster c x).hrefclk = s.hrefclk := rfl
@[simp] theorem State.setCluster_strefclk (s : State) (c : Nat) (x : Cluster) : (s.setCluster c x).strefclk = s.strefclk := rfl
@[simp] theorem State.setCluster_farRefInternal (s : State) (c : Nat) (x : Cluster) : (s.setCluster c x).farRefInternal = s.farRefInternal := rfl
@[simp] theorem State.setCluster_units (s : State) (c : Nat) (x : Cluster) : (s.setCluster c x).units = s.units := rfl
@[simp] theorem State.setCluster_objs (s : State) (c : Nat) (x : Cluster) : (s.setCluster c x).objs = s.objs := rfl
@[simp] theorem State.setCluster_blobs (s : State) (c : Nat) (x : Cluster) : (s.setCluster c x).blobs = s.blobs := rfl
@[simp] theorem State.setCluster_sessions (s : State) (c : Nat) (x : Cluster) : (s.setCluster c x).sessions = s.sessions := rfl
@[simp] theorem State.setCluster_nonces (s : State) (c : Nat) (x : Cluster) : (s.setCluster c x).nonces = s.nonces := rfl
@[simp] theorem State.setCluster_heldMsgs (s : State) (c : Nat) (x : Cluster) : (s.setCluster c x).heldMsgs = s.heldMsgs := rfl
@[simp] theorem State.setCluster_profiles (s : State) (c : Nat) (x : Cluster) : (s.setCluster c x).profiles = s.profiles := rfl
@[simp] theorem State.setCluster_extents (s : State) (c : Nat) (x : Cluster) : (s.setCluster c x).extents = s.extents := rfl
@[simp] theorem State.setCluster_tags (s : State) (c : Nat) (x : Cluster) : (s.setCluster c x).tags = s.tags := rfl
@[simp] theorem State.setCluster_regions (s : State) (c : Nat) (x : Cluster) : (s.setCluster c x).regions = s.regions := rfl
@[simp] theorem State.setCluster_tileMap (s : State) (c : Nat) (x : Cluster) : (s.setCluster c x).tileMap = s.tileMap := rfl
@[simp] theorem State.setCluster_oldHomes (s : State) (c : Nat) (x : Cluster) : (s.setCluster c x).oldHomes = s.oldHomes := rfl
@[simp] theorem State.setCluster_versions (s : State) (c : Nat) (x : Cluster) : (s.setCluster c x).versions = s.versions := rfl
@[simp] theorem State.setCluster_nextVersion (s : State) (c : Nat) (x : Cluster) : (s.setCluster c x).nextVersion = s.nextVersion := rfl
@[simp] theorem State.setCluster_mapCache (s : State) (c : Nat) (x : Cluster) : (s.setCluster c x).mapCache = s.mapCache := rfl
@[simp] theorem State.setCluster_near (s : State) (c : Nat) (x : Cluster) : (s.setCluster c x).near = s.near := rfl
@[simp] theorem State.setCluster_channels (s : State) (c : Nat) (x : Cluster) : (s.setCluster c x).channels = s.channels := rfl
@[simp] theorem State.setCluster_segStates (s : State) (c : Nat) (x : Cluster) : (s.setCluster c x).segStates = s.segStates := rfl
@[simp] theorem State.setCluster_trainedAt (s : State) (c : Nat) (x : Cluster) : (s.setCluster c x).trainedAt = s.trainedAt := rfl
@[simp] theorem State.setCluster_caddy (s : State) (c : Nat) (x : Cluster) : (s.setCluster c x).caddy = s.caddy := rfl
@[simp] theorem State.setCluster_caddyBad (s : State) (c : Nat) (x : Cluster) : (s.setCluster c x).caddyBad = s.caddyBad := rfl
@[simp] theorem State.setCluster_caddyFailed (s : State) (c : Nat) (x : Cluster) : (s.setCluster c x).caddyFailed = s.caddyFailed := rfl
@[simp] theorem State.setCluster_caddySoft (s : State) (c : Nat) (x : Cluster) : (s.setCluster c x).caddySoft = s.caddySoft := rfl
@[simp] theorem State.setCluster_farPorts (s : State) (c : Nat) (x : Cluster) : (s.setCluster c x).farPorts = s.farPorts := rfl
@[simp] theorem State.setCluster_farMem (s : State) (c : Nat) (x : Cluster) : (s.setCluster c x).farMem = s.farMem := rfl
@[simp] theorem State.setCluster_segs (s : State) (c : Nat) (x : Cluster) : (s.setCluster c x).segs = s.segs := rfl
@[simp] theorem State.setCluster_segSeq (s : State) (c : Nat) (x : Cluster) : (s.setCluster c x).segSeq = s.segSeq := rfl
@[simp] theorem State.setCluster_farRecs (s : State) (c : Nat) (x : Cluster) : (s.setCluster c x).farRecs = s.farRecs := rfl
@[simp] theorem State.setCluster_t3crcs (s : State) (c : Nat) (x : Cluster) : (s.setCluster c x).t3crcs = s.t3crcs := rfl
@[simp] theorem State.setCluster_cleanCopies (s : State) (c : Nat) (x : Cluster) : (s.setCluster c x).cleanCopies = s.cleanCopies := rfl
@[simp] theorem State.setCluster_nextCopy (s : State) (c : Nat) (x : Cluster) : (s.setCluster c x).nextCopy = s.nextCopy := rfl
@[simp] theorem State.setCluster_accesses (s : State) (c : Nat) (x : Cluster) : (s.setCluster c x).accesses = s.accesses := rfl
@[simp] theorem State.setCluster_nextAccess (s : State) (c : Nat) (x : Cluster) : (s.setCluster c x).nextAccess = s.nextAccess := rfl
@[simp] theorem State.setCluster_sweeps (s : State) (c : Nat) (x : Cluster) : (s.setCluster c x).sweeps = s.sweeps := rfl
@[simp] theorem State.setCluster_frTables (s : State) (c : Nat) (x : Cluster) : (s.setCluster c x).frTables = s.frTables := rfl
@[simp] theorem State.setCluster_llTables (s : State) (c : Nat) (x : Cluster) : (s.setCluster c x).llTables = s.llTables := rfl
@[simp] theorem State.setCluster_moves (s : State) (c : Nat) (x : Cluster) : (s.setCluster c x).moves = s.moves := rfl
@[simp] theorem State.setCluster_perst (s : State) (c : Nat) (x : Cluster) : (s.setCluster c x).perst = s.perst := rfl
@[simp] theorem State.setCluster_moveWaits (s : State) (c : Nat) (x : Cluster) : (s.setCluster c x).moveWaits = s.moveWaits := rfl
@[simp] theorem State.setCluster_moveUses (s : State) (c : Nat) (x : Cluster) : (s.setCluster c x).moveUses = s.moveUses := rfl
@[simp] theorem State.setCluster_shareLog (s : State) (c : Nat) (x : Cluster) : (s.setCluster c x).shareLog = s.shareLog := rfl
@[simp] theorem State.setCluster_writeAborts (s : State) (c : Nat) (x : Cluster) : (s.setCluster c x).writeAborts = s.writeAborts := rfl
@[simp] theorem State.setCluster_epochs (s : State) (c : Nat) (x : Cluster) : (s.setCluster c x).epochs = s.epochs := rfl
@[simp] theorem State.setCluster_demoting (s : State) (c : Nat) (x : Cluster) : (s.setCluster c x).demoting = s.demoting := rfl
@[simp] theorem State.setCluster_stuck (s : State) (c : Nat) (x : Cluster) : (s.setCluster c x).stuck = s.stuck := rfl
@[simp] theorem State.setCluster_held (s : State) (c : Nat) (x : Cluster) : (s.setCluster c x).held = s.held := rfl
@[simp] theorem State.setCluster_cads (s : State) (c : Nat) (x : Cluster) : (s.setCluster c x).cads = s.cads := rfl
@[simp] theorem State.setCluster_sched (s : State) (c : Nat) (x : Cluster) : (s.setCluster c x).sched = s.sched := rfl
@[simp] theorem State.setCluster_markers (s : State) (c : Nat) (x : Cluster) : (s.setCluster c x).markers = s.markers := rfl
@[simp] theorem State.setCluster_pins (s : State) (c : Nat) (x : Cluster) : (s.setCluster c x).pins = s.pins := rfl
@[simp] theorem State.setCluster_tallies (s : State) (c : Nat) (x : Cluster) : (s.setCluster c x).tallies = s.tallies := rfl
@[simp] theorem State.setCluster_shareds (s : State) (c : Nat) (x : Cluster) : (s.setCluster c x).shareds = s.shareds := rfl
@[simp] theorem State.setCluster_insts (s : State) (c : Nat) (x : Cluster) : (s.setCluster c x).insts = s.insts := rfl
@[simp] theorem State.setCluster_headInst (s : State) (c : Nat) (x : Cluster) : (s.setCluster c x).headInst = s.headInst := rfl
@[simp] theorem State.setCluster_attaches (s : State) (c : Nat) (x : Cluster) : (s.setCluster c x).attaches = s.attaches := rfl
@[simp] theorem State.setCluster_results (s : State) (c : Nat) (x : Cluster) : (s.setCluster c x).results = s.results := rfl
@[simp] theorem State.setCluster_conflicts (s : State) (c : Nat) (x : Cluster) : (s.setCluster c x).conflicts = s.conflicts := rfl
@[simp] theorem State.setCluster_keys (s : State) (c : Nat) (x : Cluster) : (s.setCluster c x).keys = s.keys := rfl
@[simp] theorem State.setCluster_nextBinding (s : State) (c : Nat) (x : Cluster) : (s.setCluster c x).nextBinding = s.nextBinding := rfl
@[simp] theorem State.setCluster_drbgFailed (s : State) (c : Nat) (x : Cluster) : (s.setCluster c x).drbgFailed = s.drbgFailed := rfl
@[simp] theorem State.setCluster_drbgUses (s : State) (c : Nat) (x : Cluster) : (s.setCluster c x).drbgUses = s.drbgUses := rfl
@[simp] theorem State.setCluster_injects (s : State) (c : Nat) (x : Cluster) : (s.setCluster c x).injects = s.injects := rfl
@[simp] theorem State.setCluster_fw (s : State) (c : Nat) (x : Cluster) : (s.setCluster c x).fw = s.fw := rfl
@[simp] theorem State.setCluster_spdm (s : State) (c : Nat) (x : Cluster) : (s.setCluster c x).spdm = s.spdm := rfl
@[simp] theorem State.setCluster_threads (s : State) (c : Nat) (x : Cluster) : (s.setCluster c x).threads = s.threads := rfl
@[simp] theorem State.setCluster_loads (s : State) (c : Nat) (x : Cluster) : (s.setCluster c x).loads = s.loads := rfl
@[simp] theorem State.setCluster_nextLoad (s : State) (c : Nat) (x : Cluster) : (s.setCluster c x).nextLoad = s.nextLoad := rfl
@[simp] theorem State.setCluster_mvReqs (s : State) (c : Nat) (x : Cluster) : (s.setCluster c x).mvReqs = s.mvReqs := rfl
@[simp] theorem State.setCluster_jobs (s : State) (c : Nat) (x : Cluster) : (s.setCluster c x).jobs = s.jobs := rfl
@[simp] theorem State.setCluster_lds (s : State) (c : Nat) (x : Cluster) : (s.setCluster c x).lds = s.lds := rfl
@[simp] theorem State.setCluster_dmas (s : State) (c : Nat) (x : Cluster) : (s.setCluster c x).dmas = s.dmas := rfl
@[simp] theorem State.setCluster_nextDma (s : State) (c : Nat) (x : Cluster) : (s.setCluster c x).nextDma = s.nextDma := rfl
@[simp] theorem State.setCluster_legs (s : State) (c : Nat) (x : Cluster) : (s.setCluster c x).legs = s.legs := rfl
@[simp] theorem State.setCluster_sports (s : State) (c : Nat) (x : Cluster) : (s.setCluster c x).sports = s.sports := rfl
@[simp] theorem State.setCluster_span (s : State) (c : Nat) (x : Cluster) : (s.setCluster c x).span = s.span := rfl
@[simp] theorem State.setCluster_allDown (s : State) (c : Nat) (x : Cluster) : (s.setCluster c x).allDown = s.allDown := rfl
@[simp] theorem State.setCluster_chrysalis (s : State) (c : Nat) (x : Cluster) : (s.setCluster c x).chrysalis = s.chrysalis := rfl
@[simp] theorem State.setCluster_power (s : State) (c : Nat) (x : Cluster) : (s.setCluster c x).power = s.power := rfl
@[simp] theorem State.setCluster_poisons (s : State) (c : Nat) (x : Cluster) : (s.setCluster c x).poisons = s.poisons := rfl
@[simp] theorem State.setCluster_errLog (s : State) (c : Nat) (x : Cluster) : (s.setCluster c x).errLog = s.errLog := rfl
@[simp] theorem State.setCluster_errSeq (s : State) (c : Nat) (x : Cluster) : (s.setCluster c x).errSeq = s.errSeq := rfl
@[simp] theorem State.setCluster_errFull (s : State) (c : Nat) (x : Cluster) : (s.setCluster c x).errFull = s.errFull := rfl
@[simp] theorem State.setCluster_errHistory (s : State) (c : Nat) (x : Cluster) : (s.setCluster c x).errHistory = s.errHistory := rfl
@[simp] theorem State.setCluster_repairMap (s : State) (c : Nat) (x : Cluster) : (s.setCluster c x).repairMap = s.repairMap := rfl
@[simp] theorem State.setCluster_repairSeq (s : State) (c : Nat) (x : Cluster) : (s.setCluster c x).repairSeq = s.repairSeq := rfl
@[simp] theorem State.setCluster_contained (s : State) (c : Nat) (x : Cluster) : (s.setCluster c x).contained = s.contained := rfl
@[simp] theorem State.setCluster_faults (s : State) (c : Nat) (x : Cluster) : (s.setCluster c x).faults = s.faults := rfl
@[simp] theorem State.setCluster_lastRaised (s : State) (c : Nat) (x : Cluster) : (s.setCluster c x).lastRaised = s.lastRaised := rfl
@[simp] theorem State.setCluster_telem (s : State) (c : Nat) (x : Cluster) : (s.setCluster c x).telem = s.telem := rfl
@[simp] theorem State.setCluster_cores (s : State) (c : Nat) (x : Cluster) : (s.setCluster c x).cores = s.cores := rfl

/-! ## putEntry -/

@[simp] theorem State.putEntry_pending (s : State) (i : Nat) (e : TileEntry) : (s.putEntry i e).pending = s.pending := rfl
@[simp] theorem State.putEntry_outbox (s : State) (i : Nat) (e : TileEntry) : (s.putEntry i e).outbox = s.outbox := rfl
@[simp] theorem State.putEntry_fresh (s : State) (i : Nat) (e : TileEntry) : (s.putEntry i e).fresh = s.fresh := rfl
@[simp] theorem State.putEntry_now (s : State) (i : Nat) (e : TileEntry) : (s.putEntry i e).now = s.now := rfl
@[simp] theorem State.putEntry_stage (s : State) (i : Nat) (e : TileEntry) : (s.putEntry i e).stage = s.stage := rfl
@[simp] theorem State.putEntry_profSel (s : State) (i : Nat) (e : TileEntry) : (s.putEntry i e).profSel = s.profSel := rfl
@[simp] theorem State.putEntry_nodeId (s : State) (i : Nat) (e : TileEntry) : (s.putEntry i e).nodeId = s.nodeId := rfl
@[simp] theorem State.putEntry_hrefclk (s : State) (i : Nat) (e : TileEntry) : (s.putEntry i e).hrefclk = s.hrefclk := rfl
@[simp] theorem State.putEntry_strefclk (s : State) (i : Nat) (e : TileEntry) : (s.putEntry i e).strefclk = s.strefclk := rfl
@[simp] theorem State.putEntry_farRefInternal (s : State) (i : Nat) (e : TileEntry) : (s.putEntry i e).farRefInternal = s.farRefInternal := rfl
@[simp] theorem State.putEntry_units (s : State) (i : Nat) (e : TileEntry) : (s.putEntry i e).units = s.units := rfl
@[simp] theorem State.putEntry_objs (s : State) (i : Nat) (e : TileEntry) : (s.putEntry i e).objs = s.objs := rfl
@[simp] theorem State.putEntry_blobs (s : State) (i : Nat) (e : TileEntry) : (s.putEntry i e).blobs = s.blobs := rfl
@[simp] theorem State.putEntry_sessions (s : State) (i : Nat) (e : TileEntry) : (s.putEntry i e).sessions = s.sessions := rfl
@[simp] theorem State.putEntry_nonces (s : State) (i : Nat) (e : TileEntry) : (s.putEntry i e).nonces = s.nonces := rfl
@[simp] theorem State.putEntry_heldMsgs (s : State) (i : Nat) (e : TileEntry) : (s.putEntry i e).heldMsgs = s.heldMsgs := rfl
@[simp] theorem State.putEntry_profiles (s : State) (i : Nat) (e : TileEntry) : (s.putEntry i e).profiles = s.profiles := rfl
@[simp] theorem State.putEntry_extents (s : State) (i : Nat) (e : TileEntry) : (s.putEntry i e).extents = s.extents := rfl
@[simp] theorem State.putEntry_tags (s : State) (i : Nat) (e : TileEntry) : (s.putEntry i e).tags = s.tags := rfl
@[simp] theorem State.putEntry_regions (s : State) (i : Nat) (e : TileEntry) : (s.putEntry i e).regions = s.regions := rfl
@[simp] theorem State.putEntry_oldHomes (s : State) (i : Nat) (e : TileEntry) : (s.putEntry i e).oldHomes = s.oldHomes := rfl
@[simp] theorem State.putEntry_versions (s : State) (i : Nat) (e : TileEntry) : (s.putEntry i e).versions = s.versions := rfl
@[simp] theorem State.putEntry_nextVersion (s : State) (i : Nat) (e : TileEntry) : (s.putEntry i e).nextVersion = s.nextVersion := rfl
@[simp] theorem State.putEntry_mapCache (s : State) (i : Nat) (e : TileEntry) : (s.putEntry i e).mapCache = s.mapCache := rfl
@[simp] theorem State.putEntry_near (s : State) (i : Nat) (e : TileEntry) : (s.putEntry i e).near = s.near := rfl
@[simp] theorem State.putEntry_channels (s : State) (i : Nat) (e : TileEntry) : (s.putEntry i e).channels = s.channels := rfl
@[simp] theorem State.putEntry_segStates (s : State) (i : Nat) (e : TileEntry) : (s.putEntry i e).segStates = s.segStates := rfl
@[simp] theorem State.putEntry_trainedAt (s : State) (i : Nat) (e : TileEntry) : (s.putEntry i e).trainedAt = s.trainedAt := rfl
@[simp] theorem State.putEntry_caddy (s : State) (i : Nat) (e : TileEntry) : (s.putEntry i e).caddy = s.caddy := rfl
@[simp] theorem State.putEntry_caddyBad (s : State) (i : Nat) (e : TileEntry) : (s.putEntry i e).caddyBad = s.caddyBad := rfl
@[simp] theorem State.putEntry_caddyFailed (s : State) (i : Nat) (e : TileEntry) : (s.putEntry i e).caddyFailed = s.caddyFailed := rfl
@[simp] theorem State.putEntry_caddySoft (s : State) (i : Nat) (e : TileEntry) : (s.putEntry i e).caddySoft = s.caddySoft := rfl
@[simp] theorem State.putEntry_farPorts (s : State) (i : Nat) (e : TileEntry) : (s.putEntry i e).farPorts = s.farPorts := rfl
@[simp] theorem State.putEntry_farMem (s : State) (i : Nat) (e : TileEntry) : (s.putEntry i e).farMem = s.farMem := rfl
@[simp] theorem State.putEntry_segs (s : State) (i : Nat) (e : TileEntry) : (s.putEntry i e).segs = s.segs := rfl
@[simp] theorem State.putEntry_segSeq (s : State) (i : Nat) (e : TileEntry) : (s.putEntry i e).segSeq = s.segSeq := rfl
@[simp] theorem State.putEntry_farRecs (s : State) (i : Nat) (e : TileEntry) : (s.putEntry i e).farRecs = s.farRecs := rfl
@[simp] theorem State.putEntry_t3crcs (s : State) (i : Nat) (e : TileEntry) : (s.putEntry i e).t3crcs = s.t3crcs := rfl
@[simp] theorem State.putEntry_cleanCopies (s : State) (i : Nat) (e : TileEntry) : (s.putEntry i e).cleanCopies = s.cleanCopies := rfl
@[simp] theorem State.putEntry_nextCopy (s : State) (i : Nat) (e : TileEntry) : (s.putEntry i e).nextCopy = s.nextCopy := rfl
@[simp] theorem State.putEntry_accesses (s : State) (i : Nat) (e : TileEntry) : (s.putEntry i e).accesses = s.accesses := rfl
@[simp] theorem State.putEntry_nextAccess (s : State) (i : Nat) (e : TileEntry) : (s.putEntry i e).nextAccess = s.nextAccess := rfl
@[simp] theorem State.putEntry_sweeps (s : State) (i : Nat) (e : TileEntry) : (s.putEntry i e).sweeps = s.sweeps := rfl
@[simp] theorem State.putEntry_frTables (s : State) (i : Nat) (e : TileEntry) : (s.putEntry i e).frTables = s.frTables := rfl
@[simp] theorem State.putEntry_llTables (s : State) (i : Nat) (e : TileEntry) : (s.putEntry i e).llTables = s.llTables := rfl
@[simp] theorem State.putEntry_moves (s : State) (i : Nat) (e : TileEntry) : (s.putEntry i e).moves = s.moves := rfl
@[simp] theorem State.putEntry_perst (s : State) (i : Nat) (e : TileEntry) : (s.putEntry i e).perst = s.perst := rfl
@[simp] theorem State.putEntry_moveWaits (s : State) (i : Nat) (e : TileEntry) : (s.putEntry i e).moveWaits = s.moveWaits := rfl
@[simp] theorem State.putEntry_moveUses (s : State) (i : Nat) (e : TileEntry) : (s.putEntry i e).moveUses = s.moveUses := rfl
@[simp] theorem State.putEntry_shareLog (s : State) (i : Nat) (e : TileEntry) : (s.putEntry i e).shareLog = s.shareLog := rfl
@[simp] theorem State.putEntry_writeAborts (s : State) (i : Nat) (e : TileEntry) : (s.putEntry i e).writeAborts = s.writeAborts := rfl
@[simp] theorem State.putEntry_epochs (s : State) (i : Nat) (e : TileEntry) : (s.putEntry i e).epochs = s.epochs := rfl
@[simp] theorem State.putEntry_demoting (s : State) (i : Nat) (e : TileEntry) : (s.putEntry i e).demoting = s.demoting := rfl
@[simp] theorem State.putEntry_stuck (s : State) (i : Nat) (e : TileEntry) : (s.putEntry i e).stuck = s.stuck := rfl
@[simp] theorem State.putEntry_held (s : State) (i : Nat) (e : TileEntry) : (s.putEntry i e).held = s.held := rfl
@[simp] theorem State.putEntry_cads (s : State) (i : Nat) (e : TileEntry) : (s.putEntry i e).cads = s.cads := rfl
@[simp] theorem State.putEntry_sched (s : State) (i : Nat) (e : TileEntry) : (s.putEntry i e).sched = s.sched := rfl
@[simp] theorem State.putEntry_markers (s : State) (i : Nat) (e : TileEntry) : (s.putEntry i e).markers = s.markers := rfl
@[simp] theorem State.putEntry_pins (s : State) (i : Nat) (e : TileEntry) : (s.putEntry i e).pins = s.pins := rfl
@[simp] theorem State.putEntry_tallies (s : State) (i : Nat) (e : TileEntry) : (s.putEntry i e).tallies = s.tallies := rfl
@[simp] theorem State.putEntry_shareds (s : State) (i : Nat) (e : TileEntry) : (s.putEntry i e).shareds = s.shareds := rfl
@[simp] theorem State.putEntry_insts (s : State) (i : Nat) (e : TileEntry) : (s.putEntry i e).insts = s.insts := rfl
@[simp] theorem State.putEntry_headInst (s : State) (i : Nat) (e : TileEntry) : (s.putEntry i e).headInst = s.headInst := rfl
@[simp] theorem State.putEntry_attaches (s : State) (i : Nat) (e : TileEntry) : (s.putEntry i e).attaches = s.attaches := rfl
@[simp] theorem State.putEntry_results (s : State) (i : Nat) (e : TileEntry) : (s.putEntry i e).results = s.results := rfl
@[simp] theorem State.putEntry_conflicts (s : State) (i : Nat) (e : TileEntry) : (s.putEntry i e).conflicts = s.conflicts := rfl
@[simp] theorem State.putEntry_keys (s : State) (i : Nat) (e : TileEntry) : (s.putEntry i e).keys = s.keys := rfl
@[simp] theorem State.putEntry_nextBinding (s : State) (i : Nat) (e : TileEntry) : (s.putEntry i e).nextBinding = s.nextBinding := rfl
@[simp] theorem State.putEntry_drbgFailed (s : State) (i : Nat) (e : TileEntry) : (s.putEntry i e).drbgFailed = s.drbgFailed := rfl
@[simp] theorem State.putEntry_drbgUses (s : State) (i : Nat) (e : TileEntry) : (s.putEntry i e).drbgUses = s.drbgUses := rfl
@[simp] theorem State.putEntry_injects (s : State) (i : Nat) (e : TileEntry) : (s.putEntry i e).injects = s.injects := rfl
@[simp] theorem State.putEntry_fw (s : State) (i : Nat) (e : TileEntry) : (s.putEntry i e).fw = s.fw := rfl
@[simp] theorem State.putEntry_spdm (s : State) (i : Nat) (e : TileEntry) : (s.putEntry i e).spdm = s.spdm := rfl
@[simp] theorem State.putEntry_clusters (s : State) (i : Nat) (e : TileEntry) : (s.putEntry i e).clusters = s.clusters := rfl
@[simp] theorem State.putEntry_threads (s : State) (i : Nat) (e : TileEntry) : (s.putEntry i e).threads = s.threads := rfl
@[simp] theorem State.putEntry_loads (s : State) (i : Nat) (e : TileEntry) : (s.putEntry i e).loads = s.loads := rfl
@[simp] theorem State.putEntry_nextLoad (s : State) (i : Nat) (e : TileEntry) : (s.putEntry i e).nextLoad = s.nextLoad := rfl
@[simp] theorem State.putEntry_mvReqs (s : State) (i : Nat) (e : TileEntry) : (s.putEntry i e).mvReqs = s.mvReqs := rfl
@[simp] theorem State.putEntry_jobs (s : State) (i : Nat) (e : TileEntry) : (s.putEntry i e).jobs = s.jobs := rfl
@[simp] theorem State.putEntry_lds (s : State) (i : Nat) (e : TileEntry) : (s.putEntry i e).lds = s.lds := rfl
@[simp] theorem State.putEntry_dmas (s : State) (i : Nat) (e : TileEntry) : (s.putEntry i e).dmas = s.dmas := rfl
@[simp] theorem State.putEntry_nextDma (s : State) (i : Nat) (e : TileEntry) : (s.putEntry i e).nextDma = s.nextDma := rfl
@[simp] theorem State.putEntry_legs (s : State) (i : Nat) (e : TileEntry) : (s.putEntry i e).legs = s.legs := rfl
@[simp] theorem State.putEntry_sports (s : State) (i : Nat) (e : TileEntry) : (s.putEntry i e).sports = s.sports := rfl
@[simp] theorem State.putEntry_span (s : State) (i : Nat) (e : TileEntry) : (s.putEntry i e).span = s.span := rfl
@[simp] theorem State.putEntry_allDown (s : State) (i : Nat) (e : TileEntry) : (s.putEntry i e).allDown = s.allDown := rfl
@[simp] theorem State.putEntry_chrysalis (s : State) (i : Nat) (e : TileEntry) : (s.putEntry i e).chrysalis = s.chrysalis := rfl
@[simp] theorem State.putEntry_power (s : State) (i : Nat) (e : TileEntry) : (s.putEntry i e).power = s.power := rfl
@[simp] theorem State.putEntry_poisons (s : State) (i : Nat) (e : TileEntry) : (s.putEntry i e).poisons = s.poisons := rfl
@[simp] theorem State.putEntry_errLog (s : State) (i : Nat) (e : TileEntry) : (s.putEntry i e).errLog = s.errLog := rfl
@[simp] theorem State.putEntry_errSeq (s : State) (i : Nat) (e : TileEntry) : (s.putEntry i e).errSeq = s.errSeq := rfl
@[simp] theorem State.putEntry_errFull (s : State) (i : Nat) (e : TileEntry) : (s.putEntry i e).errFull = s.errFull := rfl
@[simp] theorem State.putEntry_errHistory (s : State) (i : Nat) (e : TileEntry) : (s.putEntry i e).errHistory = s.errHistory := rfl
@[simp] theorem State.putEntry_repairMap (s : State) (i : Nat) (e : TileEntry) : (s.putEntry i e).repairMap = s.repairMap := rfl
@[simp] theorem State.putEntry_repairSeq (s : State) (i : Nat) (e : TileEntry) : (s.putEntry i e).repairSeq = s.repairSeq := rfl
@[simp] theorem State.putEntry_contained (s : State) (i : Nat) (e : TileEntry) : (s.putEntry i e).contained = s.contained := rfl
@[simp] theorem State.putEntry_faults (s : State) (i : Nat) (e : TileEntry) : (s.putEntry i e).faults = s.faults := rfl
@[simp] theorem State.putEntry_lastRaised (s : State) (i : Nat) (e : TileEntry) : (s.putEntry i e).lastRaised = s.lastRaised := rfl
@[simp] theorem State.putEntry_telem (s : State) (i : Nat) (e : TileEntry) : (s.putEntry i e).telem = s.telem := rfl
@[simp] theorem State.putEntry_cores (s : State) (i : Nat) (e : TileEntry) : (s.putEntry i e).cores = s.cores := rfl

/-! ## setFarPort -/

@[simp] theorem State.setFarPort_pending (s : State) (p : Nat) (x : FarPort) : (s.setFarPort p x).pending = s.pending := rfl
@[simp] theorem State.setFarPort_outbox (s : State) (p : Nat) (x : FarPort) : (s.setFarPort p x).outbox = s.outbox := rfl
@[simp] theorem State.setFarPort_fresh (s : State) (p : Nat) (x : FarPort) : (s.setFarPort p x).fresh = s.fresh := rfl
@[simp] theorem State.setFarPort_now (s : State) (p : Nat) (x : FarPort) : (s.setFarPort p x).now = s.now := rfl
@[simp] theorem State.setFarPort_stage (s : State) (p : Nat) (x : FarPort) : (s.setFarPort p x).stage = s.stage := rfl
@[simp] theorem State.setFarPort_profSel (s : State) (p : Nat) (x : FarPort) : (s.setFarPort p x).profSel = s.profSel := rfl
@[simp] theorem State.setFarPort_nodeId (s : State) (p : Nat) (x : FarPort) : (s.setFarPort p x).nodeId = s.nodeId := rfl
@[simp] theorem State.setFarPort_hrefclk (s : State) (p : Nat) (x : FarPort) : (s.setFarPort p x).hrefclk = s.hrefclk := rfl
@[simp] theorem State.setFarPort_strefclk (s : State) (p : Nat) (x : FarPort) : (s.setFarPort p x).strefclk = s.strefclk := rfl
@[simp] theorem State.setFarPort_farRefInternal (s : State) (p : Nat) (x : FarPort) : (s.setFarPort p x).farRefInternal = s.farRefInternal := rfl
@[simp] theorem State.setFarPort_units (s : State) (p : Nat) (x : FarPort) : (s.setFarPort p x).units = s.units := rfl
@[simp] theorem State.setFarPort_objs (s : State) (p : Nat) (x : FarPort) : (s.setFarPort p x).objs = s.objs := rfl
@[simp] theorem State.setFarPort_blobs (s : State) (p : Nat) (x : FarPort) : (s.setFarPort p x).blobs = s.blobs := rfl
@[simp] theorem State.setFarPort_sessions (s : State) (p : Nat) (x : FarPort) : (s.setFarPort p x).sessions = s.sessions := rfl
@[simp] theorem State.setFarPort_nonces (s : State) (p : Nat) (x : FarPort) : (s.setFarPort p x).nonces = s.nonces := rfl
@[simp] theorem State.setFarPort_heldMsgs (s : State) (p : Nat) (x : FarPort) : (s.setFarPort p x).heldMsgs = s.heldMsgs := rfl
@[simp] theorem State.setFarPort_profiles (s : State) (p : Nat) (x : FarPort) : (s.setFarPort p x).profiles = s.profiles := rfl
@[simp] theorem State.setFarPort_extents (s : State) (p : Nat) (x : FarPort) : (s.setFarPort p x).extents = s.extents := rfl
@[simp] theorem State.setFarPort_tags (s : State) (p : Nat) (x : FarPort) : (s.setFarPort p x).tags = s.tags := rfl
@[simp] theorem State.setFarPort_regions (s : State) (p : Nat) (x : FarPort) : (s.setFarPort p x).regions = s.regions := rfl
@[simp] theorem State.setFarPort_tileMap (s : State) (p : Nat) (x : FarPort) : (s.setFarPort p x).tileMap = s.tileMap := rfl
@[simp] theorem State.setFarPort_oldHomes (s : State) (p : Nat) (x : FarPort) : (s.setFarPort p x).oldHomes = s.oldHomes := rfl
@[simp] theorem State.setFarPort_versions (s : State) (p : Nat) (x : FarPort) : (s.setFarPort p x).versions = s.versions := rfl
@[simp] theorem State.setFarPort_nextVersion (s : State) (p : Nat) (x : FarPort) : (s.setFarPort p x).nextVersion = s.nextVersion := rfl
@[simp] theorem State.setFarPort_mapCache (s : State) (p : Nat) (x : FarPort) : (s.setFarPort p x).mapCache = s.mapCache := rfl
@[simp] theorem State.setFarPort_near (s : State) (p : Nat) (x : FarPort) : (s.setFarPort p x).near = s.near := rfl
@[simp] theorem State.setFarPort_channels (s : State) (p : Nat) (x : FarPort) : (s.setFarPort p x).channels = s.channels := rfl
@[simp] theorem State.setFarPort_segStates (s : State) (p : Nat) (x : FarPort) : (s.setFarPort p x).segStates = s.segStates := rfl
@[simp] theorem State.setFarPort_trainedAt (s : State) (p : Nat) (x : FarPort) : (s.setFarPort p x).trainedAt = s.trainedAt := rfl
@[simp] theorem State.setFarPort_caddy (s : State) (p : Nat) (x : FarPort) : (s.setFarPort p x).caddy = s.caddy := rfl
@[simp] theorem State.setFarPort_caddyBad (s : State) (p : Nat) (x : FarPort) : (s.setFarPort p x).caddyBad = s.caddyBad := rfl
@[simp] theorem State.setFarPort_caddyFailed (s : State) (p : Nat) (x : FarPort) : (s.setFarPort p x).caddyFailed = s.caddyFailed := rfl
@[simp] theorem State.setFarPort_caddySoft (s : State) (p : Nat) (x : FarPort) : (s.setFarPort p x).caddySoft = s.caddySoft := rfl
@[simp] theorem State.setFarPort_farMem (s : State) (p : Nat) (x : FarPort) : (s.setFarPort p x).farMem = s.farMem := rfl
@[simp] theorem State.setFarPort_segs (s : State) (p : Nat) (x : FarPort) : (s.setFarPort p x).segs = s.segs := rfl
@[simp] theorem State.setFarPort_segSeq (s : State) (p : Nat) (x : FarPort) : (s.setFarPort p x).segSeq = s.segSeq := rfl
@[simp] theorem State.setFarPort_farRecs (s : State) (p : Nat) (x : FarPort) : (s.setFarPort p x).farRecs = s.farRecs := rfl
@[simp] theorem State.setFarPort_t3crcs (s : State) (p : Nat) (x : FarPort) : (s.setFarPort p x).t3crcs = s.t3crcs := rfl
@[simp] theorem State.setFarPort_cleanCopies (s : State) (p : Nat) (x : FarPort) : (s.setFarPort p x).cleanCopies = s.cleanCopies := rfl
@[simp] theorem State.setFarPort_nextCopy (s : State) (p : Nat) (x : FarPort) : (s.setFarPort p x).nextCopy = s.nextCopy := rfl
@[simp] theorem State.setFarPort_accesses (s : State) (p : Nat) (x : FarPort) : (s.setFarPort p x).accesses = s.accesses := rfl
@[simp] theorem State.setFarPort_nextAccess (s : State) (p : Nat) (x : FarPort) : (s.setFarPort p x).nextAccess = s.nextAccess := rfl
@[simp] theorem State.setFarPort_sweeps (s : State) (p : Nat) (x : FarPort) : (s.setFarPort p x).sweeps = s.sweeps := rfl
@[simp] theorem State.setFarPort_frTables (s : State) (p : Nat) (x : FarPort) : (s.setFarPort p x).frTables = s.frTables := rfl
@[simp] theorem State.setFarPort_llTables (s : State) (p : Nat) (x : FarPort) : (s.setFarPort p x).llTables = s.llTables := rfl
@[simp] theorem State.setFarPort_moves (s : State) (p : Nat) (x : FarPort) : (s.setFarPort p x).moves = s.moves := rfl
@[simp] theorem State.setFarPort_perst (s : State) (p : Nat) (x : FarPort) : (s.setFarPort p x).perst = s.perst := rfl
@[simp] theorem State.setFarPort_moveWaits (s : State) (p : Nat) (x : FarPort) : (s.setFarPort p x).moveWaits = s.moveWaits := rfl
@[simp] theorem State.setFarPort_moveUses (s : State) (p : Nat) (x : FarPort) : (s.setFarPort p x).moveUses = s.moveUses := rfl
@[simp] theorem State.setFarPort_shareLog (s : State) (p : Nat) (x : FarPort) : (s.setFarPort p x).shareLog = s.shareLog := rfl
@[simp] theorem State.setFarPort_writeAborts (s : State) (p : Nat) (x : FarPort) : (s.setFarPort p x).writeAborts = s.writeAborts := rfl
@[simp] theorem State.setFarPort_epochs (s : State) (p : Nat) (x : FarPort) : (s.setFarPort p x).epochs = s.epochs := rfl
@[simp] theorem State.setFarPort_demoting (s : State) (p : Nat) (x : FarPort) : (s.setFarPort p x).demoting = s.demoting := rfl
@[simp] theorem State.setFarPort_stuck (s : State) (p : Nat) (x : FarPort) : (s.setFarPort p x).stuck = s.stuck := rfl
@[simp] theorem State.setFarPort_held (s : State) (p : Nat) (x : FarPort) : (s.setFarPort p x).held = s.held := rfl
@[simp] theorem State.setFarPort_cads (s : State) (p : Nat) (x : FarPort) : (s.setFarPort p x).cads = s.cads := rfl
@[simp] theorem State.setFarPort_sched (s : State) (p : Nat) (x : FarPort) : (s.setFarPort p x).sched = s.sched := rfl
@[simp] theorem State.setFarPort_markers (s : State) (p : Nat) (x : FarPort) : (s.setFarPort p x).markers = s.markers := rfl
@[simp] theorem State.setFarPort_pins (s : State) (p : Nat) (x : FarPort) : (s.setFarPort p x).pins = s.pins := rfl
@[simp] theorem State.setFarPort_tallies (s : State) (p : Nat) (x : FarPort) : (s.setFarPort p x).tallies = s.tallies := rfl
@[simp] theorem State.setFarPort_shareds (s : State) (p : Nat) (x : FarPort) : (s.setFarPort p x).shareds = s.shareds := rfl
@[simp] theorem State.setFarPort_insts (s : State) (p : Nat) (x : FarPort) : (s.setFarPort p x).insts = s.insts := rfl
@[simp] theorem State.setFarPort_headInst (s : State) (p : Nat) (x : FarPort) : (s.setFarPort p x).headInst = s.headInst := rfl
@[simp] theorem State.setFarPort_attaches (s : State) (p : Nat) (x : FarPort) : (s.setFarPort p x).attaches = s.attaches := rfl
@[simp] theorem State.setFarPort_results (s : State) (p : Nat) (x : FarPort) : (s.setFarPort p x).results = s.results := rfl
@[simp] theorem State.setFarPort_conflicts (s : State) (p : Nat) (x : FarPort) : (s.setFarPort p x).conflicts = s.conflicts := rfl
@[simp] theorem State.setFarPort_keys (s : State) (p : Nat) (x : FarPort) : (s.setFarPort p x).keys = s.keys := rfl
@[simp] theorem State.setFarPort_nextBinding (s : State) (p : Nat) (x : FarPort) : (s.setFarPort p x).nextBinding = s.nextBinding := rfl
@[simp] theorem State.setFarPort_drbgFailed (s : State) (p : Nat) (x : FarPort) : (s.setFarPort p x).drbgFailed = s.drbgFailed := rfl
@[simp] theorem State.setFarPort_drbgUses (s : State) (p : Nat) (x : FarPort) : (s.setFarPort p x).drbgUses = s.drbgUses := rfl
@[simp] theorem State.setFarPort_injects (s : State) (p : Nat) (x : FarPort) : (s.setFarPort p x).injects = s.injects := rfl
@[simp] theorem State.setFarPort_fw (s : State) (p : Nat) (x : FarPort) : (s.setFarPort p x).fw = s.fw := rfl
@[simp] theorem State.setFarPort_spdm (s : State) (p : Nat) (x : FarPort) : (s.setFarPort p x).spdm = s.spdm := rfl
@[simp] theorem State.setFarPort_clusters (s : State) (p : Nat) (x : FarPort) : (s.setFarPort p x).clusters = s.clusters := rfl
@[simp] theorem State.setFarPort_threads (s : State) (p : Nat) (x : FarPort) : (s.setFarPort p x).threads = s.threads := rfl
@[simp] theorem State.setFarPort_loads (s : State) (p : Nat) (x : FarPort) : (s.setFarPort p x).loads = s.loads := rfl
@[simp] theorem State.setFarPort_nextLoad (s : State) (p : Nat) (x : FarPort) : (s.setFarPort p x).nextLoad = s.nextLoad := rfl
@[simp] theorem State.setFarPort_mvReqs (s : State) (p : Nat) (x : FarPort) : (s.setFarPort p x).mvReqs = s.mvReqs := rfl
@[simp] theorem State.setFarPort_jobs (s : State) (p : Nat) (x : FarPort) : (s.setFarPort p x).jobs = s.jobs := rfl
@[simp] theorem State.setFarPort_lds (s : State) (p : Nat) (x : FarPort) : (s.setFarPort p x).lds = s.lds := rfl
@[simp] theorem State.setFarPort_dmas (s : State) (p : Nat) (x : FarPort) : (s.setFarPort p x).dmas = s.dmas := rfl
@[simp] theorem State.setFarPort_nextDma (s : State) (p : Nat) (x : FarPort) : (s.setFarPort p x).nextDma = s.nextDma := rfl
@[simp] theorem State.setFarPort_legs (s : State) (p : Nat) (x : FarPort) : (s.setFarPort p x).legs = s.legs := rfl
@[simp] theorem State.setFarPort_sports (s : State) (p : Nat) (x : FarPort) : (s.setFarPort p x).sports = s.sports := rfl
@[simp] theorem State.setFarPort_span (s : State) (p : Nat) (x : FarPort) : (s.setFarPort p x).span = s.span := rfl
@[simp] theorem State.setFarPort_allDown (s : State) (p : Nat) (x : FarPort) : (s.setFarPort p x).allDown = s.allDown := rfl
@[simp] theorem State.setFarPort_chrysalis (s : State) (p : Nat) (x : FarPort) : (s.setFarPort p x).chrysalis = s.chrysalis := rfl
@[simp] theorem State.setFarPort_power (s : State) (p : Nat) (x : FarPort) : (s.setFarPort p x).power = s.power := rfl
@[simp] theorem State.setFarPort_poisons (s : State) (p : Nat) (x : FarPort) : (s.setFarPort p x).poisons = s.poisons := rfl
@[simp] theorem State.setFarPort_errLog (s : State) (p : Nat) (x : FarPort) : (s.setFarPort p x).errLog = s.errLog := rfl
@[simp] theorem State.setFarPort_errSeq (s : State) (p : Nat) (x : FarPort) : (s.setFarPort p x).errSeq = s.errSeq := rfl
@[simp] theorem State.setFarPort_errFull (s : State) (p : Nat) (x : FarPort) : (s.setFarPort p x).errFull = s.errFull := rfl
@[simp] theorem State.setFarPort_errHistory (s : State) (p : Nat) (x : FarPort) : (s.setFarPort p x).errHistory = s.errHistory := rfl
@[simp] theorem State.setFarPort_repairMap (s : State) (p : Nat) (x : FarPort) : (s.setFarPort p x).repairMap = s.repairMap := rfl
@[simp] theorem State.setFarPort_repairSeq (s : State) (p : Nat) (x : FarPort) : (s.setFarPort p x).repairSeq = s.repairSeq := rfl
@[simp] theorem State.setFarPort_contained (s : State) (p : Nat) (x : FarPort) : (s.setFarPort p x).contained = s.contained := rfl
@[simp] theorem State.setFarPort_faults (s : State) (p : Nat) (x : FarPort) : (s.setFarPort p x).faults = s.faults := rfl
@[simp] theorem State.setFarPort_lastRaised (s : State) (p : Nat) (x : FarPort) : (s.setFarPort p x).lastRaised = s.lastRaised := rfl
@[simp] theorem State.setFarPort_telem (s : State) (p : Nat) (x : FarPort) : (s.setFarPort p x).telem = s.telem := rfl
@[simp] theorem State.setFarPort_cores (s : State) (p : Nat) (x : FarPort) : (s.setFarPort p x).cores = s.cores := rfl

/-! ## setJob -/

@[simp] theorem State.setJob_pending (s : State) (j : Nat) (x : Job) : (s.setJob j x).pending = s.pending := rfl
@[simp] theorem State.setJob_outbox (s : State) (j : Nat) (x : Job) : (s.setJob j x).outbox = s.outbox := rfl
@[simp] theorem State.setJob_fresh (s : State) (j : Nat) (x : Job) : (s.setJob j x).fresh = s.fresh := rfl
@[simp] theorem State.setJob_now (s : State) (j : Nat) (x : Job) : (s.setJob j x).now = s.now := rfl
@[simp] theorem State.setJob_stage (s : State) (j : Nat) (x : Job) : (s.setJob j x).stage = s.stage := rfl
@[simp] theorem State.setJob_profSel (s : State) (j : Nat) (x : Job) : (s.setJob j x).profSel = s.profSel := rfl
@[simp] theorem State.setJob_nodeId (s : State) (j : Nat) (x : Job) : (s.setJob j x).nodeId = s.nodeId := rfl
@[simp] theorem State.setJob_hrefclk (s : State) (j : Nat) (x : Job) : (s.setJob j x).hrefclk = s.hrefclk := rfl
@[simp] theorem State.setJob_strefclk (s : State) (j : Nat) (x : Job) : (s.setJob j x).strefclk = s.strefclk := rfl
@[simp] theorem State.setJob_farRefInternal (s : State) (j : Nat) (x : Job) : (s.setJob j x).farRefInternal = s.farRefInternal := rfl
@[simp] theorem State.setJob_units (s : State) (j : Nat) (x : Job) : (s.setJob j x).units = s.units := rfl
@[simp] theorem State.setJob_objs (s : State) (j : Nat) (x : Job) : (s.setJob j x).objs = s.objs := rfl
@[simp] theorem State.setJob_blobs (s : State) (j : Nat) (x : Job) : (s.setJob j x).blobs = s.blobs := rfl
@[simp] theorem State.setJob_sessions (s : State) (j : Nat) (x : Job) : (s.setJob j x).sessions = s.sessions := rfl
@[simp] theorem State.setJob_nonces (s : State) (j : Nat) (x : Job) : (s.setJob j x).nonces = s.nonces := rfl
@[simp] theorem State.setJob_heldMsgs (s : State) (j : Nat) (x : Job) : (s.setJob j x).heldMsgs = s.heldMsgs := rfl
@[simp] theorem State.setJob_profiles (s : State) (j : Nat) (x : Job) : (s.setJob j x).profiles = s.profiles := rfl
@[simp] theorem State.setJob_extents (s : State) (j : Nat) (x : Job) : (s.setJob j x).extents = s.extents := rfl
@[simp] theorem State.setJob_tags (s : State) (j : Nat) (x : Job) : (s.setJob j x).tags = s.tags := rfl
@[simp] theorem State.setJob_regions (s : State) (j : Nat) (x : Job) : (s.setJob j x).regions = s.regions := rfl
@[simp] theorem State.setJob_tileMap (s : State) (j : Nat) (x : Job) : (s.setJob j x).tileMap = s.tileMap := rfl
@[simp] theorem State.setJob_oldHomes (s : State) (j : Nat) (x : Job) : (s.setJob j x).oldHomes = s.oldHomes := rfl
@[simp] theorem State.setJob_versions (s : State) (j : Nat) (x : Job) : (s.setJob j x).versions = s.versions := rfl
@[simp] theorem State.setJob_nextVersion (s : State) (j : Nat) (x : Job) : (s.setJob j x).nextVersion = s.nextVersion := rfl
@[simp] theorem State.setJob_mapCache (s : State) (j : Nat) (x : Job) : (s.setJob j x).mapCache = s.mapCache := rfl
@[simp] theorem State.setJob_near (s : State) (j : Nat) (x : Job) : (s.setJob j x).near = s.near := rfl
@[simp] theorem State.setJob_channels (s : State) (j : Nat) (x : Job) : (s.setJob j x).channels = s.channels := rfl
@[simp] theorem State.setJob_segStates (s : State) (j : Nat) (x : Job) : (s.setJob j x).segStates = s.segStates := rfl
@[simp] theorem State.setJob_trainedAt (s : State) (j : Nat) (x : Job) : (s.setJob j x).trainedAt = s.trainedAt := rfl
@[simp] theorem State.setJob_caddy (s : State) (j : Nat) (x : Job) : (s.setJob j x).caddy = s.caddy := rfl
@[simp] theorem State.setJob_caddyBad (s : State) (j : Nat) (x : Job) : (s.setJob j x).caddyBad = s.caddyBad := rfl
@[simp] theorem State.setJob_caddyFailed (s : State) (j : Nat) (x : Job) : (s.setJob j x).caddyFailed = s.caddyFailed := rfl
@[simp] theorem State.setJob_caddySoft (s : State) (j : Nat) (x : Job) : (s.setJob j x).caddySoft = s.caddySoft := rfl
@[simp] theorem State.setJob_farPorts (s : State) (j : Nat) (x : Job) : (s.setJob j x).farPorts = s.farPorts := rfl
@[simp] theorem State.setJob_farMem (s : State) (j : Nat) (x : Job) : (s.setJob j x).farMem = s.farMem := rfl
@[simp] theorem State.setJob_segs (s : State) (j : Nat) (x : Job) : (s.setJob j x).segs = s.segs := rfl
@[simp] theorem State.setJob_segSeq (s : State) (j : Nat) (x : Job) : (s.setJob j x).segSeq = s.segSeq := rfl
@[simp] theorem State.setJob_farRecs (s : State) (j : Nat) (x : Job) : (s.setJob j x).farRecs = s.farRecs := rfl
@[simp] theorem State.setJob_t3crcs (s : State) (j : Nat) (x : Job) : (s.setJob j x).t3crcs = s.t3crcs := rfl
@[simp] theorem State.setJob_cleanCopies (s : State) (j : Nat) (x : Job) : (s.setJob j x).cleanCopies = s.cleanCopies := rfl
@[simp] theorem State.setJob_nextCopy (s : State) (j : Nat) (x : Job) : (s.setJob j x).nextCopy = s.nextCopy := rfl
@[simp] theorem State.setJob_accesses (s : State) (j : Nat) (x : Job) : (s.setJob j x).accesses = s.accesses := rfl
@[simp] theorem State.setJob_nextAccess (s : State) (j : Nat) (x : Job) : (s.setJob j x).nextAccess = s.nextAccess := rfl
@[simp] theorem State.setJob_sweeps (s : State) (j : Nat) (x : Job) : (s.setJob j x).sweeps = s.sweeps := rfl
@[simp] theorem State.setJob_frTables (s : State) (j : Nat) (x : Job) : (s.setJob j x).frTables = s.frTables := rfl
@[simp] theorem State.setJob_llTables (s : State) (j : Nat) (x : Job) : (s.setJob j x).llTables = s.llTables := rfl
@[simp] theorem State.setJob_moves (s : State) (j : Nat) (x : Job) : (s.setJob j x).moves = s.moves := rfl
@[simp] theorem State.setJob_perst (s : State) (j : Nat) (x : Job) : (s.setJob j x).perst = s.perst := rfl
@[simp] theorem State.setJob_moveWaits (s : State) (j : Nat) (x : Job) : (s.setJob j x).moveWaits = s.moveWaits := rfl
@[simp] theorem State.setJob_moveUses (s : State) (j : Nat) (x : Job) : (s.setJob j x).moveUses = s.moveUses := rfl
@[simp] theorem State.setJob_shareLog (s : State) (j : Nat) (x : Job) : (s.setJob j x).shareLog = s.shareLog := rfl
@[simp] theorem State.setJob_writeAborts (s : State) (j : Nat) (x : Job) : (s.setJob j x).writeAborts = s.writeAborts := rfl
@[simp] theorem State.setJob_epochs (s : State) (j : Nat) (x : Job) : (s.setJob j x).epochs = s.epochs := rfl
@[simp] theorem State.setJob_demoting (s : State) (j : Nat) (x : Job) : (s.setJob j x).demoting = s.demoting := rfl
@[simp] theorem State.setJob_stuck (s : State) (j : Nat) (x : Job) : (s.setJob j x).stuck = s.stuck := rfl
@[simp] theorem State.setJob_held (s : State) (j : Nat) (x : Job) : (s.setJob j x).held = s.held := rfl
@[simp] theorem State.setJob_cads (s : State) (j : Nat) (x : Job) : (s.setJob j x).cads = s.cads := rfl
@[simp] theorem State.setJob_sched (s : State) (j : Nat) (x : Job) : (s.setJob j x).sched = s.sched := rfl
@[simp] theorem State.setJob_markers (s : State) (j : Nat) (x : Job) : (s.setJob j x).markers = s.markers := rfl
@[simp] theorem State.setJob_pins (s : State) (j : Nat) (x : Job) : (s.setJob j x).pins = s.pins := rfl
@[simp] theorem State.setJob_tallies (s : State) (j : Nat) (x : Job) : (s.setJob j x).tallies = s.tallies := rfl
@[simp] theorem State.setJob_shareds (s : State) (j : Nat) (x : Job) : (s.setJob j x).shareds = s.shareds := rfl
@[simp] theorem State.setJob_insts (s : State) (j : Nat) (x : Job) : (s.setJob j x).insts = s.insts := rfl
@[simp] theorem State.setJob_headInst (s : State) (j : Nat) (x : Job) : (s.setJob j x).headInst = s.headInst := rfl
@[simp] theorem State.setJob_attaches (s : State) (j : Nat) (x : Job) : (s.setJob j x).attaches = s.attaches := rfl
@[simp] theorem State.setJob_results (s : State) (j : Nat) (x : Job) : (s.setJob j x).results = s.results := rfl
@[simp] theorem State.setJob_conflicts (s : State) (j : Nat) (x : Job) : (s.setJob j x).conflicts = s.conflicts := rfl
@[simp] theorem State.setJob_keys (s : State) (j : Nat) (x : Job) : (s.setJob j x).keys = s.keys := rfl
@[simp] theorem State.setJob_nextBinding (s : State) (j : Nat) (x : Job) : (s.setJob j x).nextBinding = s.nextBinding := rfl
@[simp] theorem State.setJob_drbgFailed (s : State) (j : Nat) (x : Job) : (s.setJob j x).drbgFailed = s.drbgFailed := rfl
@[simp] theorem State.setJob_drbgUses (s : State) (j : Nat) (x : Job) : (s.setJob j x).drbgUses = s.drbgUses := rfl
@[simp] theorem State.setJob_injects (s : State) (j : Nat) (x : Job) : (s.setJob j x).injects = s.injects := rfl
@[simp] theorem State.setJob_fw (s : State) (j : Nat) (x : Job) : (s.setJob j x).fw = s.fw := rfl
@[simp] theorem State.setJob_spdm (s : State) (j : Nat) (x : Job) : (s.setJob j x).spdm = s.spdm := rfl
@[simp] theorem State.setJob_clusters (s : State) (j : Nat) (x : Job) : (s.setJob j x).clusters = s.clusters := rfl
@[simp] theorem State.setJob_threads (s : State) (j : Nat) (x : Job) : (s.setJob j x).threads = s.threads := rfl
@[simp] theorem State.setJob_loads (s : State) (j : Nat) (x : Job) : (s.setJob j x).loads = s.loads := rfl
@[simp] theorem State.setJob_nextLoad (s : State) (j : Nat) (x : Job) : (s.setJob j x).nextLoad = s.nextLoad := rfl
@[simp] theorem State.setJob_mvReqs (s : State) (j : Nat) (x : Job) : (s.setJob j x).mvReqs = s.mvReqs := rfl
@[simp] theorem State.setJob_lds (s : State) (j : Nat) (x : Job) : (s.setJob j x).lds = s.lds := rfl
@[simp] theorem State.setJob_dmas (s : State) (j : Nat) (x : Job) : (s.setJob j x).dmas = s.dmas := rfl
@[simp] theorem State.setJob_nextDma (s : State) (j : Nat) (x : Job) : (s.setJob j x).nextDma = s.nextDma := rfl
@[simp] theorem State.setJob_legs (s : State) (j : Nat) (x : Job) : (s.setJob j x).legs = s.legs := rfl
@[simp] theorem State.setJob_sports (s : State) (j : Nat) (x : Job) : (s.setJob j x).sports = s.sports := rfl
@[simp] theorem State.setJob_span (s : State) (j : Nat) (x : Job) : (s.setJob j x).span = s.span := rfl
@[simp] theorem State.setJob_allDown (s : State) (j : Nat) (x : Job) : (s.setJob j x).allDown = s.allDown := rfl
@[simp] theorem State.setJob_chrysalis (s : State) (j : Nat) (x : Job) : (s.setJob j x).chrysalis = s.chrysalis := rfl
@[simp] theorem State.setJob_power (s : State) (j : Nat) (x : Job) : (s.setJob j x).power = s.power := rfl
@[simp] theorem State.setJob_poisons (s : State) (j : Nat) (x : Job) : (s.setJob j x).poisons = s.poisons := rfl
@[simp] theorem State.setJob_errLog (s : State) (j : Nat) (x : Job) : (s.setJob j x).errLog = s.errLog := rfl
@[simp] theorem State.setJob_errSeq (s : State) (j : Nat) (x : Job) : (s.setJob j x).errSeq = s.errSeq := rfl
@[simp] theorem State.setJob_errFull (s : State) (j : Nat) (x : Job) : (s.setJob j x).errFull = s.errFull := rfl
@[simp] theorem State.setJob_errHistory (s : State) (j : Nat) (x : Job) : (s.setJob j x).errHistory = s.errHistory := rfl
@[simp] theorem State.setJob_repairMap (s : State) (j : Nat) (x : Job) : (s.setJob j x).repairMap = s.repairMap := rfl
@[simp] theorem State.setJob_repairSeq (s : State) (j : Nat) (x : Job) : (s.setJob j x).repairSeq = s.repairSeq := rfl
@[simp] theorem State.setJob_contained (s : State) (j : Nat) (x : Job) : (s.setJob j x).contained = s.contained := rfl
@[simp] theorem State.setJob_faults (s : State) (j : Nat) (x : Job) : (s.setJob j x).faults = s.faults := rfl
@[simp] theorem State.setJob_lastRaised (s : State) (j : Nat) (x : Job) : (s.setJob j x).lastRaised = s.lastRaised := rfl
@[simp] theorem State.setJob_telem (s : State) (j : Nat) (x : Job) : (s.setJob j x).telem = s.telem := rfl
@[simp] theorem State.setJob_cores (s : State) (j : Nat) (x : Job) : (s.setJob j x).cores = s.cores := rfl

/-! ## setThread -/

@[simp] theorem State.setThread_pending (s : State) (t : Nat) (x : Thread) : (s.setThread t x).pending = s.pending := rfl
@[simp] theorem State.setThread_outbox (s : State) (t : Nat) (x : Thread) : (s.setThread t x).outbox = s.outbox := rfl
@[simp] theorem State.setThread_fresh (s : State) (t : Nat) (x : Thread) : (s.setThread t x).fresh = s.fresh := rfl
@[simp] theorem State.setThread_now (s : State) (t : Nat) (x : Thread) : (s.setThread t x).now = s.now := rfl
@[simp] theorem State.setThread_stage (s : State) (t : Nat) (x : Thread) : (s.setThread t x).stage = s.stage := rfl
@[simp] theorem State.setThread_profSel (s : State) (t : Nat) (x : Thread) : (s.setThread t x).profSel = s.profSel := rfl
@[simp] theorem State.setThread_nodeId (s : State) (t : Nat) (x : Thread) : (s.setThread t x).nodeId = s.nodeId := rfl
@[simp] theorem State.setThread_hrefclk (s : State) (t : Nat) (x : Thread) : (s.setThread t x).hrefclk = s.hrefclk := rfl
@[simp] theorem State.setThread_strefclk (s : State) (t : Nat) (x : Thread) : (s.setThread t x).strefclk = s.strefclk := rfl
@[simp] theorem State.setThread_farRefInternal (s : State) (t : Nat) (x : Thread) : (s.setThread t x).farRefInternal = s.farRefInternal := rfl
@[simp] theorem State.setThread_units (s : State) (t : Nat) (x : Thread) : (s.setThread t x).units = s.units := rfl
@[simp] theorem State.setThread_objs (s : State) (t : Nat) (x : Thread) : (s.setThread t x).objs = s.objs := rfl
@[simp] theorem State.setThread_blobs (s : State) (t : Nat) (x : Thread) : (s.setThread t x).blobs = s.blobs := rfl
@[simp] theorem State.setThread_sessions (s : State) (t : Nat) (x : Thread) : (s.setThread t x).sessions = s.sessions := rfl
@[simp] theorem State.setThread_nonces (s : State) (t : Nat) (x : Thread) : (s.setThread t x).nonces = s.nonces := rfl
@[simp] theorem State.setThread_heldMsgs (s : State) (t : Nat) (x : Thread) : (s.setThread t x).heldMsgs = s.heldMsgs := rfl
@[simp] theorem State.setThread_profiles (s : State) (t : Nat) (x : Thread) : (s.setThread t x).profiles = s.profiles := rfl
@[simp] theorem State.setThread_extents (s : State) (t : Nat) (x : Thread) : (s.setThread t x).extents = s.extents := rfl
@[simp] theorem State.setThread_tags (s : State) (t : Nat) (x : Thread) : (s.setThread t x).tags = s.tags := rfl
@[simp] theorem State.setThread_regions (s : State) (t : Nat) (x : Thread) : (s.setThread t x).regions = s.regions := rfl
@[simp] theorem State.setThread_tileMap (s : State) (t : Nat) (x : Thread) : (s.setThread t x).tileMap = s.tileMap := rfl
@[simp] theorem State.setThread_oldHomes (s : State) (t : Nat) (x : Thread) : (s.setThread t x).oldHomes = s.oldHomes := rfl
@[simp] theorem State.setThread_versions (s : State) (t : Nat) (x : Thread) : (s.setThread t x).versions = s.versions := rfl
@[simp] theorem State.setThread_nextVersion (s : State) (t : Nat) (x : Thread) : (s.setThread t x).nextVersion = s.nextVersion := rfl
@[simp] theorem State.setThread_mapCache (s : State) (t : Nat) (x : Thread) : (s.setThread t x).mapCache = s.mapCache := rfl
@[simp] theorem State.setThread_near (s : State) (t : Nat) (x : Thread) : (s.setThread t x).near = s.near := rfl
@[simp] theorem State.setThread_channels (s : State) (t : Nat) (x : Thread) : (s.setThread t x).channels = s.channels := rfl
@[simp] theorem State.setThread_segStates (s : State) (t : Nat) (x : Thread) : (s.setThread t x).segStates = s.segStates := rfl
@[simp] theorem State.setThread_trainedAt (s : State) (t : Nat) (x : Thread) : (s.setThread t x).trainedAt = s.trainedAt := rfl
@[simp] theorem State.setThread_caddy (s : State) (t : Nat) (x : Thread) : (s.setThread t x).caddy = s.caddy := rfl
@[simp] theorem State.setThread_caddyBad (s : State) (t : Nat) (x : Thread) : (s.setThread t x).caddyBad = s.caddyBad := rfl
@[simp] theorem State.setThread_caddyFailed (s : State) (t : Nat) (x : Thread) : (s.setThread t x).caddyFailed = s.caddyFailed := rfl
@[simp] theorem State.setThread_caddySoft (s : State) (t : Nat) (x : Thread) : (s.setThread t x).caddySoft = s.caddySoft := rfl
@[simp] theorem State.setThread_farPorts (s : State) (t : Nat) (x : Thread) : (s.setThread t x).farPorts = s.farPorts := rfl
@[simp] theorem State.setThread_farMem (s : State) (t : Nat) (x : Thread) : (s.setThread t x).farMem = s.farMem := rfl
@[simp] theorem State.setThread_segs (s : State) (t : Nat) (x : Thread) : (s.setThread t x).segs = s.segs := rfl
@[simp] theorem State.setThread_segSeq (s : State) (t : Nat) (x : Thread) : (s.setThread t x).segSeq = s.segSeq := rfl
@[simp] theorem State.setThread_farRecs (s : State) (t : Nat) (x : Thread) : (s.setThread t x).farRecs = s.farRecs := rfl
@[simp] theorem State.setThread_t3crcs (s : State) (t : Nat) (x : Thread) : (s.setThread t x).t3crcs = s.t3crcs := rfl
@[simp] theorem State.setThread_cleanCopies (s : State) (t : Nat) (x : Thread) : (s.setThread t x).cleanCopies = s.cleanCopies := rfl
@[simp] theorem State.setThread_nextCopy (s : State) (t : Nat) (x : Thread) : (s.setThread t x).nextCopy = s.nextCopy := rfl
@[simp] theorem State.setThread_accesses (s : State) (t : Nat) (x : Thread) : (s.setThread t x).accesses = s.accesses := rfl
@[simp] theorem State.setThread_nextAccess (s : State) (t : Nat) (x : Thread) : (s.setThread t x).nextAccess = s.nextAccess := rfl
@[simp] theorem State.setThread_sweeps (s : State) (t : Nat) (x : Thread) : (s.setThread t x).sweeps = s.sweeps := rfl
@[simp] theorem State.setThread_frTables (s : State) (t : Nat) (x : Thread) : (s.setThread t x).frTables = s.frTables := rfl
@[simp] theorem State.setThread_llTables (s : State) (t : Nat) (x : Thread) : (s.setThread t x).llTables = s.llTables := rfl
@[simp] theorem State.setThread_moves (s : State) (t : Nat) (x : Thread) : (s.setThread t x).moves = s.moves := rfl
@[simp] theorem State.setThread_perst (s : State) (t : Nat) (x : Thread) : (s.setThread t x).perst = s.perst := rfl
@[simp] theorem State.setThread_moveWaits (s : State) (t : Nat) (x : Thread) : (s.setThread t x).moveWaits = s.moveWaits := rfl
@[simp] theorem State.setThread_moveUses (s : State) (t : Nat) (x : Thread) : (s.setThread t x).moveUses = s.moveUses := rfl
@[simp] theorem State.setThread_shareLog (s : State) (t : Nat) (x : Thread) : (s.setThread t x).shareLog = s.shareLog := rfl
@[simp] theorem State.setThread_writeAborts (s : State) (t : Nat) (x : Thread) : (s.setThread t x).writeAborts = s.writeAborts := rfl
@[simp] theorem State.setThread_epochs (s : State) (t : Nat) (x : Thread) : (s.setThread t x).epochs = s.epochs := rfl
@[simp] theorem State.setThread_demoting (s : State) (t : Nat) (x : Thread) : (s.setThread t x).demoting = s.demoting := rfl
@[simp] theorem State.setThread_stuck (s : State) (t : Nat) (x : Thread) : (s.setThread t x).stuck = s.stuck := rfl
@[simp] theorem State.setThread_held (s : State) (t : Nat) (x : Thread) : (s.setThread t x).held = s.held := rfl
@[simp] theorem State.setThread_cads (s : State) (t : Nat) (x : Thread) : (s.setThread t x).cads = s.cads := rfl
@[simp] theorem State.setThread_sched (s : State) (t : Nat) (x : Thread) : (s.setThread t x).sched = s.sched := rfl
@[simp] theorem State.setThread_markers (s : State) (t : Nat) (x : Thread) : (s.setThread t x).markers = s.markers := rfl
@[simp] theorem State.setThread_pins (s : State) (t : Nat) (x : Thread) : (s.setThread t x).pins = s.pins := rfl
@[simp] theorem State.setThread_tallies (s : State) (t : Nat) (x : Thread) : (s.setThread t x).tallies = s.tallies := rfl
@[simp] theorem State.setThread_shareds (s : State) (t : Nat) (x : Thread) : (s.setThread t x).shareds = s.shareds := rfl
@[simp] theorem State.setThread_insts (s : State) (t : Nat) (x : Thread) : (s.setThread t x).insts = s.insts := rfl
@[simp] theorem State.setThread_headInst (s : State) (t : Nat) (x : Thread) : (s.setThread t x).headInst = s.headInst := rfl
@[simp] theorem State.setThread_attaches (s : State) (t : Nat) (x : Thread) : (s.setThread t x).attaches = s.attaches := rfl
@[simp] theorem State.setThread_results (s : State) (t : Nat) (x : Thread) : (s.setThread t x).results = s.results := rfl
@[simp] theorem State.setThread_conflicts (s : State) (t : Nat) (x : Thread) : (s.setThread t x).conflicts = s.conflicts := rfl
@[simp] theorem State.setThread_keys (s : State) (t : Nat) (x : Thread) : (s.setThread t x).keys = s.keys := rfl
@[simp] theorem State.setThread_nextBinding (s : State) (t : Nat) (x : Thread) : (s.setThread t x).nextBinding = s.nextBinding := rfl
@[simp] theorem State.setThread_drbgFailed (s : State) (t : Nat) (x : Thread) : (s.setThread t x).drbgFailed = s.drbgFailed := rfl
@[simp] theorem State.setThread_drbgUses (s : State) (t : Nat) (x : Thread) : (s.setThread t x).drbgUses = s.drbgUses := rfl
@[simp] theorem State.setThread_injects (s : State) (t : Nat) (x : Thread) : (s.setThread t x).injects = s.injects := rfl
@[simp] theorem State.setThread_fw (s : State) (t : Nat) (x : Thread) : (s.setThread t x).fw = s.fw := rfl
@[simp] theorem State.setThread_spdm (s : State) (t : Nat) (x : Thread) : (s.setThread t x).spdm = s.spdm := rfl
@[simp] theorem State.setThread_clusters (s : State) (t : Nat) (x : Thread) : (s.setThread t x).clusters = s.clusters := rfl
@[simp] theorem State.setThread_loads (s : State) (t : Nat) (x : Thread) : (s.setThread t x).loads = s.loads := rfl
@[simp] theorem State.setThread_nextLoad (s : State) (t : Nat) (x : Thread) : (s.setThread t x).nextLoad = s.nextLoad := rfl
@[simp] theorem State.setThread_mvReqs (s : State) (t : Nat) (x : Thread) : (s.setThread t x).mvReqs = s.mvReqs := rfl
@[simp] theorem State.setThread_jobs (s : State) (t : Nat) (x : Thread) : (s.setThread t x).jobs = s.jobs := rfl
@[simp] theorem State.setThread_lds (s : State) (t : Nat) (x : Thread) : (s.setThread t x).lds = s.lds := rfl
@[simp] theorem State.setThread_dmas (s : State) (t : Nat) (x : Thread) : (s.setThread t x).dmas = s.dmas := rfl
@[simp] theorem State.setThread_nextDma (s : State) (t : Nat) (x : Thread) : (s.setThread t x).nextDma = s.nextDma := rfl
@[simp] theorem State.setThread_legs (s : State) (t : Nat) (x : Thread) : (s.setThread t x).legs = s.legs := rfl
@[simp] theorem State.setThread_sports (s : State) (t : Nat) (x : Thread) : (s.setThread t x).sports = s.sports := rfl
@[simp] theorem State.setThread_span (s : State) (t : Nat) (x : Thread) : (s.setThread t x).span = s.span := rfl
@[simp] theorem State.setThread_allDown (s : State) (t : Nat) (x : Thread) : (s.setThread t x).allDown = s.allDown := rfl
@[simp] theorem State.setThread_chrysalis (s : State) (t : Nat) (x : Thread) : (s.setThread t x).chrysalis = s.chrysalis := rfl
@[simp] theorem State.setThread_power (s : State) (t : Nat) (x : Thread) : (s.setThread t x).power = s.power := rfl
@[simp] theorem State.setThread_poisons (s : State) (t : Nat) (x : Thread) : (s.setThread t x).poisons = s.poisons := rfl
@[simp] theorem State.setThread_errLog (s : State) (t : Nat) (x : Thread) : (s.setThread t x).errLog = s.errLog := rfl
@[simp] theorem State.setThread_errSeq (s : State) (t : Nat) (x : Thread) : (s.setThread t x).errSeq = s.errSeq := rfl
@[simp] theorem State.setThread_errFull (s : State) (t : Nat) (x : Thread) : (s.setThread t x).errFull = s.errFull := rfl
@[simp] theorem State.setThread_errHistory (s : State) (t : Nat) (x : Thread) : (s.setThread t x).errHistory = s.errHistory := rfl
@[simp] theorem State.setThread_repairMap (s : State) (t : Nat) (x : Thread) : (s.setThread t x).repairMap = s.repairMap := rfl
@[simp] theorem State.setThread_repairSeq (s : State) (t : Nat) (x : Thread) : (s.setThread t x).repairSeq = s.repairSeq := rfl
@[simp] theorem State.setThread_contained (s : State) (t : Nat) (x : Thread) : (s.setThread t x).contained = s.contained := rfl
@[simp] theorem State.setThread_faults (s : State) (t : Nat) (x : Thread) : (s.setThread t x).faults = s.faults := rfl
@[simp] theorem State.setThread_lastRaised (s : State) (t : Nat) (x : Thread) : (s.setThread t x).lastRaised = s.lastRaised := rfl
@[simp] theorem State.setThread_telem (s : State) (t : Nat) (x : Thread) : (s.setThread t x).telem = s.telem := rfl
@[simp] theorem State.setThread_cores (s : State) (t : Nat) (x : Thread) : (s.setThread t x).cores = s.cores := rfl

/-! ## tick -/

@[simp] theorem State.tick_pending (s : State) : s.tick.2.pending = s.pending := rfl
@[simp] theorem State.tick_outbox (s : State) : s.tick.2.outbox = s.outbox := rfl
@[simp] theorem State.tick_now (s : State) : s.tick.2.now = s.now := rfl
@[simp] theorem State.tick_stage (s : State) : s.tick.2.stage = s.stage := rfl
@[simp] theorem State.tick_profSel (s : State) : s.tick.2.profSel = s.profSel := rfl
@[simp] theorem State.tick_nodeId (s : State) : s.tick.2.nodeId = s.nodeId := rfl
@[simp] theorem State.tick_hrefclk (s : State) : s.tick.2.hrefclk = s.hrefclk := rfl
@[simp] theorem State.tick_strefclk (s : State) : s.tick.2.strefclk = s.strefclk := rfl
@[simp] theorem State.tick_farRefInternal (s : State) : s.tick.2.farRefInternal = s.farRefInternal := rfl
@[simp] theorem State.tick_units (s : State) : s.tick.2.units = s.units := rfl
@[simp] theorem State.tick_objs (s : State) : s.tick.2.objs = s.objs := rfl
@[simp] theorem State.tick_blobs (s : State) : s.tick.2.blobs = s.blobs := rfl
@[simp] theorem State.tick_sessions (s : State) : s.tick.2.sessions = s.sessions := rfl
@[simp] theorem State.tick_nonces (s : State) : s.tick.2.nonces = s.nonces := rfl
@[simp] theorem State.tick_heldMsgs (s : State) : s.tick.2.heldMsgs = s.heldMsgs := rfl
@[simp] theorem State.tick_profiles (s : State) : s.tick.2.profiles = s.profiles := rfl
@[simp] theorem State.tick_extents (s : State) : s.tick.2.extents = s.extents := rfl
@[simp] theorem State.tick_tags (s : State) : s.tick.2.tags = s.tags := rfl
@[simp] theorem State.tick_regions (s : State) : s.tick.2.regions = s.regions := rfl
@[simp] theorem State.tick_tileMap (s : State) : s.tick.2.tileMap = s.tileMap := rfl
@[simp] theorem State.tick_oldHomes (s : State) : s.tick.2.oldHomes = s.oldHomes := rfl
@[simp] theorem State.tick_versions (s : State) : s.tick.2.versions = s.versions := rfl
@[simp] theorem State.tick_nextVersion (s : State) : s.tick.2.nextVersion = s.nextVersion := rfl
@[simp] theorem State.tick_mapCache (s : State) : s.tick.2.mapCache = s.mapCache := rfl
@[simp] theorem State.tick_near (s : State) : s.tick.2.near = s.near := rfl
@[simp] theorem State.tick_channels (s : State) : s.tick.2.channels = s.channels := rfl
@[simp] theorem State.tick_segStates (s : State) : s.tick.2.segStates = s.segStates := rfl
@[simp] theorem State.tick_trainedAt (s : State) : s.tick.2.trainedAt = s.trainedAt := rfl
@[simp] theorem State.tick_caddy (s : State) : s.tick.2.caddy = s.caddy := rfl
@[simp] theorem State.tick_caddyBad (s : State) : s.tick.2.caddyBad = s.caddyBad := rfl
@[simp] theorem State.tick_caddyFailed (s : State) : s.tick.2.caddyFailed = s.caddyFailed := rfl
@[simp] theorem State.tick_caddySoft (s : State) : s.tick.2.caddySoft = s.caddySoft := rfl
@[simp] theorem State.tick_farPorts (s : State) : s.tick.2.farPorts = s.farPorts := rfl
@[simp] theorem State.tick_farMem (s : State) : s.tick.2.farMem = s.farMem := rfl
@[simp] theorem State.tick_segs (s : State) : s.tick.2.segs = s.segs := rfl
@[simp] theorem State.tick_segSeq (s : State) : s.tick.2.segSeq = s.segSeq := rfl
@[simp] theorem State.tick_farRecs (s : State) : s.tick.2.farRecs = s.farRecs := rfl
@[simp] theorem State.tick_t3crcs (s : State) : s.tick.2.t3crcs = s.t3crcs := rfl
@[simp] theorem State.tick_cleanCopies (s : State) : s.tick.2.cleanCopies = s.cleanCopies := rfl
@[simp] theorem State.tick_nextCopy (s : State) : s.tick.2.nextCopy = s.nextCopy := rfl
@[simp] theorem State.tick_accesses (s : State) : s.tick.2.accesses = s.accesses := rfl
@[simp] theorem State.tick_nextAccess (s : State) : s.tick.2.nextAccess = s.nextAccess := rfl
@[simp] theorem State.tick_sweeps (s : State) : s.tick.2.sweeps = s.sweeps := rfl
@[simp] theorem State.tick_frTables (s : State) : s.tick.2.frTables = s.frTables := rfl
@[simp] theorem State.tick_llTables (s : State) : s.tick.2.llTables = s.llTables := rfl
@[simp] theorem State.tick_moves (s : State) : s.tick.2.moves = s.moves := rfl
@[simp] theorem State.tick_perst (s : State) : s.tick.2.perst = s.perst := rfl
@[simp] theorem State.tick_moveWaits (s : State) : s.tick.2.moveWaits = s.moveWaits := rfl
@[simp] theorem State.tick_moveUses (s : State) : s.tick.2.moveUses = s.moveUses := rfl
@[simp] theorem State.tick_shareLog (s : State) : s.tick.2.shareLog = s.shareLog := rfl
@[simp] theorem State.tick_writeAborts (s : State) : s.tick.2.writeAborts = s.writeAborts := rfl
@[simp] theorem State.tick_epochs (s : State) : s.tick.2.epochs = s.epochs := rfl
@[simp] theorem State.tick_demoting (s : State) : s.tick.2.demoting = s.demoting := rfl
@[simp] theorem State.tick_stuck (s : State) : s.tick.2.stuck = s.stuck := rfl
@[simp] theorem State.tick_held (s : State) : s.tick.2.held = s.held := rfl
@[simp] theorem State.tick_cads (s : State) : s.tick.2.cads = s.cads := rfl
@[simp] theorem State.tick_sched (s : State) : s.tick.2.sched = s.sched := rfl
@[simp] theorem State.tick_markers (s : State) : s.tick.2.markers = s.markers := rfl
@[simp] theorem State.tick_pins (s : State) : s.tick.2.pins = s.pins := rfl
@[simp] theorem State.tick_tallies (s : State) : s.tick.2.tallies = s.tallies := rfl
@[simp] theorem State.tick_shareds (s : State) : s.tick.2.shareds = s.shareds := rfl
@[simp] theorem State.tick_insts (s : State) : s.tick.2.insts = s.insts := rfl
@[simp] theorem State.tick_headInst (s : State) : s.tick.2.headInst = s.headInst := rfl
@[simp] theorem State.tick_attaches (s : State) : s.tick.2.attaches = s.attaches := rfl
@[simp] theorem State.tick_results (s : State) : s.tick.2.results = s.results := rfl
@[simp] theorem State.tick_conflicts (s : State) : s.tick.2.conflicts = s.conflicts := rfl
@[simp] theorem State.tick_keys (s : State) : s.tick.2.keys = s.keys := rfl
@[simp] theorem State.tick_nextBinding (s : State) : s.tick.2.nextBinding = s.nextBinding := rfl
@[simp] theorem State.tick_drbgFailed (s : State) : s.tick.2.drbgFailed = s.drbgFailed := rfl
@[simp] theorem State.tick_drbgUses (s : State) : s.tick.2.drbgUses = s.drbgUses := rfl
@[simp] theorem State.tick_injects (s : State) : s.tick.2.injects = s.injects := rfl
@[simp] theorem State.tick_fw (s : State) : s.tick.2.fw = s.fw := rfl
@[simp] theorem State.tick_spdm (s : State) : s.tick.2.spdm = s.spdm := rfl
@[simp] theorem State.tick_clusters (s : State) : s.tick.2.clusters = s.clusters := rfl
@[simp] theorem State.tick_threads (s : State) : s.tick.2.threads = s.threads := rfl
@[simp] theorem State.tick_loads (s : State) : s.tick.2.loads = s.loads := rfl
@[simp] theorem State.tick_nextLoad (s : State) : s.tick.2.nextLoad = s.nextLoad := rfl
@[simp] theorem State.tick_mvReqs (s : State) : s.tick.2.mvReqs = s.mvReqs := rfl
@[simp] theorem State.tick_jobs (s : State) : s.tick.2.jobs = s.jobs := rfl
@[simp] theorem State.tick_lds (s : State) : s.tick.2.lds = s.lds := rfl
@[simp] theorem State.tick_dmas (s : State) : s.tick.2.dmas = s.dmas := rfl
@[simp] theorem State.tick_nextDma (s : State) : s.tick.2.nextDma = s.nextDma := rfl
@[simp] theorem State.tick_legs (s : State) : s.tick.2.legs = s.legs := rfl
@[simp] theorem State.tick_sports (s : State) : s.tick.2.sports = s.sports := rfl
@[simp] theorem State.tick_span (s : State) : s.tick.2.span = s.span := rfl
@[simp] theorem State.tick_allDown (s : State) : s.tick.2.allDown = s.allDown := rfl
@[simp] theorem State.tick_chrysalis (s : State) : s.tick.2.chrysalis = s.chrysalis := rfl
@[simp] theorem State.tick_power (s : State) : s.tick.2.power = s.power := rfl
@[simp] theorem State.tick_poisons (s : State) : s.tick.2.poisons = s.poisons := rfl
@[simp] theorem State.tick_errLog (s : State) : s.tick.2.errLog = s.errLog := rfl
@[simp] theorem State.tick_errSeq (s : State) : s.tick.2.errSeq = s.errSeq := rfl
@[simp] theorem State.tick_errFull (s : State) : s.tick.2.errFull = s.errFull := rfl
@[simp] theorem State.tick_errHistory (s : State) : s.tick.2.errHistory = s.errHistory := rfl
@[simp] theorem State.tick_repairMap (s : State) : s.tick.2.repairMap = s.repairMap := rfl
@[simp] theorem State.tick_repairSeq (s : State) : s.tick.2.repairSeq = s.repairSeq := rfl
@[simp] theorem State.tick_contained (s : State) : s.tick.2.contained = s.contained := rfl
@[simp] theorem State.tick_faults (s : State) : s.tick.2.faults = s.faults := rfl
@[simp] theorem State.tick_lastRaised (s : State) : s.tick.2.lastRaised = s.lastRaised := rfl
@[simp] theorem State.tick_telem (s : State) : s.tick.2.telem = s.telem := rfl
@[simp] theorem State.tick_cores (s : State) : s.tick.2.cores = s.cores := rfl

end Sys2Proof.Machine
end

