-- ==== Sys2Proof/Laws/Ops.lean ====
section
/-!
SUPPORT. What each shared operation can do, said once: the fields it may change. Everything else is as it was.
-/
namespace Sys2Proof.Machine

/-- A property that one step of a fold keeps holds after the fold. -/
theorem foldl_keeps {α β : Type} {P : β → Prop} {f : β → α → β} (h : ∀ b a, P b → P (f b a)) :
    ∀ (l : List α) (b : β), P b → P (l.foldl f b)
  | [], _, hb => hb
  | a :: l, b, hb => foldl_keeps h l (f b a) (h b a hb)

/-! ## Interrupts and logs: LDs and messages -/

/-- `t` differs from `s` in the LDs and the messages sent, at most. -/
def OnlyLds (s t : State) : Prop := ∃ L O, t = { s with lds := L, outbox := O }

theorem OnlyLds.refl (s : State) : OnlyLds s s := ⟨s.lds, s.outbox, rfl⟩
theorem OnlyLds.trans {s t u : State} : OnlyLds s t → OnlyLds t u → OnlyLds s u := by
  rintro ⟨L, O, rfl⟩ ⟨L', O', rfl⟩; exact ⟨L', O', rfl⟩
theorem OnlyLds.emit (s : State) (o : Out) : OnlyLds s (s.emit o) := ⟨s.lds, _, rfl⟩
theorem OnlyLds.setLd (s : State) (n : Nat) (l : Ld) : OnlyLds s (s.setLd n l) := ⟨_, s.outbox, rfl⟩

/-- INTx: the LDs and the messages. -/
theorem intxUpdate_only (s : State) (n : Nat) : OnlyLds s (s.intxUpdate n) := by
  unfold State.intxUpdate; dsimp only; split
  · exact .refl s
  · exact (OnlyLds.setLd _ _ _).trans (.emit _ _)

/-- A vector's message: the LDs and the messages. -/
theorem sendVector_only (s : State) (n k : Nat) : OnlyLds s (s.sendVector n k) := by
  unfold State.sendVector; dsimp only
  repeat' split
  all_goals first
    | exact OnlyLds.setLd _ _ _
    | exact OnlyLds.emit _ _
    | exact intxUpdate_only _ _

/-- A signalled vector: the LDs and the messages. -/
theorem signal_only (s : State) (n k : Nat) : OnlyLds s (s.signal n k) := (OnlyLds.setLd _ _ _).trans (sendVector_only _ _ _)

/-- A log record: the LDs and the messages. -/
theorem logRecord_only (s : State) (n log : Nat) (b : Bytes) : OnlyLds s (s.logRecord n log b) := by
  unfold State.logRecord; dsimp only
  split
  · exact (OnlyLds.setLd _ _ _).trans (signal_only _ _ _)
  · exact OnlyLds.setLd _ _ _

/-! ## Events -/

/-- `t` differs from `s` in what an event changes, at most: dictionary scalars, LDs, messages, the event log. -/
def OnlyEvents (s t : State) : Prop := ∃ B L O T, t = { s with objs := B, lds := L, outbox := O, telem := T }

theorem OnlyLds.events {s t : State} : OnlyLds s t → OnlyEvents s t := by rintro ⟨L, O, rfl⟩; exact ⟨s.objs, L, O, s.telem, rfl⟩
theorem OnlyEvents.refl (s : State) : OnlyEvents s s := ⟨s.objs, s.lds, s.outbox, s.telem, rfl⟩
theorem OnlyEvents.trans {s t u : State} : OnlyEvents s t → OnlyEvents t u → OnlyEvents s u := by
  rintro ⟨B, L, O, T, rfl⟩ ⟨B', L', O', T', rfl⟩; exact ⟨B', L', O', T', rfl⟩
theorem OnlyEvents.setObj (s : State) (u o m v : Nat) : OnlyEvents s (s.setObj u o m v) := ⟨_, s.lds, s.outbox, s.telem, rfl⟩
theorem OnlyEvents.bump (s : State) (u o n : Nat) : OnlyEvents s (s.bump u o n) := ⟨_, s.lds, s.outbox, s.telem, rfl⟩

/-- An event. -/
theorem raiseFor_only (s : State) (l : List Nat) (u c d : Nat) : OnlyEvents s (s.raiseFor l u c d) := by
  unfold State.raiseFor
  dsimp only
  refine OnlyEvents.trans (foldl_keeps (P := OnlyEvents s) ?_ _ _ (foldl_keeps (P := OnlyEvents s) ?_ _ _ ?_)) ⟨_, _, _, _, rfl⟩
  · exact fun t n h => h.trans (logRecord_only _ _ _ _).events
  · exact fun t z h => h.trans (OnlyLds.emit _ _).events
  · exact ((OnlyEvents.setObj _ _ _ _ _).trans (.setObj _ _ _ _ _)).trans ((OnlyEvents.setObj _ _ _ _ _).trans (.setObj _ _ _ _ _))

/-- An event that names no owned object. -/
theorem raise_only (s : State) (u c d : Nat) : OnlyEvents s (s.raise u c d) := raiseFor_only s [] u c d

/-- An event at most once per 100 ms. -/
theorem raiseLimited_only (s : State) (k u c d : Nat) :
    ∃ B L O T R, s.raiseLimited k u c d = { s with objs := B, lds := L, outbox := O, telem := T, lastRaised := R } := by
  have h (b : Bool) : ∃ B L O T R, (if b then { s.raise u c d with lastRaised := tabSet s.lastRaised k s.now } else s)
      = { s with objs := B, lds := L, outbox := O, telem := T, lastRaised := R } := by
    cases b
    · exact ⟨s.objs, s.lds, s.outbox, s.telem, s.lastRaised, rfl⟩
    · obtain ⟨B, L, O, T, h⟩ := raise_only s u c d
      exact ⟨B, L, O, T, tabSet s.lastRaised k s.now, by rw [if_pos rfl, h]⟩
  exact h _

/-! ## Unit states -/

/-- `t` differs from `s` in what a unit's state changes, at most: units, injection, and what an event changes. -/
def OnlyUnits (s t : State) : Prop := ∃ U J B L O T, t = { s with units := U, injects := J, objs := B, lds := L, outbox := O, telem := T }

theorem OnlyEvents.units {s t : State} : OnlyEvents s t → OnlyUnits s t := by
  rintro ⟨B, L, O, T, rfl⟩; exact ⟨s.units, s.injects, B, L, O, T, rfl⟩
theorem OnlyUnits.refl (s : State) : OnlyUnits s s := ⟨s.units, s.injects, s.objs, s.lds, s.outbox, s.telem, rfl⟩
theorem OnlyUnits.trans {s t u : State} : OnlyUnits s t → OnlyUnits t u → OnlyUnits s u := by
  rintro ⟨U, J, B, L, O, T, rfl⟩ ⟨U', J', B', L', O', T', rfl⟩; exact ⟨U', J', B', L', O', T', rfl⟩
theorem OnlyUnits.setUnit (s : State) (u : Nat) (x : UnitSt) : OnlyUnits s (s.setUnit u x) :=
  ⟨_, s.injects, s.objs, s.lds, s.outbox, s.telem, rfl⟩

/-- Injection disarmed. -/
theorem disarm_only (s : State) (c u : Nat) : OnlyUnits s (s.disarm c u) := by
  unfold State.disarm
  split
  · split
    · refine OnlyUnits.trans ?_ (raise_only _ _ _ _).units
      exact ⟨s.units, _, _, s.lds, s.outbox, s.telem, rfl⟩
    · exact .refl s
  · exact .refl s

/-- A consent gone. -/
theorem consentGone_only (s : State) : OnlyUnits s s.consentGone :=
  foldl_keeps (P := OnlyUnits s) (fun _ _ h => h.trans (disarm_only _ _ _)) _ _ (.refl s)

/-- A unit shown. -/
theorem showUnit_only (s : State) (u : Nat) : OnlyUnits s (s.showUnit u) := by
  unfold State.showUnit; dsimp only
  split
  · exact .refl s
  · refine OnlyUnits.trans ?_ (raise_only _ _ _ _).units
    have h : OnlyUnits s ((s.setUnit u { s.unit u with shown := s.actual u, time := s.now }).bump u 0x15 1) :=
      (OnlyUnits.setUnit _ _ _).trans (OnlyEvents.bump _ _ _ _).units
    split
    · exact h.trans (disarm_only _ _ _)
    · exact h

/-- The divergence clock. -/
theorem clockUpdate_only (s : State) (u : Nat) (r : Bool) : OnlyUnits s (s.clockUpdate u r) := by
  unfold State.clockUpdate; dsimp only
  repeat' split
  all_goals first
    | exact .refl s
    | exact OnlyUnits.setUnit _ _ _
    | exact (OnlyUnits.setUnit _ _ _).trans (raise_only _ _ _ _).units

/-- A unit's own state set. -/
theorem setOwn_only (s : State) (u v r : Nat) : OnlyUnits s (s.setOwn u v r) := by
  unfold State.setOwn; dsimp only
  refine OnlyUnits.trans (foldl_keeps (P := OnlyUnits s) (fun _ _ h => h.trans (showUnit_only _ _)) _ _ ?_) (clockUpdate_only _ _ _)
  exact OnlyUnits.setUnit _ _ _

/-! ## Packets, triggers, FAULT_N -/

/-- `t` differs from `s` in the stream ports, the counters and the messages, at most. -/
def OnlyPorts (s t : State) : Prop := ∃ P B O, t = { s with sports := P, objs := B, outbox := O }

theorem OnlyPorts.refl (s : State) : OnlyPorts s s := ⟨s.sports, s.objs, s.outbox, rfl⟩
theorem OnlyPorts.trans {s t u : State} : OnlyPorts s t → OnlyPorts t u → OnlyPorts s u := by
  rintro ⟨P, B, O, rfl⟩ ⟨P', B', O', rfl⟩; exact ⟨P', B', O', rfl⟩

/-- A packet sent by a port. -/
theorem portSend_only (s : State) (p : Nat) (b : Bytes) : OnlyPorts s (s.portSend p b) := by
  unfold State.portSend; dsimp only
  split
  · exact ⟨_, s.objs, s.outbox, rfl⟩
  · exact ⟨_, _, _, rfl⟩

/-- A packet sent to a member. -/
theorem sendPacket_only (s : State) (m k vl p st tag a b : Nat) (d : Bytes) : OnlyPorts s (s.sendPacket m k vl p st tag a b d) := by
  unfold State.sendPacket State.route
  split
  · exact portSend_only _ _ _
  · exact .refl s

/-- `t` differs from `s` in what a trigger changes, at most: the ports, counters, messages, telemetry. -/
def OnlyTrigger (s t : State) : Prop := ∃ P B O T, t = { s with sports := P, objs := B, outbox := O, telem := T }

theorem OnlyTrigger.refl (s : State) : OnlyTrigger s s := ⟨s.sports, s.objs, s.outbox, s.telem, rfl⟩
theorem OnlyTrigger.trans {s t u : State} : OnlyTrigger s t → OnlyTrigger t u → OnlyTrigger s u := by
  rintro ⟨P, B, O, T, rfl⟩ ⟨P', B', O', T', rfl⟩; exact ⟨P', B', O', T', rfl⟩
theorem OnlyPorts.trigger {s t : State} : OnlyPorts s t → OnlyTrigger s t := by rintro ⟨P, B, O, rfl⟩; exact ⟨P, B, O, s.telem, rfl⟩

/-- A freeze trigger. -/
theorem freezeTrigger_only (s : State) (b : Nat) : OnlyTrigger s (s.freezeTrigger b) := by
  unfold State.freezeTrigger; dsimp only
  split
  · exact .refl s
  · split
    · exact ⟨s.sports, _, s.outbox, s.telem, rfl⟩
    · split
      · exact ⟨s.sports, s.objs, s.outbox, _, rfl⟩
      · split
        · exact ⟨s.sports, s.objs, s.outbox, _, rfl⟩
        · refine foldl_keeps (P := OnlyTrigger s) (fun _ _ h => h.trans (sendPacket_only _ _ _ _ _ _ _ _ _ _).trigger) _ _ ?_
          exact ⟨s.sports, s.objs, s.outbox, _, rfl⟩

/-- A snapshot trigger. -/
theorem snapTrigger_only (s : State) (b : Nat) : OnlyTrigger s (s.snapTrigger b) := by
  unfold State.snapTrigger; dsimp only
  split
  · exact .refl s
  · split
    · exact ⟨s.sports, s.objs, s.outbox, _, rfl⟩
    · refine foldl_keeps (P := OnlyTrigger s) (fun _ _ h => h.trans (sendPacket_only _ _ _ _ _ _ _ _ _ _).trigger) _ _ ?_
      exact ⟨s.sports, s.objs, s.outbox, _, rfl⟩

/-- FAULT_N asserted for a cause: the cause bit is set, and the rest is what triggers change. -/
theorem assertFault_only (s : State) (c : Nat) :
    ∃ P B O T, s.assertFault c = { s with faults := setBit s.faults c true, sports := P, objs := B, outbox := O, telem := T } := by
  unfold State.assertFault; dsimp only
  split
  · obtain ⟨P, B, O, T, h⟩ := (freezeTrigger_only { s with faults := setBit s.faults c true } 1).trans (snapTrigger_only _ 1)
    exact ⟨P, B, O, T, h⟩
  · exact ⟨s.sports, s.objs, s.outbox, s.telem, rfl⟩

/-- Injection at a link unit: its generator and counts. -/
theorem injectUnit_only (s : State) (u : Nat) : ∃ J B, (s.injectUnit u).2 = { s with injects := J, objs := B } := by
  unfold State.injectUnit
  split
  · exact ⟨s.injects, s.objs, rfl⟩
  · split
    · exact ⟨s.injects, s.objs, rfl⟩
    · dsimp only
      repeat' split
      all_goals first
        | exact ⟨_, s.objs, rfl⟩
        | exact ⟨_, _, rfl⟩

/-! ## Every command -/

/-- A command that ends with `finish` answers a next state whose queue and clock are those it began with. -/
theorem finish_next (s t : State) : finish s t = .next { t with pending := s.pending, now := s.now } := rfl

end Sys2Proof.Machine
end

