-- ==== Sys2Proof/Laws/Dictionary.lean ====
section
/-!
SUPPORT. What the dictionary server reads of the messages the commands stand for, and that a request it admits is served.
-/
namespace Sys2Proof.Machine

/-- A request body, its parts grouped to the right. -/
theorem requestBody_eq (u o m off len : Nat) (g : Option Nat) (d : Bytes) :
    requestBody u o m off len g d = leBytes 2 u ++ (leBytes 2 o ++ (leBytes 1 m ++ (zeros 1 ++ (leBytes 4 off ++ (leBytes 2 len
      ++ ((match g with | some g => leBytes 4 g | none => []) ++ d)))))) := by
  cases g <;> simp [requestBody, List.append_assoc]

/-- A message, its parts grouped to the right. -/
theorem messageBytes_eq (ty z q m : Nat) (b : Bytes) :
    messageBytes ty z q m b = leBytes 2 0xAF0D ++ (leBytes 1 1 ++ (leBytes 1 ty ++ (leBytes 4 z ++ (leBytes 4 q ++ (leBytes 1 m
      ++ (zeros 1 ++ (leBytes 2 b.length ++ b))))))) := by
  simp [messageBytes, List.append_assoc]

section
variable (ty z q m : Nat) (b : Bytes)

theorem messageBytes_length : (messageBytes ty z q m b).length = 16 + b.length := by simp [messageBytes]; omega

theorem messageBytes_magic (c : Bytes) : field (messageBytes ty z q m b ++ c) 0 2 = 0xAF0D := by
  rw [messageBytes_eq]; simpa using field_append [] _ 0 2 0xAF0D rfl (by norm_num)

theorem messageBytes_version (c : Bytes) : field (messageBytes ty z q m b ++ c) 2 1 = 1 := by
  rw [messageBytes_eq]; simpa [List.append_assoc] using field_append (leBytes 2 0xAF0D) _ 2 1 1 (by simp) (by norm_num)

theorem messageBytes_ty (c : Bytes) (h : ty < 256) : field (messageBytes ty z q m b ++ c) 3 1 = ty := by
  rw [messageBytes_eq]; simpa [List.append_assoc] using field_append (leBytes 2 0xAF0D ++ leBytes 1 1) _ 3 1 ty (by simp) h

theorem messageBytes_session (c : Bytes) (h : z < 2 ^ 32) : field (messageBytes ty z q m b ++ c) 4 4 = z := by
  rw [messageBytes_eq]
  simpa [List.append_assoc] using field_append (leBytes 2 0xAF0D ++ leBytes 1 1 ++ leBytes 1 ty) _ 4 4 z (by simp) (by norm_num; omega)

theorem messageBytes_seq (c : Bytes) (h : q < 2 ^ 32) : field (messageBytes ty z q m b ++ c) 8 4 = q := by
  rw [messageBytes_eq]
  simpa [List.append_assoc] using
    field_append (leBytes 2 0xAF0D ++ leBytes 1 1 ++ leBytes 1 ty ++ leBytes 4 z) _ 8 4 q (by simp) (by norm_num; omega)

theorem messageBytes_member (c : Bytes) (h : m < 256) : field (messageBytes ty z q m b ++ c) 12 1 = m := by
  rw [messageBytes_eq]
  simpa [List.append_assoc] using
    field_append (leBytes 2 0xAF0D ++ leBytes 1 1 ++ leBytes 1 ty ++ leBytes 4 z ++ leBytes 4 q) _ 12 1 m (by simp) h

theorem messageBytes_flags (c : Bytes) : field (messageBytes ty z q m b ++ c) 13 1 = 0 := by
  rw [messageBytes_eq, show zeros 1 = leBytes 1 0 from rfl]
  simpa [List.append_assoc] using
    field_append (leBytes 2 0xAF0D ++ leBytes 1 1 ++ leBytes 1 ty ++ leBytes 4 z ++ leBytes 4 q ++ leBytes 1 m) _ 13 1 0 (by simp) (by norm_num)

theorem messageBytes_len (c : Bytes) (h : b.length ≤ 1024) : field (messageBytes ty z q m b ++ c) 14 2 = b.length := by
  rw [messageBytes_eq]
  simpa [List.append_assoc] using
    field_append (leBytes 2 0xAF0D ++ leBytes 1 1 ++ leBytes 1 ty ++ leBytes 4 z ++ leBytes 4 q ++ leBytes 1 m ++ zeros 1)
      _ 14 2 b.length (by simp) (by norm_num; omega)

theorem messageBytes_body (c : Bytes) : slice (messageBytes ty z q m b ++ c) 16 b.length = b := by
  have e : messageBytes ty z q m b ++ c = (leBytes 2 0xAF0D ++ leBytes 1 1 ++ leBytes 1 ty ++ leBytes 4 z ++ leBytes 4 q ++ leBytes 1 m
      ++ zeros 1 ++ leBytes 2 b.length) ++ (b ++ c) := by simp [messageBytes, List.append_assoc]
  rw [e, slice_append_right _ _ _ _ (by simp)]
  simpa using slice_append_whole b c

end

/-- What a message reads as. -/
theorem msgOf_messageBytes (ty z q m : Nat) (b c : Bytes) (h1 : ty < 256) (h2 : z < 2 ^ 32) (h3 : q < 2 ^ 32) (h4 : m < 256)
    (h5 : b.length ≤ 1024) :
    msgOf (messageBytes ty z q m b ++ c) =
      { version := 1, ty := ty, session := z, seqNo := q, member := m, flags := 0, body := b
        head := slice (messageBytes ty z q m b ++ c) 0 16 } := by
  simp only [msgOf, messageBytes_version, messageBytes_ty _ _ _ _ _ _ h1, messageBytes_session _ _ _ _ _ _ h2,
    messageBytes_seq _ _ _ _ _ _ h3, messageBytes_member _ _ _ _ _ _ h4, messageBytes_flags, messageBytes_len _ _ _ _ _ _ h5,
    messageBytes_body]

/-- A message fits. -/
theorem msgFits_messageBytes (ty z q m : Nat) (b c : Bytes) (more : Nat) (h5 : b.length ≤ 1024) (hc : more ≤ c.length) :
    msgFits (messageBytes ty z q m b ++ c) more = true := by
  simp only [msgFits, messageBytes_len _ _ _ _ _ _ h5, messageBytes_magic, List.length_append, messageBytes_length]
  simp; omega

section
variable (u o m off len : Nat) (g : Option Nat) (d : Bytes)

theorem requestBody_length : (requestBody u o m off len g d).length = (if g.isSome then 16 else 12) + d.length := by
  cases g <;> simp [requestBody] <;> omega

theorem requestBody_unit (h : u < 2 ^ 16) : field (requestBody u o m off len g d) 0 2 = u := by
  rw [requestBody_eq]; simpa using field_append [] _ 0 2 u rfl (by norm_num; omega)

theorem requestBody_obj (h : o < 2 ^ 16) : field (requestBody u o m off len g d) 2 2 = o := by
  rw [requestBody_eq]; simpa using field_append (leBytes 2 u) _ 2 2 o (by simp) (by norm_num; omega)

theorem requestBody_mem (h : m < 256) : field (requestBody u o m off len g d) 4 1 = m := by
  rw [requestBody_eq]; simpa [List.append_assoc] using field_append (leBytes 2 u ++ leBytes 2 o) _ 4 1 m (by simp) (by norm_num; omega)

theorem requestBody_off (h : off < 2 ^ 32) : field (requestBody u o m off len g d) 6 4 = off := by
  rw [requestBody_eq]
  simpa [List.append_assoc] using
    field_append (leBytes 2 u ++ leBytes 2 o ++ leBytes 1 m ++ zeros 1) _ 6 4 off (by simp) (by norm_num; omega)

theorem requestBody_len (h : len < 2 ^ 16) : field (requestBody u o m off len g d) 10 2 = len := by
  rw [requestBody_eq]
  simpa [List.append_assoc] using
    field_append (leBytes 2 u ++ leBytes 2 o ++ leBytes 1 m ++ zeros 1 ++ leBytes 4 off) _ 10 2 len (by simp) (by norm_num; omega)

theorem requestBody_gen (n : Nat) (h : n < 2 ^ 32) : field (requestBody u o m off len (some n) d) 12 4 = n := by
  rw [requestBody_eq]
  simpa [List.append_assoc] using
    field_append (leBytes 2 u ++ leBytes 2 o ++ leBytes 1 m ++ zeros 1 ++ leBytes 4 off ++ leBytes 2 len) _ 12 4 n (by simp)
      (by norm_num; omega)

theorem requestBody_data : (requestBody u o m off len g d).drop (if g.isSome then 16 else 12) = d := by
  cases g with
  | none =>
    have e : requestBody u o m off len none d = (leBytes 2 u ++ leBytes 2 o ++ leBytes 1 m ++ zeros 1 ++ leBytes 4 off ++ leBytes 2 len) ++ d := by
      simp [requestBody]
    rw [e]; exact List.drop_left' (by simp)
  | some n =>
    have e : requestBody u o m off len (some n) d
        = (leBytes 2 u ++ leBytes 2 o ++ leBytes 1 m ++ zeros 1 ++ leBytes 4 off ++ leBytes 2 len ++ leBytes 4 n) ++ d := by
      simp [requestBody]
    rw [e]; exact List.drop_left' (by simp)

end

/-! ## Requests that are served -/

/-- Noting a request twice notes it once. -/
theorem setSession_setSession (s : State) (x y : Session) (h : x.id = y.id) : (s.setSession x).setSession y = s.setSession y := by
  simp only [State.setSession, List.map_map]
  congr 1
  apply List.map_congr_left
  intro z _
  simp only [Function.comp]
  by_cases hz : z.id = x.id
  · rw [if_pos hz, if_pos h, if_pos (hz.trans h)]
  · rw [if_neg hz]

/-- A request that is admitted is served, and its answer goes out. -/
theorem bring_admitted {s : State} {r : Req} {ty : Nat} {body : Bytes} {w : Sender} (ok1 ok2 : Bool)
    (hty : ty = 0x10 ∨ ty = 0x11 ∨ ty = 0x12 ∨ ty = 0x30 ∨ ty = 0x31) (h : Admits s r ty body w) :
    s.bring r ty body ok1 ok2 = (((s.taking r).serveHere w r.path ty body ok1 ok2).reply r.path ty) := by
  obtain ⟨hc, hl, hm, hp⟩ := h
  have h256 : ty < 256 := by omega
  have hmem : r.member.toNat < 256 := r.member.isLt
  have hmsg (z q : Nat) (c : Bytes) (hz : z < 2 ^ 32) (hq : q < 2 ^ 32) :=
    msgOf_messageBytes ty z q r.member.toNat body c h256 hz hq hmem hl
  have hreq : requestTypes.contains ty = true := by rcases hty with rfl | rfl | rfl | rfl | rfl <;> decide
  have h3 : ¬ ty ≤ 3 := by omega
  have hband (t : State) (w : Sender) (p : Path) (hh : t.isHere r.member.toNat = true) :
      t.takenInBand w p (msgOf (messageBytes ty 0 0 r.member.toNat body)) ok1 ok2 = ((t.serveHere w p ty body ok1 ok2).reply p ty) := by
    have := hmsg 0 0 [] (by norm_num) (by norm_num)
    rw [List.append_nil] at this
    simp [State.takenInBand, this, h3, hty, requestTypes, State.serve, hh]
  have hfit := msgFits_messageBytes ty 0 0 r.member.toNat body [] 0 hl (by simp)
  have hlen : field (messageBytes ty 0 0 r.member.toNat body ++ []) 14 2 = body.length := messageBytes_len _ _ _ _ _ _ hl
  rw [List.append_nil] at hfit hlen
  rcases r with ⟨path, member, gen⟩
  cases path with
  | fmLd =>
    obtain ⟨h1, rfl⟩ := hp
    simp only [State.bring, State.byFmLd, State.taking] at *
    rw [if_neg (by simp [h1]), if_neg (by simp [hc]), if_neg (by simp [hfit, hlen, messageBytes_length]), hband _ _ _ hm]
  | mailbox ld =>
    obtain ⟨h1, h2, h4, rfl⟩ := hp
    simp only [State.bring, State.inBand, State.taking] at *
    rw [if_neg (by simp [h1, h2, hc]), if_neg (by simp [h4]), if_neg (by simp [hfit, hlen, messageBytes_length]), hband _ _ _ hm]
  | member _ _ => exact hp.elim
  | mgmt z q tag =>
    obtain ⟨h1, h2, hi, hr, x, hx, rfl, htl, hmac, hq, hd⟩ := hp
    have hn : ¬ (ty = 1 ∨ ty = 2) := by omega
    have hz := z.isLt
    have hqq := q.isLt
    have hmg := hmsg z.toNat q.toNat tag hz hqq
    have hid : x.id = z.toNat := by simpa using List.find?_some hx
    simp only [State.bring, State.arrive]
    rw [if_neg (by simp [h1, h2, hc]), if_neg hn]
    have hcores : (s.injectUnit 0xE00).2.cores = s.cores := by
      obtain ⟨J, B, h⟩ := injectUnit_only s 0xE00
      rw [h]
    generalize hs' : s.injectUnit 0xE00 = i at *
    obtain ⟨mode, s'⟩ := i
    have hcores' : s'.cores = s.cores := hcores
    have hnow (y : Session) : (s'.setSession y).now = s'.now := rfl
    have hinj : s'.coreRestarts = false := by
      simpa [State.coreRestarts, State.ctl, hcores'] using hr
    simp only at hi hx
    subst hi
    rw [if_neg (by norm_num), if_neg (by norm_num), if_neg (by simp [hinj])]
    have hfit2 := msgFits_messageBytes ty z.toNat q.toNat member.toNat body tag 32 hl (by omega)
    have htake : (messageBytes ty z.toNat q.toNat member.toNat body ++ tag).take (16 + body.length)
        = messageBytes ty z.toNat q.toNat member.toNat body := by
      rw [List.take_append_of_le_length (by rw [messageBytes_length])]
      exact List.take_of_length_le (by rw [messageBytes_length])
    have hslice : slice (messageBytes ty z.toNat q.toNat member.toNat body ++ tag) (16 + body.length) 32 = tag := by
      rw [slice_append_right _ _ _ _ (by rw [messageBytes_length]), messageBytes_length, Nat.sub_self]
      exact slice_all _ _ htl.symm
    have hb1 : (ty != 1 && ty != 2) = true := by simp; omega
    simp only [State.frame, hmg, hb1, if_true, hfit2, hslice, htake, hx, hmac, Bool.not_true, Bool.false_eq_true, if_false]
    simp only [State.taken]
    rw [if_neg (by simp), if_neg (by simp [requestTypes]; omega), if_neg (by simpa using hn)]
    simp only [State.sessionRequest]
    rw [if_neg (by omega), hd]
    have h3' : ¬ ty = 3 := by omega
    simp only [h3', if_false]
    simp only [hnow]
    rw [setSession_setSession s' { x with heard := s'.now }
      { x with heard := s'.now, high := Nat.max x.high q.toNat, done := x.done ++ [(q.toNat, [])] } rfl]
    have htk : s.taking ⟨Path.mgmt z q tag, member, gen⟩
        = s'.setSession { x with heard := s'.now, high := Nat.max x.high q.toNat, done := x.done ++ [(q.toNat, [])] } := by
      simp only [State.taking, hs', hx]
    rw [htk] at hm ⊢
    simp only [State.serve]
    rw [if_pos hm]
    simp

/-- A granted write runs, and is answered: OK and its effect, passed on where it fans out of the span unit, or the status of the
object's own checks. -/
theorem sendWrite_granted_any {s : State} {r : Req} {u o m off : Nat} {data : Bytes} {w : Sender} {row : Row}
    (h : Grants s r u o m off data w row) (hu : u < 2 ^ 16) (ho : o < 2 ^ 16) (hm : m < 2 ^ 8) (hf : off < 2 ^ 32) :
    s.sendWrite r u o m off data =
      match (s.taking r).objWrite w u o m off row data with
      | .error c => (s.taking r).answer r.path (writeType r) c []
      | .ok t =>
        let t := if u = 1 ∧ fansOut o = true then t.fanToMembers w o m data else t
        if mayDefer u o data ∧ t.span.creates.length > (s.taking r).span.creates.length then t.deferTo r.path (writeType r) else t.written r := by
  obtain ⟨ha, hacc, hg⟩ := h
  have hlen : data.length < 2 ^ 16 := by
    have := ha.2.1
    rw [writeBody, requestBody_length] at this
    split at this <;> omega
  have hty : writeType r = 0x11 ∨ writeType r = 0x12 := by unfold writeType; split <;> simp
  have hb := bring_admitted true true (by tauto) ha
  have hfix : (if writeType r = 0x12 then 16 else 12) = (if (r.gen.map (·.toNat)).isSome then 16 else 12) := by
    unfold writeType; cases r.gen <;> simp
  have hgen : ¬ (writeType r = 0x12 ∧ field (writeBody r u o m off data) 12 4 ≠ (s.taking r).obj u 3 0) := by
    rintro ⟨h1, h2⟩
    cases hr : r.gen with
    | none => simp [writeType, hr] at h1
    | some g =>
      apply h2
      rw [← hg g hr, writeBody, hr]
      exact requestBody_gen _ _ _ _ _ _ _ g.isLt
  have hserve : (s.taking r).serveHere w r.path (writeType r) (writeBody r u o m off data) true true
      = (s.taking r).serveWrite' w r.path (writeType r) (writeBody r u o m off data) := by
    unfold State.serveHere
    rw [if_neg (by omega), if_pos hty]
  have e : s.sendWrite r u o m off data = s.bring r (writeType r) (writeBody r u o m off data) true true := rfl
  rw [e, hb, hserve]
  unfold State.serveWrite'
  simp only [hfix]
  rw [show field (writeBody r u o m off data) 0 2 = u from requestBody_unit _ _ _ _ _ _ _ hu,
    show field (writeBody r u o m off data) 2 2 = o from requestBody_obj _ _ _ _ _ _ _ ho,
    show field (writeBody r u o m off data) 4 1 = m from requestBody_mem _ _ _ _ _ _ _ hm,
    show field (writeBody r u o m off data) 6 4 = off from requestBody_off _ _ _ _ _ _ _ hf,
    show field (writeBody r u o m off data) 10 2 = data.length from requestBody_len _ _ _ _ _ _ _ hlen,
    show (writeBody r u o m off data).drop (if (r.gen.map (·.toNat)).isSome then 16 else 12) = data from requestBody_data _ _ _ _ _ _ _,
    if_neg (by rw [writeBody, requestBody_length]; omega)]
  simp only [decide_true, hacc, hgen, if_false]
  cases (s.taking r).objWrite w u o m off row data with
  | error c => simp [refusal, Served.reply]
  | ok t =>
    dsimp only
    generalize (if u = 1 ∧ fansOut o = true then State.fanToMembers t w o m data else t) = v
    split_ifs <;> simp [Served.reply, State.written]

/-- A granted write, but of the span unit, runs, and is answered: OK and its effect, or the status of the object's own checks. -/
theorem sendWrite_granted {s : State} {r : Req} {u o m off : Nat} {data : Bytes} {w : Sender} {row : Row}
    (h : Grants s r u o m off data w row) (hu : u < 2 ^ 16) (hu1 : u ≠ 1) (ho : o < 2 ^ 16) (hm : m < 2 ^ 8) (hf : off < 2 ^ 32) :
    s.sendWrite r u o m off data =
      match (s.taking r).objWrite w u o m off row data with
      | .error c => (s.taking r).answer r.path (writeType r) c []
      | .ok t =>
        if mayDefer u o data ∧ t.span.creates.length > (s.taking r).span.creates.length then t.deferTo r.path (writeType r) else t.written r := by
  rw [sendWrite_granted_any h hu ho hm hf]
  cases (s.taking r).objWrite w u o m off row data <;> simp [hu1]

end Sys2Proof.Machine
end

