-- ==== Sys2Proof/Laws/Issue.lean ====
section
/-!
SUPPORT. What issuing an instruction does, once and for all: the instruction runs when it issues, and raises the exception of its
fetch or word when it does not.
-/
namespace Sys2Proof.Machine

/-- An instruction that issues comes out as its effect says. -/
theorem issue_runs {s : State} {t : ThreadId} {w : Nat} {c : Ctx} (h : Issues s t w c) (f : State → Ctx → Ran) :
    s.issue t w f = match f s c with
      | .stall => s
      | .trap code a => s.except t code false w c.x.pc.toNat a
      | .counted u n code a => (s.bump u n 1).except t code false w c.x.pc.toNat a
      | .trapped s code a => s.except t code false w c.x.pc.toNat a
      | .ran s => s.retired t := by
  obtain ⟨⟨h1, h2, h3, h4, h5, h6, h7, h8⟩, h9, h10, h11⟩ := h
  obtain ⟨ct, ck, cjn, cjob, cx, cword⟩ := c
  simp only at h1 h2 h3 h4 h5 h6 h7 h8 h9 h10
  subst h3 h4 h5 h6
  simp only [State.issue, h1, h2, h7, h8, h9, h10, h11, State.retired]
  simp only [ne_eq, not_true_eq_false, Bool.not_true, Bool.false_eq_true, or_self, if_false]
  all_goals
    generalize f s _ = r
    cases r <;> rfl

/-- An instruction that is done leaves its thread as it says, and is counted. -/
theorem issue_ranWith {s u : State} {t : ThreadId} {w : Nat} {c : Ctx} {x : Thread} {f : State → Ctx → Ran} (h : Issues s t w c)
    (hf : f s c = u.ranWith c x) : s.issue t w f = (u.setThread c.k x).retired t := by
  rw [issue_runs h, hf]; rfl

/-- An instruction that is done is counted. -/
theorem issue_ran {s u : State} {t : ThreadId} {w : Nat} {c : Ctx} {f : State → Ctx → Ran} (h : Issues s t w c) (hf : f s c = .ran u) :
    s.issue t w f = u.retired t := by
  rw [issue_runs h, hf]

/-- An instruction that raises a precise exception has no other effect (12 R433). -/
theorem issue_trap {s : State} {t : ThreadId} {w code a : Nat} {c : Ctx} {f : State → Ctx → Ran} (h : Issues s t w c)
    (hf : f s c = .trap code a) : s.issue t w f = s.except t code false w c.x.pc.toNat a := by
  rw [issue_runs h, hf]

/-- A fetch at an address that is not a multiple of 4 (12 R432). -/
theorem issue_misaligned {s : State} {t : ThreadId} {w : Nat} {c : Ctx} (h : Ready s t w c) (hp : c.x.pc.toNat % 4 ≠ 0)
    (f : State → Ctx → Ran) : s.issue t w f = s.except t 3 false w c.x.pc.toNat c.x.pc.toNat := by
  obtain ⟨h1, h2, h3, h4, h5, h6, h7, h8⟩ := h
  rw [h5] at h2
  simp only [State.issue, h1, h2, h7, h8]
  simp [hp]

/-- A fetch outside what the thread may fetch (12 R432). -/
theorem issue_unfetchable {s : State} {t : ThreadId} {w : Nat} {c : Ctx} (h : Ready s t w c) (hp : c.x.pc.toNat % 4 = 0)
    (hf : s.fetchable t c.x.pc.toNat = false) (f : State → Ctx → Ran) :
    s.issue t w f = s.except t 4 false w c.x.pc.toNat c.x.pc.toNat := by
  obtain ⟨h1, h2, h3, h4, h5, h6, h7, h8⟩ := h
  rw [h5] at h2
  simp only [State.issue, h1, h2, h7, h8]
  simp [hp, hf]

/-- A word that is not legal changes no state but for its exception (12 R399). -/
theorem issue_illegal {s : State} {t : ThreadId} {w : Nat} {c : Ctx} (h : Ready s t w c) (hp : c.x.pc.toNat % 4 = 0)
    (hf : s.fetchable t c.x.pc.toNat = true) (hw : wordLegal w = false) (f : State → Ctx → Ran) :
    s.issue t w f = s.except t 1 false w c.x.pc.toNat 0 := by
  obtain ⟨h1, h2, h3, h4, h5, h6, h7, h8⟩ := h
  rw [h5] at h2
  simp only [State.issue, h1, h2, h7, h8]
  simp [hp, hf, hw]

end Sys2Proof.Machine
end

