-- ==== Sys2Proof/Laws/Near.lean ====
section
/-!
SUPPORT. What a write into the near tier changes: its devices, the channels and their counters, and what an event of a channel changes;
and with it what replacing a tile map entry changes.
-/
namespace Sys2Proof.Machine

/-- `t` differs from `s` in the near tier and its channels, and in what an event changes, at most. -/
def OnlyNear (s t : State) : Prop :=
  ∃ N C B L O T, t = { s with near := N, channels := C, objs := B, lds := L, outbox := O, telem := T }

theorem OnlyNear.refl (s : State) : OnlyNear s s := ⟨_, _, _, _, _, _, rfl⟩
theorem OnlyNear.trans {s t u : State} : OnlyNear s t → OnlyNear t u → OnlyNear s u := by
  rintro ⟨_, _, _, _, _, _, rfl⟩ ⟨_, _, _, _, _, _, rfl⟩; exact ⟨_, _, _, _, _, _, rfl⟩
theorem OnlyNear.setChan (s : State) (c : Nat) (x : Chan) : OnlyNear s (s.setChan c x) := ⟨_, _, _, _, _, _, rfl⟩
theorem OnlyNear.bump (s : State) (u o n : Nat) : OnlyNear s (s.bump u o n) := ⟨_, _, _, _, _, _, rfl⟩
theorem OnlyEvents.near {s t : State} : OnlyEvents s t → OnlyNear s t := by rintro ⟨B, L, O, T, rfl⟩; exact ⟨_, _, B, L, O, T, rfl⟩

/-- A channel leaves self-refresh. -/
theorem wakeChannel_only (s : State) (ch : Nat) : OnlyNear s (s.wakeChannel ch) := by
  unfold State.wakeChannel; dsimp only; split
  · exact .setChan _ _ _
  · exact .refl s

/-- A request met a refresh. -/
theorem metRefresh_only (s : State) (ch : Nat) : OnlyNear s (s.metRefresh ch) := by
  unfold State.metRefresh; split
  · exact .bump _ _ _ _
  · exact .refl s

/-- An activate, with the neighbour refresh it may call for. -/
theorem activateRow_only (s : State) (ch bank row n : Nat) : OnlyNear s (s.activateRow ch bank row n) := by
  unfold State.activateRow; dsimp only
  have h (x : Chan) : OnlyNear s ((s.setChan ch x).bump (0x510 + ch) 0x19 1) := (OnlyNear.setChan _ _ _).trans (.bump _ _ _ _)
  split
  · split
    · have g (x y : Chan) (b : Bool) : OnlyNear s (if b = true then ((s.setChan ch x).bump (0x510 + ch) 0x19 1).setChan ch y
          else (((s.setChan ch x).bump (0x510 + ch) 0x19 1).setChan ch y).bump (0x510 + ch) 0x23 1) := by
        split
        · exact (h x).trans (.setChan _ _ _)
        · exact ((h x).trans (.setChan _ _ _)).trans (.bump _ _ _ _)
      split
      · exact g _ _ _
      · exact (g _ _ _).trans (raise_only _ _ _ _).near
    · exact h _
  · exact h _

/-- A page conflict. -/
theorem precharge_only (s : State) (ch bank : Nat) : OnlyNear s (s.precharge ch bank) :=
  ((OnlyNear.setChan _ _ _).trans (.setChan _ _ _)).trans (.bump _ _ _ _)

/-- The row of a burst is open. -/
theorem openRow_only (s : State) (ch b n : Nat) : OnlyNear s (s.openRow ch b n) := by
  unfold State.openRow State.activate
  split
  · split
    · exact .bump _ _ _ _
    · exact ((precharge_only _ _ _).trans (.setChan _ _ _)).trans (activateRow_only _ _ _ _ _)
  · exact (OnlyNear.setChan _ _ _).trans (activateRow_only _ _ _ _ _)

/-- An access to a granule. -/
theorem reach_only (s : State) (ch : Nat) (bs : Nat × Nat × Nat) (g n : Nat) (w : Bool) : OnlyNear s (s.reach ch bs g n w) := by
  unfold State.reach; dsimp only
  split
  · exact .refl s
  · have h := ((wakeChannel_only s ch).trans (metRefresh_only _ ch)).trans (openRow_only _ ch bs.1 n)
    refine OnlyNear.trans ?_ (.setChan _ _ _)
    split
    · exact h
    · exact h.trans (openRow_only _ _ _ _)

/-- The accesses of a write. -/
theorem reachWrite_only (s : State) (g n : Nat) : OnlyNear s (s.reachWrite g n) := by
  unfold State.reachWrite; dsimp only
  split
  · exact (reach_only _ _ _ _ _ _).trans (reach_only _ _ _ _ _ _)
  · exact reach_only _ _ _ _ _ _

/-- A granule is written into the devices. -/
theorem writeGranule_only (s : State) (g : Nat) (w : Bytes) : OnlyNear s (s.writeGranule g w) := by
  unfold State.writeGranule
  dsimp only
  repeat' split
  all_goals exact ⟨_, _, _, _, _, _, rfl⟩

/-- A granule is stored at once. -/
theorem storeGranule_only (s : State) (g : Nat) (d : Bytes) (n : Nat) : OnlyNear s (s.storeGranule g d n) :=
  ((OnlyNear.setChan _ _ _).trans (reachWrite_only _ _ _)).trans (writeGranule_only _ _ _)

/-- A full write queue makes room. -/
theorem makeRoom_only (s : State) (ch : Nat) : OnlyNear s (s.makeRoom ch) := by
  unfold State.makeRoom; dsimp only
  split
  · exact ((OnlyNear.setChan _ _ _).trans (reachWrite_only _ _ _)).trans (writeGranule_only _ _ _)
  · exact .refl s

/-- A granule is queued. -/
theorem queueGranule_only (s : State) (g : Nat) (w : Bytes) (n : Nat) : OnlyNear s (s.queueGranule g w n) := by
  unfold State.queueGranule State.queueAppend; dsimp only
  split
  · exact .setChan _ _ _
  · exact (metRefresh_only _ _).trans (.setChan _ _ _)

/-- A map line is written (03 R109). -/
theorem writeMapLine_only (s : State) (m : Nat) : OnlyNear s (s.writeMapLine m) := by
  have key (t : State) (h : OnlyNear s t) : OnlyNear s (if t.queueTakes m = true then t.queueGranule m (rsEncode (t.mapLine m)) 0x52
      else t.storeGranule m (t.mapLine m) 0x52) := by
    split
    · exact h.trans (queueGranule_only _ _ _ _)
    · exact h.trans (storeGranule_only _ _ _ _)
  refine key _ ?_
  split
  · exact .refl s
  · exact makeRoom_only _ _

/-- A write into the near tier leaves the map. -/
theorem OnlyNear.entry {s t : State} (h : OnlyNear s t) (k : Nat) : t.entry k = s.entry k := by
  obtain ⟨_, _, _, _, _, _, rfl⟩ := h
  rfl

/-- Replacing an entry changes the map, and what a write into the near tier changes. -/
theorem State.setEntry_shape (s : State) (i : Nat) (e : TileEntry) : ∃ M, OnlyNear { s with tileMap := M } (s.setEntry i e) := by
  unfold State.setEntry
  split
  · exact ⟨s.tileMap, .refl _⟩
  · exact ⟨_, writeMapLine_only (s.putEntry i e) (i / 2)⟩

/-- A tile map entry reads what was put. -/
@[simp] theorem State.entry_setEntry_same (s : State) (i : Nat) (e : TileEntry) : (s.setEntry i e).entry i = e := by
  unfold State.setEntry
  split
  · assumption
  · rw [(writeMapLine_only _ _).entry]
    simp

/-- Another tile map entry is as it was. -/
theorem State.entry_setEntry_of_ne (s : State) (i k : Nat) (e : TileEntry) (h : i ≠ k) : (s.setEntry i e).entry k = s.entry k := by
  unfold State.setEntry
  split
  · rfl
  · rw [(writeMapLine_only _ _).entry, State.entry_putEntry_of_ne _ _ _ _ h]

@[simp] theorem State.setEntry_pending (s : State) (i : Nat) (e : TileEntry) : (s.setEntry i e).pending = s.pending := by
  obtain ⟨_, _, _, _, _, _, _, h⟩ := s.setEntry_shape i e
  rw [h]
@[simp] theorem State.setEntry_fresh (s : State) (i : Nat) (e : TileEntry) : (s.setEntry i e).fresh = s.fresh := by
  obtain ⟨_, _, _, _, _, _, _, h⟩ := s.setEntry_shape i e
  rw [h]
@[simp] theorem State.setEntry_now (s : State) (i : Nat) (e : TileEntry) : (s.setEntry i e).now = s.now := by
  obtain ⟨_, _, _, _, _, _, _, h⟩ := s.setEntry_shape i e
  rw [h]
@[simp] theorem State.setEntry_stage (s : State) (i : Nat) (e : TileEntry) : (s.setEntry i e).stage = s.stage := by
  obtain ⟨_, _, _, _, _, _, _, h⟩ := s.setEntry_shape i e
  rw [h]
@[simp] theorem State.setEntry_profSel (s : State) (i : Nat) (e : TileEntry) : (s.setEntry i e).profSel = s.profSel := by
  obtain ⟨_, _, _, _, _, _, _, h⟩ := s.setEntry_shape i e
  rw [h]
@[simp] theorem State.setEntry_nodeId (s : State) (i : Nat) (e : TileEntry) : (s.setEntry i e).nodeId = s.nodeId := by
  obtain ⟨_, _, _, _, _, _, _, h⟩ := s.setEntry_shape i e
  rw [h]
@[simp] theorem State.setEntry_hrefclk (s : State) (i : Nat) (e : TileEntry) : (s.setEntry i e).hrefclk = s.hrefclk := by
  obtain ⟨_, _, _, _, _, _, _, h⟩ := s.setEntry_shape i e
  rw [h]
@[simp] theorem State.setEntry_strefclk (s : State) (i : Nat) (e : TileEntry) : (s.setEntry i e).strefclk = s.strefclk := by
  obtain ⟨_, _, _, _, _, _, _, h⟩ := s.setEntry_shape i e
  rw [h]
@[simp] theorem State.setEntry_farRefInternal (s : State) (i : Nat) (e : TileEntry) : (s.setEntry i e).farRefInternal = s.farRefInternal := by
  obtain ⟨_, _, _, _, _, _, _, h⟩ := s.setEntry_shape i e
  rw [h]
@[simp] theorem State.setEntry_units (s : State) (i : Nat) (e : TileEntry) : (s.setEntry i e).units = s.units := by
  obtain ⟨_, _, _, _, _, _, _, h⟩ := s.setEntry_shape i e
  rw [h]
@[simp] theorem State.setEntry_blobs (s : State) (i : Nat) (e : TileEntry) : (s.setEntry i e).blobs = s.blobs := by
  obtain ⟨_, _, _, _, _, _, _, h⟩ := s.setEntry_shape i e
  rw [h]
@[simp] theorem State.setEntry_sessions (s : State) (i : Nat) (e : TileEntry) : (s.setEntry i e).sessions = s.sessions := by
  obtain ⟨_, _, _, _, _, _, _, h⟩ := s.setEntry_shape i e
  rw [h]
@[simp] theorem State.setEntry_nonces (s : State) (i : Nat) (e : TileEntry) : (s.setEntry i e).nonces = s.nonces := by
  obtain ⟨_, _, _, _, _, _, _, h⟩ := s.setEntry_shape i e
  rw [h]
@[simp] theorem State.setEntry_heldMsgs (s : State) (i : Nat) (e : TileEntry) : (s.setEntry i e).heldMsgs = s.heldMsgs := by
  obtain ⟨_, _, _, _, _, _, _, h⟩ := s.setEntry_shape i e
  rw [h]
@[simp] theorem State.setEntry_profiles (s : State) (i : Nat) (e : TileEntry) : (s.setEntry i e).profiles = s.profiles := by
  obtain ⟨_, _, _, _, _, _, _, h⟩ := s.setEntry_shape i e
  rw [h]
@[simp] theorem State.setEntry_extents (s : State) (i : Nat) (e : TileEntry) : (s.setEntry i e).extents = s.extents := by
  obtain ⟨_, _, _, _, _, _, _, h⟩ := s.setEntry_shape i e
  rw [h]
@[simp] theorem State.setEntry_tags (s : State) (i : Nat) (e : TileEntry) : (s.setEntry i e).tags = s.tags := by
  obtain ⟨_, _, _, _, _, _, _, h⟩ := s.setEntry_shape i e
  rw [h]
@[simp] theorem State.setEntry_regions (s : State) (i : Nat) (e : TileEntry) : (s.setEntry i e).regions = s.regions := by
  obtain ⟨_, _, _, _, _, _, _, h⟩ := s.setEntry_shape i e
  rw [h]
@[simp] theorem State.setEntry_oldHomes (s : State) (i : Nat) (e : TileEntry) : (s.setEntry i e).oldHomes = s.oldHomes := by
  obtain ⟨_, _, _, _, _, _, _, h⟩ := s.setEntry_shape i e
  rw [h]
@[simp] theorem State.setEntry_versions (s : State) (i : Nat) (e : TileEntry) : (s.setEntry i e).versions = s.versions := by
  obtain ⟨_, _, _, _, _, _, _, h⟩ := s.setEntry_shape i e
  rw [h]
@[simp] theorem State.setEntry_nextVersion (s : State) (i : Nat) (e : TileEntry) : (s.setEntry i e).nextVersion = s.nextVersion := by
  obtain ⟨_, _, _, _, _, _, _, h⟩ := s.setEntry_shape i e
  rw [h]
@[simp] theorem State.setEntry_mapCache (s : State) (i : Nat) (e : TileEntry) : (s.setEntry i e).mapCache = s.mapCache := by
  obtain ⟨_, _, _, _, _, _, _, h⟩ := s.setEntry_shape i e
  rw [h]
@[simp] theorem State.setEntry_segStates (s : State) (i : Nat) (e : TileEntry) : (s.setEntry i e).segStates = s.segStates := by
  obtain ⟨_, _, _, _, _, _, _, h⟩ := s.setEntry_shape i e
  rw [h]
@[simp] theorem State.setEntry_trainedAt (s : State) (i : Nat) (e : TileEntry) : (s.setEntry i e).trainedAt = s.trainedAt := by
  obtain ⟨_, _, _, _, _, _, _, h⟩ := s.setEntry_shape i e
  rw [h]
@[simp] theorem State.setEntry_caddy (s : State) (i : Nat) (e : TileEntry) : (s.setEntry i e).caddy = s.caddy := by
  obtain ⟨_, _, _, _, _, _, _, h⟩ := s.setEntry_shape i e
  rw [h]
@[simp] theorem State.setEntry_caddyBad (s : State) (i : Nat) (e : TileEntry) : (s.setEntry i e).caddyBad = s.caddyBad := by
  obtain ⟨_, _, _, _, _, _, _, h⟩ := s.setEntry_shape i e
  rw [h]
@[simp] theorem State.setEntry_caddyFailed (s : State) (i : Nat) (e : TileEntry) : (s.setEntry i e).caddyFailed = s.caddyFailed := by
  obtain ⟨_, _, _, _, _, _, _, h⟩ := s.setEntry_shape i e
  rw [h]
@[simp] theorem State.setEntry_caddySoft (s : State) (i : Nat) (e : TileEntry) : (s.setEntry i e).caddySoft = s.caddySoft := by
  obtain ⟨_, _, _, _, _, _, _, h⟩ := s.setEntry_shape i e
  rw [h]
@[simp] theorem State.setEntry_farPorts (s : State) (i : Nat) (e : TileEntry) : (s.setEntry i e).farPorts = s.farPorts := by
  obtain ⟨_, _, _, _, _, _, _, h⟩ := s.setEntry_shape i e
  rw [h]
@[simp] theorem State.setEntry_farMem (s : State) (i : Nat) (e : TileEntry) : (s.setEntry i e).farMem = s.farMem := by
  obtain ⟨_, _, _, _, _, _, _, h⟩ := s.setEntry_shape i e
  rw [h]
@[simp] theorem State.setEntry_segs (s : State) (i : Nat) (e : TileEntry) : (s.setEntry i e).segs = s.segs := by
  obtain ⟨_, _, _, _, _, _, _, h⟩ := s.setEntry_shape i e
  rw [h]
@[simp] theorem State.setEntry_segSeq (s : State) (i : Nat) (e : TileEntry) : (s.setEntry i e).segSeq = s.segSeq := by
  obtain ⟨_, _, _, _, _, _, _, h⟩ := s.setEntry_shape i e
  rw [h]
@[simp] theorem State.setEntry_farRecs (s : State) (i : Nat) (e : TileEntry) : (s.setEntry i e).farRecs = s.farRecs := by
  obtain ⟨_, _, _, _, _, _, _, h⟩ := s.setEntry_shape i e
  rw [h]
@[simp] theorem State.setEntry_t3crcs (s : State) (i : Nat) (e : TileEntry) : (s.setEntry i e).t3crcs = s.t3crcs := by
  obtain ⟨_, _, _, _, _, _, _, h⟩ := s.setEntry_shape i e
  rw [h]
@[simp] theorem State.setEntry_cleanCopies (s : State) (i : Nat) (e : TileEntry) : (s.setEntry i e).cleanCopies = s.cleanCopies := by
  obtain ⟨_, _, _, _, _, _, _, h⟩ := s.setEntry_shape i e
  rw [h]
@[simp] theorem State.setEntry_nextCopy (s : State) (i : Nat) (e : TileEntry) : (s.setEntry i e).nextCopy = s.nextCopy := by
  obtain ⟨_, _, _, _, _, _, _, h⟩ := s.setEntry_shape i e
  rw [h]
@[simp] theorem State.setEntry_accesses (s : State) (i : Nat) (e : TileEntry) : (s.setEntry i e).accesses = s.accesses := by
  obtain ⟨_, _, _, _, _, _, _, h⟩ := s.setEntry_shape i e
  rw [h]
@[simp] theorem State.setEntry_nextAccess (s : State) (i : Nat) (e : TileEntry) : (s.setEntry i e).nextAccess = s.nextAccess := by
  obtain ⟨_, _, _, _, _, _, _, h⟩ := s.setEntry_shape i e
  rw [h]
@[simp] theorem State.setEntry_sweeps (s : State) (i : Nat) (e : TileEntry) : (s.setEntry i e).sweeps = s.sweeps := by
  obtain ⟨_, _, _, _, _, _, _, h⟩ := s.setEntry_shape i e
  rw [h]
@[simp] theorem State.setEntry_frTables (s : State) (i : Nat) (e : TileEntry) : (s.setEntry i e).frTables = s.frTables := by
  obtain ⟨_, _, _, _, _, _, _, h⟩ := s.setEntry_shape i e
  rw [h]
@[simp] theorem State.setEntry_llTables (s : State) (i : Nat) (e : TileEntry) : (s.setEntry i e).llTables = s.llTables := by
  obtain ⟨_, _, _, _, _, _, _, h⟩ := s.setEntry_shape i e
  rw [h]
@[simp] theorem State.setEntry_moves (s : State) (i : Nat) (e : TileEntry) : (s.setEntry i e).moves = s.moves := by
  obtain ⟨_, _, _, _, _, _, _, h⟩ := s.setEntry_shape i e
  rw [h]
@[simp] theorem State.setEntry_perst (s : State) (i : Nat) (e : TileEntry) : (s.setEntry i e).perst = s.perst := by
  obtain ⟨_, _, _, _, _, _, _, h⟩ := s.setEntry_shape i e
  rw [h]
@[simp] theorem State.setEntry_moveWaits (s : State) (i : Nat) (e : TileEntry) : (s.setEntry i e).moveWaits = s.moveWaits := by
  obtain ⟨_, _, _, _, _, _, _, h⟩ := s.setEntry_shape i e
  rw [h]
@[simp] theorem State.setEntry_moveUses (s : State) (i : Nat) (e : TileEntry) : (s.setEntry i e).moveUses = s.moveUses := by
  obtain ⟨_, _, _, _, _, _, _, h⟩ := s.setEntry_shape i e
  rw [h]
@[simp] theorem State.setEntry_shareLog (s : State) (i : Nat) (e : TileEntry) : (s.setEntry i e).shareLog = s.shareLog := by
  obtain ⟨_, _, _, _, _, _, _, h⟩ := s.setEntry_shape i e
  rw [h]
@[simp] theorem State.setEntry_writeAborts (s : State) (i : Nat) (e : TileEntry) : (s.setEntry i e).writeAborts = s.writeAborts := by
  obtain ⟨_, _, _, _, _, _, _, h⟩ := s.setEntry_shape i e
  rw [h]
@[simp] theorem State.setEntry_epochs (s : State) (i : Nat) (e : TileEntry) : (s.setEntry i e).epochs = s.epochs := by
  obtain ⟨_, _, _, _, _, _, _, h⟩ := s.setEntry_shape i e
  rw [h]
@[simp] theorem State.setEntry_demoting (s : State) (i : Nat) (e : TileEntry) : (s.setEntry i e).demoting = s.demoting := by
  obtain ⟨_, _, _, _, _, _, _, h⟩ := s.setEntry_shape i e
  rw [h]
@[simp] theorem State.setEntry_stuck (s : State) (i : Nat) (e : TileEntry) : (s.setEntry i e).stuck = s.stuck := by
  obtain ⟨_, _, _, _, _, _, _, h⟩ := s.setEntry_shape i e
  rw [h]
@[simp] theorem State.setEntry_held (s : State) (i : Nat) (e : TileEntry) : (s.setEntry i e).held = s.held := by
  obtain ⟨_, _, _, _, _, _, _, h⟩ := s.setEntry_shape i e
  rw [h]
@[simp] theorem State.setEntry_cads (s : State) (i : Nat) (e : TileEntry) : (s.setEntry i e).cads = s.cads := by
  obtain ⟨_, _, _, _, _, _, _, h⟩ := s.setEntry_shape i e
  rw [h]
@[simp] theorem State.setEntry_sched (s : State) (i : Nat) (e : TileEntry) : (s.setEntry i e).sched = s.sched := by
  obtain ⟨_, _, _, _, _, _, _, h⟩ := s.setEntry_shape i e
  rw [h]
@[simp] theorem State.setEntry_markers (s : State) (i : Nat) (e : TileEntry) : (s.setEntry i e).markers = s.markers := by
  obtain ⟨_, _, _, _, _, _, _, h⟩ := s.setEntry_shape i e
  rw [h]
@[simp] theorem State.setEntry_pins (s : State) (i : Nat) (e : TileEntry) : (s.setEntry i e).pins = s.pins := by
  obtain ⟨_, _, _, _, _, _, _, h⟩ := s.setEntry_shape i e
  rw [h]
@[simp] theorem State.setEntry_tallies (s : State) (i : Nat) (e : TileEntry) : (s.setEntry i e).tallies = s.tallies := by
  obtain ⟨_, _, _, _, _, _, _, h⟩ := s.setEntry_shape i e
  rw [h]
@[simp] theorem State.setEntry_shareds (s : State) (i : Nat) (e : TileEntry) : (s.setEntry i e).shareds = s.shareds := by
  obtain ⟨_, _, _, _, _, _, _, h⟩ := s.setEntry_shape i e
  rw [h]
@[simp] theorem State.setEntry_insts (s : State) (i : Nat) (e : TileEntry) : (s.setEntry i e).insts = s.insts := by
  obtain ⟨_, _, _, _, _, _, _, h⟩ := s.setEntry_shape i e
  rw [h]
@[simp] theorem State.setEntry_headInst (s : State) (i : Nat) (e : TileEntry) : (s.setEntry i e).headInst = s.headInst := by
  obtain ⟨_, _, _, _, _, _, _, h⟩ := s.setEntry_shape i e
  rw [h]
@[simp] theorem State.setEntry_attaches (s : State) (i : Nat) (e : TileEntry) : (s.setEntry i e).attaches = s.attaches := by
  obtain ⟨_, _, _, _, _, _, _, h⟩ := s.setEntry_shape i e
  rw [h]
@[simp] theorem State.setEntry_results (s : State) (i : Nat) (e : TileEntry) : (s.setEntry i e).results = s.results := by
  obtain ⟨_, _, _, _, _, _, _, h⟩ := s.setEntry_shape i e
  rw [h]
@[simp] theorem State.setEntry_conflicts (s : State) (i : Nat) (e : TileEntry) : (s.setEntry i e).conflicts = s.conflicts := by
  obtain ⟨_, _, _, _, _, _, _, h⟩ := s.setEntry_shape i e
  rw [h]
@[simp] theorem State.setEntry_keys (s : State) (i : Nat) (e : TileEntry) : (s.setEntry i e).keys = s.keys := by
  obtain ⟨_, _, _, _, _, _, _, h⟩ := s.setEntry_shape i e
  rw [h]
@[simp] theorem State.setEntry_nextBinding (s : State) (i : Nat) (e : TileEntry) : (s.setEntry i e).nextBinding = s.nextBinding := by
  obtain ⟨_, _, _, _, _, _, _, h⟩ := s.setEntry_shape i e
  rw [h]
@[simp] theorem State.setEntry_drbgFailed (s : State) (i : Nat) (e : TileEntry) : (s.setEntry i e).drbgFailed = s.drbgFailed := by
  obtain ⟨_, _, _, _, _, _, _, h⟩ := s.setEntry_shape i e
  rw [h]
@[simp] theorem State.setEntry_drbgUses (s : State) (i : Nat) (e : TileEntry) : (s.setEntry i e).drbgUses = s.drbgUses := by
  obtain ⟨_, _, _, _, _, _, _, h⟩ := s.setEntry_shape i e
  rw [h]
@[simp] theorem State.setEntry_injects (s : State) (i : Nat) (e : TileEntry) : (s.setEntry i e).injects = s.injects := by
  obtain ⟨_, _, _, _, _, _, _, h⟩ := s.setEntry_shape i e
  rw [h]
@[simp] theorem State.setEntry_fw (s : State) (i : Nat) (e : TileEntry) : (s.setEntry i e).fw = s.fw := by
  obtain ⟨_, _, _, _, _, _, _, h⟩ := s.setEntry_shape i e
  rw [h]
@[simp] theorem State.setEntry_spdm (s : State) (i : Nat) (e : TileEntry) : (s.setEntry i e).spdm = s.spdm := by
  obtain ⟨_, _, _, _, _, _, _, h⟩ := s.setEntry_shape i e
  rw [h]
@[simp] theorem State.setEntry_clusters (s : State) (i : Nat) (e : TileEntry) : (s.setEntry i e).clusters = s.clusters := by
  obtain ⟨_, _, _, _, _, _, _, h⟩ := s.setEntry_shape i e
  rw [h]
@[simp] theorem State.setEntry_threads (s : State) (i : Nat) (e : TileEntry) : (s.setEntry i e).threads = s.threads := by
  obtain ⟨_, _, _, _, _, _, _, h⟩ := s.setEntry_shape i e
  rw [h]
@[simp] theorem State.setEntry_loads (s : State) (i : Nat) (e : TileEntry) : (s.setEntry i e).loads = s.loads := by
  obtain ⟨_, _, _, _, _, _, _, h⟩ := s.setEntry_shape i e
  rw [h]
@[simp] theorem State.setEntry_nextLoad (s : State) (i : Nat) (e : TileEntry) : (s.setEntry i e).nextLoad = s.nextLoad := by
  obtain ⟨_, _, _, _, _, _, _, h⟩ := s.setEntry_shape i e
  rw [h]
@[simp] theorem State.setEntry_mvReqs (s : State) (i : Nat) (e : TileEntry) : (s.setEntry i e).mvReqs = s.mvReqs := by
  obtain ⟨_, _, _, _, _, _, _, h⟩ := s.setEntry_shape i e
  rw [h]
@[simp] theorem State.setEntry_jobs (s : State) (i : Nat) (e : TileEntry) : (s.setEntry i e).jobs = s.jobs := by
  obtain ⟨_, _, _, _, _, _, _, h⟩ := s.setEntry_shape i e
  rw [h]
@[simp] theorem State.setEntry_dmas (s : State) (i : Nat) (e : TileEntry) : (s.setEntry i e).dmas = s.dmas := by
  obtain ⟨_, _, _, _, _, _, _, h⟩ := s.setEntry_shape i e
  rw [h]
@[simp] theorem State.setEntry_nextDma (s : State) (i : Nat) (e : TileEntry) : (s.setEntry i e).nextDma = s.nextDma := by
  obtain ⟨_, _, _, _, _, _, _, h⟩ := s.setEntry_shape i e
  rw [h]
@[simp] theorem State.setEntry_legs (s : State) (i : Nat) (e : TileEntry) : (s.setEntry i e).legs = s.legs := by
  obtain ⟨_, _, _, _, _, _, _, h⟩ := s.setEntry_shape i e
  rw [h]
@[simp] theorem State.setEntry_sports (s : State) (i : Nat) (e : TileEntry) : (s.setEntry i e).sports = s.sports := by
  obtain ⟨_, _, _, _, _, _, _, h⟩ := s.setEntry_shape i e
  rw [h]
@[simp] theorem State.setEntry_span (s : State) (i : Nat) (e : TileEntry) : (s.setEntry i e).span = s.span := by
  obtain ⟨_, _, _, _, _, _, _, h⟩ := s.setEntry_shape i e
  rw [h]
@[simp] theorem State.setEntry_allDown (s : State) (i : Nat) (e : TileEntry) : (s.setEntry i e).allDown = s.allDown := by
  obtain ⟨_, _, _, _, _, _, _, h⟩ := s.setEntry_shape i e
  rw [h]
@[simp] theorem State.setEntry_chrysalis (s : State) (i : Nat) (e : TileEntry) : (s.setEntry i e).chrysalis = s.chrysalis := by
  obtain ⟨_, _, _, _, _, _, _, h⟩ := s.setEntry_shape i e
  rw [h]
@[simp] theorem State.setEntry_power (s : State) (i : Nat) (e : TileEntry) : (s.setEntry i e).power = s.power := by
  obtain ⟨_, _, _, _, _, _, _, h⟩ := s.setEntry_shape i e
  rw [h]
@[simp] theorem State.setEntry_poisons (s : State) (i : Nat) (e : TileEntry) : (s.setEntry i e).poisons = s.poisons := by
  obtain ⟨_, _, _, _, _, _, _, h⟩ := s.setEntry_shape i e
  rw [h]
@[simp] theorem State.setEntry_errLog (s : State) (i : Nat) (e : TileEntry) : (s.setEntry i e).errLog = s.errLog := by
  obtain ⟨_, _, _, _, _, _, _, h⟩ := s.setEntry_shape i e
  rw [h]
@[simp] theorem State.setEntry_errSeq (s : State) (i : Nat) (e : TileEntry) : (s.setEntry i e).errSeq = s.errSeq := by
  obtain ⟨_, _, _, _, _, _, _, h⟩ := s.setEntry_shape i e
  rw [h]
@[simp] theorem State.setEntry_errFull (s : State) (i : Nat) (e : TileEntry) : (s.setEntry i e).errFull = s.errFull := by
  obtain ⟨_, _, _, _, _, _, _, h⟩ := s.setEntry_shape i e
  rw [h]
@[simp] theorem State.setEntry_errHistory (s : State) (i : Nat) (e : TileEntry) : (s.setEntry i e).errHistory = s.errHistory := by
  obtain ⟨_, _, _, _, _, _, _, h⟩ := s.setEntry_shape i e
  rw [h]
@[simp] theorem State.setEntry_repairMap (s : State) (i : Nat) (e : TileEntry) : (s.setEntry i e).repairMap = s.repairMap := by
  obtain ⟨_, _, _, _, _, _, _, h⟩ := s.setEntry_shape i e
  rw [h]
@[simp] theorem State.setEntry_repairSeq (s : State) (i : Nat) (e : TileEntry) : (s.setEntry i e).repairSeq = s.repairSeq := by
  obtain ⟨_, _, _, _, _, _, _, h⟩ := s.setEntry_shape i e
  rw [h]
@[simp] theorem State.setEntry_contained (s : State) (i : Nat) (e : TileEntry) : (s.setEntry i e).contained = s.contained := by
  obtain ⟨_, _, _, _, _, _, _, h⟩ := s.setEntry_shape i e
  rw [h]
@[simp] theorem State.setEntry_faults (s : State) (i : Nat) (e : TileEntry) : (s.setEntry i e).faults = s.faults := by
  obtain ⟨_, _, _, _, _, _, _, h⟩ := s.setEntry_shape i e
  rw [h]
@[simp] theorem State.setEntry_lastRaised (s : State) (i : Nat) (e : TileEntry) : (s.setEntry i e).lastRaised = s.lastRaised := by
  obtain ⟨_, _, _, _, _, _, _, h⟩ := s.setEntry_shape i e
  rw [h]
@[simp] theorem State.setEntry_cores (s : State) (i : Nat) (e : TileEntry) : (s.setEntry i e).cores = s.cores := by
  obtain ⟨_, _, _, _, _, _, _, h⟩ := s.setEntry_shape i e
  rw [h]

end Sys2Proof.Machine
end

