-- ==== Sys2Proof/WellFormed.lean ====
section
/-!
DEFINITION. Which operands a sender can form: the lengths and ranges the spec's layouts give. The step does not depend on it; a
command with other operands is one no sender sends.
-/
namespace Sys2Proof

/-- A request as a sender sends it: by a path of the outside, with the 32-byte tag of the management port (02 R69). -/
def sent (r : Req) : Bool :=
  match r.path with
  | .mgmt _ _ tag => tag.length == 32
  | .mailbox _ => true
  | .fmLd => true
  | .member _ _ => false

/-- A request of a message type of its own, which carries no expected generation in its `Req` (02 R69). -/
def fixed (r : Req) : Bool := sent r && r.gen.isNone

/-- Bad bytes of a granule: each once, in 0 to 71, with at least one bit that differs (14 R478). -/
def byteErrs (l : List ByteErr) : Bool :=
  l.all (fun e => decide (e.index < 72) && e.bits != 0) && decide (l.map (·.index)).Nodup

/-- A span packet: a 32-byte header and 0 to 4,096 bytes of data in whole 16 B units (16 R546). -/
def packet (b : Bytes) : Bool := decide (32 ≤ b.length ∧ b.length ≤ 4128) && b.length % 16 == 0

/-- What triggers a freeze or a snapshot: a command, or one of `n` sources (19 R610, R612). -/
def asked (n : Nat) : TriggerCause → Bool
  | .command r => sent r
  | .trigger b => decide (b < n)

/-- The operands of a command are ones its sender can form. -/
def WellFormed (i : Instr) : Bool :=
  match i with
  | .hello r => fixed r
  | .openReq r _ reserved cipher sig => fixed r && reserved.length == 3 && cipher.length == 384 && sig.length == 384
  | .closeReq r => fixed r
  | .read r _ _ _ _ _ => fixed r
  | .write r _ _ _ _ len data => fixed r && data.length == len.toNat
  | .writeIf r _ _ _ _ len _ data => fixed r && data.length == len.toNat
  | .profileStore r _ _ _ => fixed r
  | .profileApply r _ => fixed r
  | .requestedStateWrite r .. => sent r
  | .initiateDynamicCapacityAdd _ extents => extents.all (fun e => decide (e.dpa < 16384))
  | .addDynamicCapacityResponse _ accepted => accepted.all (fun d => decide (d < 16384))
  | .releaseDynamicCapacity _ extents => extents.all (fun d => decide (d < 16384))
  | .forcedRelease _ extents => extents.all (fun d => decide (d < 16384))
  | .extentReleaseComplete _ extent => decide (extent < 16384)
  | .regionCreate r .. => sent r
  | .regionModify r .. => sent r
  | .regionDelete r .. => sent r
  | .regionDiscard r .. => sent r
  | .hostRead _ hpa _ => hpa.toNat % 64 == 0
  | .hostWrite _ hpa _ data _ => hpa.toNat % 64 == 0 && data.length == 64
  | .frTableCommit r .. => sent r
  | .frDefaultTableLoad r .. => sent r
  | .frSlotOwnerWrite r .. => sent r
  | .llTableCommit r .. => sent r
  | .llSlotOwnerWrite r .. => sent r
  | .recodeStart r .. => sent r
  | .recodeCancel r .. => sent r
  | .llRecodeStart r .. => sent r
  | .llRecodeCancel r .. => sent r
  | .moveAlloc ask => decide (1 ≤ ask.kind ∧ ask.kind ≤ 6 ∧ ask.tier ≤ 3)
  | .policyModeWrite r .. => sent r
  | .mvMove j q => decide (j < 1024) && q.length == 32
  | .mvCount j q => decide (j < 1024) && q.length == 32
  | .mvEncode j q => decide (j < 1024) && q.length == 32
  | .mvDecode j q => decide (j < 1024) && q.length == 32
  | .mvEncipher j q => decide (j < 1024) && q.length == 32
  | .mvCompare j q => decide (j < 1024) && q.length == 32
  | .farMemoryActive _ m => m.serial.length == 8
  | .farSectorReadComplete _ bad => bad.all (fun b => decide (b.sector < 256) && (b.poison || b.bits != 0))
  | .cadenceModeWrite r .. => sent r
  | .scheduleEntryArm r entry bytes => sent r && decide (entry < 16384) && bytes.length == 32
  | .scheduleEntryDisarm r entry bytes => sent r && decide (entry < 16384) && bytes.length == 32
  | .instarAttach r .. => sent r
  | .instarDetach r .. => sent r
  | .instarAdvance r .. => sent r
  | .instarPublish r .. => sent r
  | .instarRevert r .. => sent r
  | .listConflicts r .. => sent r
  | .salvageReattach r .. => sent r
  | .salvageDiscard r .. => sent r
  | .forceDetach r .. => sent r
  | .sharedRegionEntryWrite r .. => sent r
  | .createRegionKey r .. => sent r
  | .keyErase r .. => sent r
  | .setUseMask r .. => sent r
  | .keyDestroy r .. => sent r
  | .shadowZeroise slot => decide (slot < 4096)
  | .eraseSweepStep slot => decide (slot < 4096)
  | .qosModeWrite r .. => sent r
  | .injectionArming r .. => sent r
  | .stagingWrite r .. => sent r
  | .verify r .. => sent r
  | .activateAtReset r .. => sent r
  | .activateLive r .. => sent r
  | .commitSecurityVersion r .. => sent r
  | .updateCancel r .. => sent r
  | .revokeKey0 r .. => sent r
  | .getVersion _ req => decide (4 ≤ req.length)
  | .getCapabilities _ req => decide (4 ≤ req.length)
  | .negotiateAlgorithms _ req => decide (4 ≤ req.length)
  | .getDigests _ req => decide (4 ≤ req.length)
  | .getCertificate _ req => decide (4 ≤ req.length)
  | .challenge _ req => decide (4 ≤ req.length)
  | .getMeasurements _ req => decide (4 ≤ req.length)
  | .keyExchange _ req => decide (4 ≤ req.length)
  | .ideKm _ req => decide (4 ≤ req.length)
  | .clusterAssignmentWrite r .. => sent r
  | .homeBlocksWrite r .. => sent r
  | .jobLoad r .. => sent r
  | .jobUnload r .. => sent r
  | .jobStop r .. => sent r
  | .granuleReadComplete _ err1 err2 => byteErrs err1 && byteErrs err2
  | .trainingComplete _ margins => margins.length == 2048
  | .patternGeneratorWrite r .. => sent r
  | .configurationRequest _ _ _ _ size data => decide (1 ≤ size ∧ size ≤ 8) && (match data with
    | some b => b.length == size
    | none => true)
  | .vectorUnmask _ vector => decide (vector < 64)
  | .invalidateRequest _ itag _ _ => decide (itag < 32)
  | .invalidationCompletion _ itag => decide (itag < 32)
  | .streamTrainingComplete _ width => decide (width ≤ 8)
  | .flitReceive _ flit => flit.length == 640
  | .pktInit _ body => packet body
  | .pktRoutes _ body => packet body
  | .pktTimeProbe _ _ body => packet body
  | .pktTimeReply _ _ body => packet body
  | .pktAdvance _ body => packet body
  | .pktAqfort _ body => packet body
  | .pktKey _ body => packet body
  | .pktReserve _ body => packet body
  | .pktLineRead _ body => packet body
  | .pktLineWrite _ body => packet body
  | .pktLineData _ body => packet body
  | .pktDone _ body => packet body
  | .pktMoveOpen _ body => packet body
  | .pktMoveData _ body => packet body
  | .pktMoveClose _ body => packet body
  | .measure r .. => sent r
  | .chrysalisOrder r .. => sent r
  | .evacuate r .. => sent r
  | .recall r .. => sent r
  | .evacuationCancel r .. => sent r
  | .controlLoopIteration m => m.temps.length == 5
  | .powerCapWrite r .. => sent r
  | .droopEvent domain ns => decide (domain ≤ 1 ∧ ns ≤ 1000)
  | .clearRepairMap r .. => sent r
  | .clearErrorHistory r .. => sent r
  | .freeze c => asked 4 c
  | .freezeRelease r .. => sent r
  | .snapshotTake c => asked 3 c
  | .snapshotRelease r .. => sent r
  | .halt _ c => match c with
    | some r => sent r
    | none => true
  | .resume _ r => sent r
  | .stepOneInstruction _ r => sent r
  | .legTrained _ width rate => decide (1 ≤ width ∧ width ≤ 16 ∧ 1 ≤ rate ∧ rate ≤ 6)
  | .unknownAqfortType frame => decide (16 ≤ frame.length)
  | .sessionIdleTimeout .. | .drainComplete .. | .divergenceLimitReached .. | .discardedHomeFree .. | .frWriteMerge .. | .heldWriteRelease ..
  | .agingEpochTick .. | .agingScan .. | .moveCopy .. | .moveConfirm .. | .t3ReadRetry .. | .t3ReachableAgain ..
  | .evacuationComplete .. | .moverCompletion .. | .farPresenceStable .. | .farLinkTrainingTimeout .. | .farModuleRemoved .. | .flushTimeout ..
  | .stripeWriteAck .. | .segmentSeal .. | .chunkWriteFailure .. | .farLinkDown .. | .farCompletionTimeout .. | .cleaningCopy ..
  | .cleaningFlip .. | .segmentFree .. | .positionAdvance .. | .rewind .. | .salvageExpiry .. | .versionSpaceFreed ..
  | .entropyHealthFailure .. | .qosModeInForce .. | .trialBootTimeout .. | .verifyComplete .. | .scrubComplete .. | .clusterClockStop ..
  | .gAdd .. | .gSub .. | .gAnd .. | .gOr .. | .gXor .. | .gSll ..
  | .gSrl .. | .gSra .. | .gSlt .. | .gSltu .. | .gMin .. | .gMax ..
  | .gMinu .. | .gMaxu .. | .gMul .. | .gMulh .. | .gMulhu .. | .gDiv ..
  | .gDivu .. | .gRem .. | .gRemu .. | .gClz .. | .gCtz .. | .gPopc ..
  | .gAddi .. | .gAndi .. | .gOri .. | .gXori .. | .gSlli .. | .gSrli ..
  | .gSrai .. | .gSlti .. | .gLui .. | .gLb .. | .gLh .. | .gLw ..
  | .gLd .. | .gLbu .. | .gLhu .. | .gLwu .. | .gSb .. | .gSh ..
  | .gSw .. | .gSd .. | .gVld .. | .gVldnt .. | .gVst .. | .threadLoadComplete ..
  | .gAadd .. | .gAand .. | .gAor .. | .gAxor .. | .gAmin .. | .gAmax ..
  | .gAminu .. | .gAmaxu .. | .gAswap .. | .gAcas .. | .gAfadd .. | .gFence ..
  | .gVadd .. | .gVsub .. | .gVmul .. | .gVfma .. | .gVfnma .. | .gVmin ..
  | .gVmax .. | .gVdiv .. | .gVsqrt .. | .gVrcp .. | .gVrsqrt .. | .gVexp2 ..
  | .gVlog2 .. | .gVsinpi .. | .gVcospi .. | .gVtanh .. | .gVcvt .. | .gVsel ..
  | .gVperm .. | .gVredadd .. | .gVredmax .. | .gVredmin .. | .gVand .. | .gVor ..
  | .gVxor .. | .gVsll .. | .gVsrl .. | .gVsra .. | .gVsadd .. | .gVssub ..
  | .gVcmpeq .. | .gVcmplt .. | .gVcmple .. | .gVcmpun .. | .gVcmpltu .. | .gVabs ..
  | .gVneg .. | .gVaddx .. | .gVsubx .. | .gVmulx .. | .gVfmax .. | .gVbcast ..
  | .gVins .. | .gVext .. | .gVsldn .. | .gVslup .. | .gViota .. | .gPand ..
  | .gPor .. | .gPxor .. | .gPandn .. | .gPfromx .. | .gPtox .. | .gAmma ..
  | .gAzero .. | .gAread .. | .gAwait .. | .gAlut .. | .gTfraw .. | .gTffr ..
  | .arrayQueueEntryStart .. | .arrayQueueEntryComplete .. | .gBar .. | .gPoswait .. | .gPosadv .. | .gMvreq ..
  | .gMvwait .. | .gWaitne .. | .gBeq .. | .gBne .. | .gBlt .. | .gBge ..
  | .gBltu .. | .gBgeu .. | .gJal .. | .gJalr .. | .gSrr .. | .gSrw ..
  | .gExit .. | .gNop .. | .gStop .. | .gIflush .. | .jobPlacement .. | .jobThreadsStart ..
  | .jobTimeLimit .. | .jobWaitLimit .. | .refresh .. | .commandIssue .. | .requestAging .. | .patrolRead ..
  | .caParityAlert .. | .readCrcFailure .. | .writeCrcFailure .. | .retrainingComplete .. | .rowRemap .. | .deviceTemperatureChange ..
  | .timingRecentre .. | .segmentFillComplete .. | .legLoss .. | .busMasterEnableClear .. | .busMasterEnableSet .. | .d3hotEntry ..
  | .interruptCauseClear .. | .functionLevelReset .. | .flrComplete .. | .hotReset .. | .dmaCompletion .. | .dmaCompletionTimeout ..
  | .identify .. | .backgroundOperationStatus .. | .getResponseMessageLimit .. | .setResponseMessageLimit .. | .getEventRecords .. | .clearEventRecords ..
  | .getEventInterruptPolicy .. | .setEventInterruptPolicy .. | .getTimestamp .. | .setTimestamp .. | .getSupportedLogs .. | .getLog ..
  | .identifyMemoryDevice .. | .getHealthInfo .. | .getPoisonList .. | .getDcConfiguration .. | .getDcExtentList .. | .aqfortMessage ..
  | .grantHostTierPages .. | .withdrawHostTierPages .. | .withdrawalComplete .. | .hostBind .. | .hostUnbind .. | .replayTimeout ..
  | .laneLockLoss .. | .streamRetrainComplete .. | .spanFormation .. | .memberRequestTimeout .. | .chrysalisTimeout .. | .pwrgdRise ..
  | .pwrgdFall .. | .perstDeassert .. | .perstAssert .. | .fillComplete .. | .idleTimeout .. | .channelIdleTimeout ..
  | .hrefclkLoss .. | .watchdogExpiry .. | .restartComplete .. | .controlStateParityError .. | .poisonRecordFreed .. | .freezeLatch ..
  | .snapshotComplete .. | .dumpComplete .. | .coreHalted .. | .hrefclkReturn .. | .farLinkRetrained .. | .illegalInstruction ..
  | .unsupportedMailboxCommand .. => true

end Sys2Proof
end

