-- ==== Sys2Proof/Tests/Slice0.lean ====
section
/-!
SUPPORT. Tests of the model: operands no sender forms, values of the worked examples of the spec, single commands, and for each
statement a theorem wit_<statement> that shows a state and operands meeting its premises.
-/
namespace Sys2Proof.Tests
open Sys2Proof Sys2Proof.Machine
set_option Elab.async false

/-! ## Helpers -/

/-- A module that runs with one control core's complement, both legs up, LD0 bound with Memory space and Bus master enabled and
one extent granted, and near-tier shares for LD0. -/
def lab : State :=
  { State.reset with
    stage := .running
    legs := [(0, { up := true }), (1, { up := true })]
    units := [(0x110, { own := 1, shown := 1 })]
    lds := [(0, { memSpace := true, busMaster := true })]
    objs := [(okey 0x200 0x200 0, 2 ^ 32)]
    extents := [(extKey 0 0, { state := 2, dla := 0, block := 0, shared := false })] }

/-- Whether a command answers a next state. -/
def nexts (c : Instr) (s : State) : Bool :=
  match exec c s with
  | .next _ => true
  | _ => false

/-- A request of the fabric manager by the FM-owned LD, for the receiving module. -/
def fmReq : Req := { path := .fmLd, member := 0xFF, gen := none }
/-- A request by the mailbox of LD0. -/
def boxReq : Req := { path := .mailbox 0, member := 0xFF, gen := none }
/-- A request of the management port's session 7. -/
def portReq (tag : Bytes) : Req := { path := .mgmt 7 1 tag, member := 0xFF, gen := none }

/-! ## Operands no sender forms -/

theorem test_read_by_a_member_path : WellFormed (.read { path := .member 1 0, member := 0, gen := none } 0 0 0 0 0) = false := by decide
theorem test_port_tag_too_short : WellFormed (.verify (portReq [0])) = false := by decide
theorem test_read_with_generation : WellFormed (.read { fmReq with gen := some 1 } 0 0 0 0 0) = false := by decide
theorem test_open_reserved_length : WellFormed (.openReq (portReq (List.replicate 32 0)) 1 [] (List.replicate 384 0) (List.replicate 384 0)) = false := by
  decide +kernel
theorem test_open_cipher_length : WellFormed (.openReq (portReq (List.replicate 32 0)) 1 [0, 0, 0] [] (List.replicate 384 0)) = false := by decide +kernel
theorem test_open_signature_length : WellFormed (.openReq (portReq (List.replicate 32 0)) 1 [0, 0, 0] (List.replicate 384 0) []) = false := by
  decide +kernel
theorem test_open_whole : WellFormed (.openReq (portReq (List.replicate 32 0)) 1 [0, 0, 0] (List.replicate 384 0) (List.replicate 384 0)) = true := by
  decide +kernel
theorem test_write_length : WellFormed (.write fmReq 0 0 0 0 2 [0]) = false := by decide
theorem test_write_if_length : WellFormed (.writeIf fmReq 0 0 0 0 2 0 [0]) = false := by decide
theorem test_extent_number : WellFormed (.releaseDynamicCapacity 0 [16384]) = false := by decide
theorem test_offered_extent_number : WellFormed (.initiateDynamicCapacityAdd 0 [⟨16384, none⟩]) = false := by decide
theorem test_host_read_alignment : WellFormed (.hostRead ⟨0, 0⟩ 32 0) = false := by decide
theorem test_host_write_length : WellFormed (.hostWrite ⟨0, 0⟩ 64 1 [0] 0) = false := by decide
theorem test_move_kind : WellFormed (.moveAlloc ⟨0, 7, 1⟩) = false := by decide
theorem test_move_tier : WellFormed (.moveAlloc ⟨0, 1, 4⟩) = false := by decide
theorem test_mover_request_length : WellFormed (.mvCount 0 [1]) = false := by decide
theorem test_mover_request_job : WellFormed (.mvMove 1024 (List.replicate 32 0)) = false := by decide
theorem test_far_module_serial : WellFormed (.farMemoryActive 0 ⟨0, 8, 64, 0, 0, [], none⟩) = false := by decide
theorem test_far_sector_index : WellFormed (.farSectorReadComplete 0 [⟨0, 0, 256, true, 0⟩]) = false := by decide
theorem test_far_sector_unharmed : WellFormed (.farSectorReadComplete 0 [⟨0, 0, 0, false, 0⟩]) = false := by decide
theorem test_schedule_entry_number : WellFormed (.scheduleEntryArm fmReq 16384 (List.replicate 32 0)) = false := by decide
theorem test_schedule_entry_length : WellFormed (.scheduleEntryDisarm fmReq 0 [0]) = false := by decide
theorem test_key_slot_number : WellFormed (.shadowZeroise 4096) = false := by decide
theorem test_spdm_request_length : WellFormed (.getDigests 0 [0x12, 0x81, 0]) = false := by decide
theorem test_granule_byte_index : WellFormed (.granuleReadComplete 0 [⟨72, 1⟩] []) = false := by decide
theorem test_granule_byte_twice : WellFormed (.granuleReadComplete 0 [⟨3, 1⟩, ⟨3, 2⟩] []) = false := by decide
theorem test_margins_length : WellFormed (.trainingComplete 0 []) = false := by decide
theorem test_configuration_size : WellFormed (.configurationRequest 0 0 .config 0 0 none) = false := by decide
theorem test_configuration_data : WellFormed (.configurationRequest 0 0 .config 0 4 (some [0])) = false := by decide
theorem test_vector_number : WellFormed (.vectorUnmask 0 64) = false := by decide
theorem test_invalidate_tag : WellFormed (.invalidateRequest 0 32 0 0) = false := by decide
theorem test_stream_width : WellFormed (.streamTrainingComplete 0 9) = false := by decide
theorem test_flit_length : WellFormed (.flitReceive 0 []) = false := by decide
theorem test_packet_header : WellFormed (.pktDone 0 (List.replicate 31 0)) = false := by decide
theorem test_packet_units : WellFormed (.pktInit 0 (List.replicate 40 0)) = false := by decide
theorem test_loop_temperatures : WellFormed (.controlLoopIteration ⟨0, [25]⟩) = false := by decide
theorem test_droop_domain : WellFormed (.droopEvent 2 100) = false := by decide
theorem test_freeze_source : WellFormed (.freeze (.trigger 4)) = false := by decide
theorem test_snapshot_source : WellFormed (.snapshotTake (.trigger 3)) = false := by decide
theorem test_leg_width : WellFormed (.legTrained 0 32 6) = false := by decide
theorem test_frame_length : WellFormed (.unknownAqfortType [0x0D, 0xAF]) = false := by decide

/-! ## The expansion ROM (15 R518, R519) -/

theorem test_rom_pci_structure : (romHeader [] (pciData 583 0x70 0)).length = 0x40 ∧ field (romHeader [] (pciData 583 0x70 0)) 0x18 2 = 0x20
    ∧ field (romHeader [] (pciData 583 0x70 0)) 0x20 4 = 0x52494350 := by decide

/-! ## States and operands that meet the hypotheses of the statements -/

theorem wit_QueueIsServedInOrder : (runAll [.hrefclkReturn, .agingEpochTick] [.fillComplete] lab).isSome = true := by decide +kernel
theorem wit_EveryCommandAnswersANextState : 178956800 ≥ chanBlocks ∧ nexts (.patrolRead 0 0 0) lab = true := by decide +kernel
theorem wit_OnlyPwrgdRiseSetsTheClock :
    (nexts .hrefclkReturn lab = true ∧ (Instr.hrefclkReturn : Instr) ≠ .pwrgdRise)
    ∧ (({ lab with stage := .off, perst := true } : State).stage = .off ∧ nexts .pwrgdRise { lab with stage := .off, perst := true } = true)
    ∧ (lab.pending = [] ∧ lab.stage ≠ .off)
    ∧ (({ lab with stage := .off } : State).pending = []) := by decide +kernel
theorem wit_MemoryKeepsItsCanonicalForm :
    memWf ([(5, 1), (9, 2)] : List (Nat × Byte)) = true ∧ 5 ≤ 7 ∧ 7 < 5 + ([1, 2, 3] : Bytes).length
    ∧ (4 < 5 ∨ 5 + ([1, 2, 3] : Bytes).length ≤ 4) := by decide +kernel

/-- LD0 with MSI-X enabled and vector 3 unmasked or not. -/
def msix (f m b : Bool) : State :=
  { lab with lds := [(0, { msixEnable := true, msixFunctionMask := f, msixMasked := if m then [3] else [], busMaster := b })] }
theorem wit_InterruptVectorIsSignalled :
    (((msix false false true).ld 0).msixEnable = true ∧ ((msix false false true).ld 0).msixMasked.contains 3 = false
      ∧ ((msix false false true).ld 0).msixFunctionMask = false ∧ ((msix false false true).ld 0).busMaster = true)
    ∧ (((msix true false true).ld 0).msixFunctionMask = true ∧ ((msix false true true).ld 0).msixMasked.contains 3 = true)
    ∧ (((msix false false false).ld 0).busMaster = false ∧ ((msix false false false).ld 0).msixMasked.contains 3 = false) := by decide +kernel

/-- LD0 with extent 3 OFFERED and extent 4 RELEASING. -/
def offered : State :=
  { lab with extents := [(extKey 0 0, { state := 2, dla := 0, block := 0, shared := false }),
      (extKey 0 3, { state := 1, dla := 1, block := 1, shared := false }), (extKey 0 4, { state := 3, dla := 2, block := 2, shared := false })] }
theorem wit_ExtentCommandsComplete :
    (lab.stage = .running ∧ (lab.offer 0 [⟨3, none⟩]).1 = retSuccess)
    ∧ ((offered.ld 0).flr = false ∧ offered.bound 0 = true ∧ (3, { state := 1, dla := 1, block := 1, shared := false }) ∈ offered.extentsOf 0)
    ∧ (lab.extent 0 0 = some { state := 2, dla := 0, block := 0, shared := false }
      ∧ lab.regions.any (lab.regionIn { state := 2, dla := 0, block := 0, shared := false }) = false)
    ∧ (∀ e ∈ [0, 3, 4], (offered.extent 0 e).isSome = true)
    ∧ (offered.extent 0 4 = some { state := 3, dla := 2, block := 2, shared := false } ∧ offered.accesses = [] ∧ offered.held = []) := by decide +kernel
theorem wit_UnitStateEventsComplete :
    (∃ s : State, (s.unit 0xA40).own = 4 ∧ (s.cluster 0).draining = false ∧ (s.cluster 0).changing = false ∧ s.requested 0xA40 = 3 ∧ s.clusterEmpty (clusterOf 0xA40) = true)
    ∧ (∃ s : State, (s.unit 0x617).own = 4) ∧ (∃ s : State, (s.unit 0x610).own = 5 ∧ (s.unit 0x610).reason = 2)
    ∧ (∃ s : State, unitExists 0xA40 = true ∧ (s.unit 0xA40).clock.isSome = true ∧ (s.unit 0xA40).fired = false ∧ (s.unit 0xA40).own ≠ 5
      ∧ (s.unit 0xA40).own ≠ 6)
    ∧ (∃ (s : State) (a : Attach), tabGet s.attaches 1 = some a ∧ a.kind = 3) := by
  refine ⟨⟨{ lab with units := [(0xA40, { own := 4 })], objs := [(okey 0xA40 1 0, 3)] }, by decide +kernel⟩,
    ⟨{ lab with units := [(0x617, { own := 4 })] }, by decide +kernel⟩,
    ⟨{ lab with units := [(0x610, { own := 5, reason := 2 })] }, by decide +kernel⟩,
    ⟨{ lab with units := [(0xA40, { own := 1, clock := some 0 })] }, by decide +kernel⟩,
    ⟨{ lab with attaches := [(1, { region := 16, ld := 0, kind := 3, base := 0, keyGen := 0, since := 0 })] },
      { region := 16, ld := 0, kind := 3, base := 0, keyGen := 0, since := 0 }, by decide +kernel⟩⟩

/-- An access of LD0's host that waits for its granules. -/
def hostAccess (w : AccWait) (e : TileEntry) : Access :=
  { id := 1, ld := 0, dpa := 0, tag := 0, wait := w, key := 0, line := 0, entry := e, parts := [], needs := [], req := 0, load := none }
/-- Channel 0 in a state, with one access under way. -/
def nearLab (c : Chan) : State := { lab with now := 100000, channels := [(0, c)], accesses := [hostAccess .near { home := 1, state := 1 }] }
/-- A read of granule 0 for access 1. -/
def read0 : RdReq := { access := 1, gran := 0, requester := 0 }
/-- A patrol read of granule 0. -/
def patrol0 : RdReq := { access := 0, gran := 0, requester := 0x59, patrol := true }
theorem wit_NearTierEventsComplete_reads :
    (lab.stage = .running ∧ (lab.chan 0).selfRefresh = false)
    ∧ (read0 ∈ ((nearLab { reads := [read0] }).chan 0).reads ∧ read0.since + (nearLab {}).obj 0x500 0x131 0 < (nearLab {}).now)
    ∧ (((nearLab { inflight := [read0] }).chan 0).inflight = [read0]
      ∧ (((nearLab { inflight := [read0] }).setChan 0 { inflight := [], crcRun := 0 }).takeGranule 0 0 [] []).2.accesses.find? (·.id == 1)
        = some (hostAccess .near { home := 1, state := 1 }) ∧ read0.patrol = false)
    ∧ (((nearLab { inflight := [patrol0] }).chan 0).inflight = [patrol0] ∧ patrol0.patrol = true
      ∧ (let u := (nearLab { inflight := [patrol0] }).setChan 0 { inflight := [], crcRun := 0 }
        (u.takeGranule 0 0x59 [⟨71, 1⟩] [⟨71, 1⟩]).1.isSome = true ∧ ((u.chan (u.granChan 0)).queuedRaw 0).isSome = false
        ∧ (u.takeGranule 0 0x59 [⟨71, 1⟩] [⟨71, 1⟩]).2.chanLost 0 = false))
    ∧ (1 < chanBlocks ∧ lab.segOpen (lab.granSeg (16 * blockAt lab.parityOn 0 1 + 1)) = true ∧ lab.stage = .running) := by
  decide +kernel
theorem wit_NearTierEventsComplete_errors :
    ((((nearLab { replayTimes := [99000, 99500, 99900] }).chan 0).replayTimes.filter (fun t => decide (t + 10000 ≥ 100000))).length < 4)
    ∧ (((nearLab { inflight := [read0], crcRun := 2 }).chan 0).inflight ≠ [] ∧ ((nearLab { inflight := [read0], crcRun := 2 }).chan 0).crcRun + 1 < 4)
    ∧ ((nearLab { crcRun := 3 }).chan 0).crcRun = 3 ∧ ((nearLab { retraining := true }).chan 0).retraining = true ∧ lab.chanLost 0 = false
    ∧ (sextNat 8 (lab.obj 0x500 0x103 0) ≤ 105 ∧ ((nearLab { hot := true }).chan 0).hot = true ∧ ((nearLab {}).chan 0).hot = false) := by decide +kernel

/-- A coded entry of slot 0 for line 0 of tile 0, and the channel that holds it. -/
def coded0 : FrEntry :=
  { mapIndex := 0, loc := 0, tile := 0, line := 0, ty := 0, width := 8, coded := List.replicate 64 0, scale := 0, flag := false, slot := 0, gen := 1, keySlot := 0, inst := 0 }
theorem wit_ChannelWorkCompletes :
    (lab.stage = .running ∧ lab.chanDown 0 = false ∧ (lab.chan 0).retraining = false ∧ (lab.chan 0).selfRefresh = false
      ∧ (lab.chan 0).stallUntil ≤ lab.now ∧ (nearLab {}).nearSlot = none ∧ (nearLab {}).slotFor 16 = true)
    ∧ (nearLab { takenOut := true }).chanDown 0 = true
    ∧ ((nearLab { selfRefresh := true, reads := [read0] }).chanDown 0 = false ∧ ((nearLab { selfRefresh := true, reads := [read0] }).chan 0).retraining = false)
    ∧ (((nearLab { wq := [{ body := .coded coded0, requester := 0, since := 0 }] }).chan 0).firstCoded
        = some ({ body := .coded coded0, requester := 0, since := 0 }, coded0)
      ∧ ∀ f ∈ ({ (nearLab {}).tgt 0 with elem := 0, frWidth := frCode 8, location := 0, home := 1 } : TileEntry).needs 0,
        ((nearLab { wq := [{ body := .coded coded0, requester := 0, since := 0 }] }).setChan 0 (Chan.drainUpdate {})).queueTakes f = true)
    ∧ (((nearLab { candidates := [(1, 7)], remap := [(65536 + 9, 0)] }).chan 0).candidates = [(1, 7)]
      ∧ tabGet ((nearLab { candidates := [(1, 7)], remap := [(65536 + 9, 0)] }).chan 0).remap (65536 * 1 + 7) = none
      ∧ firstBelow 64 (fun i => !((([(65536 + 9, 0)] : List (Nat × Nat))).filterMap (fun m => if m.1 / 65536 = 1 then some m.2 else none)).contains i)
        = some 1) := by decide +kernel

/-- Tile 5 of LD0 stored in the near tier, in the far store, or in the spill area. -/
def tileAt (home loc len : Nat) : TileEntry := { home := home, state := 1, region := 0, location := loc, length := len }
/-- A move of tile 5, in a state, to a tier. -/
def moveOf (st : Nat) (dst : TileEntry) (ready : Bool) : Move :=
  { tag := 8193, kind := 3, state := st, cls := 4, key := 5, tile := 5, ld := 0, srcTier := 1, dstTier := 2, dst := dst, by_ := .policy, start := 0, ready := ready }
/-- LD0 with tile 5 in the near tier, and an open segment of its stream. -/
def moveLab : State :=
  { lab with
    tileMap := [(5, tileAt 1 0 257)]
    objs := [(okey 0x200 0x200 0, 2 ^ 32), (okey 0x200 0x200 1, 2 ^ 32)]
    segs := [(0, { state := 1, stream := 0, mask := 7, seqNo := 1 })] }
/-- LD0 with tile 5 in the near tier while its near share is used up, and a far store of three modules. -/
def crowded : State :=
  let up : UnitSt := { own := 1, shown := 1 }
  let port : FarPort := { present := true, active := true, capacity := 137438953472 }
  { moveLab with
    objs := [(okey 0x200 0x200 0, 16384), (okey 0x200 0x200 1, 2 ^ 32)]
    units := [(0x110, up), (0x610, up), (0x611, up), (0x612, up)]
    farPorts := [(0, port), (1, port), (2, port)] }
theorem wit_MovesComplete_alloc :
    crowded.contained = false ∧ crowded.policyPaused = false
    ∧ (crowded.watermark (crowded.payer (crowded.tgt 5).region)).moveAsker 5 3 2 = some (.policy, 4)
    ∧ ((crowded.watermark (crowded.payer (crowded.tgt 5).region)).startMove 5 3 2 4 .policy).isSome = true := by decide +kernel
/-- LD0 with a move of tile 5 that has been allocated. -/
def copying (e : TileEntry) : State := { moveLab with tileMap := [(5, e)], moves := [(1, moveOf 1 (tileAt 2 0 0) false)] }
/-- LD0 with a move of tile 5 that waits for its destination. -/
def confirming : State := { moveLab with moves := [(1, moveOf 3 (tileAt 0 0 257) true)] }
/-- LD0 with an access that waits for the retry of a page it failed on. -/
def retrying : State :=
  { lab with
    accesses := [hostAccess .dma (tileAt 3 0 4)]
    lds := [(0, { memSpace := true, busMaster := true, pages := [(0, { translate := false, unusable := false, addr := 0 })] })] }
theorem wit_MovesComplete_steps :
    (∀ e ∈ [tileAt 1 0 257, tileAt 3 0 4], (copying e).contained = false ∧ tabGet (copying e).moves 1 = some (moveOf 1 (tileAt 2 0 0) false)
      ∧ (copying e).serves (fun _ o => o.state == 1 && o.kind != 6) 1 (moveOf 1 (tileAt 2 0 0) false) = true)
    ∧ ((copying (tileAt 1 0 257)).tgt 5).home ≠ 3 ∧ ((copying (tileAt 3 0 4)).tgt 5).home = 3
    ∧ (tabGet confirming.moves 1 = some (moveOf 3 (tileAt 0 0 257) true) ∧ confirming.moveDurable 1 (moveOf 3 (tileAt 0 0 257) true) = true
      ∧ confirming.caddyLost (tileAt 0 0 257) = false
      ∧ confirming.serves confirming.moveDurable 1 (moveOf 3 (tileAt 0 0 257) true) = true)
    ∧ retrying.retryable 0 0 = [(.access 1, tileAt 3 0 4)]
    ∧ retrying.spillReachable 0 = true ∧ lab.spillReachable 0 = true := by decide +kernel
theorem wit_MovesComplete_retry :
    ((retrying.retryable 0 0).foldl (fun (u : State) f => u.spillRead 0 (f.2.location % 2 ^ 40) f.2.length f.1 (some 0)) retrying).dmaWaits (.access 1)
      = false := by decide +kernel
/-- A discarded home of tile 5, in the near tier. -/
def old5 : OldHome := { mapIndex := 5, entry := tileAt 1 0 257, payer := 0, charge := 0 }
theorem wit_TileUpkeepCompletes :
    (({ lab with oldHomes := [old5] } : State).oldHomes[0]? = some old5 ∧ ({ lab with oldHomes := [old5] } : State).oldClass old5 = 5
      ∧ (∀ q ∈ [old5], ({ lab with oldHomes := [old5] } : State).oldClass q ≠ 4) ∧ lab.moves = [])
    ∧ lab.poisons.length < 65536
    ∧ ((moveLab.entry 5).state ≠ 0 ∧ (moveLab.entry 5).state ≠ 4
      ∧ 64 ≤ (({ moveLab with objs := [(okey 0x700 0x101 0, 64)] } : State).obj 0x700 0x101 0 + 256 - (moveLab.entry 5).recency) % 256) := by decide +kernel

/-- A DMA read of LD0 for something. -/
def dmaOf (f : DmaFor) : Dma := { id := 9, ld := 0, gen := false, for_ := f, addr := 0, len := 64, leg := 0 }
/-- LD0 with that read outstanding. -/
def dmaLab (f : DmaFor) : State := { lab with dmas := [dmaOf f], accesses := [hostAccess .dma (tileAt 3 0 4)], moves := [(1, moveOf 1 (tileAt 2 0 0) false)] }
theorem wit_DmaCompletionsComplete :
    ((dmaLab (.access 1)).dmas.find? (·.id == 9) = some (dmaOf (.access 1)) ∧ (dmaLab (.access 1)).dmaDropped (dmaOf (.access 1)) false = false
      ∧ (dmaLab (.access 1)).accesses.find? (·.id == 1) = some (hostAccess .dma (tileAt 3 0 4)))
    ∧ ((dmaLab (.load 2)).dmas.find? (·.id == 9) = some (dmaOf (.load 2)) ∧ (dmaLab (.load 2)).dmaDropped (dmaOf (.load 2)) false = false)
    ∧ ((dmaLab (.request 2)).dmas.find? (·.id == 9) = some (dmaOf (.request 2)) ∧ (dmaLab (.request 2)).dmaDropped (dmaOf (.request 2)) false = false)
    ∧ ((dmaLab (.move 1)).dmas.find? (·.id == 9) = some (dmaOf (.move 1)) ∧ tabGet (dmaLab (.move 1)).moves 1 = some (moveOf 1 (tileAt 2 0 0) false))
    ∧ (dmaLab (.load 2)).dmaDropped (dmaOf (.load 2)) true = true
    ∧ ((dmaOf (.request 2)).gen = ((dmaLab (.request 2)).ld 0).tagGen ∧ (dmaOf (.request 2)).retry = none)
    ∧ (∀ d ∈ [{ dmaOf (.request 2) with retry := some 4 }], ({ lab with dmas := [d] } : State).dmas.find? (·.id == d.id) = some d
      ∧ d.gen = (({ lab with dmas := [d] } : State).ld d.ld).tagGen ∧ ({ lab with dmas := [d] } : State).dmaDropped d d.gen = false
      ∧ d.for_ = .request 2 ∧ d.retry = some 4) := by decide +kernel

/-- Port 0 with its module released, and in a state of its own. -/
def portLab (own : Nat) (x : FarPort) : State := { lab with farPorts := [(0, x)], units := [(0x610, { own := own, shown := own })] }
/-- What enumeration reads of a module that meets 07 R223. -/
def module128 : FarModuleInfo := { capacity := 137438953472, width := 4, rate := 32, vendor := 0x1F6B, device := 1, serial := zeros 8, failed := none }
theorem wit_FarModuleEventsComplete :
    (lab.requested 0x610 ≠ 3 ∧ lab.farRef = true ∧ lab.stage = .running)
    ∧ (((portLab 0 { released := true }).farPort 0).released = true ∧ (portLab 0 { released := true }).farServes 0 = false
      ∧ (portLab 0 { released := true }).requested (0x610 + (0 : Fin 8)) ≠ 3)
    ∧ (module128.failed = none ∧ (module128.width = 8 ∨ module128.width = 4) ∧ (module128.rate = 64 ∨ module128.rate = 32)
      ∧ 137438953472 ≤ module128.capacity ∧ module128.capacity ≤ 1099511627776)
    ∧ (farRefused { module128 with capacity := 137438953471 } = some 3 ∧ farRefused { module128 with failed := some 7 } = some 7)
    ∧ ((portLab 1 { released := true, active := true }).farServes 0 = true ∧ ((portLab 1 { released := true, active := true }).farPort 0).recovering = false) := by decide +kernel

/-- An open, a closing and an empty segment. -/
def seg (st : Nat) (issued : List (Nat × Bytes)) : Seg := { state := st, stream := 0, mask := 7, seqNo := 1, issued := issued }
/-- A module with one segment, and tile 5 in it. -/
def segLab (x : Seg) (tiles : List (Nat × TileEntry)) (c : List (Nat × CleanCopy)) : State :=
  { lab with segs := [(0, x)], tileMap := tiles, cleanCopies := c, accesses := [hostAccess .far (tileAt 2 0 4)] }
theorem wit_FarStoreCommandsComplete_stripes :
    ((segLab (seg 1 []) [] []).openSegment 0 = some (0, seg 1 []))
    ∧ ((segLab (seg 1 [(62, [])]) [] []).seg (62 / 64) = some (seg 1 [(62, [])]) ∧ (62 : Nat) % 64 ≠ 63
      ∧ (seg 1 [(62, [])]).issued.find? (fun i => i.1 == 62 % 64 && 62 % 64 != 63) = some (62, []))
    ∧ ((segLab (seg 1 [(63, [])]) [] []).seg 0 = some (seg 1 [(63, [])]) ∧ (seg 1 [(63, [])]).issued = [(63, [])])
    ∧ ((seg 1 [(0, [])]).mask.testBit (2 : Fin 8) = true ∧ ∃ i ∈ (seg 1 [(0, [])]).issued, i.1 = 0 % 64)
    ∧ (segLab (seg 1 []) [] []).accesses.find? (fun y => y.id == 1 && decide (y.wait = .far)) = some (hostAccess .far (tileAt 2 0 4)) := by decide +kernel
theorem wit_FarStoreCommandsComplete_cleaning :
    ((segLab (seg 2 []) [(5, tileAt 2 0 4)] []).cleanChoice = some 0 ∧ (segLab (seg 2 []) [(5, tileAt 2 0 4)] []).seg 0 = some (seg 2 []))
    ∧ (tabGet (segLab (seg 3 []) [(5, tileAt 2 0 4)] [(2, { key := 5, old := 0, new := 131072, length := 4, durable := true })]).cleanCopies 2
        = some { key := 5, old := 0, new := 131072, length := 4, durable := true }
      ∧ ((segLab (seg 3 []) [(5, tileAt 2 0 4)] []).tgt 5) = tileAt 2 0 4)
    ∧ (((segLab (seg 3 []) [(5, tileAt 1 0 257)] []).tgt 5).home = 1 ∧ ((segLab (seg 3 []) [(5, tileAt 1 0 257)] []).tgt 5).state ≠ 2)
    ∧ ((segLab (seg 3 []) [] []).seg 0 = some (seg 3 []) ∧ ({ segLab (seg 3 []) [] [] with accesses := [] } : State).segIdle 0 = true) := by decide +kernel

/-- LD0 with 256 MiB from HPA 0 decoded to DPA 0 by a committed decoder. -/
def decoding : Ld := ((({ memSpace := true, busMaster := true } : Ld).hdmWrite 0 8 (2 ^ 28)).hdmWrite 0 16 512)
theorem wit_HostAccessesComplete :
    (decoding.hdm 0x0FFFFFC0 = some 0x0FFFFFC0 ∧ decoding.hdm 0 = some 0 ∧ lab.hostReaches = true ∧ lab.legReaches 0 = true ∧ lab.legReaches 1 = true)
    ∧ ((({ lab with lds := [(0, { invalidations := [(31, 0, 4096)] })] } : State).ld 0).invalidations.length < 32)
    ∧ ((({ lab with lds := [(0, { invalidations := [(31, 0, 4096)] })] } : State).ld 0).invalidations.find? (·.1 == 31) = some (31, 0, 4096)
      ∧ lab.dmas = []) := by decide +kernel

/-- LD0's mailbox with a background operation under way, or another configuration of LD0. -/
def boxLab (l : Ld) : State := { lab with lds := [(0, l)] }
theorem wit_MailboxReadsAnswer :
    (lab.stage = .running ∧ (lab.ld 0).flr = false ∧ lab.bound 0 = true)
    ∧ ((lab.ld 0).background = none ∧ (lab.ld 0).backgroundDone = none)
    ∧ ((boxLab { background := some (0xC821, 0) }).bound 0 = true ∧ ((boxLab { background := some (0xC821, 0) }).ld 0).background = some (0xC821, 0))
    ∧ (([4] : Bytes).length = 1 ∧ field [4] 0 1 ≤ 4 ∧ ((tabGet (lab.ld 0).logs (field [4] 0 1)).getD []).length ≤ ((lab.ld 0).respLimit - 32) / 128)
    ∧ ((effectsUuid ++ leBytes 4 0 ++ leBytes 4 effectsLog.length).length = 24
      ∧ (effectsUuid ++ leBytes 4 0 ++ leBytes 4 effectsLog.length).take 16 = effectsUuid
      ∧ field (effectsUuid ++ leBytes 4 0 ++ leBytes 4 effectsLog.length) 16 4 + field (effectsUuid ++ leBytes 4 0 ++ leBytes 4 effectsLog.length) 20 4
        ≤ effectsLog.length)
    ∧ ((zeros 16).length = 16 ∧ (lab.poisonedDpas 0).filter (fun d => decide (field (zeros 16) 0 8 < d + 65536 ∧ d < field (zeros 16) 0 8 + 64 * field (zeros 16) 8 8)) = [])
    ∧ (([1, 0] : Bytes).length = 2 ∧ field [1, 0] 1 1 = 0) ∧ ((zeros 8).length = 8 ∧ field (zeros 8) 4 4 = 0) := by decide +kernel

/-- A grant of page 131,071 at 2 MiB. -/
def grant1 : Bytes := leBytes 2 1 ++ zeros 6 ++ leBytes 4 131071 ++ zeros 4 ++ leBytes 8 2097152
theorem wit_MailboxWritesComplete :
    (([12] : Bytes).length = 1 ∧ 8 ≤ field [12] 0 1 ∧ field [12] 0 1 ≤ 12 ∧ 8 ≤ field [8] 0 1)
    ∧ ((zeros 1 ++ [1] ++ zeros 4 : Bytes).length = 6 + 2 * field (zeros 1 ++ [1] ++ zeros 4) 2 1 ∧ field (zeros 1 ++ [1] ++ zeros 4) 0 1 ≤ 4
      ∧ (field (zeros 1 ++ [1] ++ zeros 4) 1 1).testBit 0 = true)
    ∧ (([4, 0, 1, 0, 0, 0, 9, 0] : Bytes).length = 6 + 2 * field [4, 0, 1, 0, 0, 0, 9, 0] 2 1 ∧ field [4, 0, 1, 0, 0, 0, 9, 0] 0 1 ≤ 4
      ∧ (field [4, 0, 1, 0, 0, 0, 9, 0] 1 1).testBit 0 = false
      ∧ ((((tabGet ((boxLab { logs := [(4, [(9, []), (10, [])])] }).ld 0).logs (field [4, 0, 1, 0, 0, 0, 9, 0] 0 1)).getD []).take (field [4, 0, 1, 0, 0, 0, 9, 0] 2 1)).map (·.1)
        = (List.range (field [4, 0, 1, 0, 0, 0, 9, 0] 2 1)).map (fun i => field [4, 0, 1, 0, 0, 0, 9, 0] (6 + 2 * i) 2)))
    ∧ (([0x51, 0, 1, 0] : Bytes).length = 4 ∧ (∀ k < 4, field [0x51, 0, 1, 0] k 1 % 4 = 1 → field [0x51, 0, 1, 0] k 1 / 16 < 6)
      ∧ ∀ k < 4, field [0x51, 0, 1, 0] k 1 % 4 ≤ 1)
    ∧ (grant1.length = 8 + 16 * field grant1 0 2 ∧ lab.grantBad 0 grant1 = false)
    ∧ ((boxLab { pages := [(0, { translate := false, unusable := false, addr := 0 }), (1, { translate := false, unusable := false, addr := 2097152 })] }).withdrawPages 0
        (leBytes 4 1 ++ leBytes 4 0)).1 = retBackground
    ∧ commandEffects.any (·.1 == (0x0200 : U16).toNat) = false
    ∧ (((boxLab { background := some (0xC821, 0), withdrawing := [0] }).ld 0).withdrawing ≠ []
      ∧ (boxLab { background := some (0xC821, 0), withdrawing := [0] }).spillTaken 0 (fun p => [0].contains p) = 0) := by decide +kernel

theorem wit_HostPortEventsComplete_functions :
    (lab.bound 1 = false ∧ lab.stage = .running) ∧ lab.bound 0 = true ∧ (lab.leg 0).up = true ∧ (lab.leg 1).up = true ∧ lab.fw.recovery = false
    ∧ (({ lab with legs := [(0, { up := true })], objs := [(okey 0x100 0x100 1, 1)] } : State).legExists 1 = true
      ∧ (({ lab with legs := [(0, { up := true })] } : State).leg 1).disabled = false ∧ (({ lab with legs := [(0, { up := true })] } : State).leg 1).up = false
      ∧ (({ lab with legs := [(0, { up := true })] } : State).leg 0).up = true ∧ lab.hrefclk = true ∧ (({ lab with units := [(0x102, { own := 1 })] } : State).unit 0x102).own ≠ 3)
    ∧ (lab.ld 0).memSpace = true ∧ ((boxLab { msixEnable := true }).ld 0).msixEnable = true ∧ 63 < 64
    ∧ ((3 : Fin 64).val / 4 = (0 : Fin 16).val) := by decide +kernel
theorem wit_HostPortEventsComplete_configuration :
    (lab.leg 0).up = true ∧ (lab.ld 0).memSpace = true ∧ 0x3FFF8 + 8 ≤ 0x40000 ∧ ((lab.leaveChrysalis 0).ld 0).flr = false ∧ 4092 < 4096
    ∧ 4092 % 4 + 4 ≤ 4 ∧ 4 ≠ 0
    ∧ ((boxLab { memSpace := true, cfg := memWrite [] 0x30 [1] }).romDecodes 0 = true ∧ 0x3FFFF8 + 8 ≤ 2 ^ 22) := by decide +kernel

/-- An SPDM request of a code, `n` bytes long. -/
def spdmReq (code n : Nat) : Bytes := leBytes 1 0x12 ++ leBytes 1 code ++ zeros n
/-- A connection that has come as far as its algorithms, with a session. -/
def spdmLab : State := { lab with spdm := [(0, { version := true, capabilities := true, algorithms := true, session := some 1 })] }
theorem wit_SpdmRequestsAnswer :
    (∀ q ∈ [(0x84, 2), (0xE1, 2), (0xE3, 30), (0x81, 2), (0x82, 6), (0x83, 34), (0xE0, 2), (0xE4, 424)],
      spdmLab.spdmServes 0 = true ∧ field (spdmReq q.1 q.2) 1 1 = q.1 ∧ 4 ≤ (spdmReq q.1 q.2).length ∧ q.2 + 2 ≤ (spdmReq q.1 q.2).length
      ∧ field (spdmReq q.1 q.2) 2 1 = 0 ∧ field (spdmReq q.1 q.2) 3 1 = 0 ∧ (field (spdmReq q.1 q.2) 2 1).testBit 0 = false)
    ∧ ((spdmLab.spdmOf 0).version = true ∧ (spdmLab.spdmOf 0).capabilities = true ∧ (spdmLab.spdmOf 0).algorithms = true
      ∧ (spdmLab.spdmOf 0).session.isSome = true) ∧ (field [0, 4] 0 1 = 0 ∧ field [0, 4] 1 1 = 4) := by decide +kernel
theorem wit_SpdmRequestsAnswer_certificate : field (spdmReq 0x82 6) 4 2 < spdmChain.length := by
  have h : field (spdmReq 0x82 6) 4 2 = 0 := by decide +kernel
  rw [h]; simp [spdmChain, leBytes]

/-- A job descriptor: image at 0, clusters, threads per cluster, no output region, a host window of 4 KiB at 2^32, time limit and
wait limit of 1000 ns. -/
def jobDesc (flags : Nat) : Bytes :=
  leBytes 8 0 ++ leBytes 4 4096 ++ leBytes 4 0 ++ leBytes 1 1 ++ leBytes 1 2 ++ leBytes 1 flags ++ zeros 1 ++ leBytes 2 0xFFFF ++ zeros 2
    ++ leBytes 8 (2 ^ 32) ++ leBytes 8 4096 ++ leBytes 8 1000 ++ leBytes 8 1000 ++ zeros 8
/-- Job 0 of LD0 in a state, on clusters. -/
def jobOf (st : Nat) (cs : List Nat) (flags : Nat) : Job := { state := st, desc := jobDesc flags, clusters := cs }
/-- A module with job 0, cluster 0 of LD0, and one thread of it. -/
def jobLab (x : Job) (c : Cluster) (th : List (Nat × Thread)) (reqs : List MvReq) : State :=
  { lab with jobs := [(0, x)], clusters := [(0, c)], threads := th, mvReqs := reqs, objs := [(okey 0x200 0x200 0, 2 ^ 32), (okey 0xA40 0x100 0, 0)]
             tileMap := [(5, tileAt 1 0 257)], units := [(0x110, { own := 1, shown := 1 }), (0xA40, { own := 1, shown := 1 })] }
/-- A mover request of job 0, for tile 5, its bytes written out. -/
def askBytes (op : Nat) : Bytes :=
  leBytes 1 op ++ leBytes 1 3 ++ leBytes 1 0 ++ zeros 1 ++ leBytes 4 1 ++ leBytes 8 (5 * 65536) ++ leBytes 8 0x400000000000 ++ leBytes 8 0x400000000400
/-- That request as the mover holds it. -/
def ask (op : Nat) (done : Option (Nat × Nat)) : MvReq :=
  { id := 3, job := 0, thread := ⟨0, 0, 0⟩, op := op, completion := 0x400000000400, bytes := askBytes op, done := done }
theorem wit_JobAndMoverEventsComplete_jobs :
    ((jobLab (jobOf 2 [] 0) {} [] []).job 0 = some (jobOf 2 [] 0) ∧ (jobLab (jobOf 2 [] 0) {} [] []).contained = false
      ∧ (jobLab (jobOf 2 [] 0) {} [] []).firstWaiting (jobOf 2 [] 0) = true ∧ (jobLab (jobOf 2 [] 0) {} [] []).placement 0 (jobOf 2 [] 0) = some [0])
    ∧ ((jobOf 2 [0] 0).clusters ≠ [] ∧ ∀ c ∈ (jobOf 2 [0] 0).clusters, ((jobLab (jobOf 2 [0] 0) {} [] []).cluster c).scrubbing = false)
    ∧ ((jobOf 3 [0] 0).timeLimit ≠ 0 ∧ (jobOf 3 [0] 0).waitLimit ≠ 0
      ∧ (jobLab (jobOf 3 [0] 0) {} [(0, { Thread.fresh 0 0 0 with wait := .array })] []).jobWaits 0 (jobOf 3 [0] 0) = true)
    ∧ ((({ lab with clusters := [(0, { scrubbing := true, scrubTo := 0 })] } : State).cluster 0).scrubbing = true
      ∧ (({ lab with clusters := [(0, { scrubbing := true, scrubTo := 0 })] } : State).cluster 0).lookup = none ∧ (lab.unit 0xA40).own ≠ 4 ∧ (lab.unit 0xA40).own ≠ 5)
    ∧ ((lab.cluster 0).job = none ∧ (lab.cluster 0).queue = [] ∧ (lab.cluster 0).scrubbing = false ∧ (lab.cluster 0).clockOn = true) := by decide +kernel
theorem wit_JobAndMoverEventsComplete_requests :
    ((jobLab (jobOf 3 [0] 1) {} [] []).policyPaused = false
      ∧ ∀ op ∈ [1, 2, 3, 4, 5, 6], (jobLab (jobOf 3 [0] 1) {} [] [ask op none]).mvReqs.find?
          (fun q => q.job == 0 && q.bytes == askBytes op && !q.started && q.done.isNone && q.op == op) = some (ask op none)
        ∧ (ask op none).formed = true ∧ (jobLab (jobOf 3 [0] 1) {} [] [ask op none]).outranked (ask op none) = false ∧ (jobLab (jobOf 3 [0] 1) {} [] [ask op none]).ownTile (jobLd 0) (ask op none).tileAddr = some 5)
    ∧ ((jobLab (jobOf 3 [0] 1) {} [] [ask 4 (some (0, 7))]).mvReqs[0]? = some (ask 4 (some (0, 7))) ∧ 1 ≤ (ask 4 none).op ∧ (ask 4 none).op ≤ 4
      ∧ (jobLab (jobOf 3 [0] 1) {} [] [ask 4 (some (0, 7))]).mvReqs.find? (·.id == 3) = some (ask 4 (some (0, 7)))) := by decide +kernel

/-- A module that runs the image of slot 1 on trial. -/
def trialLab : State :=
  { lab with stage := .filling, fw := { slots := [(0, factoryImage), (1, factoryImage)], running := 1, active := 1, onTrial := true } }
theorem wit_PowerSequenceCompletes :
    (({ lab with stage := .off } : State).stage = .off ∧ ({ lab with perst := true } : State).perst = true ∧ ({ lab with perst := false } : State).perst = false)
    ∧ lab.stage ≠ .off ∧ lab.stage = .running ∧ State.reset.stage = .inReset
    ∧ (({ lab with stage := .starting } : State).fw.recovery = false ∧ ({ lab with stage := .starting } : State).parityOn = false
      ∧ (0xFFFFFFFF : U32).toNat = 2 ^ 32 - 1)
    ∧ (({ lab with stage := .filling } : State).stage = .filling)
    ∧ (trialLab.stage = .filling ∧ trialLab.fw.onTrial = true ∧ trialLab.fw.confirmed = false ∧ trialLab.fw.recovery = false
      ∧ ({ trialLab.fundamental with fw := { trialLab.fundamental.fw with active := 0, trial := false } } : State).bootImage 0 = some factoryImage) := by
  decide +kernel

theorem wit_PowerManagerCompletes :
    (∀ x ∈ ([119, 60, 60, 60, 70] : List Int).take 4, x < 120)
    ∧ (1 ≤ 1 ∧ 1000 ≤ 1000 ∧ lab.stage = .running)
    ∧ (({ lab with objs := [(okey 0xD20 0x150 0, 1)] } : State).power.deep = 0 ∧ ({ lab with objs := [(okey 0xD20 0x150 0, 1)] } : State).obj 0xD20 0x150 0 = 1
      ∧ ({ lab with objs := [(okey 0xD20 0x150 0, 1)] } : State).obj 0 0x131 0 = 0 ∧ ({ lab with objs := [(okey 0xD20 0x150 0, 1)] } : State).obj 0 0x130 0 = 0
      ∧ lab.quietModule = true ∧ lab.contained = false)
    ∧ (({ lab with power := { deep := 1 } } : State).power.deep = 1 ∧ ({ lab with power := { deep := 1 } } : State).highSegmentsEmpty = true)
    ∧ (({ lab with power := { deep := 2 } } : State).power.deep = 2 ∧ (lab.chan 31).reads = [] ∧ (lab.chan 31).xbar = [] ∧ (lab.chan 31).wq = []
      ∧ (lab.chan 31).inflight = [])
    ∧ ((({ lab with segStates := [(2, 3), (7, 3)] } : State).segStates.find? (fun x => x.2 == 3)).map (·.1) = some (2 : Fin 8).val
      ∧ (tabDel ({ lab with segStates := [(2, 3), (7, 3)] } : State).segStates (2 : Fin 8)).any (fun x => x.2 == 3) = true)
    ∧ lab.hrefclk = true
    ∧ (({ lab with allDown := some 0, legs := [] } : State).allDown.isSome = true ∧ ({ lab with allDown := some 0, legs := [] } : State).allLegsDown = true)
    ∧ (({ lab with objs := [(okey 0 0x130 0, 1)] } : State).obj 0 0x131 0 = 0 ∧ ({ lab with objs := [(okey 0 0x130 0, 1)] } : State).obj 0 0x130 0 = 1) := by
  decide +kernel

/-- A dump of watch 0 whose lines have come. -/
def dumpLab : State := { lab with telem := { dumps := [(0, { state := 1, running := true, watch := zeros 64 })] } }
/-- A key slot of LD0's host key whose sweep runs, or with an old key. -/
def keySlot (st : Nat) (sw : Bool) : KeySlot := { state := st, kind := 0, gen := 2, binding := 0, useMask := 1, key := zeros 64, shadow := some (zeros 64), sweeping := sw }
/-- A module with that key in slot 0. -/
def keyLab (z : KeySlot) (e : List (Nat × TileEntry)) : State := { lab with keys := [(0, z)], tileMap := e }
/-- A module whose core 7 restarts, held messages or not. -/
def restartLab (other : Bool) : State :=
  { lab with cores := (7, { restarting := true }) :: if other then [(6, { restarting := true })] else [] }
theorem wit_RasAndTelemetryEventsComplete_cores :
    (lab.stage = .running ∧ lab.contained = false)
    ∧ (({ lab with cores := [(0, { halt := 1 })] } : State).ctl 0).halt = 1
    ∧ (({ lab with units := [(0xD00, { own := 2, shown := 2 })] } : State).actual 0xD00 = 2 ∧ ({ lab with units := [(0xD00, { own := 2, shown := 2 })] } : State).coreRuns 0 = true)
    ∧ ((restartLab true).coreRestarted 7).coreRestarts = true ∧ ((restartLab false).coreRestarted 7).coreRestarts = false := by decide +kernel
theorem wit_RasAndTelemetryEventsComplete_records :
    ({ lab with telem := { freeze := 1 } } : State).telem.freeze = 1 ∧ ({ lab with telem := { snap := 1 } } : State).telem.snap = 1
    ∧ ((dumpLab.dump 0).running = true ∧ (∀ l ∈ dumpLab.telem.dumpLines, l.watch = 0 → l.arrived = true)
      ∧ (dumpLab.dumpWrite 0 (dumpLab.dump 0) (dumpLab.telem.dumpLines.filter (·.watch == 0))).isSome = true
      ∧ ∀ t ∈ (dumpLab.dumpWrite 0 (dumpLab.dump 0) (dumpLab.telem.dumpLines.filter (·.watch == 0))).toList, (t.dump 0).state = 1) := by
  decide +kernel
theorem wit_KeySweepsAndVerificationComplete :
    ((keyLab (keySlot 2 false) []).key 0 = some (keySlot 2 false) ∧ (keyLab (keySlot 2 false) []).shadowUsed 0 (keySlot 2 false) = false)
    ∧ ((keyLab (keySlot 1 true) [(5, { tileAt 1 0 257 with keyGen := 1 })]).nextSwept 0 (keySlot 1 true) = some 5
      ∧ (keyLab (keySlot 1 true) []).nextSwept 0 (keySlot 1 true) = none)
    ∧ (({ lab with fw := { verifying := true } } : State).fw.verifying = true ∧ ({ lab with fw := { verifying := true } } : State).fw.cancelling = false)
    ∧ (lab.coreRuns 7 = true ∧ (lab.ctl 7).halt ≠ 2) := by
  decide +kernel

/-- Stream port 0 in a state of its own; this module is member 0 of the span 5 of members 0 and 1. -/
def streamLab (x : SPort) (z : Span) : State :=
  { lab with sports := [(0, x)], span := z, objs := [(okey 0xC00 0x100 0, 5), (okey 0xC00 0x101 0, 0), (okey 0xC00 0x102 0, 3), (okey 0xC10 1 0, 1)] }
/-- The INIT of member 1. -/
def initBytes : Bytes := packetBytes 1 0 1 0 0x10 0 0 5 77 (leBytes 8 0x0010001000100010 ++ leBytes 1 1 ++ zeros 7)
theorem wit_StreamPortEventsComplete :
    ((streamLab {} {}).stage = .running ∧ (streamLab {} {}).strefclk = true ∧ ((streamLab {} {}).sport 0).up = false ∧ (streamLab {} {}).requested (portUnit 0) ≠ 3)
    ∧ (((streamLab { up := true } {}).sport 0).up = true ∧ ((streamLab { up := true } {}).sport 0).retraining = false
      ∧ tabGet (streamLab { up := true } {}).injects (portUnit 0) = none)
    ∧ (((streamLab { up := true, replay := [(0, [])] } {}).sport 0).replay ≠ [])
    ∧ (((streamLab { up := true, width := 8, retraining := true } {}).sport 0).retraining = true
      ∧ ((streamLab { up := true, width := 8, retraining := true } {}).sport 0).replay = []
      ∧ ((streamLab { up := true, width := 8, retraining := true } {}).sport 0).width = 8 ∧ (1 ≠ 8 ∧ 1 ≠ 4 ∧ 1 ≠ 2))
    ∧ (pktOk 1 initBytes = true ∧ ((streamLab { up := true } {}).sport 0).inited = false ∧ (pktData initBytes).length = 16
      ∧ (streamLab { up := true } {}).initBad 0 initBytes = false ∧ (streamLab { up := true } {}).span.mask = 0)
    ∧ ((streamLab {} {}).obj 0xC00 0x100 0 ≠ 0 ∧ (streamLab {} {}).obj 0xC00 0x100 0 < 2 ^ 32
      ∧ (3 : Byte).toNat.testBit ((streamLab {} {}).obj 0xC00 0x101 0) = true ∧ (3 : Byte).toNat &&& (streamLab {} {}).obj 0xC00 0x102 0 = (3 : Byte).toNat)
    ∧ (∃ q ∈ (streamLab {} { mask := 3, requests := [{ id := 4, member := 1, kind := 8 }] }).span.requests, q.member = (1 : Fin 8).val) := by decide +kernel

/-- A packet of a type from member 1 to member 0. -/
def pkt (kind vl status tag a b : Nat) (d : Bytes) : Bytes := packetBytes kind vl 1 0 0x10 status tag a b d
/-- The span of members 0 and 1 with requests and tiles under way. -/
def spanLab (z : Span) : State := { streamLab { up := true, width := 8, inited := true, peerMember := 1 } { z with id := 5, mask := 3, routes := [(1, 0, 1)] } with
  accesses := [hostAccess .remote (tileAt 1 0 257)], moves := [(1, { moveOf 2 (tileAt 2 0 0) false with kind := 6 })] }
/-- Whether a packet of a type from member 1 arrives for this member. -/
def arrives (s : State) (kind : Nat) (b : Bytes) : Bool :=
  decide (s.span.mask ≠ 0) && pktOk kind b && field b 2 1 == 1 && field b 3 1 == s.span.member
theorem arrives_for {s : State} {kind : Nat} {b : Bytes} (h : arrives s kind b = true) : PacketFor s 1 kind b := by
  simp [arrives] at h; exact ⟨h.1.1.1, h.1.1.2, h.1.2, h.2⟩
theorem wit_SpanControlPacketsComplete_small :
    (∀ p ∈ [(2, 0, zeros 16), (3, 0, zeros 16), (4, 0, zeros 16), (5, 1, []), (6, 0, zeros 16), (7, 0, zeros 16), (8, 0, []), (0x10, 1, []), (0x11, 3, zeros 64),
      (0x20, 2, zeros 64), (0x21, 2, []), (0x30, 3, zeros 16), (0x31, 3, zeros 64), (0x32, 3, ([] : Bytes))],
      arrives (spanLab {}) p.1 (pkt p.1 p.2.1 0 4 0 0 p.2.2) = true) := by decide +kernel
theorem wit_SpanControlPacketsComplete_reserve :
    pktB (pkt 8 0 0 4 32767 0 []) ≠ 0xFFFF ∧ pktA (pkt 8 0 0 4 32767 0 []) < 32768
    ∧ ((spanLab {}).received 1 (pkt 8 0 0 4 32767 0 [])).dlaFree 32767 = true ∧ ((spanLab {}).received 1 (pkt 8 0 0 4 32767 0 [])).lowestBlock = some 1
    ∧ pktB (pkt 8 0 0 4 0 0xFFFF []) = 0xFFFF ∧ pktB (pkt 8 0 0 4 0 0 []) ≠ 0xFFFF ∧ ((spanLab {}).received 1 (pkt 8 0 0 4 0 0 [])).dlaFree (pktA (pkt 8 0 0 4 0 0 [])) = false := by
  decide +kernel
theorem wit_SpanControlPacketsComplete_routes :
    arrives { spanLab {} with span := { (spanLab {}).span with member := 0, mask := 2 } } 2 (pkt 2 0 0 4 2 0 (zeros 16)) = true
    ∧ (1 : Fin 8).val ≤ (({ spanLab {} with span := { (spanLab {}).span with mask := 2 } } : State).received 1 (pkt 2 0 0 4 2 0 (zeros 16))).coordinatorOf
    ∧ (∀ m ∈ membersOf (pktA (pkt 2 0 0 4 2 0 (zeros 16)) % 256),
      m ∉ (({ spanLab {} with span := { (spanLab {}).span with mask := 2 } } : State).received 1 (pkt 2 0 0 4 2 0 (zeros 16))).span.unreachable)
    ∧ ∀ m ∈ membersOf (({ spanLab {} with span := { (spanLab {}).span with mask := 2 } } : State).received 1 (pkt 2 0 0 4 2 0 (zeros 16))).span.mask,
      (pktA (pkt 2 0 0 4 2 0 (zeros 16)) % 256).testBit m = true := by decide +kernel
/-- A request under way to member 1. -/
def asked1 (kind : Nat) (acc held move : Option Nat) : RemoteReq := { id := 4, member := 1, kind := kind, access := acc, held := held, move := move }
theorem wit_SpanDataPacketsComplete_answers :
    ((((spanLab { requests := [asked1 0x10 (some 1) none none] }).received 1 (pkt 0x20 2 0 4 0 0 (zeros 64))).takeRemote 1 4 (fun q => q.kind == 0x10)).1
        = some (asked1 0x10 (some 1) none none) ∧ pktStatus (pkt 0x20 2 0 4 0 0 (zeros 64)) = 0 ∧ (pktData (pkt 0x20 2 0 4 0 0 (zeros 64))).length = 64
      ∧ pktStatus (pkt 0x20 2 2 4 0 0 []) ≠ 0)
    ∧ (∀ q ∈ [asked1 8 none none none, asked1 0x11 none (some 3) none, asked1 0x32 none none (some 8193)],
      (((spanLab { requests := [q] }).received 1 (pkt 0x21 2 0 4 0 0 [])).takeRemote 1 4 (fun q => q.kind == 8 || q.kind == 0x11 || q.kind == 0x32)).1 = some q
      ∧ (((spanLab { requests := [q] }).received 1 (pkt 0x21 2 0 4 0 0 [])).takeRemote 1 4
          (fun q => q.kind == 8 || q.kind == 0x11 || q.kind == 0x32)).2.span.requests.any (fun p => p.held == some 3) = false)
    ∧ (spanLab {}).moves.find? (fun m => m.2.kind == 6 && some m.2.tag == some 8193) = some (1, { moveOf 2 (tileAt 2 0 0) false with kind := 6 })
    ∧ pktStatus (pkt 0x21 2 0 4 0 0 []) = 0 ∧ pktStatus (pkt 0x21 2 2 4 0 0 []) = 2 ∧ pktStatus (pkt 0x21 2 3 4 9 0 []) ≠ 0 ∧ pktStatus (pkt 0x21 2 3 4 9 0 []) ≠ 2 := by
  decide +kernel
/-- Tile 9 of member 1, of which 64 bytes are to come. -/
def comingIn : MoveIn := { source := 1, party := 0x10, tile := 9, length := 64, entry := zeros 32 }
/-- A copy of the key of member 1's host, and a reservation of member 1's extent 0 in map block 3. -/
def copyKey : KeySlot := { state := 1, kind := 0, gen := 0, binding := 0x10, useMask := 1, key := zeros 64, origin := some 1 }
/-- A far store of three modules with an open segment of the guest stream, and a guest reserve. -/
def guestLab (far : Nat) (v : List MoveIn) (held : List Reservation) : State :=
  let up : UnitSt := { own := 1, shown := 1 }
  let port : FarPort := { present := true, active := true, capacity := 137438953472 }
  { spanLab { movesIn := v, reservations := held } with
    keys := [(40, copyKey)]
    objs := (spanLab {}).objs ++ [(okey 0xC00 0x130 1, far)]
    units := [(0x110, up), (0x610, up), (0x611, up), (0x612, up)]
    segs := [(0, { state := 1, stream := 17, mask := 7, seqNo := 1 })]
    farPorts := [(0, port), (1, port), (2, port)] }
/-- The close of the tile. -/
def close9 : Bytes := pkt 0x32 3 0 4 9 0 []
/-- The module as the close of a tile that has come finds it. -/
def come (far : Nat) (v : MoveIn) : State := (guestLab far [v] [{ member := 1, dla := 0, block := 3, guest := true }]).received 1 close9
/-- The same without it. -/
def taken (far : Nat) (v : MoveIn) : State :=
  { come far v with span := { (come far v).span with
      movesIn := (come far v).span.movesIn.filter (fun m => !(m.source == (1 : Fin 8).val && m.tile == bits (pktA close9) 28 0)) } }
/-- How the tile is taken. -/
def closing (far : Nat) (v : MoveIn) : Nat :=
  match (taken far v).placeMoved (3 * 16384 + 9) (pktTag close9) v with
  | .done _ => 0
  | .waits _ => 1
  | .full => 2
  | .refused => 3
theorem wit_SpanDataPacketsComplete_moves :
    (comingIn ∈ ((spanLab { movesIn := [comingIn] }).received 1 (pkt 0x31 3 0 4 9 0 (zeros 64))).span.movesIn ∧ comingIn.source = (1 : Fin 8).val
      ∧ comingIn.tile = bits (pktA (pkt 0x31 3 0 4 9 0 (zeros 64))) 28 0)
    ∧ arrives (guestLab 0 [comingIn] []) 0x32 close9 = true ∧ (guestLab 0 [] []).guestTile 1 9 = none := by decide +kernel
theorem wit_SpanDataPacketsComplete_close :
    (come 0 comingIn).span.movesIn.find? (fun m => m.source == (1 : Fin 8).val && m.tile == bits (pktA close9) 28 0) = some comingIn
    ∧ (taken 0 comingIn).guestTile 1 9 = some (3 * 16384 + 9) ∧ closing 0 { comingIn with length := 0 } = 0
    ∧ closing 0 { comingIn with length := 257, entry := [13] ++ zeros 31 } = 2 ∧ closing 0 comingIn = 3 := by decide +kernel
/-- What a byte does to a CRC-32C. -/
def crcByte (c : Nat) (x : Byte) : Nat := crcReflSteps 0x82F63B78 8 (c ^^^ x.toNat)
theorem crc_parts (a b c d : Bytes) (w x y z : Nat) (hw : a.foldl crcByte 0xFFFFFFFF = w) (hx : b.foldl crcByte w = x) (hy : c.foldl crcByte x = y)
    (hz : d.foldl crcByte y = z) : crc32c (a ++ (b ++ (c ++ d))) = z ^^^ 0xFFFFFFFF := by
  subst hw hx hy hz
  unfold crc32c
  rw [List.foldl_append, List.foldl_append, List.foldl_append]
  rfl
theorem crc_zeros : crc32c (zeros 64 ++ (zeros 64 ++ (zeros 64 ++ zeros 64))) = 0xB872B190 :=
  (crc_parts _ _ _ _ 4231468184 4158167844 2345306063 1200442991 (by decide +kernel) (by decide +kernel) (by decide +kernel) (by decide +kernel)).trans (by decide)
theorem zeros_parts : zeros 256 = zeros 64 ++ (zeros 64 ++ (zeros 64 ++ zeros 64)) := by decide +kernel
/-- Tile 9 of member 1 as a record of one sector. -/
def sectorIn : MoveIn := { comingIn with length := 1, entry := [6] ++ zeros 31, pieces := [(0, zeros 256 ++ [0x90, 0xB1, 0x72, 0xB8])] }
theorem sector_found : sectorIn.pieces.find? (fun p => decide (p.1 ≤ 260 * 0 ∧ 260 * 0 + 260 ≤ p.1 + p.2.length))
    = some (0, zeros 256 ++ [0x90, 0xB1, 0x72, 0xB8]) := by decide +kernel
theorem sector_data : (slice (zeros 256 ++ [0x90, 0xB1, 0x72, 0xB8]) (260 * 0 - 0) 260).take 256 = zeros 256 := by decide +kernel
theorem sector_check : field (slice (zeros 256 ++ [0x90, 0xB1, 0x72, 0xB8]) (260 * 0 - 0) 260) 256 4 = 0xB872B190 := by decide +kernel
theorem sector_of {m : MoveIn} {i n : Nat} {p : Nat × Bytes} {d : Bytes}
    (h1 : m.pieces.find? (fun p => decide (p.1 ≤ 260 * i ∧ 260 * i + 260 ≤ p.1 + p.2.length)) = some p) (h2 : (slice p.2 (260 * i - p.1) 260).take 256 = d)
    (h3 : crc32c d = n) (h4 : field (slice p.2 (260 * i - p.1) 260) 256 4 = n) : m.sector i = some d := by
  unfold MoveIn.sector
  rw [h1]
  simp only [Option.bind_some, h2, h3, h4, if_true]
theorem sector_whole : sectorIn.sector 0 = some (zeros 256) :=
  sector_of sector_found sector_data ((congrArg crc32c zeros_parts).trans crc_zeros) sector_check
theorem sector_in : (sectorIn.fetched 0 1).data = some (zeros 256) := by
  simp [Fetched.data, MoveIn.fetched, sector_whole]
/-- A module that takes it. -/
def sectorLab : State := taken (2 ^ 30) sectorIn
theorem wit_SpanDataPacketsComplete_waits : ∃ w, sectorLab.placeMoved (3 * 16384 + 9) (pktTag close9) sectorIn = .waits w := by
  have ha : ∃ e, sectorLab.arrived (3 * 16384 + 9) sectorIn = some e ∧ e.length = 1 ∧ e.home = 2 := by
    obtain ⟨e, he⟩ := Option.isSome_iff_exists.mp (show (sectorLab.arrived (3 * 16384 + 9) sectorIn).isSome = true by decide +kernel)
    have h : (sectorLab.arrived (3 * 16384 + 9) sectorIn).all (fun e => e.length == 1 && e.home == 2) = true := by decide +kernel
    exact ⟨e, he, by simpa [he] using h⟩
  obtain ⟨e, he, h1, h2⟩ := ha
  have hr : (sectorLab.farRoom guestPayer (256 * 1) && sectorLab.farReserve 17 1) = true := by decide +kernel
  obtain ⟨⟨f, u⟩, hf⟩ := Option.isSome_iff_exists.mp (show (sectorLab.appendRecord 17 (zeros 256) (.arrival 1 9 (3 * 16384 + 9))).isSome = true by decide +kernel)
  simp only [State.placeMoved, he, h1, h2]
  simp only [State.placeSectors, h1, sector_in, hr, if_true, show sectorIn.source = 1 from rfl, show sectorIn.tile = 9 from rfl, hf]
  exact ⟨_, rfl⟩
theorem wit_SpanControlPacketsComplete_frames :
    timeOf (pktData (pkt 6 0 0 4 0 0 (leBytes 8 1 ++ leBytes 8 500))) = some (1, 500)
    ∧ (timeOf (pktData (pkt 6 0 0 4 0 0 (leBytes 8 3 ++ zeros 40))) = none ∧ field (pktData (pkt 6 0 0 4 0 0 (leBytes 8 3 ++ zeros 40))) 0 8 = 3)
    ∧ (timeOf (pktData (pkt 6 0 0 4 0 0 (leBytes 8 4 ++ zeros 40))) = none ∧ field (pktData (pkt 6 0 0 4 0 0 (leBytes 8 4 ++ zeros 40))) 0 8 = 4)
    ∧ (∀ k ∈ [2, 3, 4, 5, 6, 7, 8, 0x10, 0x11, 0x20, 0x21, 0x30, 0x31, 0x32], pktOk k (packetBytes k 0 1 2 0x10 0 0 0 0 []) = true
      ∧ field (packetBytes k 0 1 2 0x10 0 0 0 0 []) 2 1 = (1 : Fin 8) ∧ field (packetBytes k 0 1 2 0x10 0 0 0 0 []) 3 1 ≠ (spanLab {}).span.member) := by
  decide +kernel

/-! ### Granted requests -/

/-- Whether a request of the FM-owned LD, of a mailbox or of a session reaches the server from `w`. -/
def admits (s : State) (r : Req) (ty : Nat) (body : Bytes) (w : Sender) : Bool :=
  s.coresServe && decide (body.length ≤ 1024) && (s.taking r).isHere r.member.toNat &&
  match r.path with
  | .fmLd => decide (s.stage = .running ∧ w = { fm := true })
  | .mailbox ld => decide (s.stage = .running ∧ (s.ld ld).flr = false ∧ s.bound ld = true ∧ w = { ld := some ld.val })
  | .mgmt z q tag =>
    decide (s.stage ≠ .off ∧ s.stage ≠ .inReset ∧ (s.injectUnit 0xE00).1 = 0 ∧ s.coreRestarts = false) &&
    match (s.injectUnit 0xE00).2.sessions.find? (·.id == z.toNat) with
    | some x => decide (w = x.sender ∧ tag.length = 32 ∧ hmac256 x.key (messageBytes ty z.toNat q.toNat r.member.toNat body) = tag ∧
        x.high ≤ q.toNat + 63 ∧ tabGet x.done q.toNat = none)
    | none => false
  | .member _ _ => false

theorem admits_sound {s : State} {r : Req} {ty : Nat} {body : Bytes} {w : Sender} (h : admits s r ty body w = true) : Admits s r ty body w := by
  obtain ⟨path, m, g⟩ := r
  unfold admits at h
  simp only [Bool.and_eq_true, decide_eq_true_eq] at h
  obtain ⟨⟨⟨h1, h2⟩, h3⟩, h4⟩ := h
  refine ⟨h1, h2, h3, ?_⟩
  cases path with
  | fmLd => simpa using h4
  | mailbox ld => simpa using h4
  | member a b => simp at h4
  | mgmt z q tag =>
    simp only [Bool.and_eq_true, decide_eq_true_eq] at h4
    obtain ⟨⟨a, b, c, d⟩, h5⟩ := h4
    refine ⟨a, b, c, d, ?_⟩
    split at h5
    · next x hx => exact ⟨x, hx, by simpa using h5⟩
    · cases h5

/-- Whether a write of a member passes the checks of R647. -/
def granted (s : State) (r : Req) (u o m off : Nat) (data : Bytes) (w : Sender) : Bool :=
  admits s r (writeType r) (writeBody r u o m off data) w &&
  (match (s.taking r).access w u o m off data.length true true with
    | .ok _ => true
    | .error _ => false) &&
  r.gen.toList.all (fun g => g.toNat == (s.taking r).obj u 3 0)

/-- What the check finds is what the statements' premise asks. -/
theorem granted_sound {s : State} {r : Req} {u o m off : Nat} {data : Bytes} {w : Sender} (h : granted s r u o m off data w = true) :
    ∃ row, Grants s r u o m off data w row := by
  unfold granted at h
  simp only [Bool.and_eq_true] at h
  obtain ⟨⟨h1, h2⟩, h3⟩ := h
  split at h2
  · next row hrow => exact ⟨row, admits_sound h1, hrow, fun g hg => by simpa [hg] using h3⟩
  · cases h2

/-- The fabric manager, and LD0, as senders. -/
def fm : Sender := { fm := true }
def own0 : Sender := { ld := some 0 }

/-- Session 7, of the service role, and its write of a member with the tag it makes. -/
def svcSession : Session := { id := 7, role := 3, key := List.replicate 32 0xA5, high := 64, done := [(64, [0])] }
def svcReq (u o off : Nat) (data : Bytes) : Req :=
  portReq (hmac256 svcSession.key (messageBytes 0x11 7 1 0xFF (requestBody u o 0 off data.length none data)))

/-- A region of LD0's first extent: its descriptor's bytes. -/
def descBytes (base len flags layout stripe : Nat) : Bytes :=
  leBytes 8 base ++ leBytes 8 len ++ leBytes 1 0 ++ leBytes 1 0 ++ leBytes 1 0 ++ leBytes 1 flags ++ leBytes 1 0xFF ++ leBytes 1 0xFF ++ leBytes 2 0xFFFF
    ++ leBytes 4 0 ++ leBytes 2 0 ++ zeros 2 ++ leBytes 1 layout ++ leBytes 1 stripe ++ leBytes 1 0x0F ++ leBytes 1 0 ++ zeros 28
/-- A region command for region 16. -/
def regionCmd (op : Nat) (d : Bytes) : Bytes := leBytes 1 op ++ zeros 1 ++ leBytes 2 16 ++ zeros 4 ++ d
/-- A module with LD0's host key and region 16. -/
def regionLab (d : Bytes) : State :=
  { lab with keys := [(0, { state := 1, kind := 0, gen := 0, binding := 0, useMask := 1, key := zeros 64 })], regions := lab.regions ++ [(16, regionOf d)] }
/-- The same with no region declared, in a span. -/
def plainLab (z : Span) : State := { regionLab [] with regions := lab.regions, span := z }

theorem wit_RegionCommandsTakeEffect_create :
    (granted (plainLab {}) boxReq 0x200 0x140 0 0 (regionCmd 1 (descBytes 0 65536 0 0 0)) own0 = true ∧ (plainLab {}).declared 16 = none
      ∧ own0.mayActFor 0 = true ∧ regionReserved (regionCmd 1 (descBytes 0 65536 0 0 0)) = false
      ∧ (plainLab {}).rangeGranted (regionOf (descBytes 0 65536 0 0 0)) (regionOf (descBytes 0 65536 0 0 0)).shared = true
      ∧ (∀ y ∈ (plainLab {}).regions, 16 ≤ y.1 → y.2.owner = 0 → overlaps 0 65536 y.2.base y.2.length = false)
      ∧ (plainLab {}).badFields (descBytes 0 65536 0 0 0) (regionOf (descBytes 0 65536 0 0 0)) = false ∧ (plainLab {}).span.creates = []
      ∧ (plainLab {}).writtenIn (regionOf (descBytes 0 65536 0 0 0)) = [])
    ∧ (granted (plainLab { mask := 3 }) boxReq 0x200 0x140 0 0 (regionCmd 1 (descBytes 0 65536 0 1 3)) own0 = true
      ∧ (plainLab { mask := 3 }).badFields (descBytes 0 65536 0 1 3) (regionOf (descBytes 0 65536 0 1 3)) = false
      ∧ (plainLab { mask := 3 }).stripeOthers (regionOf (descBytes 0 65536 0 1 3)) = [1] ∧ (plainLab { mask := 3 }).span.unreachable = []) := by
  decide +kernel
theorem wit_RegionCommandsTakeEffect_others :
    (∀ op ∈ [2, 3, 4], granted (regionLab (descBytes 0 65536 0 0 0)) boxReq 0x200 0x140 0 0 (regionCmd op (descBytes 0 65536 0 0 0)) own0 = true)
    ∧ (regionLab (descBytes 0 65536 0 0 0)).declared 16 = some (regionOf (descBytes 0 65536 0 0 0))
    ∧ (regionOf (descBytes 0 65536 0 0 0)).shared = false
    ∧ (regionLab (descBytes 0 65536 0 0 0)).badFields (descBytes 0 65536 0 0 0) (regionOf (descBytes 0 65536 0 0 0)) = false
    ∧ (regionLab (descBytes 0 65536 0 0 0)).regionWritten 16 (regionOf (descBytes 0 65536 0 0 0)) = []
    ∧ own0.mayActFor (regionOf (descBytes 0 65536 0 0 0)).owner = true := by decide +kernel

/-- A module whose FR and LL slots 0 belong to the fabric manager and hold an image as written. -/
def codecLab : State :=
  let s : State := { lab with objs := [(okey 0x300 (slotObj false 0) 0, 0xFE), (okey 0x300 (slotObj true 0) 0, 0xFE)] }
  let s := s.setBlob 0x300 (slotObj false 0) 8 0 (tableImage (defaultTable 0))
  let k := okey 0x300 (slotObj true 0) 8 * 2 ^ 30
  { s with blobs := s.blobs ++ [(k, 0x54), (k + 1, 0x4C), (k + 2, 1), (k + 3, 1), (k + 17, 0x10)] }
theorem wit_CodecCommandsTakeEffect_fr :
    (granted codecLab fmReq 0x300 0x200 9 0 [0xFF] fm && codecLab.ownsSlot fm false 0 && (frTableOf (codecLab.slotImage false 0 528)).isSome
      && codecLab.slotIdle false 0) = true
    ∧ (granted codecLab fmReq 0x300 0x200 9 0 [8] fm && granted codecLab fmReq 0x300 0x200 9 0 [0] fm) = true
    ∧ (granted codecLab fmReq 0x300 (slotObj false 0) 0 0 [0xFF] fm && granted codecLab fmReq 0x300 (slotObj true 0) 0 0 [15] fm
      && granted codecLab fmReq 0x300 (slotObj true 0) 0 0 [0xFE] fm && codecLab.slotIdle true 0) = true := by decide +kernel
theorem wit_CodecCommandsTakeEffect_ll :
    (granted codecLab fmReq 0x300 0x300 9 0 [0xFF] fm && codecLab.ownsSlot fm true 0 && (llTablesOf (codecLab.slotImage true 0 2072)).isSome) = true := by decide +kernel
/-- A recode sweep of region 0 that runs. -/
def sweepLab (ll : Bool) : State := { codecLab with sweeps := [(15, { region := 0, state := 1, ll := ll, left := [0], recoded := 0 })] }
theorem wit_CodecCommandsTakeEffect_sweeps :
    (granted codecLab fmReq 0x300 0x140 0 0 (recodeBytes 0 1 (zeros 5)) fm = true ∧ granted codecLab fmReq 0x300 0x140 0 0 (recodeBytes 0 3 (zeros 5)) fm = true
      ∧ codecLab.region 0 = some (defaultRegion 0) ∧ fm.mayActFor 0 = true ∧ (defaultRegion 0).shared = false ∧ (defaultRegion 0).layout ≠ 1
      ∧ codecLab.sweeps = [] ∧ firstBelow 16 (fun i => (tabGet codecLab.sweeps i).all (fun z => z.state != 1)) = some 0)
    ∧ (∀ ll ∈ [false, true], granted (sweepLab ll) fmReq 0x300 0x140 0 0 (recodeBytes 0 (if ll then 4 else 2) (zeros 5)) fm = true
      ∧ (sweepLab ll).sweeps.find? (fun z => z.2.region == 0 && z.2.state == 1) = some (15, { region := 0, state := 1, ll := ll, left := [0], recoded := 0 })) := by
  decide +kernel

theorem wit_ModeCommandsTakeEffect_states :
    ([1, 2, 3].all (fun v => granted lab fmReq 0x500 1 0 0 (leBytes 1 v) fm && !lab.lastCores 0x500 v) = true)
    ∧ ([0, 1].all (fun v => granted lab boxReq 0x700 0x130 0 0 (leBytes 1 v) own0) = true)
    ∧ (({ lab with objs := [(okey 0x700 0x130 1, 3)], clusters := [(3, { context := 0 })] } : State).obj 0x700 0x130 1 ≠ 0xFF
      ∧ (({ lab with objs := [(okey 0x700 0x130 1, 3)], clusters := [(3, { context := 0 })] } : State).cluster 3).context = (0 : Fin 16).val)
    ∧ (granted lab fmReq 0x810 0x101 0 0 [4] fm = true ∧ granted lab boxReq 0x810 0x101 0 0 [0] own0 = true ∧ lab.cadMode 0 ≠ 4) := by decide +kernel
/-- Every unit that has the requested state gives the fabric manager RW on it. -/
theorem requestedStateRow_fm {v : Nat} {x : Row} (h : rowOf v 1 0 = some x) : x.fm = .rw := by
  have all : objectTables.all (fun r => !decide (r.oLo ≤ 1 ∧ 1 ≤ r.oHi ∧ r.mLo ≤ 0 ∧ 0 ≤ r.mHi) || r.fm == .rw) = true := by decide +kernel
  have hx := List.all_eq_true.mp all x (List.mem_of_find?_eq_some h)
  have hp := List.find?_some h
  simp only [decide_eq_true_eq] at hp
  simpa [hp.2.2.1, hp.2.2.2.1, hp.2.2.2.2.1, hp.2.2.2.2.2] using hx
theorem fmMayWriteState {s : State} {u : Nat} {r : Row} (h : rowOf u 1 0 = some r) : s.mayWrite fm u 1 0 r = true := by
  have right : ∀ v x, rowOf v 1 0 = some x → s.right fm v 1 0 x = .rw := fun v x hx => by simp [State.right, fm, requestedStateRow_fm hx]
  simp only [State.mayWrite, right u r h, beq_self_eq_true, Bool.true_and, Bool.or_eq_true, List.all_eq_true]
  refine .inr fun v _ => ?_
  cases hv : rowOf v 1 0 with
  | none => rfl
  | some x => simp [right v x hv]
theorem wit_ModeCommandsTakeEffect_span : granted lab fmReq 1 1 0 0 [2] fm = true ∧ lab.lastCores 1 2 = false := by
  obtain ⟨r, hr⟩ : ∃ r, rowOf 1 1 0 = some r := Option.isSome_iff_exists.mp (by decide +kernel)
  have hs : spanOk 1 1 r 0 1 true = true := by
    have : (rowOf 1 1 0).all (fun r => spanOk 1 1 r 0 1 true) = true := by decide +kernel
    simpa [hr] using this
  have ha : lab.access fm 1 1 0 0 1 true true = .ok r := by
    simp [State.access, hr, hs, fmMayWriteState hr, show unitExists 1 = true by decide +kernel, show hasObject 1 1 = true by decide +kernel]
  refine ⟨?_, by decide +kernel⟩
  simp only [granted, Bool.and_eq_true]
  refine ⟨⟨by decide +kernel, ?_⟩, by decide +kernel⟩
  rw [show lab.taking fmReq = lab from rfl]
  simp [ha]
theorem wit_ModeCommandsTakeEffect_module :
    [0, 1].all (fun v => granted lab fmReq 0 0x130 0 0 (leBytes 1 v) fm && granted lab fmReq 0 0x141 0 0 (leBytes 1 v) fm) = true
    ∧ (lab.anyObserver = false ∧ capReserve (lab.obj 0xD20 0x140 0) ≤ lab.idleSlots)
    ∧ [200, 350].all (fun c => granted lab fmReq 0xD20 0x140 0 0 (leBytes 2 c) fm) = true ∧ lab.obj 0 0x131 0 ≠ 1
    ∧ granted lab fmReq 0xC00 0x113 0 0 [1] fm = true
    ∧ [0, 15, 0xFF].all (fun v => granted lab fmReq 0xA40 0x100 0 0 (leBytes 1 v) fm) = true ∧ (lab.cluster 0).job = none
    ∧ [0, 3072].all (fun v => granted lab fmReq 0xA40 0x101 0 0 (leBytes 2 v) fm) = true := by decide +kernel
/-- A module in test with every LD's consent. -/
def testLab : State :=
  { lab with units := [(0x110, { own := 1, shown := 1 }), (0x510, { own := 2, shown := 2 }), (0xE00, { own := 2, shown := 2 })]
             injects := [(0x102, { armed := true })], sessions := [svcSession] }
theorem wit_ModeCommandsTakeEffect_test :
    (granted testLab (svcReq 0x510 0x120 0 [1, 2]) 0x510 0x120 0 0 [1, 2] { svc := true } = true ∧ (testLab.unit 0x510).own = 2
      ∧ testLab.quiescent 0x510 = true)
    ∧ (granted testLab fmReq 0xE00 0x68 0 0 [1] fm = true ∧ (testLab.mayArm 0xE00).1 = true)
    ∧ (granted testLab fmReq 0x102 0x68 0 0 [0] fm = true ∧ (tabGet testLab.injects 0x102).isSome = true)
    ∧ (granted testLab fmReq 0x101 0x68 0 0 [0] fm = true ∧ tabGet testLab.injects 0x101 = none) := by decide +kernel

/-- A freeze at a position of LD0's cadence 0, as entry 0 of the schedule. -/
def entry0 : Bytes := leBytes 1 7 ++ zeros 31
/-- A module whose entry 0 is armed. -/
def armedLab : State := { lab with sched := [(0, { bytes := armedEntry entry0 true, status := 1 })] }
theorem wit_ScheduleCommandsTakeEffect :
    (entry0.length = 32 ∧ granted lab boxReq 0x800 0x140 0 0 (armedEntry entry0 true) own0 = true ∧ own0.inSlice 32768 0 32 = true
      ∧ (lab.entryOf 0).armed = false ∧ ({ lab.entryOf 0 with bytes := armedEntry entry0 true } : Sched).cad / 4 = schedLd 0
      ∧ lab.badEntry 0 (armedEntry entry0 true) = false)
    ∧ (granted armedLab boxReq 0x800 0x140 0 0 (armedEntry entry0 false) own0 = true ∧ (armedLab.entryOf 0).armed = true
      ∧ patch (armedEntry entry0 false) 1 (zeros 1) = patch (armedLab.entryOf 0).bytes 1 (zeros 1) ∧ field (armedEntry entry0 false) 1 1 < 8
      ∧ ({ armedLab.entryOf 0 with bytes := armedEntry entry0 false } : Sched).cad / 4 = schedLd 0) := by decide +kernel

/-- A job image of 128 bytes: a header, and one line of code. -/
def imageBytes : Bytes :=
  leBytes 4 0x4A4F4249 ++ [1] ++ zeros 3 ++ leBytes 4 64 ++ leBytes 4 64 ++ zeros 16 ++ leBytes 4 (crc32c (zeros 64)) ++ zeros 28 ++ zeros 64
/-- A raw tile of LD0 in the near tier. -/
def rawTile : TileEntry := { home := 1, state := 1, region := 0, keySlot := 0, frSlot := 0xFF, llSlot := 0xFF, location := 11184640, length := 257 }
/-- A module with LD0's host key and the image as the first two lines of tile 0. -/
def imageLab : State := ((plainLab {}).setTgt 0 rawTile).writeFrame 0 rawTile imageBytes
/-- The descriptor of that job. -/
def loadDesc : Bytes :=
  leBytes 8 0 ++ leBytes 4 128 ++ leBytes 4 60 ++ leBytes 1 1 ++ leBytes 1 1 ++ zeros 2 ++ leBytes 2 0xFFFF ++ zeros 2 ++ zeros 40

/-- A shared region of LD0 and LD1 over LD0's first extent. -/
def sharedRegion : Region := { defaultRegion 0 with length := 65536, flags := 1, keyKind := 1, keyBinding := 0x100 }
/-- A module with it, its head instar 1, and an attachment of LD0. -/
def sharedLab (att : List (Nat × Attach)) : State :=
  { lab with
    extents := [(extKey 0 0, { state := 2, dla := 0, block := 0, shared := true })]
    regions := lab.regions ++ [(16, sharedRegion)]
    shareds := [(16, { mode := 0, readMask := 3, writeMask := 1, nearReserve := 0, farReserve := 0, head := 1 })]
    insts := [{ region := 16, number := 1, publisher := 0xFF, changed := 0, stamp := 0, time := 0 }]
    attaches := att }
/-- LD0's attachment of a kind, on the head. -/
def att0 (kind : Nat) : Attach := { region := 16, ld := 0, kind := kind, base := 1, ver := 2, keyGen := 0, since := 0 }
/-- An instar command: its code, the access, the LD, the instar and the tiles it names. -/
def instarCmd (op acc ld inst first count : Nat) : Bytes :=
  leBytes 1 op ++ leBytes 1 acc ++ leBytes 2 16 ++ leBytes 1 ld ++ zeros 3 ++ leBytes 4 inst ++ leBytes 4 first ++ leBytes 4 count ++ zeros 4 ++ leBytes 8 7
theorem wit_InstarCommandsTakeEffect_attach :
    (granted (sharedLab []) boxReq 0x900 0x140 0 0 (instarCmd 1 2 0 0 0 0) own0 && granted (sharedLab []) boxReq 0x900 0x140 0 0 (instarCmd 1 1 0 1 0 0) own0) = true
    ∧ (instarCmdOf (instarCmd 1 2 0 0 0 0)).reserved = false ∧ ((sharedLab []).sharedOf 16).isSome = true ∧ (sharedLab []).memberRight own0 16 true = true
    ∧ (sharedLab []).region 16 = some sharedRegion ∧ (sharedLab []).namedInst 16 0 = 1 ∧ ((sharedLab []).instOf 16 1).isSome = true
    ∧ (sharedLab []).memberHolds sharedRegion 0 = true ∧ (sharedLab []).noAttach own0 16 = true ∧ (sharedLab []).freeAttach = some 0
    ∧ ((sharedLab []).sharedOf 16).all (fun y => decide (y.counter < 0xFFFFFFFF)) = true := by decide +kernel
theorem wit_InstarCommandsTakeEffect_attached :
    ([(2, 0, 0, 0), (3, 1, 0, 0), (4, 1, 0, 0), (5, 0, 0, 1), (6, 0, 0, 0)].all (fun c => granted (sharedLab [(0, att0 2)]) boxReq 0x900 0x140 0 0
      (instarCmd c.1 0 0 c.2.1 c.2.2.1 c.2.2.2) own0)) = true
    ∧ (sharedLab [(0, att0 2)]).attachOf 0 16 = some (0, att0 2) ∧ (instarCmdOf (instarCmd 4 0 0 1 0 0)).inst = (att0 2).base
    ∧ sharedRegion.rangeOut 0 1 = false := by decide +kernel
theorem wit_InstarCommandsTakeEffect_salvage :
    granted (sharedLab [(0, att0 3)]) boxReq 0x900 0x140 0 0 (instarCmd 0x10 0 0 0 0 0) own0 = true ∧ (sharedLab [(0, att0 3)]).salvaged 0 16 = some (0, att0 3)
    ∧ (att0 3).keyGen = sharedRegion.keyGen ∧ (sharedLab [(0, att0 3)]).noAttach own0 16 = true
    ∧ granted (sharedLab [(0, att0 3)]) fmReq 0x900 0x140 0 0 (instarCmd 0x11 0 0 0 0 0) fm = true ∧ (instarCmdOf (instarCmd 0x11 0 0 0 0 0)).ld < 16
    ∧ granted (sharedLab [(0, att0 1)]) fmReq 0x900 0x140 0 0 (instarCmd 0x12 0 0 0 0 0) fm = true ∧ (sharedLab [(0, att0 1)]).attachOf 0 16 = some (0, att0 1) := by
  decide +kernel
theorem wit_SharedTableWritesTakeEffect :
    (granted (sharedLab []) fmReq 0x900 0x150 0 (64 * 16 + 2) [1] fm && granted (sharedLab []) fmReq 0x900 0x150 0 0 [] fm
      && granted (sharedLab []) fmReq 0x900 0x150 0 (64 * 16) (zeros 65) fm) = true
    ∧ ((64 * 16 + 2) / 64 = 16 ∧ (64 * 16 + 2 + [1].length - 1) / 64 = 16)
    ∧ patch ((sharedLab []).sharedEntry 16) 2 [1] ≠ (sharedLab []).sharedEntry 16
    ∧ sharedFixed (patch ((sharedLab []).sharedEntry 16) 2 [1]) = sharedFixed ((sharedLab []).sharedEntry 16)
    ∧ (1 &&& 1 = 1 ∧ (sharedLab []).reservesBut 16 1 + 0 + (sharedLab []).sharesBut 16 1 ≤ (sharedLab []).obj 0x200 0x101 0
      ∧ (sharedLab []).reservesBut 16 2 + 0 + (sharedLab []).sharesBut 16 2 ≤ (sharedLab []).farAssignable)
    ∧ ((sharedLab []).sharedOf 16).all (fun x => (sharedLab []).maskAllowed 16 x { x with readMask := 1 }) = true
    ∧ (match (sharedLab []).writeSharedTable 1026 [1] with
      | .ok _ => true
      | .error _ => false) = true := by decide +kernel

/-- A module with LD0's host key and region key 0x100, used by no region. -/
def keysLab : State :=
  { lab with keys := [(0, { state := 1, kind := 0, gen := 0, binding := 0, useMask := 1, key := zeros 64 }),
      (16, { state := 1, kind := 1, gen := 1, binding := 0x100, useMask := 3, key := zeros 64 })] }
/-- A key command: its code, a mask and a binding. -/
def keyCmd (op mask b : Nat) : Bytes := leBytes 1 op ++ zeros 1 ++ leBytes 2 mask ++ leBytes 4 b ++ zeros 8
theorem wit_KeyCommandsTakeEffect :
    ((granted keysLab fmReq 0x400 0x140 0 0 (keyCmd 1 0xFFFF 0) fm && granted keysLab fmReq 0x400 0x140 0 0 (keyCmd 2 0 0x100) fm
      && granted keysLab fmReq 0x400 0x140 0 0 (keyCmd 3 1 0x100) fm && granted keysLab fmReq 0x400 0x140 0 0 (keyCmd 4 0 0x100) fm
      && granted keysLab boxReq 0x400 0x140 0 0 (keyCmd 2 0 0) own0) = true)
    ∧ (field (keyCmd 1 0xFFFF 0) 8 8 = 0 ∧ field (keyCmd 1 0xFFFF 0) 1 1 = 0 ∧ field (keyCmd 1 0xFFFF 0) 4 4 = 0 ∧ keysLab.drbgFailed = false)
    ∧ (List.range 4080).find? (fun i => (keysLab.key (16 + i)).isNone) = some 1
    ∧ (keysLab.namedKey 0x100).map (·.1) = some 16 ∧ (keysLab.namedKey 0).map (·.1) = some 0
    ∧ (keysLab.keys.all (fun z => decide (z.2.state ≠ 2) && (z.2.kind == 0 || (keysLab.keyRegions z.2).isEmpty))) = true
    ∧ keysLab.tileMap = [] ∧ keysLab.versions = [] := by decide +kernel

/-- A module whose update engine is in a state. -/
def fwLab (f : Firmware) : State := { lab with fw := f, sessions := [svcSession] }
/-- A verified image in slot 1 beside the running one in slot 0. -/
def verified : Firmware := { slots := [(0, { factoryImage with security := 1, key := 1 }), (1, factoryImage)], staged := 2 }
theorem wit_UpdateCommandsTakeEffect :
    (granted (fwLab verified) fmReq 0xD00 0x182 0 0 [1, 2] fm = true)
    ∧ ([1, 2, 3, 4, 5].all (fun c => granted (fwLab verified) fmReq 0xD00 0x183 0 0 (leBytes 1 c) fm) = true)
    ∧ (verified.verifying = false ∧ verified.staged = 2 ∧ verified.trial = false ∧ verified.securityFuse < verified.image.security)
    ∧ (tabGet verified.slots verified.inactive = some factoryImage ∧ factoryImage.dataPath = verified.image.dataPath)
    ∧ (granted (fwLab verified) (svcReq 0xD00 0x183 0 [6]) 0xD00 0x183 0 0 [6] { svc := true } = true ∧ verified.image.key = 1) := by decide +kernel

/-- A job command for slot 0: LOAD of a descriptor, UNLOAD or STOP. -/
def jobCmd (op : Nat) (d : Bytes) : Bytes := leBytes 1 op ++ zeros 7 ++ d
theorem wit_JobAndSpanCommandsTakeEffect_load :
    granted imageLab boxReq 0xA00 0x140 0 0 (jobCmd 1 loadDesc) own0 = true ∧ imageLab.jobs = [] ∧ slice (jobCmd 1 loadDesc) 8 64 = loadDesc
    ∧ descBad loadDesc = false ∧ imageLab.rawPrivate 0 0 128 = true ∧ field (imageBytes.take 128) 12 4 = 64 ∧ 60 < 64
    ∧ (match (imageLab.linesNow { ld := 0 } 0 2 0x53).1 with
      | .inr b => imageOk (b.take 128)
      | .inl _ => false) = true := by decide +kernel
theorem wit_JobAndSpanCommandsTakeEffect_jobs :
    (granted (jobLab (jobOf 1 [] 0) {} [] []) boxReq 0xA00 0x140 0 0 (jobCmd 2 (zeros 64)) own0
      && granted (jobLab (jobOf 3 [0] 0) {} [] []) boxReq 0xA00 0x140 0 0 (jobCmd 3 (zeros 64)) own0) = true
    ∧ (jobLab (jobOf 1 [] 0) {} [] []).job 0 = some (jobOf 1 [] 0) ∧ own0.mayActFor (jobLd 0) = true := by decide +kernel
/-- A span command on region 16. -/
def spanCmd (op m : Nat) : Bytes := leBytes 2 16 ++ leBytes 1 op ++ leBytes 1 m ++ zeros 12
/-- A module in a span of members 0 and 1 with region 16, striped or not, and evacuations. -/
def evacLab (layout stripe : Nat) (e : List (Nat × SpanEvac)) : State :=
  { regionLab (descBytes 0 65536 0 layout stripe) with span := { mask := 3, evacs := e }, objs := [(okey 0xC00 0x102 0, 3)] }
theorem wit_JobAndSpanCommandsTakeEffect_span :
    ((granted (evacLab 0 0 []) fmReq 0xC00 0x140 0 0 (spanCmd 1 1) fm && granted (evacLab 1 3 []) fmReq 0xC00 0x140 0 0 (spanCmd 2 1) fm
      && granted (evacLab 0 0 []) fmReq 0xC00 0x140 0 0 (spanCmd 3 1) fm
      && granted (evacLab 0 0 [(0, { region := 16, cmd := 1, state := 1, member := 1 })]) fmReq 0xC00 0x140 0 0 (spanCmd 3 1) fm) = true)
    ∧ (field (spanCmd 1 1) 0 2 = 16 ∧ field (spanCmd 1 1) 3 1 = 1 ∧ allZero (slice (spanCmd 1 1) 4 12) = true)
    ∧ ((evacLab 0 0 []).declared 16 = some (regionOf (descBytes 0 65536 0 0 0)) ∧ (regionOf (descBytes 0 65536 0 0 0)).layout ≠ 1
      ∧ (regionOf (descBytes 0 65536 0 1 3)).layout = 1)
    ∧ (1 ∈ (evacLab 0 0 []).expected ∧ (evacLab 0 0 []).evacOf 16 = none ∧ (evacLab 0 0 []).span.creates = [] ∧ 1 ∈ (evacLab 0 0 []).peers
      ∧ (evacLab 1 3 []).freeEvac = some 0)
    ∧ (evacLab 0 0 [(0, { region := 16, cmd := 1, state := 1, member := 1 })]).evacOf 16 = some (0, { region := 16, cmd := 1, state := 1, member := 1 }) := by
  decide +kernel

/-- A module in TEST of its control complex, whose core 0 is in a halt state, with a freeze, a snapshot and OFFLINE channels. -/
def debugLab (halt : Nat) (tm : Telem) : State :=
  { lab with units := [(0x110, { own := 1, shown := 1 }), (0xD00, { own := 2, shown := 2 })] ++ (unitRun 0x510 32).map (fun u => (u, { own := 3, shown := 3 }))
             cores := [(0, { halt := halt })], telem := tm, sessions := [svcSession] }
/-- A command of the service role in that module. -/
def svcGranted (s : State) (u o v : Nat) : Bool := granted s (svcReq u o 0 (leBytes 1 v)) u o 0 0 (leBytes 1 v) { svc := true }
theorem wit_DebugCommandsTakeEffect_memory :
    (svcGranted (debugLab 0 {}) 0xF80 0x170 1 && svcGranted (debugLab 0 {}) 0xF80 0x170 2) = true
    ∧ (unitRun 0x510 32).all (fun u => ((debugLab 0 {}).unit u).own == 3) = true := by decide +kernel
theorem wit_DebugCommandsTakeEffect_records :
    ([{ freeze := 2, snap := 2 }, ({} : Telem)].all (fun tm => granted (debugLab 0 tm) fmReq 0xF00 0x111 0 0 [1] fm && granted (debugLab 0 tm) fmReq 0xF00 0x111 0 0 [2] fm
      && granted (debugLab 0 tm) fmReq 0xF00 0x120 0 0 [1] fm && granted (debugLab 0 tm) fmReq 0xF00 0x120 0 0 [2] fm)) = true
    ∧ ((debugLab 0 { freeze := 2 }).telem.freeze = 2 ∧ (debugLab 0 {}).telem.freeze ≠ 2 ∧ (debugLab 0 { snap := 2 }).telem.snap = 2) := by decide +kernel
theorem wit_DebugCommandsTakeEffect_cores :
    (svcGranted (debugLab 0 {}) 0xD10 0x124 1 && svcGranted (debugLab 1 {}) 0xD10 0x124 2 && svcGranted (debugLab 2 {}) 0xD10 0x124 3) = true
    ∧ (debugLab 0 {}).actual 0xD00 = 2 ∧ (debugLab 0 {}).coreRuns 0 = true ∧ ((debugLab 0 {}).ctl 0).halt = 0 ∧ ((debugLab 1 {}).ctl 0).halt ≠ 0
    ∧ ((debugLab 2 {}).ctl 0).halt = 2 := by decide +kernel

/-- A module with session 7 open. -/
def portLab7 : State := { lab with sessions := [svcSession] }
/-- The tag of session 7 on a request of a type. -/
def tag7 (ty : Nat) (body : Bytes) : Bytes := hmac256 svcSession.key (messageBytes ty 7 1 0xFF body)
theorem wit_SessionsOpenAndClose_port :
    (portLab7.stage ≠ .off ∧ portLab7.stage ≠ .inReset ∧ portLab7.coresServe = true ∧ portLab7.injectUnit 0xE00 = (0, portLab7) ∧ portLab7.coreRestarts = false
      ∧ portLab7.isHere (0xFF : Byte).toNat = true)
    ∧ ((List.replicate 384 (0 : Byte)).length = 384)
    ∧ (portLab7.sessions.find? (·.id == (7 : U32).toNat) = some svcSession ∧ (tag7 3 []).length = 32
      ∧ hmac256 svcSession.key (messageBytes 3 7 1 0xFF []) = tag7 3 [] ∧ svcSession.high ≤ (1 : U32).toNat + 63 ∧ tabGet svcSession.done 1 = none) := by
  decide +kernel
/-- A whole frame of the unknown type 0x55 in session 7. -/
def oddFrame : Bytes := messageBytes 0x55 7 1 0xFF [] ++ hmac256 svcSession.key (messageBytes 0x55 7 1 0xFF [])
theorem wit_SessionsOpenAndClose_frames :
    (field oddFrame 3 1 ≠ 1 ∧ field oddFrame 3 1 ≠ 2 ∧ msgFits (oddFrame.take 20) 32 = false ∧ field (oddFrame.take 20) 3 1 ≠ 1)
    ∧ (msgFits oddFrame 32 = true ∧ portLab7.sessions.find? (·.id == field oddFrame 4 4) = some svcSession
      ∧ hmac256 svcSession.key (oddFrame.take (16 + field oddFrame 14 2)) = slice oddFrame (16 + field oddFrame 14 2) 32
      ∧ field oddFrame 2 1 = 1 ∧ field oddFrame 3 1 ∉ requestTypes)
    ∧ (msgFits (messageBytes 0x55 0 0 0xFF []) 0 = true ∧ (messageBytes 0x55 0 0 0xFF []).length = 16 + field (messageBytes 0x55 0 0 0xFF []) 14 2
      ∧ field (messageBytes 0x55 0 0 0xFF []) 3 1 ∉ requestTypes)
    ∧ (msgFits (messageBytes 0x30 0 0 0xFF [3]) 0 = true ∧ (messageBytes 0x30 0 0 0xFF [3]).length = 16 + field (messageBytes 0x30 0 0 0xFF [3]) 14 2
      ∧ field (messageBytes 0x30 0 0 0xFF [3]) 3 1 ∈ [0x10, 0x11, 0x12, 0x30, 0x31] ∧ (field (messageBytes 0x30 0 0 0xFF [3]) 13 1).testBit 0 = false
      ∧ lab.isHere (field (messageBytes 0x30 0 0 0xFF [3]) 12 1) = true) := by decide +kernel

/-- Whether a request that is no write is admitted. -/
def readable (s : State) (w : Sender) (u o m off len : Nat) : Bool :=
  match s.access w u o m off len false true with
  | .ok _ => true
  | .error _ => false
theorem wit_ReadsWritesAndProfilesAnswer_requests :
    (admits lab fmReq 0x10 (requestBody 0x200 0x101 0 0 8 none []) fm = true ∧ readable lab fm 0x200 0x101 0 0 8 = true)
    ∧ (granted lab fmReq 0 0x120 0 0 [3] fm && granted lab { fmReq with gen := some 0 } 0 0x120 0 0 [3] fm) = true
    ∧ (match rowOf 0 0x120 0 with
      | some r => (match lab.objWrite fm 0 0x120 0 0 r [3] with
        | .ok _ => true
        | .error _ => false)
      | none => false) = true ∧ mayDefer 0 0x120 [3] = false := by decide +kernel
theorem wit_ReadsWritesAndProfilesAnswer_port :
    ((granted lab fmReq 0xE00 0x132 0 0 [8] fm && granted lab { fmReq with gen := some 0 } 0xE00 0x132 0 0 [8] fm
      && granted lab fmReq 0xE00 0x120 0 0 (zeros 32) fm) = true)
    ∧ ((rowOf 0xE00 0x132 0).any (fun r => r.chk.ok 8) = true) ∧ ((rowOf 0xE00 0x120 0).any (fun r => r.chk.ok (leNat (zeros 32))) = true) := by decide +kernel
theorem wit_ReadsWritesAndProfilesAnswer_profiles :
    admits lab fmReq 0x30 [3] fm = true ∧ admits lab fmReq 0x31 [0] fm = true ∧ fm.fm = true ∧ (lab.profileCopy 3).isNone = true := by decide +kernel
/-- The status a request is refused with, if any. -/
def refused (s : State) (w : Sender) (u o m off len : Nat) (write fits : Bool) : Option Nat :=
  match s.access w u o m off len write fits with
  | .ok _ => none
  | .error c => some c
theorem wit_RefusedRequestsChangeNothing :
    (admits lab fmReq 0x10 (requestBody 0x777 0 0 0 0 none []) fm = true ∧ refused lab fm 0x777 0 0 0 0 false true = some 1)
    ∧ (admits lab fmReq 0x11 (requestBody 0 0x120 0 0 1 none [1, 2]) fm = true ∧ refused lab fm 0 0x120 0 0 1 true false = some 5)
    ∧ (admits lab fmReq 0x12 (requestBody 0 0x120 0 0 1 (some 9) [3]) fm = true ∧ refused lab fm 0 0x120 0 0 1 true true = none ∧ 9 ≠ lab.obj 0 3 0)
    ∧ (granted lab fmReq 0 0x120 0 0 [9] fm = true ∧ (match rowOf 0 0x120 0 with
      | some r => (match lab.objWrite fm 0 0x120 0 0 r [9] with
        | .ok _ => false
        | .error _ => true)
      | none => false) = true) := by decide +kernel
theorem wit_ChecksRunInOrder :
    unitExists 0x777 = false ∧ (unitExists 0 = true ∧ hasObject 0 0x999 = false ∧ (4096 : Nat) ≥ 4096) ∧ (hasObject 0 0x120 = true ∧ rowOf 0 0x120 7 = none)
    ∧ (hasObject 0 0x40 = true ∧ (lab.children 0).length < 255)
    ∧ ((rowOf 0 0x120 0).any (fun r => !spanOk 0 0x120 r 1 1 true) = true ∧ (rowOf 0 0x120 0).any (fun r => spanOk 0 0x120 r 0 1 true) = true) := by decide +kernel

/-! ## Threads -/

/-- Thread 0 of cluster 0. -/
def t0 : ThreadId := ⟨0, 0, 0⟩
/-- A thread of job 0 whose registers x1, x2, ... hold the given values. -/
def holds (xs : List U64) : Thread := { Thread.fresh 0 0 0 with x := [0] ++ xs ++ List.replicate (31 - xs.length) 0 }
/-- A module in which that thread is ready, on cluster 0 with the given job fields and policy. -/
def gLabOf (j : Job) (c : Cluster) (x : Thread) : State := jobLab j { c with job := some 0 } [(0, x)] []
def gLab (x : Thread) : State := gLabOf (jobOf 3 [0] 0) {} x
/-- What an instruction knows of it. -/
def gCtx (x : Thread) (w : Nat) : Ctx := { t := t0, k := ThreadKey t0, jn := 0, job := jobOf 3 [0] 0, x := x, word := w }

/-- Whether a thread is ready for a word; whether the word issues. -/
def readyB (s : State) (t : ThreadId) (w : Nat) (c : Ctx) : Bool :=
  s.thread (ThreadKey t) == some c.x && s.job c.jn == some c.job && c.t == t && c.k == ThreadKey t && c.jn == c.x.job && c.word == w
    && s.contained == false && s.threadReady t c.x c.job w
def issuesB (s : State) (t : ThreadId) (w : Nat) (c : Ctx) : Bool :=
  readyB s t w c && c.x.pc.toNat % 4 == 0 && s.fetchable t c.x.pc.toNat && wordLegal w
/-- What the checks find is what the statements' premises ask. -/
theorem readyB_sound {s : State} {t : ThreadId} {w : Nat} {c : Ctx} (h : readyB s t w c = true) : Ready s t w c := by
  simpa [readyB, Ready, and_assoc] using h
theorem issuesB_sound {s : State} {t : ThreadId} {w : Nat} {c : Ctx} (h : issuesB s t w c = true) : Issues s t w c := by
  simp only [issuesB, Bool.and_eq_true, beq_iff_eq] at h
  exact ⟨readyB_sound h.1.1.1, h.1.1.2, h.1.2, h.2⟩
/-- Every word of a list issues to a thread that holds the given values. -/
def allIssue (xs : List U64) (ws : List Nat) : Bool := ws.all (fun w => issuesB (gLab (holds xs)) t0 w (gCtx (holds xs) w))

theorem wit_ScalarInstructionsWriteTheirResult :
    allIssue [5, 3] (([0, 1, 2, 3, 4, 5, 6, 7, 8, 9, 0xA, 0xB, 0xC, 0xD, 0x10, 0x11, 0x12] : List Nat).map (fun f => wordS3 0x01 f 3 1 2)) = true
    ∧ allIssue [5, 3] (([0x18, 0x19, 0x1A] : List Nat).map (fun f => wordS3 0x01 f 3 1 0)) = true
    ∧ allIssue [5, 3] [wordS3 0x01 0 0 1 2] = true := by decide +kernel
theorem wit_DivisionRaisesNoException :
    ([[5, 0], [0x8000000000000000, 0xFFFFFFFFFFFFFFFF], [7, 2]] : List (List U64)).all (fun xs =>
      allIssue xs (([0x14, 0x15, 0x16, 0x17] : List Nat).map (fun f => wordS3 0x01 f 3 1 2))) = true := by decide +kernel
/-- The immediate of the smallest misuse of a shift: imm12[11:6] = 1. -/
theorem wit_ImmediateInstructionsWriteTheirResult :
    allIssue [5] (([0, 1, 2, 3, 4, 5, 6, 7] : List Nat).map (fun f => wordSI 0x02 f 3 1 63)) = true ∧ allIssue [5] [wordSU 0x03 3 0x80000] = true
    ∧ ([4, 5, 6] : List Nat).all (fun f => readyB (gLab (holds [5])) t0 (wordSI 0x02 f 3 1 64) (gCtx (holds [5]) (wordSI 0x02 f 3 1 64))) = true
    ∧ (64 : BitVec 12).toNat / 64 ≠ 0 ∧ (gLab (holds [5])).fetchable t0 (holds [5]).pc.toNat = true := by decide +kernel
theorem wit_BranchesAndJumpsMoveThePc :
    allIssue [5, 3] (([0, 1, 2, 3, 4, 5] : List Nat).map (fun f => wordB f 1 2 0xFFF)) = true
    ∧ allIssue [5, 3] [wordSU 0x61 1 8, wordSI 0x62 0 1 2 6] = true := by decide +kernel
theorem wit_SystemInstructionsHaveTheirEffect :
    allIssue [5] (([0x000, 0x001, 0x002, 0x003, 0x004, 0x005, 0x006, 0x010, 0x011, 0x012, 0x013, 0x014, 0x020, 0x021, 0x022, 0x023] : List Nat).map
      (fun n => wordSI 0x63 0 3 0 (BitVec.ofNat 12 n))) = true
    ∧ allIssue [5] [wordSI 0x63 1 0 1 0x010, wordSI 0x63 2 0 0 0, wordSI 0x63 3 0 0 0, wordSI 0x63 4 0 0 9, wordSI 0x63 5 0 0 0] = true
    ∧ allIssue [5] [wordFN 0 1, wordFN 1 2, wordFN 2 3] = true
    ∧ ((gLab (holds [5])).loadsOf t0 = [] ∧ (gLab (holds [5])).storesHeld t0 = false)
    ∧ (gLab (holds [5])).unperformed t0 1 = false ∧ (gLab (holds [5])).unperformed t0 2 = false := by decide +kernel
/-- Threads whose next instruction is at a misaligned place, and at one outside. -/
def lost (pc : U64) : Thread := { holds [5] with pc := pc }
theorem wit_ExceptionsAreRecordedAndStopTheRun :
    (readyB (gLab (holds [5])) t0 0 (gCtx (holds [5]) 0) = true ∧ (0 : U32).toNat = 0 ∧ wordLegal 0 = false)
    ∧ ([wordS3 0x01 0 3 1 2, wordSI 0x02 0 3 1 7, wordSI 0x10 3 3 1 7, wordSI 0x11 3 3 1 7, wordB 0 1 2 7, wordSI 0x63 3 3 1 7].all (fun w =>
      readyB (gLab (lost 2)) t0 w (gCtx (lost 2) w) && readyB (gLab (lost 0x100000000000)) t0 w (gCtx (lost 0x100000000000) w))) = true
    ∧ ((2 : U64).toNat % 4 ≠ 0 ∧ (gLab (lost 0x100000000000)).fetchable t0 0x100000000000 = false)
    ∧ ((gLab (holds [5])).jobOf (ThreadKey t0) = some 0 ∧ (gLab (holds [5])).job 0 = some (jobOf 3 [0] 0) ∧ (jobOf 3 [0] 0).state = 3
      ∧ (gLabOf (jobOf 4 [0] 0) {} (holds [5])).jobOf (ThreadKey t0) = some 0 ∧ (jobOf 4 [0] 0).state ≠ 3) := by decide +kernel
theorem wit_RegistersReadBack :
    (holds [5]).x.length = 32 ∧ (holds [5]).v.length = 16 ∧ (holds [5]).p.length = 8 := by decide

/-! ### Memory instructions -/

/-- Thread addresses: the cluster's window, DPA, the host window and no place. -/
def wAt : U64 := 0x400000000100
def hAt : U64 := 0x800000000100
def noAt : U64 := 0x500000000000
/-- The words of the loads, of the stores and of the atomics that take x1 for their address. -/
def loadWords (i : Nat) : List Nat :=
  ([0, 1, 2, 3, 4, 5, 6] : List Nat).map (fun f => wordSI 0x10 f 3 1 (BitVec.ofNat 12 i)) ++ [wordVM 0x12 0 3 1 0 0, wordVM 0x12 1 3 1 0 0]
def storeWords (i : Nat) : List Nat := ([0, 1, 2, 3] : List Nat).map (fun f => wordSI 0x11 f 2 1 (BitVec.ofNat 12 i)) ++ [wordVM 0x13 0 3 1 0 0]
theorem wit_LoadsAndStoresReachTheirPlace_issue :
    ([wAt, 0x1000, hAt, noAt, wAt + 1] : List U64).all (fun a => allIssue [a] (loadWords 0 ++ storeWords 0)) = true
    ∧ (wAt + BitVec.ofInt 64 (0 : BitVec 12).toInt).toNat = 0x400000000100 ∧ (wAt + 1).toNat % 2 ≠ 0 ∧ (wAt + 1).toNat % 64 ≠ 0 ∧ wAt.toNat % 64 = 0 := by
  decide +kernel
/-- The state of the memory witnesses. -/
def mLab : State := gLab (holds [wAt])
/-- What an instruction of theirs knows. -/
def mCtx : Ctx := gCtx (holds [wAt]) 0
/-- The same with a caddy line of the window whose check fails. -/
def badLab : State := { mLab with caddyBad := [mLab.windowKey 0 0x100 / 16] }
/-- The words of the atomics: size 4 for all, and AFADD's two. -/
def atomWords : List Nat :=
  ([0, 1, 2, 3, 4, 5, 6, 7, 8, 9, 10] : List Nat).map (fun f => wordAT f 3 1 2 0 1) ++ [wordAT 10 3 1 2 3 0, wordAT 0 3 1 2 3 2]
theorem wit_LoadsAndStoresReachTheirPlace_places :
    ([1, 2, 4, 8, 64].all (fun n => mLab.place mCtx.jn mCtx.job 0x500000000000 n == .nowhere && mLab.place mCtx.jn mCtx.job 0x400000000100 n == .window 0 0x100
      && mLab.place mCtx.jn mCtx.job 0x1000 n == .dpa 0x1000 && mLab.place mCtx.jn mCtx.job 0x800000000100 n == .host 0x100)) = true
    ∧ (mLab.lineBusy mCtx 0x1000 = false ∧ mLab.storesHeld t0 = false ∧ mLab.noRef mCtx 0x1000 = false)
    ∧ ([1, 2, 4, 8, 64].all (fun n => !(mLab.startClock 0).windowBad 0 0x100 n && (badLab.startClock 0).windowBad 0 0x100 n
      && badLab.place mCtx.jn mCtx.job 0x400000000100 n == .window 0 0x100)) = true
    ∧ (loadWords 0 ++ atomWords).all (fun w => issuesB badLab t0 w (gCtx (holds [wAt]) w)) = true
    ∧ (mLab.mayMaster mCtx.ld = true ∧ mLab.allLegsDown = false ∧ mLab.lineLoading t0 0x800000000100 = false ∧ (mLab.hostAddr mCtx 0x100).1 = some (2 ^ 32 + 0x100)) := by
  decide +kernel
/-- p0 reads all ones; a predicate that nothing has written reads 0. -/
theorem wit_LoadsAndStoresReachTheirPlace_masks :
    mCtx.x.rp 0 = BitVec.allOnes 64 ∧ mCtx.x.rp 1 = 0 ∧ allIssue [wAt] [wordVM 0x13 0 3 1 1 0] = true := by decide +kernel
/-- An outstanding load of the thread. -/
def loadOf (kind : LoadKind) (a : Nat) (arrived : Bool) (d : Option Bytes) : Load :=
  { id := 9, thread := t0, kind := kind, addr := a, pc := 0, word := 0, arrived := arrived, data := d }
/-- A module with that load, and its DMA read. -/
def loadLab (l : Load) : State :=
  { gLab (holds []) with loads := [l], dmas := [{ id := 1, ld := 0, gen := false, for_ := .load 9, addr := 2 ^ 32 + 0x100, len := 8, leg := 0 }] }
theorem wit_LoadsComplete :
    ([(LoadKind.scalar 3 8 true), .vector 3 0xFF true].all (fun k => [some (zeros 64), none].all (fun d =>
      (loadLab (loadOf k 0x1000 true d)).loads.find? (fun y => y.id == 9) == some (loadOf k 0x1000 true d)
        && (loadLab (loadOf k 0x1000 true d)).thread (ThreadKey t0) == some (holds [])
        && (loadLab (loadOf k 0x800000000100 false none)).loads.find? (fun y => y.id == 9) == some (loadOf k 0x800000000100 false none)))) = true
    ∧ (∃ d ∈ (loadLab (loadOf (.scalar 3 8 true) 0x800000000100 false none)).dmas, d.for_ = .load (loadOf (.scalar 3 8 true) 0x800000000100 false none).id) :=
  ⟨by decide +kernel, _, List.mem_singleton.mpr rfl, rfl⟩
theorem wit_AtomicsReturnTheOldValue_issue :
    ([wAt, 0x40, hAt, noAt, wAt + 2] : List U64).all (fun a => allIssue [a, 1] atomWords) = true ∧ (wAt + 2).toNat % 2 ^ ((1 : BitVec 2).toNat + 1) ≠ 0
    ∧ wAt.toNat % 8 = 0 ∧ (([2, 4, 8] : List Nat).all (fun n => mLab.place 0 (jobOf 3 [0] 0) 0x500000000000 n == .nowhere
      && mLab.place 0 (jobOf 3 [0] 0) 0x800000000100 n == .host 0x100 && mLab.place 0 (jobOf 3 [0] 0) 0x400000000100 n == .window 0 0x100
      && mLab.place 0 (jobOf 3 [0] 0) 0x40 n == .dpa 0x40)) = true
    ∧ mLab.loadsOf t0 = [] ∧ mLab.storesHeld t0 = false := by decide +kernel
/-- A module with LD0's key, a raw tile 0 in the near tier and the thread on cluster 0. -/
def atomLab (x : Thread) : State := { imageLab with jobs := [(0, jobOf 3 [0] 0)], clusters := [(0, { job := some 0 })], threads := [(0, x)] }
theorem wit_AtomicsReturnTheOldValue_dpa :
    atomWords.all (fun w => issuesB (atomLab (holds [0x40, 1])) t0 w (gCtx (holds [0x40, 1]) w)) = true
    ∧ (atomLab (holds [0x40, 1])).seen { ld := 0, job := some 0 } 0x40 = .tile 0 (some 0) none true
    ∧ (((atomLab (holds [0x40, 1])).regionAt 0).bind (atomLab (holds [0x40, 1])).region).any Region.isFr = false
    ∧ ((atomLab (holds [0x40, 1])).tgt 0).state = 1 ∧ ((atomLab (holds [0x40, 1])).tgt 0).home < 2
    ∧ ((atomLab (holds [0x40, 1])).poisonSet 0).testBit 1 = false ∧ (atomLab (holds [0x40, 1])).lineHeld 0 0x40 = false
    ∧ ((atomLab (holds [0x40, 1])).lineNow { ld := 0, job := some 0 } 0x40 0x10).1.isSome = true ∧ (atomLab (holds [0x40, 1])).lineBusy (gCtx (holds [0x40, 1]) 0) 0x40 = false := by
  decide +kernel

/-! ### Vector and predicate instructions -/

/-- The first element type that a function of VOP, and of VOPX, accepts. -/
def anyTy (f : Nat) : BitVec 3 := BitVec.ofNat 3 ((vopTypes f).headD 0)
def anyTyX (f : Nat) : BitVec 3 := BitVec.ofNat 3 ((vopxTypes f).headD 0)
theorem wit_VectorInstructionsWriteTheirLanes :
    allIssue [5] ((List.range 0x10 ++ [0x11, 0x12, 0x13, 0x14, 0x15, 0x18, 0x19, 0x1A, 0x1B, 0x1C, 0x1D, 0x1E, 0x1F, 0x25, 0x26]).map (fun f =>
      wordV f 3 1 (if vopUnary f then 0 else 2) 1 (anyTy f) false)) = true
    ∧ allIssue [5] ((List.range 5).map (fun i => wordV (0x20 + i) 3 1 2 1 (anyTy (0x20 + i)) false)) = true
    ∧ allIssue [5] [wordV 0x10 3 1 0 1 1 true] = true
    ∧ allIssue [5] (([0x00, 0x01, 0x02, 0x03, 0x0B, 0x0C] : List Nat).map (fun f => wordVX f 3 1 1 1 (anyTyX f))) = true
    ∧ allIssue [5] [wordVX 0x08 3 0 1 1 (anyTyX 8), wordVX 0x09 3 0 1 1 (anyTyX 9), wordVX 0x10 3 0 0 1 (anyTyX 16), wordVX 0x0A 0 1 1 0 (anyTyX 10)] = true := by
  decide +kernel
theorem wit_LanesFollowTheirPredicate : (6 : BitVec 3).toNat ≤ 6 ∧ 0 < (vty 6).lanes ∧ 0 < (vty 0).lanes := by decide
theorem wit_PredicateInstructionsWriteTheirResult :
    allIssue [5] [wordP 0 1 2 3 0, wordP 1 1 2 3 0, wordP 2 1 2 3 0, wordP 3 1 2 3 0, wordP 4 1 0 0 1, wordP 5 1 0 0 1] = true := by decide +kernel

/-! ### The array -/

/-- Parameter words: AMMA of depth 16 with rows 64 bytes apart, AREAD of format 0 with rows 64 bytes apart, one line of a tile. -/
def ammaPar : U64 := 16 + 64 * 2 ^ 32
def areadPar : U64 := 64 * 2 ^ 32
/-- The entry an instruction makes. -/
def entryOf (w : Nat) (a b : U64) : QEntry := ⟨0, t0, 0, w, a.toNat, b.toNat, false, 0, none⟩
theorem wit_ArrayInstructionsEnterTheQueue_enter :
    (allIssue [wAt - 0x100, ammaPar] [wordA 0 1 1 2 false 0 0] && allIssue [wAt, 0] [wordA 1 1 0 0 false 0 0, wordA 4 0 1 0 false 0 0]
      && allIssue [wAt - 0x100, areadPar] [wordA 2 1 1 2 false 0 0] && allIssue [0x1000, 0] [wordTF 0 1 2 false, wordTF 1 1 2 true]) = true
    ∧ mLab.cluster 0 = { job := some 0 } ∧ ({ job := some 0 } : Cluster).queue.length < 16
    ∧ (ammaBad (entryOf (wordA 0 1 1 2 false 0 0) (wAt - 0x100) ammaPar) (mLab.fillWidth (mLab.cluster 0) 0) = false
      ∧ mLab.rowOutside mCtx 0x400000000000 64 (aBytes (entryOf (wordA 0 1 1 2 false 0 0) 0 ammaPar).mode (entryOf (wordA 0 1 1 2 false 0 0) 0 ammaPar).depth) = none
      ∧ (entryOf (wordA 0 1 1 2 false 0 0) 0 ammaPar).stride = 64)
    ∧ (areadBad (entryOf (wordA 2 1 1 2 false 0 0) (wAt - 0x100) areadPar) = false
      ∧ mLab.rowOutside mCtx 0x400000000000 64 (16 * readBytes (entryOf (wordA 2 1 1 2 false 0 0) 0 areadPar).format) = none
      ∧ (entryOf (wordA 2 1 1 2 false 0 0) 0 areadPar).stride = 64)
    ∧ (fetchBad (entryOf (wordTF 0 1 2 false) 0x1000 0) = false ∧ fetchBad (entryOf (wordTF 1 1 2 true) 0x1000 0) = false
      ∧ (entryOf (wordTF 0 1 2 false) 0x1000 0).count = 1) := by decide +kernel
/-- A cluster whose queue holds one entry of the thread. -/
def qLab (e : QEntry) : State := gLabOf (jobOf 3 [0] 0) { queue := [e] } (holds [])
theorem wit_ArrayInstructionsEnterTheQueue_await :
    allIssue [] [wordA 3 0 0 0 false 0 0] = true
    ∧ issuesB (qLab (entryOf (wordA 1 0 0 0 false 0 0) 0 0)) t0 (wordA 3 0 0 0 false 0 0) (gCtx (holds []) (wordA 3 0 0 0 false 0 0)) = true := by decide +kernel
theorem wit_SystemInstructionsHaveTheirEffect_fence :
    issuesB (qLab (entryOf (wordA 1 0 0 0 false 0 0) 0 0)) t0 (wordFN 0 1) (gCtx (holds []) (wordFN 0 1)) = true
    ∧ (qLab (entryOf (wordA 1 0 0 0 false 0 0) 0 0)).unperformed t0 0 = true := by decide +kernel
/-- An entry of a function, waiting or running. -/
def arrayEntry (w : Nat) (a b : U64) (run : Bool) : QEntry := { entryOf w a b with running := run }
theorem wit_ArrayEntriesRun_start :
    ([wordA 0 1 1 2 false 0 0, wordA 1 1 0 0 false 0 0, wordA 2 1 1 2 false 0 0, wordA 4 0 1 0 false 0 0, wordTF 0 1 2 false, wordTF 1 1 2 true].all (fun w =>
      (qLab (arrayEntry w 0x1000 0 false)).jobOf (ThreadKey t0) == some 0 && mayStart ((qLab (arrayEntry w 0x1000 0 false)).cluster 0).queue (arrayEntry w 0x1000 0 false)
      && ((qLab (arrayEntry w 0x1000 0 false)).cluster 0).queue.find? (fun d => d.id == 0) == some (arrayEntry w 0x1000 0 false)
      && (qLab (arrayEntry w 0x1000 0 false)).contained == false && !(qLab (arrayEntry w 0x1000 0 false)).fetchHeld 0 (arrayEntry w 0x1000 0 false) && ((qLab (arrayEntry w 0x1000 0 false)).cluster 0).scrubbing == false)) = true
    ∧ (qLab (arrayEntry (wordA 4 0 1 0 false 0 0) 0 0 false)).runFault ((qLab (arrayEntry (wordA 4 0 1 0 false 0 0) 0 0 false)).cluster 0) 0
        (arrayEntry (wordA 4 0 1 0 false 0 0) 0 0 false) = some (7, 0)
    ∧ ([wordA 0 1 1 2 false 0 0, wordA 1 1 0 0 false 0 0, wordA 2 1 1 2 false 0 0, wordTF 0 1 2 false].all (fun w =>
      (qLab (arrayEntry w 0x1000 0 false)).runFault ((qLab (arrayEntry w 0x1000 0 false)).cluster 0) 0 (arrayEntry w 0x1000 0 false) == none)) = true
    ∧ (((qLab (arrayEntry (wordTF 0 1 2 false) 0x1000 0 false)).fetchLines { ld := 0, job := some 0 } ((qLab (arrayEntry (wordTF 0 1 2 false) 0x1000 0 false)).cluster 0)
        (arrayEntry (wordTF 0 1 2 false) 0x1000 0 false) (List.range 1)).1 = none) := by decide +kernel
/-- The same with codec slot 3 READY and of LD0. -/
def alutLab (w : Nat) (x : Cluster) : State :=
  { gLabOf (jobOf 3 [0] 0) { x with queue := [arrayEntry w 3 0 false] } (holds []) with
    objs := [(okey 0x200 0x200 0, 2 ^ 32), (okey 0x300 (slotObj false 3) 1, 1), (okey 0x300 (slotObj false 3) 0, 0)] }
/-- A lookup of width 8. -/
def lookup8 : Lookup := ⟨3, 0, 8, true, []⟩
theorem wit_ArrayEntriesRun_lookup :
    ((alutLab (wordA 4 0 1 0 false 0 0) {}).runFault ((alutLab (wordA 4 0 1 0 false 0 0) {}).cluster 0) 0 (arrayEntry (wordA 4 0 1 0 false 0 0) 3 0 false) = none)
    ∧ ((alutLab (wordTF 1 1 2 true) { lookup := some lookup8 }).runFault ((alutLab (wordTF 1 1 2 true) { lookup := some lookup8 }).cluster 0) 0
        (arrayEntry (wordTF 1 1 2 true) 3 0 false) = none) := by decide +kernel
/-- A tile fetch whose one line has come. -/
def fetched : State := { qLab (arrayEntry (wordTF 0 1 2 false) 0x1000 0 true) with loads := [loadOf (.fetch 0 0) 0x1000 true (some (zeros 64))] }
/-- A running AMMA whose first row lies on a caddy line whose check fails. -/
def rowEntry : QEntry := arrayEntry (wordA 0 1 1 2 false 0 0) 0x400000000000 ammaPar true
def rowLost : State := { qLab rowEntry with caddyBad := [(qLab rowEntry).windowKey 0 0 / 16] }
theorem wit_ArrayEntriesRun_complete :
    ([wordA 0 1 1 2 false 0 0, wordA 1 1 0 0 false 0 0, wordA 2 1 1 2 false 0 0].all (fun w =>
      ((qLab (arrayEntry w 0x1000 0 true)).cluster 0).queue.find? (fun d => d.id == 0) == some (arrayEntry w 0x1000 0 true)
      && (qLab (arrayEntry w 0x1000 0 true)).rowBad 0 (arrayEntry w 0x1000 0 true) == none)) = true
    ∧ (rowLost.rowBad 0 rowEntry = some 0x400000000000 ∧ (rowLost.cluster 0).queue.find? (fun d => d.id == 0) = some rowEntry ∧ rowEntry.running = true
      ∧ rowEntry.func < 16)
    ∧ (fetched.loads.all (fun l => l.arrived)) = true ∧ (fetched.cluster 0).queue.find? (fun d => d.id == 0) = some (arrayEntry (wordTF 0 1 2 false) 0x1000 0 true)
    ∧ (State.placeLines { fetched with loads := [] } (arrayEntry (wordTF 0 1 2 false) 0x1000 0 true) fetched.loads).1 = none := by decide +kernel

/-! ### Synchronisation -/

theorem wit_SynchronisationHasItsEffect_waits :
    allIssue [2, 5] [wordSY 0 3 1 0 0, wordSY 0 3 1 0 16, wordSY 1 0 1 0 0, wordSY 2 0 1 0 1] = true
    ∧ allIssue [1] [wordSY 0 3 1 0 0] = true ∧ allIssue [0] [wordSY 0 3 1 0 0] = true ∧ allIssue [3] [wordSY 0 3 1 0 0] = true
    ∧ (jobOf 3 [0] 0).threadCount = 2 ∧ mLab.barriers mCtx false = [] ∧ mLab.barriers mCtx true = []
    ∧ allIssue [wAt, 7] [wordSY 3 3 1 0 0, wordSY 4 0 1 0 0, wordSY 5 0 1 2 0] = true ∧ mLab.isPolicyThread mCtx = false
    ∧ mLab.place 0 (jobOf 3 [0] 0) 0x400000000100 32 = .window 0 0x100 ∧ mLab.place 0 (jobOf 3 [0] 0) 0x400000000100 16 = .window 0 0x100
    ∧ mLab.place 0 (jobOf 3 [0] 0) 0x400000000100 8 = .window 0 0x100 ∧ mLab.unperformed t0 0 = false ∧ mLab.unperformed t0 1 = false
    ∧ (mLab.startClock 0).windowBad 0 0x100 8 = false ∧ (badLab.startClock 0).windowBad 0 0x100 8 = true
    ∧ issuesB badLab t0 (wordSY 5 0 1 2 0) (gCtx (holds [wAt]) (wordSY 5 0 1 2 0)) = true := by decide +kernel
/-- The policy job of LD0, on the cluster named for it. -/
def polJob : Job := jobOf 3 [0] 1
def polLab : State :=
  { gLabOf polJob {} (holds [wAt]) with objs := [(okey 0x200 0x200 0, 2 ^ 32), (okey 0x700 0x130 0, 1), (okey 0x700 0x130 1, 0)] }
def polCtx : Ctx := { gCtx (holds [wAt]) (wordSY 3 3 1 0 0) with job := polJob }
theorem wit_SynchronisationHasItsEffect_policy :
    issuesB polLab t0 (wordSY 3 3 1 0 0) polCtx = true ∧ polLab.isPolicyThread polCtx = true ∧ polLab.mvReqs = [] ∧ polLab.windowBad 0 0x100 32 = false
    ∧ polLab.place 0 polJob 0x400000000100 32 = .window 0 0x100 := by decide +kernel

/-! ## Values of the spec's worked examples and of the published codes it names -/

/-- CRC-32C, SHA-256 and XTS-AES-256 on the vectors published with them: "123456789", "abc" (FIPS 180-4). -/
theorem test_crc32c : crc32c [0x31, 0x32, 0x33, 0x34, 0x35, 0x36, 0x37, 0x38, 0x39] = 0xE3069283 := by decide +kernel
theorem test_sha256 : beNat (sha256 [0x61, 0x62, 0x63]) = 0xBA7816BF8F01CFEA414140DE5DAE2223B00361A396177A9CB410FF61F20015AD := by decide +kernel
/-- FIPS 197, appendix C.3: AES-256 of 00112233445566778899AABBCCDDEEFF under 000102...1F. -/
theorem test_aes256 :
    aesEnc (aesKeys ((List.range 32).map (BitVec.ofNat 8))) ((List.range 16).map (fun i => 0x11 * i))
      = [0x8E, 0xA2, 0xB7, 0xCA, 0x51, 0x67, 0x45, 0xBF, 0xEA, 0xFC, 0x49, 0x90, 0x4B, 0x49, 0x60, 0x89] := by decide +kernel
/-- What enciphers deciphers again. -/
theorem test_xts_round_trip :
    let key := (List.range 64).map (BitVec.ofNat 8)
    let t := tweakBytes 0x48CA36 125 0 0 3
    let data := (List.range 64).map (fun i => BitVec.ofNat 8 (7 * i))
    xtsDecrypt key t (xtsEncrypt key t data) = data := by decide +kernel
/-- 10_isolation_security.md, the worked example: the tweak of line 125 of tile 0x48CA36, binding 3. -/
theorem test_tweak : tweakBytes 0x48CA36 125 0 0 3 = ([0x36, 0xCA, 0x48, 0, 0x7D, 0, 0, 0, 0, 0, 0, 0, 3, 0, 0, 0] : Bytes) := by decide +kernel
/-- 14_near_tier_controller.md, the worked example: block 70,000,007 is on channel 7, its granule 13 in burst 39,375,050 of bank 3,
row 19,226, column 10, and its check burst is 39,375,053. -/
theorem test_near_address :
    (placeBlock false 70000007).1 = 7 ∧ granuleBursts (placeBlock false 70000007).2.2.1 13 = (39375050, 39375053, 40)
    ∧ burstBank 39375050 = 3 ∧ burstRow 39375050 = 19226 ∧ burstCol 39375050 = 10 := by decide +kernel
/-- 04_fixed_rate_codec.md, the worked example: line 200. -/
def line200 : Bytes := ([0x3F30, 0x3F70, 0x3DD0, 0xBEA0, 0x3CC0] : List Nat).flatMap (leBytes 2) ++ zeros 54
theorem test_fr_encode :
    packIdx 4 (frEncode (defaultTable 1) 1 line200).idx = [0xEE, 0x29] ++ List.replicate 14 0x77
    ∧ (frEncode (defaultTable 1) 1 line200).scale = 0x7D ∧ (frEncode (defaultTable 1) 1 line200).flag = false
    ∧ (frEncode (defaultTable 1) 1 line200).saturated = 1 ∧ (frEncode (defaultTable 1) 1 line200).flushed = 1 := by decide +kernel
/-- The line as it is read. -/
def read200 : Bytes := ([0x3F40, 0x3F40, 0x3E00, 0xBEC0] : List Nat).flatMap (leBytes 2) ++ zeros 56
theorem test_fr_decode : frDecode (defaultTable 1) 1 (unpackIdx 4 32 ([0xEE, 0x29] ++ List.replicate 14 0x77)) 0x7D = read200 := by decide +kernel
theorem test_fr_residual :
    residualLine 1 line200 read200 = ([0xBD80, 0x3E40, 0xBCC0, 0x3D80, 0x3CC0] : List Nat).flatMap (leBytes 2) ++ zeros 54 := by decide +kernel
/-- 12_gaisk_isa.md, the worked example: its words. -/
theorem test_words :
    wordA 4 0 5 0 false 0 0 = 0x04001430 ∧ wordTF 1 6 7 false = 0x00047340 ∧ wordA 0 2 8 9 false 3 0 = 0x0064A130
    ∧ wordA 2 2 10 11 false 0 0 = 0x0205A930 ∧ wordA 3 0 0 0 false 0 0 = 0x03000030 := by decide
/-- The instructions those words spell. -/
theorem test_decode_words :
    gaiskDecode t0 0x04001430 = some (.gAlut t0 0 5 0 false 0 0) ∧ gaiskDecode t0 0x00047340 = some (.gTffr t0 6 7 false)
    ∧ gaiskDecode t0 0x0064A130 = some (.gAmma t0 2 8 9 false 3 0) ∧ gaiskDecode t0 0x0205A930 = some (.gAread t0 2 10 11 false 0 0)
    ∧ gaiskDecode t0 0x03000030 = some (.gAwait t0 0 0 0 false 0 0) ∧ gaiskDecode t0 0 = none := by decide +kernel
/-- Whether the word of an instruction is read as it. -/
def readsBack (i : Instr) : Bool := (gaiskWord i).bind (gaiskRead t0) == some i
/-- The word of every instruction, its fields at different values, is read as that instruction. -/
theorem test_words_read_back :
    ((List.range 0x20).all (fun f => ((sopOf t0 f).map (· 21 10 31)).all readsBack) && (List.range 8).all (fun f =>
      [sopiOf t0 f, Sys2Proof.loadOf t0 f, storeOf t0 f, branchOf t0 f, sysOf t0 f].all (fun g => (g.map (· 21 10 0xA5F)).all readsBack)
      && ((vloadOf t0 f).map (· 5 10 6 0x4A5)).all readsBack && ((popOf t0 f).map (· 5 2 7 21)).all readsBack
      && ((tfetchOf t0 f).map (· 21 10 true)).all readsBack)
    && (List.range 16).all (fun f => ((atomicOf t0 f).map (· 21 10 31 2 1)).all readsBack && ((aopOf t0 f).map (· 5 10 21 true 4 6)).all readsBack
      && ((syncOf t0 f).map (· 21 10 31 0x2A)).all readsBack)
    && (List.range 64).all (fun f => ((vopOf t0 f).map (· 5 10 15 6 3 true)).all readsBack && ((vopxOf t0 f).map (· 5 10 21 6 3)).all readsBack)
    && [.gLui t0 21 0xA5F01, .gJal t0 21 0xA5F01, .gJalr t0 21 10 0xA5F, .gVst t0 5 10 6 0x4A5, .gFence t0 1 2].all readsBack) = true := by decide +kernel
/-- Its AMMA: element 0 of the accumulator becomes 0x3FD4CCCD. -/
def example12 : QEntry := entryOf 0x0064A130 0 0x0000008000000040
theorem test_amma :
    (ammaResult example12 [([0x3F80, 0x4000, 0xC080, 0x3F00] : List Nat).flatMap (leBytes 2) ++ zeros 120]
      (Bank.place {} true 4 0 ([0xEE, 0x29] ++ List.replicate 14 0x77 ++ [0x7D, 0])) (some ⟨5, 7, 4, true, (defaultTable 1).entries⟩)
      (0x3DCCCCCD :: List.replicate 255 0)).getD 0 0 = 0x3FD4CCCD := by decide +kernel
/-- Its AREAD rounds that to 0x3FD5. -/
theorem test_aread : areadBytes (entryOf 0x0205A930 0 0x0000004000000001) 0x3FD4CCCD = leBytes 2 0x3FD5 := by decide +kernel

/-! ## Single commands -/

/-- A register of the thread after a command. -/
def regAfter (xs : List U64) (i : Instr) (r : BitVec 5) : Option U64 :=
  match exec i (gLab (holds xs)) with
  | .next s => (s.thread (ThreadKey t0)).map (fun x => x.rx r)
  | _ => none
/-- 12 R402: a divisor of 0, and the most negative number by -1. -/
theorem test_div_by_zero : regAfter [7, 0] (.gDiv t0 3 1 2) 3 = some 0xFFFFFFFFFFFFFFFF := by decide +kernel
theorem test_div_overflow : regAfter [0x8000000000000000, 0xFFFFFFFFFFFFFFFF] (.gDiv t0 3 1 2) 3 = some 0x8000000000000000 := by decide +kernel
theorem test_rem_sign : regAfter [0xFFFFFFFFFFFFFFF9, 2] (.gRem t0 3 1 2) 3 = some 0xFFFFFFFFFFFFFFFF := by decide +kernel
theorem test_mulh : regAfter [0xFFFFFFFFFFFFFFFF, 2] (.gMulh t0 3 1 2) 3 = some 0xFFFFFFFFFFFFFFFF := by decide +kernel
theorem test_sra_source_is_destination : regAfter [0x8000000000000000, 65] (.gSra t0 1 1 2) 1 = some 0xC000000000000000 := by decide +kernel
theorem test_clz_of_zero : regAfter [0] (.gClz t0 3 1 0) 3 = some 64 := by decide +kernel
theorem test_lui_sign : regAfter [] (.gLui t0 3 0x80000) 3 = some 0xFFFFFFFF80000000 := by decide +kernel
theorem test_x0 : regAfter [5, 6] (.gAdd t0 0 1 2) 0 = some 0 := by decide +kernel
/-- 12 R406: ACAS writes on equality and returns the old value. The window reads 0 where nothing has written (11 R368). -/
theorem test_cas : regAfter [wAt, 9, 0] (.gAcas t0 3 1 2 0 2) 3 = some 0 := by decide +kernel
/-- A step on an empty queue lets a nanosecond pass; a step with a command at the front runs it and takes it off. -/
theorem test_idle : (match step lab with | .next s => s.now == lab.now + 1 && s.pending == [] | _ => false) = true := by decide +kernel
theorem test_step : (match step { lab with pending := [.patrolRead 0 0 0, .pwrgdFall] } with | .next s => s.pending == [.pwrgdFall] | _ => false) = true := by
  decide +kernel

end Sys2Proof.Tests
end

section
/-!
SUPPORT. What any command can do, said once over all of them, and what an idle step does to the clock and the queue.
-/
namespace Sys2Proof.Machine

/-! ## Every command -/

/-- A patrol read stops with its fault outside the near tier, and ends as every command does inside it (14 R460, R488). -/
theorem execPatrolRead_cases (ch : Fin 32) (block : Nat) (granule : Fin 16) (s : State) :
    (∃ t, execPatrolRead ch block granule s = finish s t)
    ∨ (block ≥ chanBlocks ∧ execPatrolRead ch block granule s = .fault .addressOutside) := by
  unfold execPatrolRead
  dsimp only
  split
  · next hout => exact .inr ⟨hout, rfl⟩
  · split
    · exact .inl ⟨s, rfl⟩
    · exact .inl ⟨_, rfl⟩

/-- PWRGD_RISE with PWRGD high changes nothing. -/
theorem execPwrgdRise_of_on {s : State} (h : s.stage ≠ .off) : execPwrgdRise s = finish s s := if_pos h

/-- PWRGD_RISE with PWRGD low: the timebase starts at 0, and the boot begins unless PERST_N is asserted (17 R566, 10 R345). -/
theorem execPwrgdRise_of_off {s : State} (h : s.stage = .off) :
    execPwrgdRise s = .next { (if s.perst then { s with stage := .inReset, now := 0 }
      else State.boot { s with stage := .inReset, now := 0 }) with pending := s.pending, now := 0 } :=
  if_neg (not_not_intro h)

/-- All that a command can do to the queue and the clock: it ends with `finish`, or it is a patrol read outside the near
tier, or it is PWRGD_RISE with PWRGD low. -/
theorem exec_cases (c : Instr) (s : State) :
    (∃ t, exec c s = finish s t)
    ∨ (∃ ch block granule, c = .patrolRead ch block granule ∧ block ≥ chanBlocks ∧ exec c s = .fault .addressOutside)
    ∨ (c = .pwrgdRise ∧ s.stage = .off) := by
  cases c with
  | patrolRead ch block granule =>
    obtain hfin | ⟨hout, hfault⟩ := execPatrolRead_cases ch block granule s
    · exact .inl hfin
    · exact .inr (.inl ⟨ch, block, granule, rfl, hout, hfault⟩)
  | pwrgdRise =>
    by_cases hoff : s.stage = .off
    · exact .inr (.inr ⟨rfl, hoff⟩)
    · exact .inl ⟨s, execPwrgdRise_of_on hoff⟩
  | _ => exact .inl ⟨_, rfl⟩

/-- A command but PWRGD_RISE takes no time (log entry 1). -/
theorem exec_now {c : Instr} {s t : State} (h : exec c s = .next t) (hc : c ≠ .pwrgdRise) : t.now = s.now := by
  obtain ⟨u, hfin⟩ | ⟨_, _, _, _, _, hfault⟩ | ⟨hrise, _⟩ := exec_cases c s
  · obtain rfl := Host.Outcome.next.inj (hfin.symm.trans h)
    rfl
  · exact nomatch hfault.symm.trans h
  · exact absurd hrise hc

/-! ## Idle steps -/

/-- A step on an empty queue lets time pass. -/
theorem step_of_empty {s : State} (h : s.pending = []) : step s = .next (idle s) := by
  unfold step
  rw [h]

/-- With PWRGD low nothing counts. -/
theorem idle_of_off {s : State} (h : s.stage = .off) : idle s = s := if_pos h

/-- With PWRGD high an idle step is one nanosecond. -/
theorem idle_now {s : State} (h : s.stage ≠ .off) : (idle s).now = s.now + 1 := by
  unfold idle
  rw [if_neg h]
  split <;> rfl

/-- An idle step queues no command. -/
@[simp] theorem idle_pending (s : State) : (idle s).pending = s.pending := by
  unfold idle
  split
  · rfl
  · split <;> rfl

/-! ## The statements of 01_architecture.md -/

/-- Settles O4: every command but PWRGD_RISE ends with the clock it began with, by the cases of `exec_cases`; the rest is
what PWRGD_RISE and an idle step do. -/
theorem onlyPwrgdRiseSetsTheClock : Obligations.OnlyPwrgdRiseSetsTheClock := by
  unfold Obligations.OnlyPwrgdRiseSetsTheClock
  refine ⟨fun c s t h hc => exec_now h hc, fun s t hoff h => ?_, fun s t hq hon h => ?_, fun s hq hoff => ?_⟩
  · obtain rfl := Host.Outcome.next.inj ((execPwrgdRise_of_off hoff).symm.trans h)
    exact ⟨rfl, fun hperst => by simp [hperst]⟩
  · obtain rfl := Host.Outcome.next.inj ((step_of_empty hq).symm.trans h)
    exact ⟨idle_now hon, (idle_pending s).trans hq⟩
  · rw [step_of_empty hq, idle_of_off hoff]

end Sys2Proof.Machine
end

section
/-!
SUPPORT. The checks of a request in their order, what an event leaves behind, and the ends of drains, divergences and salvage.
-/
namespace Sys2Proof.Machine

/-! ## The checks of R647 -/

/-- A unit the module does not have: NO_UNIT. -/
theorem access_noUnit {s : State} {w : Sender} {u o m off len : Nat} {write fits : Bool} (hu : unitExists u = false) :
    s.access w u o m off len write fits = .error 1 := by
  simp [State.access, hu, stNoUnit]

/-- An object the unit does not have: NO_OBJECT. -/
theorem access_noObject {s : State} {w : Sender} {u o m off len : Nat} {write fits : Bool} (hu : unitExists u = true)
    (ho : o ≥ 4096 ∨ hasObject u o = false) : s.access w u o m off len write fits = .error 2 := by
  rw [State.access, if_neg (by simp [hu]), if_pos (by simpa using ho)]
  rfl

/-- A member the object does not have: NO_MEMBER. -/
theorem access_noMember {s : State} {w : Sender} {u o m off len : Nat} {write fits : Bool} (hu : unitExists u = true)
    (hlt : o < 4096) (ho : hasObject u o = true) (hm : rowOf u o m = none ∨ o = 0x40 ∧ m > (s.children u).length) :
    s.access w u o m off len write fits = .error 3 := by
  rw [State.access, if_neg (by simp [hu]), if_neg (by simp [ho]; omega)]
  by_cases hchild : o = 0x40 ∧ m > (s.children u).length
  · simp [hchild, stNoMember]
  · simp [hchild, hm.resolve_right hchild, stNoMember]

/-- A request that names a row: the length decides, then the role. -/
theorem access_of_row {s : State} {w : Sender} {u o m off len : Nat} {write fits : Bool} {row : Row} (hu : unitExists u = true)
    (hlt : o < 4096) (ho : hasObject u o = true) (hm : rowOf u o m = some row) (hc : o = 0x40 → m ≤ (s.children u).length) :
    s.access w u o m off len write fits =
      if fits = false ∨ spanOk u o row off len write = false then .error 5
      else if (if write then s.mayWrite w u o m row else s.mayRead w u o m row) = true then .ok row else .error 4 := by
  rw [State.access, if_neg (by simp [hu]), if_neg (by simp [ho]; omega),
    if_neg (fun h => absurd (hc h.1) (Nat.not_le.mpr h.2)), hm]
  simp only [Bool.not_eq_true', stLength, stRights]

/-- Settles O44: one lemma for each check, in the order of the checks. -/
theorem checksRunInOrder : Obligations.ChecksRunInOrder := by
  unfold Obligations.ChecksRunInOrder
  intro s w u o m off len write fits
  refine ⟨access_noUnit, access_noObject, access_noMember, fun row hu hlt ho hm hc => ⟨fun hlen => ?_, fun hfit hspan => ?_⟩⟩
  · rw [access_of_row hu hlt ho hm hc, if_pos hlen]
  · rw [access_of_row hu hlt ho hm hc, if_neg (by simp [hfit, hspan])]

/-! ## Events -/

/-- A later state has sent what an earlier one has. -/
def Sent (s t : State) : Prop := s.outbox ⊆ t.outbox

theorem Sent.emit (s : State) (o : Out) : Sent s (s.emit o) := List.subset_append_left _ _

/-- Sending a vector takes no message back. -/
theorem sendVector_sent (s : State) (n k : Nat) : Sent s (s.sendVector n k) := by
  unfold State.sendVector State.intxUpdate
  dsimp only
  repeat' split
  all_goals first
    | exact List.Subset.refl _
    | exact Sent.emit _ _

/-- A signalled vector takes no message back. -/
theorem signal_sent (s : State) (n k : Nat) : Sent s (s.signal n k) :=
  sendVector_sent (s.setLd n { s.ld n with cause := setBit (s.ld n).cause k true }) n k

/-- A log record takes no message back. -/
theorem logRecord_sent (s : State) (n log : Nat) (b : Bytes) : Sent s (s.logRecord n log b) := by
  unfold State.logRecord
  dsimp only
  split
  · exact signal_sent (s.setLd n _) n _
  · exact List.Subset.refl _

/-- Messages that are sent one after the other have all left, when none of them depends on the outbox. -/
theorem mem_outbox_foldl_emit {α : Type} {f : State → α → Out} (hf : ∀ s o z, f (s.emit o) z = f s z) (l : List α) (s : State) :
    ∀ z ∈ l, f s z ∈ (l.foldl (fun t z => t.emit (f t z)) s).outbox := by
  induction l generalizing s with
  | nil => simp
  | cons a l ih =>
    intro z hz
    rw [List.foldl_cons]
    rcases List.mem_cons.mp hz with rfl | hz
    · have hout : f s z ∈ (s.emit (f s z)).outbox := List.mem_append_right _ (List.mem_singleton_self _)
      exact foldl_keeps (P := fun t => f s z ∈ t.outbox) (fun t b h => Sent.emit t (f t b) h) l _ hout
    · rw [← hf s (f s a) z]
      exact ih _ z hz

/-- The unit's object 008 holds an event (02 R77). -/
def State.eventNoted (s : State) (unit code detail : Nat) : State :=
  (((s.setObj unit 8 0 code).setObj unit 8 1 s.now).setObj unit 8 2 (s.obj unit 3 0)).setObj unit 8 3 detail

/-- The EVENT message of the next event to a session. -/
def State.eventOut (s : State) (unit code gen detail : Nat) (z : Session) : Out :=
  .event z.id unit code s.now gen detail (z.eventMessage s.telem.nextEvent unit code s.now gen detail)

/-- The unit's object 008 holds the event, and its messages to the sessions have left. -/
def State.eventTold (s : State) (unit code detail : Nat) : State :=
  (s.eventNoted unit code detail).sessions.foldl (fun t z => t.emit (t.eventOut unit code (s.obj unit 3 0) detail z))
    (s.eventNoted unit code detail)

/-- The LDs an event goes to. -/
def State.eventLds (s : State) (lds : List Nat) (unit code detail : Nat) : List Nat :=
  (List.range 16).filter (fun n => n == (s.eventTold unit code detail).unitOwner unit || lds.contains n)

/-- The event has reached its LDs' logs too. -/
def State.eventLogged (s : State) (lds : List Nat) (unit code detail : Nat) : State :=
  (s.eventLds lds unit code detail).foldl (fun t n => t.logRecord n (if failureCode code detail then 2 else 0)
    (eventVendor unit code (s.obj unit 3 0) detail t.now)) (s.eventTold unit code detail)

/-- The event log of 4,096 takes a record (19 R607). -/
def State.recordEvent (s : State) (r : EventRec) : State :=
  { s with telem := { s.telem with
    events := s.telem.events.drop (s.telem.events.length - 4095) ++ [r], nextEvent := s.telem.nextEvent + 1 } }

/-- An event's record comes last. -/
theorem raiseFor_eq (s : State) (lds : List Nat) (unit code detail : Nat) :
    s.raiseFor lds unit code detail = (s.eventLogged lds unit code detail).recordEvent
      { seqNo := (s.eventLogged lds unit code detail).telem.nextEvent, time := (s.eventLogged lds unit code detail).now
        unit := unit, code := code, gen := s.obj unit 3 0, detail := detail
        toLds := (s.eventLds lds unit code detail).foldl (fun a n => a + 2 ^ n) 0 } := rfl

/-- Storing a member changes the dictionary's scalars alone, whatever was stored before. -/
theorem setObj_onlyObjs {s t : State} (h : ∃ B, t = { s with objs := B }) (u o m v : Nat) :
    ∃ B, t.setObj u o m v = { s with objs := B } := by
  obtain ⟨B, rfl⟩ := h
  exact ⟨_, rfl⟩

/-- Noting an event changes the dictionary's scalars alone. -/
theorem eventNoted_eq (s : State) (unit code detail : Nat) :
    s.eventNoted unit code detail = { s with objs := (s.eventNoted unit code detail).objs } := by
  obtain ⟨B, h⟩ : ∃ B, s.eventNoted unit code detail = { s with objs := B } :=
    setObj_onlyObjs (setObj_onlyObjs (setObj_onlyObjs (setObj_onlyObjs ⟨_, rfl⟩ _ _ _ _) _ _ _ _) _ _ _ _) _ _ _ _
  rw [h]

/-- Before its record, an event has changed object 008, LDs and messages. -/
theorem eventLogged_eq (s : State) (lds : List Nat) (unit code detail : Nat) : ∃ L O,
    s.eventLogged lds unit code detail = { s with objs := (s.eventNoted unit code detail).objs, lds := L, outbox := O } := by
  have htold : OnlyLds (s.eventNoted unit code detail) (s.eventTold unit code detail) :=
    foldl_keeps (P := OnlyLds (s.eventNoted unit code detail)) (fun t _ h => h.trans (.emit t _)) _ _ (.refl _)
  obtain ⟨L, O, h⟩ : OnlyLds (s.eventNoted unit code detail) (s.eventLogged lds unit code detail) :=
    foldl_keeps (P := OnlyLds (s.eventNoted unit code detail)) (fun t _ h => h.trans (logRecord_only t _ _ _)) _ _ htold
  rw [eventNoted_eq] at h
  exact ⟨L, O, h⟩

/-- Every open session has been sent the event. -/
theorem eventLogged_sent (s : State) (lds : List Nat) (unit code detail : Nat) :
    ∀ z ∈ s.sessions, s.eventOut unit code (s.obj unit 3 0) detail z ∈ (s.eventLogged lds unit code detail).outbox := by
  intro z hz
  have h := mem_outbox_foldl_emit (f := fun t z => t.eventOut unit code (s.obj unit 3 0) detail z) (fun _ _ _ => rfl)
    s.sessions (s.eventNoted unit code detail) z hz
  exact foldl_keeps (P := fun t => s.eventOut unit code (s.obj unit 3 0) detail z ∈ t.outbox)
    (fun t _ h => logRecord_sent t _ _ _ h) _ _ h

/-- An event is read in the unit's object 008. -/
theorem eventNoted_obj (s : State) (unit code detail : Nat) :
    (s.eventNoted unit code detail).obj unit 8 0 = code ∧ (s.eventNoted unit code detail).obj unit 8 1 = s.now
    ∧ (s.eventNoted unit code detail).obj unit 8 2 = s.obj unit 3 0 ∧ (s.eventNoted unit code detail).obj unit 8 3 = detail := by
  simp [State.eventNoted, State.obj_setObj_of_ne, okey_member]

/-- A member's value stands in the dictionary's scalars. -/
theorem State.obj_of_objs {s t : State} (h : t.objs = s.objs) (u o m : Nat) : t.obj u o m = s.obj u o m := by
  unfold State.obj
  rw [h]

/-- Settles O7: `raiseFor_shape` says what an event leaves, of which the statement names each part. -/
theorem eventIsRecordedAndSent : Obligations.EventIsRecordedAndSent := by
  unfold Obligations.EventIsRecordedAndSent
  intro s unit code detail
  have hraise : s.raise unit code detail = _ := raiseFor_eq s [] unit code detail
  have hsent := eventLogged_sent s [] unit code detail
  obtain ⟨L, O, hlogged⟩ := eventLogged_eq s [] unit code detail
  rw [hlogged] at hsent hraise
  have hobj := State.obj_of_objs (t := s.raise unit code detail) (s := s.eventNoted unit code detail) (by rw [hraise]; rfl)
  obtain ⟨hcode, htime, hgen, hdetail⟩ := eventNoted_obj s unit code detail
  refine ⟨_, _, _, _, hraise, ?_⟩
  rw [hobj, hobj, hobj, hobj, hraise]
  exact ⟨hcode, htime, hgen, hdetail, hsent, rfl, _, List.getLast?_concat, rfl, rfl, rfl, rfl, rfl, rfl⟩

/-! ## Drains, divergences, salvage -/

/-- A cluster that has emptied on its way to OFFLINE is OFFLINE. -/
theorem drainDone_cluster {s : State} {u : Nat} (hlo : 0xA40 ≤ u) (hhi : u ≤ 0xA7F) (hown : (s.unit u).own = 4)
    (hdrain : (s.cluster (u - 0xA40)).draining = false) (hchange : (s.cluster (u - 0xA40)).changing = false)
    (hreq : s.requested u = 3) (hempty : s.clusterEmpty (clusterOf u) = true) : s.drainDone u = s.setOwn u 3 1 := by
  have hcluster : clusterOf u = u - 0xA40 := if_neg (by omega)
  have hunit : 0xA40 + (u - 0xA40) = u := by omega
  rw [hcluster] at hempty
  unfold State.drainDone
  rw [if_neg (by simp [hown]), if_neg (by omega), if_neg (by simp [unitIn]; omega), if_neg (by simp [unitIn]; omega),
    if_pos (by simp [unitIn]; omega), if_neg (by simp [hdrain]), State.clusterSettle]
  simp [hunit, hown, hchange, hreq, hempty]

/-- A far port that drains settles. -/
theorem drainDone_farPort {s : State} {u : Nat} (hlo : 0x610 ≤ u) (hhi : u ≤ 0x617)
    (hown : (s.unit u).own = 4 ∨ ((s.unit u).own = 5 ∧ (s.unit u).reason = 2)) : s.drainDone u = s.farPortSettle (u - 0x610) := by
  unfold State.drainDone
  rw [if_neg (not_not_intro hown), if_neg (by omega), if_pos (by simp [unitIn]; omega)]

/-- A salvaged overlay that ends goes with its event. -/
theorem endSalvage_of_salvaged {s : State} {i : Nat} {a : Attach} (ha : tabGet s.attaches i = some a) (hk : a.kind = 3) :
    s.endSalvage i = ((s.endAttach i).bump 0x900 0x20 1).raiseFor [a.ld] 0x900 0x0151 (attachDetail a) := by
  simp [State.endSalvage, ha, hk]

/-- Settles O10: the branch of each command that its premises choose. -/
theorem unitStateEventsComplete : Obligations.UnitStateEventsComplete := by
  unfold Obligations.UnitStateEventsComplete
  refine ⟨fun s u hlo hhi hown hdrain hchange hreq hempty => ?_, fun s u hown hlo hhi => ?_,
    fun s u hu hclock hfired h5 h6 => ?_, fun s i a ha hk => ?_⟩
  · rw [← drainDone_cluster hlo hhi hown hdrain hchange hreq hempty]
    rfl
  · rw [← drainDone_farPort hlo hhi hown]
    rfl
  · have hclock : ¬ (s.unit u.toNat).clock.isNone := by simpa [Option.isSome_iff_ne_none] using hclock
    show finish s _ = finish s _
    rw [if_neg (by simp [hu, hclock, hfired]), if_neg (by simp [h5, h6])]
  · rw [← endSalvage_of_salvaged ha hk]
    show finish s _ = finish s _
    rw [if_pos (by simp [ha, hk])]

end Sys2Proof.Machine
end

section
/-!
SUPPORT. Frames of the management port and payloads of a mailbox, up to the request they carry; sessions that open and close.
-/
namespace Sys2Proof.Machine

/-! ## Frames (02 R72, R648) -/

/-- A frame that comes to a management port that takes it. -/
theorem arrive_of_takes {s t : State} (h : PortTakes s t) (f : Bytes) (ok1 ok2 : Bool) : s.arrive f ok1 ok2 = t.frame f ok1 ok2 := by
  obtain ⟨hoff, hreset, hcores, hinject, hrestart⟩ := h
  unfold State.arrive
  rw [if_neg (by simp [hoff, hreset, hcores]), hinject]
  simp [hrestart]

section
variable {t : State} {f : Bytes} (ok1 ok2 : Bool)

/-- HELLO and OPEN carry no tag and belong to no session. -/
theorem frame_opening (hty : field f 3 1 = 1 ∨ field f 3 1 = 2) (hfit : msgFits f 0 = true) :
    t.frame f ok1 ok2 =
      t.taken (.mgmt (BitVec.ofNat 32 (field f 4 4)) (BitVec.ofNat 32 (field f 8 4)) []) (msgOf f) none ok1 ok2 := by
  have htagged : ((msgOf f).ty != 1 && (msgOf f).ty != 2) = false := by simpa [msgOf] using fun h => hty.resolve_left h
  unfold State.frame
  simp only [htagged, hfit, Bool.not_true, Bool.not_false, Bool.false_eq_true, if_true, if_false]
  rfl

/-- A tagged frame that does not fit is dropped. -/
theorem frame_unfit (h1 : field f 3 1 ≠ 1) (h2 : field f 3 1 ≠ 2) (hfit : msgFits f 32 = false) :
    t.frame f ok1 ok2 = t.dropFrame := by
  have htagged : ((msgOf f).ty != 1 && (msgOf f).ty != 2) = true := by simp [msgOf, h1, h2]
  unfold State.frame
  simp only [htagged, hfit, if_true, Bool.not_false]

/-- A tagged frame of an open session, under its key. -/
theorem frame_of_session {x : Session} (h1 : field f 3 1 ≠ 1) (h2 : field f 3 1 ≠ 2) (hfit : msgFits f 32 = true)
    (hx : t.sessions.find? (·.id == field f 4 4) = some x)
    (hmac : hmac256 x.key (f.take (16 + field f 14 2)) = slice f (16 + field f 14 2) 32) :
    t.frame f ok1 ok2 =
      t.taken (.mgmt (BitVec.ofNat 32 (field f 4 4)) (BitVec.ofNat 32 (field f 8 4)) (slice f (16 + field f 14 2) 32)) (msgOf f)
        (some x) ok1 ok2 := by
  have htagged : ((msgOf f).ty != 1 && (msgOf f).ty != 2) = true := by simp [msgOf, h1, h2]
  have hbody : (msgOf f).body.length = field f 14 2 := slice_length _ _ _
  have hsession : t.sessions.find? (·.id == (msgOf f).session) = some x := hx
  unfold State.frame
  simp only [htagged, hfit, hbody, hsession, hmac, if_true, Bool.not_true, Bool.false_eq_true, if_false]
  rfl

end

/-- A member that is here or reachable is not absent. -/
theorem memberAbsent_of_reachable {t : State} {m : Nat} (h : t.isHere m = true ∨ m ∈ t.peers) : t.memberAbsent m = false := by
  rcases h with h | h <;> simp [State.memberAbsent, h]

/-- The message that a management frame of a request reads as. -/
def requestMsg (ty : Nat) (z q : U32) (m : Byte) (body tag : Bytes) : Msg :=
  { version := 1, ty := ty, session := z.toNat, seqNo := q.toNat, member := m.toNat, flags := 0, body := body
    head := slice (messageBytes ty z.toNat q.toNat m.toNat body ++ tag) 0 16 }

/-- What a frame with its tag reads as. -/
theorem msgOf_request {ty : Nat} {z q : U32} {m : Byte} {body tag : Bytes} (hty : ty < 256) (hlen : body.length ≤ 1024) :
    msgOf (messageBytes ty z.toNat q.toNat m.toNat body ++ tag) = requestMsg ty z q m body tag :=
  msgOf_messageBytes ty _ _ _ body tag hty z.isLt q.isLt m.isLt hlen

section
variable {t : State} {p : Path} {m : Msg} {z : Option Session} (ok1 ok2 : Bool)

/-- HELLO or OPEN is served here when its member is reachable. -/
theorem taken_opening (hversion : m.version = 1) (hty : m.ty = 1 ∨ m.ty = 2) (hflags : m.flags.testBit 0 = false)
    (hm : t.isHere m.member = true ∨ m.member ∈ t.peers) :
    t.taken p m z ok1 ok2 = (if m.ty = 1 then t.serveHello else t.serveOpen m).reply p m.ty := by
  have hrequest : requestTypes.contains m.ty = true := by rcases hty with h | h <;> rw [h] <;> rfl
  unfold State.taken
  rw [if_neg (by simp [hversion]), if_neg (by rw [hrequest, hflags]; simp), if_pos hty, memberAbsent_of_reachable hm]
  rfl

/-- A type the server does not know is answered TYPE (02 R648). -/
theorem taken_unknown (hversion : m.version = 1) (hty : m.ty ∉ requestTypes) :
    t.taken p m z ok1 ok2 = t.respond p m.ty 0x0F [] := by
  unfold State.taken
  rw [if_neg (by simp [hversion]), if_pos (by simp [hty])]
  rfl

/-- Any other request is its session's. -/
theorem taken_session {x : Session} (hversion : m.version = 1) (hrequest : m.ty ∈ requestTypes) (hflags : m.flags.testBit 0 = false)
    (hty : ¬ (m.ty = 1 ∨ m.ty = 2)) : t.taken p m (some x) ok1 ok2 = t.sessionRequest x p m ok1 ok2 := by
  unfold State.taken
  rw [if_neg (by simp [hversion]), if_neg (by simp [hrequest, hflags]), if_neg hty]

end

/-- HELLO or OPEN at a management port that takes it, for a member that is reachable. -/
theorem bring_opening {s t : State} {z q : U32} {tag : Bytes} {m : Byte} {g : Option U32} {ty : Nat} {body : Bytes}
    (hty : ty = 1 ∨ ty = 2) (ht : PortTakes s t) (hm : t.isHere m.toNat = true ∨ m.toNat ∈ t.peers) (hlen : body.length ≤ 1024) :
    s.bring { path := .mgmt z q tag, member := m, gen := g } ty body true true =
      (if ty = 1 then t.serveHello else t.serveOpen (requestMsg ty z q m body [])).reply (.mgmt z q []) ty := by
  have h256 : ty < 256 := by omega
  have hfit := msgFits_messageBytes ty z.toNat q.toNat m.toNat body [] 0 hlen (Nat.le_refl _)
  have hfield := messageBytes_ty ty z.toNat q.toNat m.toNat body [] h256
  have hbring : s.bring { path := .mgmt z q tag, member := m, gen := g } ty body true true
      = s.arrive (messageBytes ty z.toNat q.toNat m.toNat body ++ []) true true := by
    unfold State.bring
    dsimp only
    rw [if_pos hty]
  rw [hbring, arrive_of_takes ht, frame_opening true true (by rw [hfield]; exact hty) hfit, msgOf_request h256 hlen,
    messageBytes_session _ _ _ _ _ _ z.isLt, messageBytes_seq _ _ _ _ _ _ q.isLt, BitVec.ofNat_toNat, BitVec.ofNat_toNat,
    BitVec.setWidth_eq, BitVec.setWidth_eq]
  exact taken_opening (m := requestMsg ty z q m body []) true true rfl hty (Nat.zero_testBit 0) hm

/-! ## Sessions (02 R70 to R72) -/

/-- HELLO gives out the drawn nonce. -/
theorem serveHello_of_draw {t u : State} {n : Bytes} {p : Path} (h : t.draw 32 = (n, u)) :
    t.serveHello.reply p 1 =
      State.answer { u with nonces := u.nonces.filter (fun x => decide (x.expires > u.now)) ++ [{ value := n, expires := u.now + 10000000000 }] }
        p 1 0 (n ++ slice Config.identityHash 0 32 ++ leBytes 1 (u.obj 0xE00 0x132 0 - u.sessions.length)) := by
  unfold State.serveHello
  rw [h]
  rfl

/-- The body of an OPEN. -/
def openBody (role : Byte) (reserved cipher sig : Bytes) : Bytes := role :: slice reserved 0 3 ++ cipher ++ sig

section
variable (role : Byte) (reserved : Bytes) {cipher sig : Bytes} (hcipher : cipher.length = 384) (hsig : sig.length = 384)

theorem openBody_role : field (openBody role reserved cipher sig) 0 1 = role.toNat := by
  simp [field, openBody, slice, leNat, zeros]

include hcipher in
theorem openBody_cipher : slice (openBody role reserved cipher sig) 4 384 = cipher := by
  have h := slice_append_right (role :: slice reserved 0 3) (cipher ++ sig) 4 384 (by simp)
  simp only [List.length_cons, slice_length, Nat.sub_self] at h
  rw [openBody, List.append_assoc, h, ← hcipher, slice_append_whole]

include hcipher hsig in
theorem openBody_sig : slice (openBody role reserved cipher sig) 388 384 = sig := by
  have h := slice_append_right (role :: slice reserved 0 3 ++ cipher) sig 388 384 (by simp [hcipher])
  rw [List.length_append, List.length_cons, slice_length, hcipher, Nat.sub_self] at h
  rw [openBody, h, slice_all _ _ hsig.symm]

include hcipher hsig in
theorem openBody_length : (openBody role reserved cipher sig).length = 772 := by simp [openBody, hcipher, hsig]

end

/-- OPEN consumes the nonce it names, and opens a session when its proof of the role is right and a session is free. -/
theorem serveOpen_reply {t u v : State} {p : Path} {m : Msg} {role : Byte} {reserved cipher sig plain : Bytes} {id : Nat} {good : Bool}
    (hbody : m.body = openBody role reserved cipher sig) (hcipher : cipher.length = 384) (hsig : sig.length = 384)
    (hplain : plain = (Config.oaepOpen cipher).getD [])
    (hgood : good = (decide (plain.length = 64) && t.nonces.any (fun x => x.value == plain.drop 32 && decide (t.now < x.expires))
      && (t.keyHashes role.toNat).any (fun h => Config.pssVerify h
        (sha256 (m.head ++ leBytes 1 role.toNat ++ cipher ++ plain.drop 32)) sig)
      && (!t.fw.recovery || role == 3)))
    (hu : u = { t with nonces := t.nonces.filter (fun x => x.value != plain.drop 32) }) (hnew : u.newSession = (id, v)) :
    (t.serveOpen m).reply p 2 =
      if good = false then State.answer (u.bump 0xE00 0x17 1) p 2 9 []
      else if t.obj 0xE00 0x132 0 ≤ t.sessions.length then State.answer u p 2 0x0C []
      else State.answer { v with sessions := v.sessions ++ [{ id := id
                                                              role := role.toNat
                                                              key := hmac256 (plain.take 32) (strBytes 10 "aqfort-mac" ++ plain.drop 32 ++ leBytes 4 id)
                                                              heard := v.now
                                                              firstEvent := v.telem.nextEvent }] } p 2 0 (leBytes 4 id) := by
  have hrole : (role.toNat != 3) = !(role == 3) := by
    refine congrArg not ?_
    rw [Bool.eq_iff_iff, beq_iff_eq, beq_iff_eq, ← BitVec.toNat_inj]
    rfl
  have hkeys : u.keyHashes role.toNat = t.keyHashes role.toNat := by rw [hu]; rfl
  unfold State.serveOpen
  simp only [hbody, openBody_role, openBody_cipher role reserved hcipher, openBody_sig role reserved hcipher hsig,
    openBody_length role reserved hcipher hsig, ← hplain, ← hu, hkeys, hrole, ne_eq, not_true_eq_false, if_false]
  generalize (t.nonces.any _) = known at *
  generalize (List.any _ _) = signed at *
  have hrefused : (¬ plain.length = 64 ∨ (!known) = true ∨ (!signed) = true ∨ (t.fw.recovery && !(role == 3)) = true) ↔ good = false := by
    rw [hgood]
    cases known <;> cases signed <;> cases t.fw.recovery <;> cases role == 3 <;> simp
  simp only [hrefused]
  have hobj : u.obj 0xE00 0x132 0 = t.obj 0xE00 0x132 0 := by rw [hu]; rfl
  rw [hnew, hobj]
  split
  · rfl
  · split <;> rfl

/-- CLOSE of an open session: its request is noted and answered, and the session goes. -/
theorem sessionRequest_close {t : State} {x : Session} {p : Path} {m : Msg} (ok1 ok2 : Bool) (hty : m.ty = 3)
    (hwindow : x.high ≤ m.seqNo + 63) (hnew : tabGet x.done m.seqNo = none) (hm : t.isHere m.member = true ∨ m.member ∈ t.peers) :
    t.sessionRequest x p m ok1 ok2 =
      let u := (t.setSession { x with heard := t.now, high := Nat.max x.high m.seqNo, done := x.done ++ [(m.seqNo, [])] }).answer p 3 0 []
      { u with sessions := u.sessions.filter (·.id != x.id) } := by
  have hnoted : (t.setSession { x with heard := t.now }).setSession
      { x with heard := t.now, high := Nat.max x.high m.seqNo, done := x.done ++ [(m.seqNo, [])] }
        = t.setSession { x with heard := t.now, high := Nat.max x.high m.seqNo, done := x.done ++ [(m.seqNo, [])] } :=
    setSession_setSession t _ _ rfl
  have habsent (y : Session) : (t.setSession y).memberAbsent m.member = false := memberAbsent_of_reachable (t := t.setSession y) hm
  unfold State.sessionRequest
  dsimp only
  rw [if_neg (Nat.not_lt.mpr hwindow), hnew]
  dsimp only
  rw [show (t.setSession { x with heard := t.now }).now = t.now from rfl, hnoted, habsent, if_neg (by simp), if_pos hty]

/-! ## Payloads of a mailbox (02 R68) -/

/-- A payload of the length of the message it carries reaches the server. -/
theorem inBand_of_serves {s : State} {ld : Fin 16} {f : Bytes} (ok1 ok2 : Bool) (hrunning : s.stage = .running)
    (hflr : (s.ld ld).flr = false) (hcores : s.coresServe = true) (hbound : s.bound ld = true) (hfit : msgFits f 0 = true)
    (hlen : f.length = 16 + field f 14 2) :
    s.inBand ld f ok1 ok2 = s.takenInBand { ld := some ld.val } (.mailbox ld) (msgOf f) ok1 ok2 := by
  unfold State.inBand
  rw [if_neg (by simp [hrunning, hflr, hcores]), if_neg (by simp [hbound]), if_neg (by simp [hfit, hlen])]

/-- A payload of a type the server does not know is answered TYPE. -/
theorem takenInBand_unknown {s : State} {w : Sender} {p : Path} {m : Msg} (ok1 ok2 : Bool) (hversion : m.version = 1)
    (hty : m.ty ∉ requestTypes) : s.takenInBand w p m ok1 ok2 = s.answer p m.ty 0x0F [] := by
  unfold State.takenInBand
  rw [if_neg (by simp [hversion]), if_pos (by simp [hty])]
  rfl

/-- A payload that carries a request for this member is served. -/
theorem takenInBand_request {s : State} {w : Sender} {p : Path} {m : Msg} (ok1 ok2 : Bool) (hversion : m.version = 1)
    (hty : m.ty ∈ [0x10, 0x11, 0x12, 0x30, 0x31]) (hflags : m.flags.testBit 0 = false) (hm : s.isHere m.member = true) :
    s.takenInBand w p m ok1 ok2 = (s.serveHere w p m.ty m.body ok1 ok2).reply p m.ty := by
  have hrequest : requestTypes.contains m.ty = true ∧ ¬ m.ty ≤ 3 := by
    simp only [List.mem_cons, List.not_mem_nil, or_false] at hty
    rcases hty with h | h | h | h | h <;> rw [h] <;> decide
  unfold State.takenInBand State.serve
  rw [if_neg (by simp [hversion]), if_neg (by rw [hrequest.1, hflags]; simpa using hrequest.2), if_pos hm]

/-! ## The statement -/

/-- HELLO at the management port. -/
theorem hello_takes {s t u : State} {z q : U32} {tag n : Bytes} {g : Option U32} {m : Byte} (ht : PortTakes s t)
    (hm : t.isHere m.toNat = true ∨ m.toNat ∈ t.peers) (hdraw : t.draw 32 = (n, u)) :
    Takes (.hello { path := .mgmt z q tag, member := m, gen := g }) s
      (State.answer { u with nonces := u.nonces.filter (fun x => decide (x.expires > u.now)) ++ [{ value := n, expires := u.now + 10000000000 }] }
        (.mgmt z q []) 1 0 (n ++ slice Config.identityHash 0 32 ++ leBytes 1 (u.obj 0xE00 0x132 0 - u.sessions.length))) := by
  have h := bring_opening (z := z) (q := q) (tag := tag) (g := g) (body := []) (.inl rfl) ht hm (Nat.zero_le _)
  rw [if_pos rfl, serveHello_of_draw hdraw] at h
  rw [← h]
  rfl

/-- CLOSE of an open session at the management port. -/
theorem close_takes {s t u : State} {z q : U32} {tag : Bytes} {m : Byte} {g : Option U32} {x : Session} (ht : PortTakes s t)
    (hx : t.sessions.find? (·.id == z.toNat) = some x) (htag : tag.length = 32)
    (hmac : hmac256 x.key (messageBytes 3 z.toNat q.toNat m.toNat []) = tag) (hwindow : x.high ≤ q.toNat + 63)
    (hnew : tabGet x.done q.toNat = none) (hm : t.isHere m.toNat = true ∨ m.toNat ∈ t.peers)
    (hu : u = State.answer (t.setSession { x with heard := t.now, high := Nat.max x.high q.toNat, done := x.done ++ [(q.toNat, [])] })
      (.mgmt z q tag) 3 0 []) :
    Takes (.closeReq { path := .mgmt z q tag, member := m, gen := g }) s { u with sessions := u.sessions.filter (·.id != x.id) } := by
  let f := messageBytes 3 z.toNat q.toNat m.toNat [] ++ tag
  have hty : field f 3 1 = 3 := messageBytes_ty _ _ _ _ _ _ (by norm_num)
  have hz : field f 4 4 = z.toNat := messageBytes_session _ _ _ _ _ _ z.isLt
  have hq : field f 8 4 = q.toNat := messageBytes_seq _ _ _ _ _ _ q.isLt
  have hlen : field f 14 2 = 0 := messageBytes_len _ _ _ _ _ _ (Nat.zero_le _)
  have hhead : (messageBytes 3 z.toNat q.toNat m.toNat []).length = 16 := messageBytes_length _ _ _ _ _
  have htaken : f.take 16 = messageBytes 3 z.toNat q.toNat m.toNat [] := by rw [← hhead, List.take_left]
  have hslice : slice f 16 32 = tag := by
    rw [slice_append_right _ _ _ _ hhead.le, hhead]
    exact slice_all _ _ htag.symm
  have hframe := frame_of_session (t := t) (f := f) true true (by rw [hty]; decide) (by rw [hty]; decide)
    (msgFits_messageBytes _ _ _ _ _ _ 32 (Nat.zero_le _) htag.ge) (by rw [hz]; exact hx) (by rw [hlen, htaken, hslice]; exact hmac)
  rw [hz, hq, hlen, hslice, BitVec.ofNat_toNat, BitVec.ofNat_toNat, BitVec.setWidth_eq, BitVec.setWidth_eq,
    show msgOf f = requestMsg 3 z q m [] tag from msgOf_request (by norm_num) (Nat.zero_le _),
    taken_session true true rfl (by simp [requestMsg, requestTypes]) (Nat.zero_testBit 0) (by simp [requestMsg]),
    sessionRequest_close true true rfl hwindow hnew hm] at hframe
  have hbring : s.bring { path := .mgmt z q tag, member := m, gen := g } 3 [] true true = s.arrive f true true := rfl
  rw [arrive_of_takes ht, hframe] at hbring
  rw [hu]
  exact congrArg (finish s) hbring

/-- Settles O41: each command's frame, up to the request it carries, and what the request leaves. -/
theorem sessionsOpenAndClose : Obligations.SessionsOpenAndClose := by
  unfold Obligations.SessionsOpenAndClose
  refine ⟨fun s t u z q tag n g m => hello_takes, ?_, fun s t z q tag m g x u => close_takes, fun s z => rfl, ?_, ?_⟩
  · intro s t u v z q tag g m role reserved cipher sig plain id good ht hm hcipher hsig hplain hgood hu hnew
    have hlen : (openBody role reserved cipher sig).length ≤ 1024 := by rw [openBody_length role reserved hcipher hsig]; decide
    have hhead : (requestMsg 2 z q m (openBody role reserved cipher sig) []).head
        = slice (messageBytes 2 z.toNat q.toNat m.toNat (role :: slice reserved 0 3 ++ cipher ++ sig)) 0 16 := by
      simp [requestMsg, openBody]
    have h := bring_opening (z := z) (q := q) (tag := tag) (g := g) (.inr rfl) ht hm hlen
    rw [if_neg (by decide), serveOpen_reply (good := good) (m := requestMsg 2 z q m (openBody role reserved cipher sig) []) rfl hcipher hsig hplain
      (by rw [hhead]; exact hgood) hu hnew] at h
    rw [← h]
    rfl
  · intro s t f ht h1 h2
    have harrive := arrive_of_takes ht f s.readBacks.1 s.readBacks.2
    refine ⟨fun hfit => ?_, fun x hfit hx hmac hversion hty => ?_⟩
    · rw [frame_unfit _ _ h1 h2 hfit] at harrive
      exact congrArg (finish s) harrive
    · rw [frame_of_session _ _ h1 h2 hfit hx hmac, taken_unknown _ _ hversion hty] at harrive
      exact congrArg (finish s) harrive
  · intro s ld b hrunning hflr hcores hbound hfit hlen hversion
    have hband := inBand_of_serves (s := s.tick.2) s.readBacks.1 s.readBacks.2 hrunning hflr hcores hbound hfit hlen
    refine ⟨fun hty => ?_, fun hty hflags hm => ?_⟩
    · rw [takenInBand_unknown _ _ hversion hty] at hband
      exact congrArg (finish s) hband
    · rw [takenInBand_request _ _ hversion hty hflags hm] at hband
      exact congrArg (finish s) hband

end Sys2Proof.Machine
end

section
/-!
SUPPORT. Granted writes of single members: the row a member has, the checks a write passes, and what the write of each mode, cap,
order, assignment, pattern and arming does.
-/
namespace Sys2Proof.Machine

/-! ## Rows -/

/-- A request that passes the checks names the row of its member. -/
theorem rowOf_of_access {s : State} {w : Sender} {u o m off len : Nat} {write fits : Bool} {row : Row}
    (h : s.access w u o m off len write fits = .ok row) : rowOf u o m = some row := by
  unfold State.access at h
  split at h
  · exact nomatch h
  split at h
  · exact nomatch h
  split at h
  · exact nomatch h
  split at h
  · exact nomatch h
  · next hrow =>
    split_ifs at h <;> rw [hrow, Except.ok.inj h]

/-- Every row that covers a member of these units and objects has this type and this check. -/
def rowsHave (uLo uHi oLo oHi mem : Nat) (ty : ObTy) (chk : Chk) : Bool :=
  objectTables.all (fun r => !decide (r.uLo ≤ uHi ∧ uLo ≤ r.uHi ∧ r.oLo ≤ oHi ∧ oLo ≤ r.oHi ∧ r.mLo ≤ mem ∧ mem ≤ r.mHi)
    || (r.ty == ty && r.chk == chk))

/-- The row of such a member. -/
theorem rowOf_has {uLo uHi oLo oHi u o m : Nat} {ty : ObTy} {chk : Chk} {row : Row} (hall : rowsHave uLo uHi oLo oHi m ty chk = true)
    (hu : uLo ≤ u ∧ u ≤ uHi) (ho : oLo ≤ o ∧ o ≤ oHi) (h : rowOf u o m = some row) : row.ty = ty ∧ row.chk = chk := by
  have hrow := List.all_eq_true.mp hall row (List.mem_of_find?_eq_some h)
  have hcovers := List.find?_some h
  simp only [decide_eq_true_eq] at hcovers
  obtain ⟨h1, h2, h3, h4, h5, h6⟩ := hcovers
  have hin : decide (row.uLo ≤ uHi ∧ uLo ≤ row.uHi ∧ row.oLo ≤ oHi ∧ oLo ≤ row.oHi ∧ row.mLo ≤ m ∧ m ≤ row.mHi) = true := by
    simp only [decide_eq_true_eq]
    omega
  simpa [hin] using hrow

/-! ## Granted writes -/

/-- A refusal list none of whose conditions holds. -/
theorem checks_pass {cs : List (Bool × Nat)} {s : State} (h : ∀ c ∈ cs, c.1 = false) : checks cs s = .ok s := by
  unfold checks
  rw [List.find?_eq_none.mpr (by simpa using h)]

/-- A granted write that the object takes is answered OK with its effect, when it neither fans out of the span unit nor waits. -/
theorem sendWrite_written {s v : State} {r : Req} {u o m off : Nat} {data : Bytes} {w : Sender} {row : Row}
    (h : Grants s r u o m off data w row) (hu : u < 2 ^ 16) (ho : o < 2 ^ 16) (hm : m < 2 ^ 8) (hf : off < 2 ^ 32)
    (hfan : u = 1 → fansOut o = false) (hdefer : mayDefer u o data = false)
    (hok : (s.taking r).objWrite w u o m off row data = .ok v) : s.sendWrite r u o m off data = v.written r := by
  have hstay : ¬ (u = 1 ∧ fansOut o = true) := fun hboth => by simp [hfan hboth.1] at hboth
  rw [sendWrite_granted_any h hu ho hm hf, hok]
  dsimp only
  rw [if_neg hstay, if_neg (by simp [hdefer])]

/-- The checks of type and range that every write makes before those of its object. -/
def Row.admits (r : Row) (v : Nat) : Bool := (r.ty != .bool || decide (v ≤ 1)) && r.chk.ok v

theorem admits_iff {r : Row} {v : Nat} : r.admits v = true ↔ ¬ (r.ty = .bool ∧ v > 1) ∧ r.chk.ok v = true := by
  by_cases h : r.ty = .bool <;> simp [Row.admits, h]

@[simp] theorem leNat_byte (v : Byte) : leNat [v] = v.toNat := by simp [leNat]

/-! ## The object's own write -/

section
variable {s : State} {w : Sender} {row : Row} {b : Bytes} (h : row.admits (leNat b) = true)
include h

theorem objWrite_requestedState (u m off : Nat) : s.objWrite w u 1 m off row b = s.stateWrite u (leNat b) := by
  obtain ⟨hbool, hchk⟩ := admits_iff.mp h
  simp (disch := omega) only [State.objWrite, hchk, ↓if_neg, ↓if_pos, Bool.not_true, Bool.false_eq_true, and_false, if_false]

theorem objWrite_arming (u m off : Nat) : s.objWrite w u 0x68 m off row b = s.armWrite u (leNat b) := by
  obtain ⟨hbool, hchk⟩ := admits_iff.mp h
  simp (disch := omega) only [State.objWrite, hchk, show fansOut 0x68 = false from rfl, ↓if_neg, ↓if_pos, Bool.not_true,
    Bool.false_eq_true, and_false, if_false]

theorem objWrite_qosMode (m off : Nat) : s.objWrite w 0 0x130 m off row b = s.qosWrite (leNat b) := by
  simp [State.objWrite, fansOut, admits_iff.mp h]

theorem objWrite_chrysalis (m off : Nat) : s.objWrite w 0 0x141 m off row b = .ok (s.chrysalisWrite (leNat b)) := by
  simp [State.objWrite, fansOut, admits_iff.mp h]

theorem objWrite_cap (m off : Nat) : s.objWrite w 0xD20 0x140 m off row b = s.capWrite (leNat b) := by
  simp [State.objWrite, fansOut, admits_iff.mp h]

theorem objWrite_measure (m off : Nat) : s.objWrite w 0xC00 0x113 m off row b = s.measureWrite (leNat b) := by
  simp [State.objWrite, fansOut, admits_iff.mp h]

theorem objWrite_policyMode {ld : Nat} (hld : ld < 16) (off : Nat) :
    s.objWrite w 0x700 (0x130 + ld) 0 off row b = s.policyWrite ld (leNat b) := by
  have hfan : fansOut (0x130 + ld) = false := by simp [fansOut]; omega
  simp (disch := omega) [State.objWrite, hfan, admits_iff.mp h, ↓if_neg, ↓if_pos]

theorem objWrite_cadenceMode {c : Nat} (hc : c < 64) (m off : Nat) :
    s.objWrite w (0x810 + c) 0x101 m off row b = s.modeWrite w c (leNat b) := by
  simp (disch := omega) [State.objWrite, fansOut, admits_iff.mp h, ↓if_neg, ↓if_pos]

theorem objWrite_assignment {c : Nat} (hc : c < 64) (m off : Nat) :
    s.objWrite w (0xA40 + c) 0x100 m off row b = s.assignWrite c (leNat b) := by
  simp (disch := omega) [State.objWrite, fansOut, admits_iff.mp h, ↓if_neg, ↓if_pos]

theorem objWrite_homeBlocks {c : Nat} (hc : c < 64) (m off : Nat) :
    s.objWrite w (0xA40 + c) 0x101 m off row b = s.homeBlocksWrite c (leNat b) := by
  simp (disch := omega) [State.objWrite, fansOut, admits_iff.mp h, ↓if_neg, ↓if_pos]

theorem objWrite_pattern {ch : Nat} (hch : ch < 32) (m off : Nat) :
    s.objWrite w (0x510 + ch) 0x120 m off row b = s.patternWrite ch off b := by
  simp (disch := omega) [State.objWrite, fansOut, admits_iff.mp h, ↓if_neg, ↓if_pos]

end

/-! ## Requested states (02 R50, R58) -/

/-- Resuming halted cores changes no unit. -/
theorem resumeAll_units (s : State) : s.resumeAll.units = s.units := by
  refine foldl_keeps (P := fun t : State => t.units = s.units) (fun t k ht => ?_) _ _ rfl
  unfold State.resumeCore
  split <;> exact ht

/-- Whether a control core stays ONLINE is a matter of the units alone. -/
theorem lastCores_of_units {s t : State} (h : t.units = s.units) (u v : Nat) : t.lastCores u v = s.lastCores u v := by
  unfold State.lastCores State.unit
  rw [h]

/-- A requested state that leaves a control core ONLINE is taken. -/
theorem requestWrite_taken {s : State} {u v : Nat} (hlo : 1 ≤ v) (hhi : v ≤ 3) (hcores : s.lastCores u v = false) :
    s.requestWrite u v = .ok (s.requestAll u v) := by
  refine checks_pass fun c hc => ?_
  simp only [List.mem_cons, List.not_mem_nil, or_false] at hc
  rcases hc with rfl | rfl
  · simp; omega
  · exact hcores

/-- A requested state reaches the whole subtree, after the halted cores have resumed where it takes 0D00 out of TEST. -/
theorem stateWrite_taken {s : State} {u v : Nat} (hlo : 1 ≤ v) (hhi : v ≤ 3) (hcores : s.lastCores u v = false) :
    s.stateWrite u v = .ok (State.requestAll
      (if (subtree u).contains 0xD00 = true ∧ v ≠ 2 ∧ s.actual 0xD00 = 2 then s.resumeAll else s) u v) := by
  have hresumed := requestWrite_taken (s := s.resumeAll) hlo hhi ((lastCores_of_units (resumeAll_units s) u v).trans hcores)
  unfold State.stateWrite
  simp only [requestWrite_taken hlo hhi hcores, hresumed, Bool.and_eq_true, decide_eq_true_eq, beq_iff_eq, and_assoc]
  split <;> rfl

/-! ## Modes and the power cap -/

/-- An LD that takes its policy mode back, or a policy cluster of its own, passes. -/
theorem policyWrite_taken {s : State} {n v : Nat} (hv : v ≤ 1)
    (hpolicy : v = 1 → s.obj 0x700 (0x130 + n) 1 ≠ 0xFF ∧ (s.cluster (s.obj 0x700 (0x130 + n) 1)).context = n) :
    s.policyWrite n v = .ok (s.setObj 0x700 (0x130 + n) 0 v) := by
  refine checks_pass fun c hc => ?_
  simp only [List.mem_cons, List.not_mem_nil, or_false] at hc
  rcases hc with rfl | rfl
  · simp; omega
  · by_cases h1 : v = 1
    · simp [hpolicy h1]
    · simp [h1]

/-- A cadence's mode, where only the fabric manager enters or leaves mode 4. -/
theorem modeWrite_taken {s : State} {w : Sender} {c v : Nat} (hv : v ≤ 4) (hfm : v = 4 ∨ s.cadMode c = 4 → w.fm = true) :
    s.modeWrite w c v = .ok (s.setObj (0x810 + c) 0x101 0 v) := by
  refine checks_pass fun x hx => ?_
  simp only [List.mem_cons, List.not_mem_nil, or_false] at hx
  rcases hx with rfl | rfl
  · by_cases h4 : v = 4 ∨ s.cadMode c = 4
    · simp [hfm h4]
    · simpa [not_or] using fun _ => not_or.mp h4
  · simp; omega

/-- The QoS mode: partitioned needs no observer and the idle slots of the cap. -/
theorem qosWrite_taken {s : State} {v : Nat} (hv : v ≤ 1)
    (hpart : v = 1 → s.anyObserver = false ∧ capReserve (s.obj 0xD20 0x140 0) ≤ s.idleSlots) :
    s.qosWrite v = .ok (if v = 1 then (s.setObj 0 0x130 0 1).powerWake 4 else s.setObj 0 0x130 0 0) := by
  have hpass : s.qosWrite v = .ok (if v = 1 then (s.setObj 0 0x130 0 v).powerWake 4 else s.setObj 0 0x130 0 v) := by
    refine checks_pass fun c hc => ?_
    simp only [List.mem_cons, List.not_mem_nil, or_false] at hc
    rcases hc with rfl | rfl | rfl
    · simp; omega
    · by_cases h1 : v = 1
      · simp [hpart h1]
      · simp [h1]
    · by_cases h1 : v = 1
      · simpa [h1] using (hpart h1).2
      · simp [h1]
  rw [hpass]
  split
  · next h1 => rw [h1]
  · next h1 => rw [show v = 0 by omega]

/-- The power cap, where the slots it holds idle are. -/
theorem capWrite_taken {s : State} {c : Nat} (hlo : 200 ≤ c) (hhi : c ≤ 350)
    (hidle : s.obj 0 0x131 0 = 1 ∨ s.obj 0 0x130 0 = 1 → capReserve c ≤ s.idleSlots) {u : State}
    (hu : u = (s.setObj 0xD20 0x140 0 c).setPower { s.power with window := [] }) :
    s.capWrite c = .ok (if s.obj 0 0x131 0 = 1 then State.pointMoved s u.partitionCap else u) := by
  have hpass : s.capWrite c = .ok (if (s.obj 0 0x131 0 == 1) = true then State.pointMoved s u.partitionCap else u) := by
    rw [hu]
    refine checks_pass fun x hx => ?_
    simp only [List.mem_cons, List.not_mem_nil, or_false] at hx
    rcases hx with rfl | rfl
    · simp; omega
    · by_cases h1 : s.obj 0 0x131 0 = 1 ∨ s.obj 0 0x130 0 = 1
      · simpa [h1] using hidle h1
      · simp [h1]
  simpa using hpass

/-- MEASURE. -/
theorem measureWrite_taken (s : State) : s.measureWrite 1 = .ok (s.measureOffsets s.peers) := rfl

/-! ## Clusters and channels -/

/-- The assignment of a cluster without a job. -/
theorem assignWrite_taken {s u : State} {c v : Nat} (hv : v ≤ 15 ∨ v = 0xFF) (hjob : (s.cluster c).job = none)
    (hu : u = (s.setObj (0xA40 + c) 0x100 0 v).setObj (0xA40 + c) 5 0 v) :
    s.assignWrite c v = .ok (if s.obj (0xA40 + c) 0x100 0 ≠ v then u.reassign c true else u) := by
  have hpass : s.assignWrite c v = .ok (if (s.obj (0xA40 + c) 0x100 0 != v) = true then u.reassign c true else u) := by
    rw [hu]
    refine checks_pass fun x hx => ?_
    simp only [List.mem_cons, List.not_mem_nil, or_false] at hx
    rcases hx with rfl | rfl
    · simp; omega
    · simp [hjob]
  simpa using hpass

/-- The home blocks of a cluster without a job. -/
theorem homeBlocksWrite_taken {s u : State} {c v : Nat} (hhi : v ≤ 3072) (hmod : v % 64 = 0) (hjob : (s.cluster c).job = none)
    (hu : u = s.setObj (0xA40 + c) 0x101 0 v) :
    s.homeBlocksWrite c v = .ok (if s.homeBlocks c ≠ v then u.reassign c false else u) := by
  have hpass : s.homeBlocksWrite c v = .ok (if (s.homeBlocks c != v) = true then u.reassign c false else u) := by
    rw [hu]
    refine checks_pass fun x hx => ?_
    simp only [List.mem_cons, List.not_mem_nil, or_false] at hx
    rcases hx with rfl | rfl
    · simp [hmod]; omega
    · simp [hjob]
  simpa using hpass

/-- The pattern of a channel in TEST or OFFLINE that is quiescent. -/
theorem patternWrite_taken {s u : State} {ch off n : Nat} {b : Bytes} (hown : (s.unit (0x510 + ch)).own = 2 ∨ (s.unit (0x510 + ch)).own = 3)
    (hquiet : s.quiescent (0x510 + ch) = true) (htick : s.tick = (n, u)) :
    s.patternWrite ch off b = .ok ((u.setBlob (0x510 + ch) 0x120 0 off b).setChan ch { s.chan ch with patternRun := some n }) := by
  obtain ⟨rfl, rfl⟩ := Prod.mk.inj htick
  refine checks_pass fun x hx => ?_
  obtain rfl := List.mem_singleton.mp hx
  simpa [hquiet, or_iff_not_imp_left] using hown

/-! ## Arming (10 R340, 18 R601) -/

/-- Arming injection on a unit in test starts its generator and raises event 0x01C6. -/
theorem armWrite_taken {s u : State} {unit g : Nat} (hmay : s.mayArm unit = (true, u))
    (hg : g = u.obj unit 0x67 0 * 65536 + u.obj unit 0x67 0) :
    s.armWrite unit 1 = .ok (((((({ u with injects := tabSet u.injects unit { armed := true, gen := g, seen := 0 } } : State).setObj
      unit 0x68 0 1).setObj unit 0x69 0 0).setObj unit 0x6B 0 1).raise unit 0x1C6 (u.obj unit 0x60 0))) := by
  unfold State.armWrite
  rw [if_neg (by decide), if_neg (by decide), hmay, hg]
  rfl

/-- Disarming a unit's injection, or one that was never armed. -/
theorem disarmWrite_taken (s : State) (unit : Nat) :
    s.armWrite unit 0 = .ok ((tabGet s.injects unit).elim s (fun i =>
      (({ s with injects := tabSet s.injects unit { i with armed := false } } : State).setObj unit 0x68 0 0).setObj unit 0x6B 0 0)) := by
  unfold State.armWrite
  cases tabGet s.injects unit <;> rfl

/-! ## The statement -/

/-- A granted write of a member whose rows admit a value. -/
theorem Grants.admits {s : State} {r : Req} {u o m off n uLo uHi oLo oHi : Nat} {data : Bytes} {w : Sender} {row : Row} {ty : ObTy} {chk : Chk}
    (h : Grants s r u o m off data w row) (hall : rowsHave uLo uHi oLo oHi m ty chk = true) (hu : uLo ≤ u ∧ u ≤ uHi)
    (ho : oLo ≤ o ∧ o ≤ oHi) (hty : ¬ (ty = .bool ∧ n > 1)) (hchk : chk.ok n = true) : row.admits n = true := by
  obtain ⟨-, haccess, -⟩ := h
  obtain ⟨rfl, rfl⟩ := rowOf_has hall hu ho (rowOf_of_access haccess)
  exact admits_iff.mpr ⟨hty, hchk⟩

/-- A command that is a write takes effect when the write is granted and its object takes it. -/
theorem granted_takes {c : Instr} {s v : State} {r : Req} {u o m off : Nat} {data : Bytes} {w : Sender} {row : Row}
    (hexec : exec c s = finish s (s.sendWrite r u o m off data)) (h : Grants s r u o m off data w row)
    (hfan : fansOut o = false) (hdefer : mayDefer u o data = false) (hok : (s.taking r).objWrite w u o m off row data = .ok v)
    (hu : u < 2 ^ 16 := by omega) (ho : o < 2 ^ 16 := by omega) (hm : m < 2 ^ 8 := by omega) (hf : off < 2 ^ 32 := by omega) :
    Takes c s (v.written r) := by
  rw [Takes, hexec, sendWrite_written h hu ho hm hf (fun _ => hfan) hdefer hok]
  rfl

/-- A granted write of a requested state; from the span unit it goes on to the other members (02 R58). -/
theorem requestedStateWrite_takes {s u : State} {r : Req} {w : Sender} {row : Row} {unit : U16} {v : Byte}
    (h : Grants s r unit.toNat 1 0 0 [v] w row) (hlo : 1 ≤ v.toNat) (hhi : v.toNat ≤ 3)
    (hcores : (s.taking r).lastCores unit.toNat v.toNat = false)
    (hu : u = State.requestAll (if (subtree unit.toNat).contains 0xD00 = true ∧ v.toNat ≠ 2 ∧ (s.taking r).actual 0xD00 = 2
      then (s.taking r).resumeAll else s.taking r) unit.toNat v.toNat) :
    Takes (.requestedStateWrite r unit v) s ((if unit.toNat = 1 then u.fanToMembers w 1 0 [v] else u).written r) := by
  have hadmits : row.admits (leNat [v]) = true := h.admits (uLo := 0) (uHi := 0xFFFF) (oLo := 1) (oHi := 1) (ty := .num 1)
    (chk := .range 1 3) (by decide +kernel) (by omega) (by omega) (by simp) (by simp [Chk.ok]; omega)
  have hok : (s.taking r).objWrite w unit.toNat 1 0 0 row [v] = .ok u := by
    rw [objWrite_requestedState hadmits, leNat_byte, stateWrite_taken hlo hhi hcores, hu]
  have hdefer : mayDefer unit.toNat 1 [v] = false := by simp [mayDefer]
  have hsend := sendWrite_granted_any h unit.isLt (by decide) (by decide) (by decide)
  rw [hok] at hsend
  simp only [hdefer, Bool.false_eq_true, false_and, if_false, show fansOut 1 = true from rfl, and_true] at hsend
  exact congrArg (finish s) hsend

/-- Settles O33: each command is a granted write (`granted_takes`), whose object takes it. -/
theorem modeCommandsTakeEffect : Obligations.ModeCommandsTakeEffect := by
  unfold Obligations.ModeCommandsTakeEffect
  rintro s t r w row rfl
  refine ⟨fun unit v u => requestedStateWrite_takes, ?policyMode, ?cadenceMode, ?qosMode, ?cap, ?chrysalis, ?measure,
    ?assignment, ?homeBlocks, ?pattern, ?arm, ?disarm, ?neverArmed⟩
  case policyMode =>
    intro ld v h hv hpolicy
    have hadmits : row.admits (leNat [v]) = true := h.admits (uLo := 0x700) (uHi := 0x700) (oLo := 0x130) (oHi := 0x13F)
      (ty := .num 1) (chk := .range 0 1) (by decide +kernel) (by omega) (by omega) (by simp) (by simpa [Chk.ok] using hv)
    refine granted_takes rfl h (by simp [fansOut]; omega) (by simp [mayDefer]) ?_
    rw [objWrite_policyMode hadmits ld.isLt, leNat_byte, policyWrite_taken hv hpolicy]
  case cadenceMode =>
    intro c v h hv hfm
    have hadmits : row.admits (leNat [v]) = true := h.admits (uLo := 0x810) (uHi := 0x84F) (oLo := 0x101) (oHi := 0x101)
      (ty := .num 1) (chk := .any) (by decide +kernel) (by omega) (by omega) (by simp) rfl
    refine granted_takes rfl h rfl (by simp [mayDefer]) ?_
    rw [objWrite_cadenceMode hadmits c.isLt, leNat_byte, modeWrite_taken hv hfm]
  case qosMode =>
    intro v h hv hpart
    have hadmits : row.admits (leNat [v]) = true := h.admits (uLo := 0) (uHi := 0) (oLo := 0x130) (oHi := 0x130)
      (ty := .num 1) (chk := .range 0 1) (by decide +kernel) (by omega) (by omega) (by simp) (by simpa [Chk.ok] using hv)
    refine granted_takes rfl h rfl (by simp [mayDefer]) ?_
    rw [objWrite_qosMode hadmits, leNat_byte, qosWrite_taken hv hpart]
  case cap =>
    intro c h hlo hhi hidle u hu
    have hc : leNat (leBytes 2 c.toNat) = c.toNat := leNat_leBytes_of_lt (by omega)
    have hadmits : row.admits (leNat (leBytes 2 c.toNat)) = true := h.admits (uLo := 0xD20) (uHi := 0xD20) (oLo := 0x140) (oHi := 0x140)
      (ty := .num 2) (chk := .any) (by decide +kernel) (by omega) (by omega) (by simp) rfl
    refine granted_takes rfl h rfl (by simp [mayDefer]) ?_
    rw [objWrite_cap hadmits, hc, capWrite_taken hlo hhi hidle hu]
  case chrysalis =>
    intro v h hv
    have hadmits : row.admits (leNat [v]) = true := h.admits (uLo := 0) (uHi := 0) (oLo := 0x141) (oHi := 0x141)
      (ty := .bool) (chk := .any) (by decide +kernel) (by omega) (by omega) (by simpa using hv) rfl
    refine granted_takes rfl h rfl (by simp [mayDefer]) ?_
    rw [objWrite_chrysalis hadmits, leNat_byte]
  case measure =>
    intro h
    have hadmits : row.admits (leNat [1]) = true := h.admits (uLo := 0xC00) (uHi := 0xC00) (oLo := 0x113) (oHi := 0x113)
      (ty := .num 1) (chk := .any) (by decide +kernel) (by omega) (by omega) (by simp) rfl
    refine granted_takes rfl h rfl (by simp [mayDefer]) ?_
    rw [objWrite_measure hadmits]
    exact measureWrite_taken _
  case assignment =>
    intro c v u h hv hjob hu
    have hv' : v.toNat ≤ 15 ∨ v.toNat = 0xFF := hv.imp_right fun h => by rw [h]; rfl
    have hadmits : row.admits (leNat [v]) = true := h.admits (uLo := 0xA40) (uHi := 0xA7F) (oLo := 0x100) (oHi := 0x100)
      (ty := .num 1) (chk := .upToOr 15 0xFF) (by decide +kernel) (by omega) (by omega) (by simp) (by simpa [Chk.ok] using hv')
    refine granted_takes rfl h rfl (by simp [mayDefer]) ?_
    rw [objWrite_assignment hadmits c.isLt, leNat_byte, assignWrite_taken hv' hjob hu]
  case homeBlocks =>
    intro c v u h hhi hmod hjob hu
    have hc : leNat (leBytes 2 v.toNat) = v.toNat := leNat_leBytes_of_lt (by omega)
    have hadmits : row.admits (leNat (leBytes 2 v.toNat)) = true := h.admits (uLo := 0xA40) (uHi := 0xA7F) (oLo := 0x101) (oHi := 0x101)
      (ty := .num 2) (chk := .steps 64 3072) (by decide +kernel) (by omega) (by omega) (by simp) (by simp [Chk.ok, hc]; omega)
    refine granted_takes rfl h rfl (by simp [mayDefer]) ?_
    rw [objWrite_homeBlocks hadmits c.isLt, hc, homeBlocksWrite_taken hhi hmod hjob hu]
  case pattern =>
    intro ch off data u n h hown hquiet htick
    have hadmits : row.admits (leNat data) = true := h.admits (uLo := 0x510) (uHi := 0x52F) (oLo := 0x120) (oHi := 0x120)
      (ty := .bytes 16416) (chk := .any) (by decide +kernel) (by omega) (by omega) (by simp) rfl
    refine granted_takes rfl h rfl (by simp [mayDefer]) ?_
    rw [objWrite_pattern hadmits ch.isLt, patternWrite_taken hown hquiet htick]
  case arm =>
    intro unit u h hmay g hg
    have hadmits : row.admits (leNat [1]) = true := h.admits (uLo := 0) (uHi := 0xFFFF) (oLo := 0x68) (oHi := 0x68)
      (ty := .bool) (chk := .any) (by decide +kernel) (by omega) (by omega) (by simp) rfl
    refine granted_takes rfl h rfl (by simp [mayDefer]) ?_
    rw [objWrite_arming hadmits]
    exact armWrite_taken hmay hg
  case disarm =>
    intro unit i h hi
    have hadmits : row.admits (leNat [0]) = true := h.admits (uLo := 0) (uHi := 0xFFFF) (oLo := 0x68) (oHi := 0x68)
      (ty := .bool) (chk := .any) (by decide +kernel) (by omega) (by omega) (by simp) rfl
    refine granted_takes rfl h rfl (by simp [mayDefer]) ?_
    rw [objWrite_arming hadmits]
    exact (disarmWrite_taken _ _).trans (by rw [hi]; rfl)
  case neverArmed =>
    intro unit h hi
    have hadmits : row.admits (leNat [0]) = true := h.admits (uLo := 0) (uHi := 0xFFFF) (oLo := 0x68) (oHi := 0x68)
      (ty := .bool) (chk := .any) (by decide +kernel) (by omega) (by omega) (by simp) rfl
    refine granted_takes rfl h rfl (by simp [mayDefer]) ?_
    rw [objWrite_arming hadmits]
    exact (disarmWrite_taken _ _).trans (by rw [hi]; rfl)

end Sys2Proof.Machine
end

section
/-!
SUPPORT. The clock under the shared operations: none of them moves it. A lemma per operation, `simp` chains them.
-/
namespace Sys2Proof.Machine

/-! ## From what an operation may change -/

theorem OnlyLds.now {s t : State} : OnlyLds s t → t.now = s.now := by rintro ⟨_, _, rfl⟩; rfl
theorem OnlyEvents.now {s t : State} : OnlyEvents s t → t.now = s.now := by rintro ⟨_, _, _, _, rfl⟩; rfl
theorem OnlyUnits.now {s t : State} : OnlyUnits s t → t.now = s.now := by rintro ⟨_, _, _, _, _, _, rfl⟩; rfl
theorem OnlyNear.now {s t : State} : OnlyNear s t → t.now = s.now := by rintro ⟨_, _, _, _, _, _, rfl⟩; rfl

/-- A fold whose steps keep the clock keeps it. -/
theorem foldl_now {α : Type} {f : State → α → State} (h : ∀ s a, (f s a).now = s.now) (l : List α) (s : State) :
    (l.foldl f s).now = s.now :=
  foldl_keeps (P := fun t => t.now = s.now) (fun t a ht => (h t a).trans ht) l s rfl

/-- A fold that carries a value beside the state keeps the clock when its steps do. -/
theorem foldl_pair_now {α β : Type} {f : β × State → α → β × State} (h : ∀ r a, (f r a).2.now = r.2.now) (l : List α)
    (r : β × State) : (l.foldl f r).2.now = r.2.now :=
  foldl_keeps (P := fun t => t.2.now = r.2.now) (fun t a ht => (h t a).trans ht) l r rfl

/-- The state that comes with a value, where the operation that gives both keeps the clock. -/
theorem now_of_eq {α : Type} {x : α × State} {a : α} {t : State} {n : Nat} (e : x = (a, t)) (h : x.2.now = n) : t.now = n := by
  rw [← h, e]

@[simp] theorem raiseFor_now (s : State) (l : List Nat) (u c d : Nat) : (s.raiseFor l u c d).now = s.now := (raiseFor_only s l u c d).now
@[simp] theorem raise_now (s : State) (u c d : Nat) : (s.raise u c d).now = s.now := (raise_only s u c d).now
@[simp] theorem setOwn_now (s : State) (u v r : Nat) : (s.setOwn u v r).now = s.now := (setOwn_only s u v r).now
@[simp] theorem wakeChannel_now (s : State) (ch : Nat) : (s.wakeChannel ch).now = s.now := (wakeChannel_only s ch).now
@[simp] theorem metRefresh_now (s : State) (ch : Nat) : (s.metRefresh ch).now = s.now := (metRefresh_only s ch).now
@[simp] theorem reach_now (s : State) (ch : Nat) (bs : Nat × Nat × Nat) (g n : Nat) (w : Bool) : (s.reach ch bs g n w).now = s.now :=
  (reach_only s ch bs g n w).now
@[simp] theorem storeGranule_now (s : State) (g : Nat) (d : Bytes) (n : Nat) : (s.storeGranule g d n).now = s.now :=
  (storeGranule_only s g d n).now
@[simp] theorem setDeviceGranule_now (s : State) (ch : Nat) (bs : Nat × Nat × Nat) (w : Bytes) :
    (s.setDeviceGranule ch bs w).now = s.now := rfl
@[simp] theorem setPower_now (s : State) (p : Power) : (s.setPower p).now = s.now := rfl

/-! ## Errors, counters and poison -/

@[simp] theorem logError_now (s : State) (e : ErrEntry) : (s.logError e).2.now = s.now := by
  unfold State.logError
  dsimp only
  split
  · split <;> simp
  · simp

@[simp] theorem logRecovered_now (s : State) (k : Option Nat) (d : Nat) (f : Found) : (s.logRecovered k d f).now = s.now := by
  simp [State.logRecovered]

@[simp] theorem logUnit_now (s : State) (cls d u x : Nat) : (s.logUnit cls d u x).now = s.now := by simp [State.logUnit]

@[simp] theorem slotMismatch_now (s : State) (u k n : Nat) : (s.slotMismatch u k n).now = s.now := by simp [State.slotMismatch]

@[simp] theorem poisonAnswer_now (s : State) (k : Nat) : (s.poisonAnswer k).now = s.now := by
  unfold State.poisonAnswer
  dsimp only
  split <;> simp

@[simp] theorem readPoison_now (s : State) (k j : Nat) : (s.readPoison k j).2.now = s.now := by
  unfold State.readPoison
  dsimp only
  split <;> simp

@[simp] theorem setTgt_now (s : State) (k : Nat) (e : TileEntry) : (s.setTgt k e).now = s.now := by
  unfold State.setTgt
  split
  · simp
  · split <;> rfl

@[simp] theorem setPoison_now (s : State) (k n : Nat) : (s.setPoison k n).now = s.now := rfl

@[simp] theorem poison_now (s : State) (k n : Nat) (f : Found) : (s.poison k n f).now = s.now := by
  unfold State.poison
  extract_lets e before whole set has s1 s2
  clear_value whole set has
  have h1 : s1.now = s.now := by
    unfold s1
    split
    · split <;> rfl
    · split <;> rfl
  split
  · split <;> exact h1
  · have h2 : s2.now = s.now := by
      unfold s2
      split
      · split <;> exact h1
      · split
        · exact h1
        · rw [setTgt_now, h1]
    split
    next q s4 hlog =>
    have h4 : s4.now = s.now := (now_of_eq hlog (logError_now ..)).trans h2
    rw [State.bump_now, raiseFor_now, h4]

@[simp] theorem poisonChannel_now (s : State) (ch loc : Nat) : (s.poisonChannel ch loc).now = s.now := by
  refine foldl_now (fun t k => ?_) _ _
  dsimp only
  split <;> simp

@[simp] theorem loseDevice_now (s : State) (ch n loc : Nat) : (s.loseDevice ch n loc).now = s.now := by
  unfold State.loseDevice
  dsimp only
  split <;> simp

@[simp] theorem noteCorrected_now (s : State) (ch b n : Nat) : (s.noteCorrected ch b n).now = s.now := by simp [State.noteCorrected]

@[simp] theorem noteUncorrectable_now (s : State) (ch b loc : Nat) : (s.noteUncorrectable ch b loc).now = s.now := by
  unfold State.noteUncorrectable
  dsimp only
  split <;> simp

/-! ## Granules, the caddy, and lines in the clear -/

@[simp] theorem tracePut_now (s : State) (u : Nat) (w : Wait) : (s.tracePut u w).now = s.now := by
  unfold State.tracePut
  dsimp only
  split <;> simp

@[simp] theorem startClock_now (s : State) (c : Nat) : (s.startClock c).now = s.now := by
  unfold State.startClock
  dsimp only
  split
  · rfl
  · split
    · split <;> simp
    · simp

@[simp] theorem caddyFail_now (s : State) (l : Nat) : (s.caddyFail l).now = s.now := by
  unfold State.caddyFail
  dsimp only
  split
  · rfl
  · split
    · rfl
    · split <;> rfl

@[simp] theorem caddyFails_now (s : State) (a n o : Nat) : (s.caddyFails a n o).now = s.now :=
  foldl_now caddyFail_now _ _

@[simp] theorem caddyWrite_now (s : State) (a : Nat) (b : Bytes) : (s.caddyWrite a b).now = s.now := rfl

theorem readGranule_now (s : State) (g q : Nat) (e1 e2 : List ByteErr) : (s.readGranule g q e1 e2).2.now = s.now := by
  unfold State.readGranule
  extract_lets c
  split
  next ch bs _ =>
  extract_lets u s' fixed log viaParity
  have hfixed (t : State) (w : Bytes) (n : Nat) : (fixed t w n).2.now = t.now := by
    unfold fixed
    dsimp only
    split <;> simp
  have hlog (t : State) (d : Nat) : (log t d).now = t.now := by simp [log]
  have hparity (t : State) (b : Bool) : (viaParity t b).2.now = t.now := by
    unfold viaParity
    split
    · split
      · simp [apply_ite State.now, hlog]
      · simp
    · simp
  split
  · simp [hparity, s']
  · split
    · simp [hfixed, s']
    · split
      · simp [hfixed, hlog, s']
      · simp [hparity, s']

theorem takeGranule_now (s : State) (g q : Nat) (e1 e2 : List ByteErr) : (s.takeGranule g q e1 e2).2.now = s.now := by
  unfold State.takeGranule
  dsimp only
  split
  · rfl
  · exact readGranule_now _ _ _ _ _

theorem loadGranule_now (s : State) (g q : Nat) : (s.loadGranule g q).2.now = s.now := by
  unfold State.loadGranule
  dsimp only
  split <;> simp [takeGranule_now]

theorem loadReady_now (s : State) (e : TileEntry) (l q : Nat) : (s.loadReady e l q).2.now = s.now := by
  unfold State.loadReady
  dsimp only
  split
  · split <;> simp
  · exact loadGranule_now _ _ _

@[simp] theorem decipher_now (s : State) (e : TileEntry) (n i k : Nat) (d : Bytes) : (s.decipher e n i k d).2.now = s.now := rfl
@[simp] theorem encipher_now (s : State) (e : TileEntry) (n i k : Nat) (d : Bytes) : (s.encipher e n i k d).2.now = s.now := rfl

theorem plainFrameLine_now (s : State) (k : Nat) (e : TileEntry) (f q : Nat) : (s.plainFrameLine k e f q).2.now = s.now := by
  unfold State.plainFrameLine
  split <;> next hload => simp [now_of_eq hload (loadReady_now _ _ _ _)]

theorem plainFrameLines_now {s t : State} {k : Nat} {e : TileEntry} {fs : List Nat} {q : Nat} {ls : List (Nat × Bytes)} {bad : List Nat}
    (h : s.plainFrameLines k e fs q = (ls, bad, t)) : t.now = s.now := by
  suffices hall : (s.plainFrameLines k e fs q).2.2.now = s.now by rw [← hall, h]
  refine foldl_keeps (P := fun r : List (Nat × Bytes) × List Nat × State => r.2.2.now = s.now) (fun r f hr => ?_) fs _ rfl
  split <;> next hline => exact (now_of_eq hline (plainFrameLine_now _ _ _ _ _)).trans hr

@[simp] theorem storeReady_now (s : State) (e : TileEntry) (l : Nat) (d : Bytes) (n : Nat) : (s.storeReady e l d n).now = s.now := by
  unfold State.storeReady
  split <;> simp

@[simp] theorem poisonFrames_now (s : State) (k : Nat) (e : TileEntry) (bad : List Nat) (q : Nat) :
    (s.poisonFrames k e bad q).now = s.now := by
  refine foldl_now (fun t f => ?_) bad s
  dsimp only
  split <;> simp

theorem decodeCoded_now (s : State) (u k ty n g : Nat) (l : FrLine) : (s.decodeCoded u k ty n g l).2.now = s.now := by
  unfold State.decodeCoded
  split <;> simp

theorem giveLine_now (s : State) (c : Bool) (u k ty n g b : Nat) (l : FrLine) : (s.giveLine c u k ty n g b l).2.now = s.now := by
  unfold State.giveLine
  split
  · rfl
  · exact decodeCoded_now _ _ _ _ _ _ _

theorem readReadyLineAs_now (s : State) (c : Bool) (k : Nat) (e : TileEntry) (j q : Nat) :
    (s.readReadyLineAs c k e j q).2.now = s.now := by
  unfold State.readReadyLineAs
  dsimp only
  split
  · simp [giveLine_now]
  · split
    · next hlines =>
      have ht := plainFrameLines_now hlines
      split
      · exact (giveLine_now ..).trans ht
      · exact ht
    · next hlines => exact (poisonFrames_now ..).trans (plainFrameLines_now hlines)

end Sys2Proof.Machine
end

section
/-!
SUPPORT. The clock under reads of the far store, under record decoding, and under the answers of reads.
-/
namespace Sys2Proof.Machine

/-! ## The far store -/

theorem farRead_now (s : State) (bad : List FarBad) (x : Seg) (p a : Nat) : (s.farRead bad x p a).2.now = s.now := by
  unfold State.farRead
  split
  · rfl
  · extract_lets t
    split <;> simp [t]

theorem farXor_now (s : State) (bad : List FarBad) (x : Seg) (p a : Nat) : (s.farXor bad x p a).2.now = s.now := by
  refine foldl_pair_now (fun r m => ?_) (x.others p) (some (zeros 256), s)
  split
  · rfl
  · split <;> next hread => exact now_of_eq hread (farRead_now ..)

@[simp] theorem readSummaries_now (s : State) (bad : List FarBad) (f n : Nat) : (s.readSummaries bad f n).now = s.now := by
  unfold State.readSummaries
  extract_lets g
  split
  · rfl
  · split
    · rfl
    · refine foldl_now (fun t j => ?_) _ _
      split
      split
      · next hread => exact now_of_eq hread (farRead_now ..)
      · next hread =>
        have ht := now_of_eq hread (farRead_now ..)
        split <;> next hxor => simp [now_of_eq hxor (farXor_now ..), ht]

theorem eachSector_now {one : State → Nat → SectorRead × State} (h : ∀ s f, (one s f).2.now = s.now) (s : State) (f o n : Nat) :
    (s.eachSector one f o n).2.now = s.now := by
  refine foldl_pair_now (fun r i => ?_) (List.range n) (([] : List SectorRead), s)
  split
  next hone => exact now_of_eq hone (h ..)

@[simp] theorem logRebuilt_now (s : State) (x : Seg) (p f : Nat) : (s.logRebuilt x p f).now = s.now := by
  unfold State.logRebuilt
  split <;> simp

theorem rebuildSector_now (s : State) (bad : List FarBad) (f : Nat) : (s.rebuildSector bad f).2.now = s.now := by
  unfold State.rebuildSector
  split
  · rfl
  · split
    extract_lets crc
    split
    next hxor =>
    have ht := now_of_eq hxor (farXor_now ..)
    split <;> simp [ht]

theorem readSector_now (s : State) (bad : List FarBad) (f : Nat) : (s.readSector bad f).2.now = s.now := by
  unfold State.readSector
  split
  · rfl
  · split
    extract_lets crc
    split
    next hread =>
    have ht := now_of_eq hread (farRead_now ..)
    split
    · exact ht
    · rw [rebuildSector_now]
      split <;> simp [ht]

@[simp] theorem setSeg_now (s : State) (g : Nat) (x : Seg) : (s.setSeg g x).now = s.now := rfl

@[simp] theorem issueStripe_now (s : State) (g : Nat) (x : Seg) (k : Nat) (d : Bytes) : (s.issueStripe g x k d).now = s.now := rfl

@[simp] theorem appendSectors_now (s : State) (g : Nat) (secs : List Bytes) : (s.appendSectors g secs).now = s.now := by
  refine foldl_now (fun t d => ?_) secs s
  dsimp only
  split
  · rfl
  · split <;> rfl

theorem openNew_now {s t : State} {stream g : Nat} {but : Option Nat} (h : s.openNew stream but = some (g, t)) : t.now = s.now := by
  obtain ⟨_, _, hg⟩ := Option.map_eq_some_iff.mp h
  rw [← (Prod.mk.inj hg).2]
  rfl

@[simp] theorem padStripes_now (s : State) (g : Nat) : (s.padStripes g).now = s.now := by
  unfold State.padStripes
  split
  · rfl
  · extract_lets n k t
    refine foldl_now (fun t i => ?_) _ _
    split <;> rfl

@[simp] theorem flushStripe_now (s : State) (g : Nat) : (s.flushStripe g).now = s.now := by
  unfold State.flushStripe
  split
  · rfl
  · split <;> rfl

@[simp] theorem closeSegment_now (s : State) (g holes : Nat) : (s.closeSegment g holes).now = s.now := by
  unfold State.closeSegment
  split
  · rfl
  · extract_lets t
    split <;> simp [t]

theorem placeRecord_now {s t : State} {stream f : Nat} {secs : List Bytes} {but : Option Nat}
    (h : s.placeRecord stream secs but = some (f, t)) : t.now = s.now := by
  unfold State.placeRecord at h
  extract_lets put at h
  have hput {g : Nat} {v : State} (hp : put g v = some (f, t)) : t.now = v.now := by
    obtain ⟨_, _, hf⟩ := Option.map_eq_some_iff.mp hp
    rw [← (Prod.mk.inj hf).2]
    simp
  split at h
  · split at h
    · exact hput h
    · obtain ⟨r, hopen, hp⟩ := Option.bind_eq_some_iff.mp h
      rw [hput hp, openNew_now hopen, closeSegment_now]
  · obtain ⟨r, hopen, hp⟩ := Option.bind_eq_some_iff.mp h
    rw [hput hp, openNew_now hopen]

theorem appendRecord_now {s t : State} {stream f : Nat} {d : Bytes} {z : RecFor} (h : s.appendRecord stream d z = some (f, t)) :
    t.now = s.now := by
  obtain ⟨r, hplace, ht⟩ := Option.map_eq_some_iff.mp h
  rw [← (Prod.mk.inj ht).2]
  exact placeRecord_now (f := r.1) (t := r.2) hplace

/-! ## Records -/

/-- A fetcher whose reads keep the clock. -/
structure Fetcher.KeepsNow (f : Fetcher) : Prop where
  get : ∀ s o n, (f.get s o n).2.now = s.now
  rebuild : ∀ s o n, (f.rebuild s o n).2.now = s.now

theorem farFetch_keepsNow (f len : Nat) (bad : List FarBad) : (farFetch f len bad).KeepsNow where
  get s o n := by
    have h := eachSector_now (fun s f => readSector_now s bad f) (if o = 0 then s.readSummaries bad f len else s) f o n
    exact h.trans (by split <;> simp)
  rebuild s o n := eachSector_now (fun s f => rebuildSector_now s bad f) s f o n

theorem hostFetch_keepsNow (ld first o0 : Nat) (b : Bytes) : (hostFetch ld first o0 b).KeepsNow where
  get _ _ _ := rfl
  rebuild _ _ _ := rfl

@[simp] theorem engineBusy_now (s : State) (u n : Nat) : (s.engineBusy u n).2.now = s.now := rfl

@[simp] theorem onEntryOf_now (s : State) (k : Nat) (f : Sched → Sched) : (s.onEntryOf k f).now = s.now := by
  unfold State.onEntryOf
  extract_lets e
  split
  · split <;> rfl
  · rfl

theorem tryLeaf_now (s : State) (u k : Nat) (e : TileEntry) (h : Bytes) (i : Nat) (d : Bytes) :
    (s.tryLeaf u k e h i d).2.now = s.now := by
  unfold State.tryLeaf
  split
  split
  next hplain =>
  have ht := now_of_eq hplain (decipher_now ..)
  split
  next hdecode =>
  have hv := now_of_eq (n := s.now) hdecode (by
    split
    · exact ht
    · split
      next hbusy =>
      have hb := now_of_eq hbusy (engineBusy_now ..)
      simp [apply_ite State.now, hb, ht])
  split
  · split <;> exact hv
  · exact hv

section
variable {fetch : Fetcher} (hf : fetch.KeepsNow)
include hf

theorem openHeader_now (s : State) (k : Nat) (e : TileEntry) : (s.openHeader k e fetch).2.now = s.now := by
  unfold State.openHeader
  extract_lets u
  split
  next hget =>
  have ht := now_of_eq hget (hf.get ..)
  split
  · exact ht
  · split
    next hplain =>
    have hp := (now_of_eq hplain (decipher_now ..)).trans ht
    split
    · exact hp
    · extract_lets t'
      split
      next hagain =>
      have ha : _ = s.now := (now_of_eq hagain (hf.rebuild ..)).trans hp
      split
      · split
        next hplain2 =>
        have hq := (now_of_eq hplain2 (decipher_now ..)).trans ha
        split <;> exact hq
      · exact ha

theorem openLeaf_now (s : State) (cls n k : Nat) (e : TileEntry) (h : Bytes) (i : Nat) :
    (s.openLeaf cls n k e h i fetch).2.now = s.now := by
  unfold State.openLeaf
  split
  extract_lets u
  split
  next hget =>
  have ht := now_of_eq hget (hf.get ..)
  split
  · exact ht
  · extract_lets t1
    have h1 : t1.now = s.now := by
      unfold t1
      split <;> exact ht
    split
    · next htry => exact (now_of_eq htry (tryLeaf_now ..)).trans h1
    · next htry =>
      have h2 := (now_of_eq htry (tryLeaf_now ..)).trans h1
      split
      · next htry2 => rw [logRecovered_now, now_of_eq htry2 (tryLeaf_now ..), h2]
      · next htry2 =>
        have h3 := (now_of_eq htry2 (tryLeaf_now ..)).trans h2
        split
        next hagain =>
        have h4 := (now_of_eq hagain (hf.rebuild ..)).trans h3
        split
        · split <;> next htry3 => exact (now_of_eq htry3 (tryLeaf_now ..)).trans h4
        · exact h4

theorem openLeaves_now (s : State) (cls k : Nat) (e : TileEntry) (is : List Nat) :
    (s.openLeaves cls k e is fetch).2.2.2.now = s.now := by
  unfold State.openLeaves
  split
  · next hopen => exact now_of_eq hopen (openHeader_now hf ..)
  · next hopen =>
    have ht := now_of_eq hopen (openHeader_now hf ..)
    extract_lets coded t1
    have h1 : t1.now = s.now := by
      unfold t1
      split <;> exact ht
    refine foldl_keeps (P := fun r : List (Nat × Bytes) × List (Nat × Nat) × Bool × State => r.2.2.2.now = s.now) (fun r i hr => ?_) _ _ h1
    split <;> next hleaf => exact (now_of_eq hleaf (openLeaf_now hf ..)).trans hr

theorem keptRecord_now (s : State) (k : Nat) (e : TileEntry) : (s.keptRecord k e fetch).2.now = s.now := by
  unfold State.keptRecord
  split
  next hget => exact now_of_eq hget (hf.get ..)

end

/-! ## Lines -/

@[simp] theorem startClean_now (s : State) (k : Nat) : (s.startClean k).now = s.now := by
  unfold State.startClean
  extract_lets e
  split
  · rfl
  · split
    · next hkept =>
      have ht := now_of_eq hkept (keptRecord_now (farFetch_keepsNow ..) ..)
      extract_lets i
      split
      · next happend => exact (appendRecord_now happend).trans ht
      · exact ht
    · next hkept => exact (poison_now ..).trans (now_of_eq hkept (keptRecord_now (farFetch_keepsNow ..) ..))

theorem readRecordLineAs_now {fetch : Fetcher} (hf : fetch.KeepsNow) (s : State) (c : Bool) (k : Nat) (e : TileEntry) (j q : Nat) :
    (s.readRecordLineAs c k e j q fetch).2.now = s.now := by
  unfold State.readRecordLineAs
  split
  next ls lost rewrite t hopen =>
  have ht : t.now = s.now := by rw [← openLeaves_now hf s 2 k e (e.leavesOfLine j), hopen]
  extract_lets t1 t2 at_
  have h1 : t1.now = s.now := (foldl_now (fun _ _ => poison_now ..) _ _).trans ht
  have h2 : t2.now = s.now := by
    unfold t2
    split <;> simp [h1]
  split
  · exact h2
  · split
    · rw [giveLine_now, h2]
    · exact h2

theorem readLineAs_now (s : State) (c : Bool) (k j q : Nat) (t3 : Option Bytes) : (s.readLineAs c k j q t3).2.now = s.now := by
  unfold State.readLineAs
  extract_lets e
  split
  · rfl
  · split
    · simp
    · split
      · simp
      · split
        next hline =>
        have ht := now_of_eq (n := s.now) hline (by
          split
          · exact readReadyLineAs_now ..
          · split
            · exact readRecordLineAs_now (farFetch_keepsNow ..) ..
            · split
              · exact readRecordLineAs_now (hostFetch_keepsNow ..) ..
              · rfl)
        split
        · exact ht
        · rw [readPoison_now, ht]

/-! ## Answers of reads -/

@[simp] theorem deliver_now (s : State) (ld leg tag : Nat) (l : Option Nat) (d : Option Bytes) : (s.deliver ld leg tag l d).now = s.now := by
  unfold State.deliver
  split
  · split <;> rfl
  · rfl

@[simp] theorem beginRead_now (s : State) (o : Asker) (dpa k : Nat) (e : TileEntry) (w : AccWait) (snap : List (Nat × Bytes)) :
    (s.beginRead o dpa k e w snap).2.now = s.now := rfl

@[simp] theorem answerRead_now (s : State) (a : Access) (d : Option Bytes) : (s.answerRead a d).now = s.now := deliver_now ..

@[simp] theorem answerPoison_now (s : State) (a : Access) : (s.answerPoison a).now = s.now := by
  simp [State.answerPoison]

@[simp] theorem finishParts_now (s : State) (a : Access) : (s.finishParts a).now = s.now := by
  unfold State.finishParts
  extract_lets e bad
  split
  · split <;> simp
  · split
    · simp
    · split
      next ls t hplain =>
      have ht := now_of_eq hplain (foldl_pair_now (by intro r p; rfl) _ _)
      split
      · split <;> next hgive => rw [answerRead_now, now_of_eq hgive (giveLine_now ..), ht]
      · rw [answerRead_now, ht]

@[simp] theorem partDone_now (s : State) (id f : Nat) (d : Option Bytes) : (s.partDone id f d).now = s.now := by
  unfold State.partDone
  split
  · rfl
  · extract_lets a t
    split
    · exact finishParts_now ..
    · rfl

@[simp] theorem forward_now (s : State) (r : RdReq) (w : Bytes) : (s.forward r w).now = s.now := by
  unfold State.forward
  extract_lets t
  split
  · rfl
  · split
    · exact partDone_now ..
    · rfl

@[simp] theorem enterBank_now (s : State) (r : RdReq) : (s.enterBank r).now = s.now := by
  unfold State.enterBank
  extract_lets ch
  split
  · simp
  · exact metRefresh_now ..

@[simp] theorem enqueueRead_now (s : State) (r : RdReq) : (s.enqueueRead r).now = s.now := by
  unfold State.enqueueRead
  dsimp only
  split <;> simp

@[simp] theorem readNear_now (s : State) (o : Asker) (dpa k : Nat) (e : TileEntry) : (s.readNear o dpa k e).now = s.now := by
  unfold State.readNear
  split
  next hbegin => exact (foldl_now (fun _ _ => enqueueRead_now ..) _ _).trans (now_of_eq hbegin (beginRead_now ..))

/-! ## Reads of the host window -/

theorem translate_now (s : State) (n va : Nat) : (s.translate n va).2.now = s.now := by
  unfold State.translate
  dsimp only
  split
  · rfl
  · split
    · rfl
    · split <;> rfl

theorem translateRun_now (n : Nat) : ∀ (f va k : Nat) (s : State), (s.translateRun n f va k).2.now = s.now
  | 0, _, _, _ => rfl
  | f + 1, va, k, s => by
    unfold State.translateRun
    split
    · rfl
    · extract_lets here
      split
      · next hone => exact now_of_eq hone (translate_now ..)
      · next hone =>
        have ht := now_of_eq hone (translate_now ..)
        split <;> next hrest => exact (now_of_eq hrest (translateRun_now ..)).trans ht

theorem spillHost_now (s : State) (n a k : Nat) : (s.spillHost n a k).2.now = s.now := by
  refine foldl_pair_now (fun r p => ?_) (spillRuns a k) (([], none), s)
  split
  · rfl
  · split
    · rfl
    · split
      · split <;> next hrun => exact now_of_eq hrun (translateRun_now ..)
      · rfl

@[simp] theorem dmaSend_now (s : State) (n : Nat) (f : DmaFor) (ps : List (Nat × Nat)) (vas : List Nat) (r : Option Nat) :
    (s.dmaSend n f ps vas r).now = s.now := by
  unfold State.dmaSend
  dsimp only
  refine foldl_now (fun _ _ => ?_) _ _
  rfl

@[simp] theorem spillRead_now (s : State) (n a k : Nat) (f : DmaFor) (r : Option Nat) : (s.spillRead n a k f r).now = s.now := by
  unfold State.spillRead
  split
  · next hhost => rw [dmaSend_now, now_of_eq hhost (spillHost_now ..)]
  · next hhost => exact now_of_eq hhost (spillHost_now ..)

@[simp] theorem readHome_now (s : State) (o : Asker) (dpa k : Nat) : (s.readHome o dpa k).now = s.now := by
  unfold State.readHome
  extract_lets out j e
  have hout (t : State) (d : Option Bytes) : (out t d).now = t.now := deliver_now ..
  split
  · exact hout ..
  · split
    · rw [hout, readLineAs_now]
    · split
      · simp
      · split
        · rfl
        · split
          · rw [hout, State.bump_now]
          · split
            next hbegin => rw [spillRead_now, now_of_eq hbegin (beginRead_now ..)]

/-! ## Moves -/

@[simp] theorem dropQueued_now (s : State) (loc n : Nat) : (s.dropQueued loc n).now = s.now := rfl

@[simp] theorem freeHome_now (s : State) (e : TileEntry) : (s.freeHome e).now = s.now := by
  unfold State.freeHome
  split
  · rfl
  · split
    · rfl
    · split <;> rfl

@[simp] theorem dmaOrphan_now (s : State) (f : DmaFor) : (s.dmaOrphan f).now = s.now := rfl

@[simp] theorem slotCheck_now (s : State) (ll : Bool) (n : Nat) : (s.slotCheck ll n).now = s.now := by
  unfold State.slotCheck
  extract_lets st refs
  split
  · rfl
  · split
    · split
      · rfl
      · split <;> simp
    · rfl

@[simp] theorem slotsOf_now (s : State) (e : TileEntry) : (s.slotsOf e).now = s.now := by
  unfold State.slotsOf
  simp [apply_ite State.now]

@[simp] theorem validWaited_now (s : State) (a : Access) : (s.validWaited a).now = s.now := by
  unfold State.validWaited
  split <;> rfl

@[simp] theorem reissueLoads_now (s : State) (k : Nat) : (s.reissueLoads k).now = s.now := by
  refine foldl_now (fun t a => ?_) _ _
  rw [readHome_now]
  exact validWaited_now t a

theorem accountLate_now (s : State) (n : Nat) (x : Sched) : (s.accountLate n x).2.now = s.now := by
  unfold State.accountLate
  extract_lets u lim
  split
  · rfl
  · dsimp only
    split
    · rw [State.bump_now, raise_now]
      rfl
    · rfl

@[simp] theorem setEntryOf_now (s : State) (n : Nat) (x : Sched) : (s.setEntryOf n x).now = s.now := rfl

@[simp] theorem schedCheck_now (s : State) (n : Nat) : (s.schedCheck n).now = s.now := by
  unfold State.schedCheck
  split
  · rfl
  · split
    · rfl
    · split
      next hlate =>
      have ht := now_of_eq (n := s.now) hlate (by
        split
        · exact accountLate_now ..
        · rfl)
      split <;> exact ht

@[simp] theorem moveEnded_now (s : State) (r : Nat) (m : Move) (c : Option Nat) : (s.moveEnded r m c).now = s.now := by
  unfold State.moveEnded
  split
  · split
    · rw [schedCheck_now]
    · rfl
  · rfl
  · split <;> rfl
  · rfl

@[simp] theorem noteWriteAbort_now (s : State) (m : Move) (c : Nat) : (s.noteWriteAbort m c).now = s.now := by
  unfold State.noteWriteAbort
  split
  · rfl
  · dsimp only
    split <;> rfl

@[simp] theorem abortMove_now (s : State) (r c : Nat) : (s.abortMove r c).now = s.now := by
  unfold State.abortMove
  split
  · rfl
  · simp

@[simp] theorem abortWhere_now (s : State) (c : Nat) (p : Move → Bool) : (s.abortWhere c p).now = s.now :=
  foldl_now (fun _ _ => abortMove_now ..) _ _

/-! ## Power -/

@[simp] theorem cancelDeepIdle_now (s : State) : s.cancelDeepIdle.now = s.now := abortWhere_now ..

@[simp] theorem leaveDeepIdle_now (s : State) (c : Nat) : (s.leaveDeepIdle c).now = s.now := by
  unfold State.leaveDeepIdle
  rw [raise_now, foldl_now wakeChannel_now]
  rfl

@[simp] theorem powerWake_now (s : State) (c : Nat) : (s.powerWake c).now = s.now := by
  unfold State.powerWake
  split
  · simp
  · split <;> simp

@[simp] theorem setCapPoint_now (s : State) (p : Nat) : (s.setCapPoint p).now = s.now := by
  unfold State.setCapPoint
  split <;> simp

@[simp] theorem partitionCap_now (s : State) : s.partitionCap.now = s.now := setCapPoint_now ..

@[simp] theorem pointMoved_now (s t : State) : (s.pointMoved t).now = t.now := by
  unfold State.pointMoved
  split <;> rfl

@[simp] theorem feelHeat_now (s : State) (ch : Nat) (c : Int) : (s.feelHeat ch c).now = s.now := by
  unfold State.feelHeat
  extract_lets x thr hot x1 x2 t
  split
  · rfl
  · rw [raise_now]
    rfl

@[simp] theorem heatWrite_now (s : State) (v : Nat) : (s.heatWrite v).now = s.now := foldl_now (fun _ _ => feelHeat_now ..) _ _

/-! ## Profiles -/

@[simp] theorem putMember_now (s : State) (u o m : Nat) (r : Row) (b : Bytes) : (s.putMember u o m r b).now = s.now := by
  unfold State.putMember
  split <;> rfl

@[simp] theorem applyLive_now (s : State) (c : Option ProfCopy) (u : Nat) : (s.applyLive c u).now = s.now :=
  foldl_now (fun _ _ => putMember_now ..) _ _

@[simp] theorem defaults_now (s : State) (ms : List (Nat × Nat × Nat)) : (s.defaults ms).now = s.now := by
  refine foldl_now (fun _ _ => ?_) ms s
  rfl

@[simp] theorem fitTogether_now (s : State) : s.fitTogether.now = s.now := by
  unfold State.fitTogether
  extract_lets t1 t2 t3
  have h1 : t1.now = s.now := by
    unfold t1
    split <;> simp
  have h2 : t2.now = s.now := by
    unfold t2
    split <;> simp [h1]
  have h3 : t3.now = s.now := by
    unfold t3
    split <;> simp [h2]
  split <;> simp [h3]

@[simp] theorem noteShares_now (s : State) : s.noteShares.now = s.now := rfl

/-- What live values that changed set in motion takes no time. -/
@[simp] theorem liveTaken_now (s t : State) : (s.liveTaken t).now = t.now := by
  unfold State.liveTaken
  simp [apply_ite State.now]

end Sys2Proof.Machine
end

section
/-!
SUPPORT. READ, WRITE, WRITE_IF, PROFILE_STORE and PROFILE_APPLY that are admitted: what the server answers and does.
-/
namespace Sys2Proof.Machine

/-- A READ that passes the checks of R647 answers the member's bytes. -/
theorem bring_read {s : State} {r : Req} {u o m off len : Nat} {w : Sender} {row : Row}
    (h : Admits s r 0x10 (requestBody u o m off len none []) w) (hu : u < 2 ^ 16) (ho : o < 2 ^ 16) (hm : m < 2 ^ 8)
    (hf : off < 2 ^ 32) (hl : len ≤ 1020) (hacc : (s.taking r).access w u o m off len false true = .ok row) :
    s.bring r 0x10 (requestBody u o m off len none []) true true
      = (if readsFree u o m then (s.taking r).tick.2 else s.taking r).answer r.path 0x10 0 ((s.taking r).readMember w u o m row off len) := by
  have hlen : (requestBody u o m off len none []).length = 12 := requestBody_length ..
  rw [bring_admitted true true (.inl rfl) h]
  unfold State.serveHere
  rw [if_pos rfl]
  unfold State.serveRead'
  simp only [requestBody_unit _ _ _ _ _ _ _ hu, requestBody_obj _ _ _ _ _ _ _ ho, requestBody_mem _ _ _ _ _ _ _ hm,
    requestBody_off _ _ _ _ _ _ _ hf, requestBody_len _ _ _ _ _ _ _ (show len < 2 ^ 16 by omega), hlen, decide_eq_true hl, hacc]
  rfl

/-- The write of a member of the management port's own objects has no effect of its own. -/
theorem objWrite_managementPort {s : State} {w : Sender} {row : Row} {o m off : Nat} {b : Bytes} (h : row.admits (leNat b) = true)
    (ho : o = 0x120 ∨ o = 0x122 ∨ o = 0x130 ∨ o = 0x132) :
    s.objWrite w 0xE00 o m off row b = .ok (s.plainWrite 0xE00 o m off row b) := by
  obtain ⟨hbool, hchk⟩ := admits_iff.mp h
  rcases ho with rfl | rfl | rfl | rfl <;> simp [State.objWrite, fansOut, hbool, hchk]

/-- A request is brought and taken without regard to its generation. -/
theorem bring_gen (s : State) (r : Req) (g : Option U32) (ty : Nat) (b : Bytes) (ok1 ok2 : Bool) :
    s.bring { r with gen := g } ty b ok1 ok2 = s.bring r ty b ok1 ok2 := by
  unfold State.bring
  rfl

theorem taking_gen (s : State) (r : Req) (g : Option U32) : s.taking { r with gen := g } = s.taking r := by
  unfold State.taking
  rfl

/-- A write command whose granted write its object takes stores it: the generation that came with WRITE_IF is the type's alone. -/
theorem write_takes {s v : State} {r : Req} {w : Sender} {row : Row} {u o len : U16} {m : Byte} {off g : U32} {data : Bytes}
    (hlen : data.length = len.toNat) (hu : u.toNat = 1 → fansOut o.toNat = false)
    (hdefer : mayDefer u.toNat o.toNat data = false)
    (hok : (s.taking r).objWrite w u.toNat o.toNat m.toNat off.toNat row data = .ok v) :
    (Grants s { r with gen := none } u.toNat o.toNat m.toNat off.toNat data w row →
      Takes (.write r u o m off len data) s (v.answer r.path 0x11 0 []))
    ∧ (Grants s { r with gen := some g } u.toNat o.toNat m.toNat off.toNat data w row →
      Takes (.writeIf r u o m off len g data) s (v.answer r.path 0x12 0 [])) := by
  have hsent {g : Option U32} (h : Grants s { r with gen := g } u.toNat o.toNat m.toNat off.toNat data w row) :=
    sendWrite_written h u.isLt o.isLt m.isLt off.isLt hu hdefer ((taking_gen s r g).symm ▸ hok)
  refine ⟨fun h => ?_, fun h => ?_⟩
  · have hbring := hsent h
    rw [State.sendWrite, bring_gen, hlen] at hbring
    exact congrArg (finish s) hbring
  · have hbring := hsent h
    rw [State.sendWrite, bring_gen, hlen] at hbring
    exact congrArg (finish s) hbring

/-! ## Profiles (02 R80 to R82) -/

@[simp] theorem field_byte (b : Byte) : field [b] 0 1 = b.toNat := by simp [field, slice, zeros]

theorem serveHere_profileStore (s : State) (w : Sender) (p : Path) (b : Bytes) (ok1 ok2 : Bool) :
    s.serveHere w p 0x30 b ok1 ok2 = s.serveStore w b ok1 ok2 := by
  simp [State.serveHere]

theorem serveHere_profileApply (s : State) (w : Sender) (p : Path) (b : Bytes) (ok1 ok2 : Bool) :
    s.serveHere w p 0x31 b ok1 ok2 = s.serveApply w b := by
  simp [State.serveHere]

/-- PROFILE_STORE of slot `slot` writes copy `k`, and goes on from count `n` and name `name`: those of the good copy beside it,
or none yet. -/
def State.Replaces (s : State) (slot k n : Nat) (name : Bytes) : Prop :=
  (∃ i c, s.profileCopy slot = some (i, c) ∧ k = (if i % 2 = 0 then i + 1 else i - 1) ∧ n = c.seq ∧ name = c.name)
  ∨ (s.profileCopy slot = none ∧ k = 2 * slot ∧ n = 0 ∧ name = zeros 16)

/-- A PROFILE_STORE that one of the boot flash copies reads back of replaces the older copy and counts. -/
theorem serveStore_stored {s u : State} {w : Sender} {slot : Byte} {k n : Nat} {name : Bytes} {ok1 ok2 : Bool}
    (hw : w.fm = true ∨ w.svc = true) (hslot : slot.toNat ≤ 3) (hok : ok1 = true ∨ ok2 = true) (hk : s.Replaces slot.toNat k n name)
    (hu : u = { s with profiles := tabSet s.profiles k { valid := true, seq := (n + 1) % 2 ^ 32, firmware := s.obj 0 0 4
                                                         name := name, entries := s.profileEntries } }) :
    s.serveStore w [slot] ok1 ok2 = { status := some 0, state := u.setObj 0 0x122 0 ((u.obj 0 0x122 0 + 1) % 2 ^ 32) } := by
  have hrights : (w.fm || w.svc) = true := by simpa using hw
  have hgood : (ok1 || ok2) = true := by simpa using hok
  unfold State.serveStore
  obtain ⟨i, c, hcopy, rfl, rfl, rfl⟩ | ⟨hcopy, rfl, rfl, rfl⟩ := hk
  · simp [hrights, hgood, hcopy, hu, show ¬ 3 < slot.toNat by omega]
  · simp [hrights, hgood, hcopy, hu, show ¬ 3 < slot.toNat by omega]

/-- PROFILE_APPLY gives the quiescent units their live values and tells the others. -/
theorem serveApply_applied {s u : State} {w : Sender} {slot : Byte} {us left : List Nat} (hw : w.fm = true ∨ w.svc = true)
    (hslot : slot.toNat ≤ 3) (hus : us = allUnits.filter (fun u => !(liveMembers u).isEmpty))
    (hleft : left = us.filter (fun u => !s.quiescent u))
    (hu : u = ((s.liveTaken ((us.filter s.quiescent).foldl (fun t u => t.applyLive ((s.profileCopy slot.toNat).map (·.2)) u)
      s.noteShares).fitTogether).setObj 0 0x121 2 (b2n !left.isEmpty))) :
    s.serveApply w [slot] = { status := some 0, body := leBytes 1 (left.take 255).length ++ (left.take 255).flatMap (leBytes 2)
                              state := if left.isEmpty then u.setObj 0 0x121 3 u.now else (u.setObj 0 0x121 3 u.now).raise 0 4 0 } := by
  have hrights : (w.fm || w.svc) = true := by simpa using hw
  have hnow : u.now = s.now := by
    rw [hu, State.setObj_now, liveTaken_now, fitTogether_now, foldl_now (fun _ _ => applyLive_now ..), noteShares_now]
  unfold State.serveApply
  rw [hnow, field_byte, if_neg (by simp), if_neg (by simp [hrights]), if_neg (by omega)]
  rw [← hus]
  dsimp only
  rw [← hleft, ← hu]

/-! ## The statement of 02_object_dictionary.md, 02 R61 to R64, R80 to R82 -/

/-- Settles O42: an admitted request is served in the state that has taken it (`bring_admitted`), and each of the five does there what
its server function says. -/
theorem readsWritesAndProfilesAnswer : Obligations.ReadsWritesAndProfilesAnswer := by
  unfold Obligations.ReadsWritesAndProfilesAnswer
  rintro s t r w rfl
  refine ⟨?read, ?write, ?port, ?store, ?apply⟩
  case read =>
    intro row u o m off len h hl hacc
    exact congrArg (finish s) (bring_read h u.isLt o.isLt m.isLt off.isLt hl hacc)
  case write =>
    intro row u o m off len g data v hlen hu hok hdefer
    exact write_takes hlen (fun h => absurd h hu) hdefer hok
  case port =>
    intro row o m len g data ho hlen hchk hbool
    have hadmits : row.admits (leNat data) = true := admits_iff.mpr ⟨fun ⟨hb, hlt⟩ => by have := hbool hb; omega, hchk⟩
    exact write_takes (u := 0xE00) (off := 0) hlen (fun h => absurd h (by decide)) (by simp [mayDefer])
      (objWrite_managementPort hadmits ho)
  case store =>
    intro slot k n name ok1 ok2 u h hw hslot hok hk hu
    have hreplaces : (s.taking r).Replaces slot.toNat k n name := by
      split at hk
      · next i c hcopy => exact .inl ⟨i, c, hcopy, hk⟩
      · next hcopy => exact .inr ⟨hcopy, hk⟩
    have hbring := bring_admitted ok1 ok2 (by simp) h
    rw [serveHere_profileStore, serveStore_stored hw hslot hok hreplaces hu] at hbring
    exact congrArg (finish s) hbring
  case apply =>
    intro slot us u h hw hslot hus hu
    have hbring := bring_admitted true true (by simp) h
    rw [serveHere_profileApply, serveApply_applied hw hslot hus rfl hu] at hbring
    exact congrArg (finish s) hbring

end Sys2Proof.Machine
end

section
/-!
SUPPORT. Dynamic capacity: what the mailbox and the fabric manager API answer, and the extent commands that are taken.
-/
namespace Sys2Proof.Machine

/-! ## The two ways of an extent command -/

/-- The mailbox of an LD that serves runs a command and answers it (15 R509, 17 R566). -/
theorem mailboxDo_of_serves {s t : State} {ld code : Nat} {payload : Bytes} {f : State → Nat × Bytes × State}
    (h : MailboxServes s ld) (hf : f s = (code, payload, t)) : s.mailboxDo ld f = t.mailboxAnswer ld code payload := by
  obtain ⟨hrunning, hflr, hbound⟩ := h
  rw [State.mailboxDo, if_neg (by simp [hrunning, hflr]), if_neg (by simp [hbound]), hf]

/-- The fabric manager API of a module that runs answers what the command says (17 R566). -/
theorem fmApiDo_of_running {s : State} (h : s.stage = .running) (f : State → Nat × State) :
    s.fmApiDo f = (f s).2.emit (.fmApi (f s).1) := if_neg (by simp [h])

/-! ## The extent commands (03 R92 to R94) -/

/-- A response that names only OFFERED extents grants them, and the others pass to NONE (03 R92). -/
theorem dcResponse_of_offered {s : State} {ld : Nat} {acc : List Nat}
    (h : ∀ a ∈ acc, ∃ x, (a, x) ∈ s.extentsOf ld ∧ x.state = 1) :
    s.dcResponse ld acc = (retSuccess, ((s.extentsOf ld).filter (fun e => e.2.state == 1)).foldl (fun (s : State) e =>
      if acc.contains e.1 then { s.extentsChanged ld with
        extents := tabSet (s.extentsChanged ld).extents (extKey ld e.1) { e.2 with state := 2 } }
      else (s.extentsChanged ld).withdrawOffer ld e.1 e.2) s) := by
  refine if_neg fun hmissing => ?_
  obtain ⟨a, ha, hnone⟩ := List.any_eq_true.mp hmissing
  obtain ⟨x, hx, hoffered⟩ := h a ha
  have hlisted : ((s.extentsOf ld).filter (fun e => e.2.state == 1)).any (fun e => e.1 == a) = true :=
    List.any_eq_true.mpr ⟨(a, x), List.mem_filter.mpr ⟨hx, by simp [hoffered]⟩, by simp⟩
  simp [hlisted] at hnone

/-- A release of GRANTED extents that no declared region lies in starts RELEASING (03 R93). -/
theorem dcRelease_of_granted {s : State} {ld : Nat} {l : List Nat}
    (h : ∀ e ∈ l, ∃ x, s.extent ld e = some x ∧ x.state = 2 ∧ s.regions.any (s.regionIn x) = false) :
    s.dcRelease ld l = (retSuccess, l.foldl (fun (s : State) e => match s.extent ld e with
      | some x => if x.state = 2 then s.beginRelease ld e x else s
      | none => s) s) := by
  have hgranted : l.any (fun e => (s.extent ld e).all (fun x => x.state != 2)) = false := List.any_eq_false.mpr fun e he => by
    obtain ⟨x, hx, hstate, -⟩ := h e he
    simp [hx, hstate]
  have hfree : l.any (fun e => match s.extent ld e with
      | some x => s.regions.any (s.regionIn x)
      | none => false) = false := List.any_eq_false.mpr fun e he => by
    obtain ⟨x, hx, -, hregions⟩ := h e he
    simp [hx, hregions]
  exact (if_neg (by simp [hgranted])).trans (if_neg (ne_true_of_eq_false hfree))

/-- A forced release of extents in the table is answered Success (03 R93). -/
theorem forceRelease_of_listed {s : State} {ld : Nat} {l : List Nat} (h : ∀ e ∈ l, (s.extent ld e).isSome = true) :
    (s.forceRelease ld l).1 = retSuccess := by
  have hlisted : l.any (fun e => (s.extent ld e).isNone) = false := List.any_eq_false.mpr fun e he => by
    simp [Option.isNone_eq_false_iff.mpr (h e he)]
  simp [State.forceRelease, hlisted]

/-- No access of an LD, under way or held, uses an extent. -/
theorem extentIdle_of_none {s : State} {ld e : Nat} (haccess : ∀ a ∈ s.accesses, ¬ (a.ld = ld ∧ a.dpa / 2 ^ 30 = e))
    (hheld : ∀ h ∈ s.held, ¬ (h.ld = ld ∧ h.dpa / 2 ^ 30 = e)) :
    (s.accesses.any (fun a => a.ld == ld && a.dpa / 2 ^ 30 == e) || s.held.any (fun h => h.ld == ld && h.dpa / 2 ^ 30 == e)) = false := by
  rw [Bool.or_eq_false_iff, List.any_eq_false, List.any_eq_false]
  exact ⟨fun a ha => by simpa using haccess a ha, fun h hh => by simpa using hheld h hh⟩

/-! ## The statement of 03_address_model.md, 03 R90 to R94, R650 -/

/-- Settles O9: the mailbox and the fabric manager API pass on what each command does, which its lemma above says. -/
theorem extentCommandsComplete : Obligations.ExtentCommandsComplete := by
  unfold Obligations.ExtentCommandsComplete
  refine ⟨?offer, ?respond, ?release, ?force, ?complete⟩
  case offer =>
    intro s t ld l hrunning hoffer
    refine congrArg (finish s) ?_
    rw [fmApiDo_of_running hrunning, hoffer]
  case respond =>
    intro s ld acc hrunning hflr hbound hoffered
    exact congrArg (finish s) (mailboxDo_of_serves ⟨hrunning, hflr, hbound⟩ (congrArg (fun z => (z.1, [], z.2)) (dcResponse_of_offered hoffered)))
  case release =>
    intro s ld l hrunning hflr hbound hgranted
    exact congrArg (finish s) (mailboxDo_of_serves ⟨hrunning, hflr, hbound⟩ (congrArg (fun z => (z.1, [], z.2)) (dcRelease_of_granted hgranted)))
  case force =>
    intro s ld l hrunning hlisted
    refine ⟨forceRelease_of_listed hlisted, congrArg (finish s) ?_⟩
    rw [fmApiDo_of_running hrunning, forceRelease_of_listed hlisted]
  case complete =>
    intro s ld e x hx hreleasing haccess hheld
    refine congrArg (finish s) ?_
    rw [hx]
    exact if_neg (not_or_intro (not_not_intro hreleasing) (ne_true_of_eq_false (extentIdle_of_none haccess hheld)))

end Sys2Proof.Machine
end

section
/-!
SUPPORT. The region commands: the bytes of a command with its code in place, the rights, and what each command that meets the conditions of
its rows answers.
-/
namespace Sys2Proof.Machine

/-! ## Command bytes -/

/-- A command reads its code first. -/
theorem field_code {cmd b : Bytes} {op : Byte} (hb : b = patch cmd 0 [op]) : field b 0 1 = op.toNat :=
  hb ▸ field_patch_byte cmd 0 op (Nat.zero_le _)

/-- Past its code a command is as it came. -/
theorem field_past_code {cmd b : Bytes} {op : Byte} (hb : b = patch cmd 0 [op]) {off : Nat} (h : 0 < off) (n : Nat) :
    field b off n = field cmd off n := by
  obtain ⟨k, rfl⟩ := Nat.exists_eq_add_of_lt h
  simp [hb, field, slice, patch]

/-! ## A region that begins leaves the waiting CREATEs alone -/

/-- A codec slot follows its counts: what an event changes. -/
theorem slotCheck_only (s : State) (ll : Bool) (n : Nat) : OnlyEvents s (s.slotCheck ll n) := by
  unfold State.slotCheck
  extract_lets st refs
  split
  · exact .refl s
  · split
    · split
      · exact .setObj ..
      · split
        · exact (OnlyEvents.setObj ..).trans (raise_only ..)
        · exact .refl s
    · exact .refl s

theorem OnlyEvents.span {s t : State} : OnlyEvents s t → t.span = s.span := by rintro ⟨_, _, _, _, rfl⟩; rfl

@[simp] theorem nameSlots_span (s : State) (x : Region) : (s.nameSlots x).span = s.span := by
  unfold State.nameSlots
  rw [(slotCheck_only _ _ _).span]
  split
  · exact (slotCheck_only _ _ _).span
  · rfl

@[simp] theorem markRemote_span (s : State) (id : Nat) (x : Region) : (s.markRemote id x).span = s.span := by
  refine foldl_keeps (P := fun t : State => t.span = s.span) (fun t n ht => ?_) _ _ rfl
  dsimp only
  split
  · exact ht
  · split
    · exact (State.setEntry_span ..).trans ht
    · exact ht

@[simp] theorem beginRegion_span (s : State) (id : Nat) (x : Region) : (s.beginRegion id x).span = s.span := by
  unfold State.beginRegion
  split
  · exact nameSlots_span ..
  · split <;> simp

/-! ## Reservations asked for (16 R554) -/

/-- Asking for a reservation leaves the waiting CREATEs alone. -/
@[simp] theorem sendReserve_creates (s : State) (m dla region : Nat) (wait : Bool) :
    (s.sendReserve m dla region wait).span.creates = s.span.creates := by
  unfold State.sendReserve
  extract_lets tag q qs span t
  obtain ⟨_, _, _, hsent⟩ := sendPacket_only t m 8 0 0x10 0 tag dla region []
  rw [hsent]

/-- A CREATE of a striped region asks the other members for their reservations and waits. -/
def State.askStripe (s : State) (id : Nat) (x : Region) (asks : List (Nat × Nat)) : State :=
  asks.foldl (fun (s : State) (a : Nat × Nat) => s.sendReserve a.1 a.2 id true)
    { s with span := { s.span with creates := s.span.creates ++
        [({ path := none, region := id, desc := x, waiting := asks, made := [] } : WaitCreate)] } }

/-- One CREATE more waits. -/
theorem askStripe_waits (s : State) (id : Nat) (x : Region) (asks : List (Nat × Nat)) :
    s.span.creates.length < (s.askStripe id x asks).span.creates.length := by
  unfold State.askStripe
  refine foldl_keeps (P := fun t : State => s.span.creates.length < t.span.creates.length) (fun t a ht => ?_) asks _ (by simp)
  rwa [sendReserve_creates]

/-! ## The region command member -/

/-- The write of the region command member. -/
theorem objWrite_regionCommand {s : State} {w : Sender} {row : Row} {b : Bytes} (h : row.admits (leNat b) = true) :
    s.objWrite w 0x200 0x140 0 0 row b = s.regionCommand w b := by
  simp [State.objWrite, State.storeWrite, fansOut, admits_iff.mp h]

/-- A granted write of the region command member: it is answered OK with its effect, or the CREATE it has begun waits. -/
theorem sendWrite_regionCommand {s v : State} {r : Req} {w : Sender} {row : Row} {b : Bytes} (h : Grants s r 0x200 0x140 0 0 b w row)
    (hok : (s.taking r).regionCommand w b = .ok v) :
    s.sendWrite r 0x200 0x140 0 0 b = if field b 0 1 = 1 ∧ v.span.creates.length > (s.taking r).span.creates.length
      then v.deferTo r.path (writeType r) else v.written r := by
  have hadmits : row.admits (leNat b) = true := h.admits (uLo := 0x200) (uHi := 0x200) (oLo := 0x140) (oHi := 0x140)
    (ty := .bytes 72) (chk := .any) (by decide +kernel) (by omega) (by omega) (by simp) rfl
  rw [sendWrite_granted h (by decide) (by decide) (by decide) (by decide) (by decide), objWrite_regionCommand hadmits, hok]
  simp [mayDefer]

section
variable {c : Instr} {s v : State} {r : Req} {w : Sender} {row : Row} {op : Byte} {cmd b : Bytes}
  (hexec : exec c s = finish s (s.commandWrite r 0x200 0 op cmd)) (hb : b = patch cmd 0 [op])
  (h : Grants s r 0x200 0x140 0 0 b w row) (hok : (s.taking r).regionCommand w b = .ok v)
include hexec hb h hok

/-- A granted command takes effect when the member takes it and leaves no more CREATEs waiting. -/
theorem regionCommand_takes (hstay : op.toNat = 1 → v.span.creates = (s.taking r).span.creates) : Takes c s (v.written r) := by
  have hanswered : ¬ (field b 0 1 = 1 ∧ v.span.creates.length > (s.taking r).span.creates.length) := by
    rintro ⟨hcode, hmore⟩
    rw [hstay ((field_code hb).symm.trans hcode)] at hmore
    exact lt_irrefl _ hmore
  rw [Takes, hexec, State.commandWrite, ← hb, sendWrite_regionCommand h hok, if_neg hanswered]
  rfl

/-- The answer to a CREATE that leaves one more waiting waits. -/
theorem regionCommand_waits (hop : op.toNat = 1) (hmore : (s.taking r).span.creates.length < v.span.creates.length) :
    Takes c s (v.deferTo r.path (writeType r)) := by
  rw [Takes, hexec, State.commandWrite, ← hb, sendWrite_regionCommand h hok, if_pos ⟨(field_code hb).trans hop, hmore⟩]
  rfl

end

/-! ## Conditions of the commands (03 R100) -/

/-- The rights rows pass: the sender may act for the region's owner, old and new, and only the fabric manager names a shared region. -/
theorem regionRights_pass {s : State} {w : Sender} {op id : Nat} {x : Region}
    (hold : ∀ y, s.declared id = some y → w.mayActFor y.owner = true ∧ (y.shared = true → w.fm = true))
    (hnew : op ≤ 2 → w.mayActFor x.owner = true ∧ (x.shared = true → w.fm = true)) :
    ∀ c ∈ s.regionRights w op id x, c.1 = false := by
  have hrights : (s.declared id).any (fun y => !w.mayActFor y.owner) = false := by
    simpa [Option.any_eq_false] using fun y hy => (hold y hy).1
  have hmanager : ((decide (op ≤ 2) && x.shared || (s.declared id).any Region.shared) && !w.fm) = false := by
    cases hfm : w.fm with
    | true => simp
    | false =>
      have holdPrivate : (s.declared id).any Region.shared = false := by
        simpa [hfm, Option.any_eq_false] using fun y hy => (hold y hy).2
      have hnewPrivate : op ≤ 2 → x.shared = false := by simpa [hfm] using fun hop => (hnew hop).2
      simpa [holdPrivate] using hnewPrivate
  have hnewRights : (decide (op ≤ 2) && !w.mayActFor x.owner) = false := by
    simpa using fun hop => (hnew hop).1
  simp [State.regionRights, hrights, hmanager, hnewRights]

section
variable {s : State} {w : Sender} {b : Bytes} {id : Nat} {x : Region}
  (hx : s.declared id = some x) (hact : w.mayActFor x.owner = true) (hshared : x.shared = true → w.fm = true ∧ s.sharedInUse id = false)
include hx hact hshared

/-- The rights rows of DELETE and DISCARD look at the declared region alone. -/
theorem regionRights_of_declared {op : Nat} (hop : 2 < op) : ∀ c ∈ s.regionRights w op id x, c.1 = false := by
  refine regionRights_pass (fun y hy => ?_) (fun h => absurd h (by omega))
  obtain rfl := Option.some.inj (hx.symm.trans hy)
  exact ⟨hact, fun h => (hshared h).1⟩

variable (hid : field b 2 2 = id) (hreserved : regionReserved b = false)
include hid hreserved

/-- A DELETE that meets the conditions of its rows removes the region. -/
theorem regionDelete_taken (hdeclared : 16 ≤ id) : s.regionDelete w b = .ok (s.removeRegion id x) := by
  simp only [State.regionDelete, hid, hx, Option.getD_some]
  refine checks_pass (List.forall_mem_append.mpr ⟨regionRights_of_declared hx hact hshared (by decide), ?_⟩)
  simpa [hreserved] using ⟨hdeclared, fun h => (hshared h).2⟩

/-- A DISCARD that meets the conditions of its rows empties the region's tiles. -/
theorem regionDiscard_taken : s.regionDiscard w b
    = .ok (if x.shared then s.discardShared id x else (s.discardRegion id x).renewStripe id x) := by
  simp only [State.regionDiscard, hid, hx, Option.getD_some]
  refine checks_pass (List.forall_mem_append.mpr ⟨regionRights_of_declared hx hact hshared (by decide), ?_⟩)
  simpa [hreserved] using fun h => (hshared h).2

end

/-! ## The statement of 03_address_model.md, 03 R99 to R102, and 16 R554 -/

/-- Settles O31: each command is a granted write of the command member, none of whose refusals holds; a CREATE of a stripe that other
members hold tiles of leaves one CREATE more waiting, and so its answer waits. -/
theorem regionCommandsTakeEffect : Obligations.RegionCommandsTakeEffect := by
  unfold Obligations.RegionCommandsTakeEffect
  rintro s t r cmd w row id rfl hid
  refine ⟨?create, ?modify, ?delete, ?discard⟩
  case create =>
    intro b x hb hx h hfresh hact hfm hreserved hlo hhi hbase hlength hnonempty howner hgranted hapart hfields hcreates hunwritten hroom
    have hcode : field b 0 1 = 1 := field_code hb
    have hregion : field b 2 2 = id := (field_past_code hb (by decide) 2).trans hid.symm
    have hrights := regionRights_pass (s := s.taking r) (w := w) (op := 1) (id := id) (x := x) (by simp [hfresh]) (fun _ => ⟨hact, hfm⟩)
    have htaken (hreach : x.layout = 1 → ∀ m ∈ (s.taking r).stripeOthers x, m ∉ (s.taking r).span.unreachable) :
        (s.taking r).regionCommand w b = .ok (
          if x.layout = 1 ∧ !((s.taking r).stripeOthers x).isEmpty then (s.taking r).askStripe id x
            (((s.taking r).stripeOthers x).flatMap (fun m => ((s.taking r).regionDlas x).map (fun e => (m, e))))
          else (s.taking r).beginRegion id x) := by
      rw [State.regionCommand, hcode]
      simp only [State.regionCreate, hregion, ← hx]
      refine checks_pass (List.forall_mem_append.mpr ⟨hrights, ?_⟩)
      simpa [hfresh, hreserved, hlo, hhi, hbase, hlength, hnonempty, howner, hgranted, hfields, hunwritten] using
        ⟨fun k y hy hdeclared _ howns => hapart (k, y) hy hdeclared howns, hcreates, hreach, hroom⟩
    refine ⟨fun hlocal => ?_, fun hlayout hothers hreach asks hasks => ?_⟩
    · have hsingle : ¬ (x.layout = 1 ∧ !((s.taking r).stripeOthers x).isEmpty) := by simpa [imp_iff_not_or] using hlocal
      have hdone := htaken (fun hlayout m hm => absurd ⟨hlayout, by simpa using List.ne_nil_of_mem hm⟩ hsingle)
      rw [if_neg hsingle] at hdone
      exact regionCommand_takes rfl hb h hdone (fun _ => by rw [beginRegion_span])
    · have hasked := htaken (fun _ => hreach)
      rw [if_pos (by simp [hlayout, hothers]), ← hasks] at hasked
      exact regionCommand_waits rfl hb h hasked rfl (askStripe_waits ..)
  case modify =>
    rintro b x y hb hx h hy hact hactOld hfm hreserved hfields hbase hlength howner hlayout hstripe hdefault hwritten hroom u rfl
    have hcode : field b 0 1 = 2 := field_code hb
    have hregion : field b 2 2 = id := (field_past_code hb (by decide) 2).trans hid.symm
    have hrights := regionRights_pass (s := s.taking r) (w := w) (op := 2) (id := id) (x := x)
      (fun z hz => by obtain rfl := Option.some.inj (hy.symm.trans hz); exact ⟨hactOld, fun h => hfm (.inr h)⟩)
      (fun _ => ⟨hact, fun h => hfm (.inl h)⟩)
    refine regionCommand_takes rfl hb h ?_ (by simp)
    rw [State.regionCommand, hcode]
    simp only [State.regionModify, hregion, ← hx, hy, Option.getD_some]
    refine (checks_pass (List.forall_mem_append.mpr ⟨hrights, ?_⟩)).trans ?_
    · rw [hbase, hlength, howner, hlayout, hstripe] at hdefault
      by_cases hempty : (s.taking r).regionWritten id y = []
      · simpa [hreserved, hfields, hbase, hlength, howner, hlayout, hstripe, hempty] using ⟨hdefault, hroom⟩
      · obtain ⟨hcodec, helem, hkind, hbinding, hgen, hsame, hresidual, hwidth⟩ := hwritten hempty
        simpa [hreserved, hfields, hbase, hlength, howner, hlayout, hstripe, hcodec, helem, hkind, hbinding, hgen, hsame, hresidual, hwidth]
          using hdefault
    · simp
  case delete =>
    intro b x hb h hx hact hshared hreserved hdeclared
    have hcode : field b 0 1 = 3 := field_code hb
    have hregion : field b 2 2 = id := (field_past_code hb (by decide) 2).trans hid.symm
    refine regionCommand_takes rfl hb h ?_ (by simp)
    rw [State.regionCommand, hcode]
    exact regionDelete_taken hx hact hshared hregion hreserved hdeclared
  case discard =>
    intro b x hb h hx hact hshared hreserved
    have hcode : field b 0 1 = 4 := field_code hb
    have hregion : field b 2 2 = id := (field_past_code hb (by decide) 2).trans hid.symm
    refine regionCommand_takes rfl hb h ?_ (by simp)
    rw [State.regionCommand, hcode]
    exact regionDiscard_taken hx hact hshared hregion hreserved

end Sys2Proof.Machine
end

section
/-!
SUPPORT. The upkeep of tiles: discarded homes, the aging epoch and the aging scan.
-/
namespace Sys2Proof.Machine

/-! ## Discarded homes (03 R102) -/

/-- A listed home is freed: it leaves the list, and its space and its slots' counts with it. -/
theorem freeOldHome_of_listed {s : State} {i : Nat} {o : OldHome} (h : s.oldHomes[i]? = some o) :
    s.freeOldHome i = (({ s with oldHomes := s.oldHomes.eraseIdx i }).freeHome o.entry).slotsOf o.entry := by
  rw [State.freeOldHome, h]

/-- A home of class 5 need not wait once no home of class 4 and no move of a better class does (06 R218, R220). -/
theorem oldHome_goes {s : State} {o : OldHome}
    (h : s.oldClass o = 5 → (∀ q ∈ s.oldHomes, s.oldClass q ≠ 4) ∧ ∀ m ∈ s.moves, m.2.state = 1 → 5 ≤ m.2.cls) :
    ¬ (s.oldClass o = 5 ∧ (s.oldHomes.any (fun p => s.oldClass p == 4)
      || s.moves.any (fun m => m.2.state == 1 && decide (m.2.cls < 5)))) := by
  rintro ⟨hclass, hwaits⟩
  obtain ⟨hhomes, hmoves⟩ := h hclass
  rcases Bool.or_eq_true_iff.mp hwaits with hhome | hmove
  · obtain ⟨q, hq, hfour⟩ := List.any_eq_true.mp hhome
    exact hhomes q hq (by simpa using hfour)
  · obtain ⟨m, hm, hbetter⟩ := List.any_eq_true.mp hmove
    obtain ⟨hstate, hcls⟩ : m.2.state = 1 ∧ m.2.cls < 5 := by simpa using hbetter
    exact Nat.not_le.mpr hcls (hmoves m hm hstate)

/-! ## The aging scan (06 R201, R202) -/

/-- Bringing a map line to the near tier changes what a write into the near tier changes. -/
theorem syncLine_only (s : State) (m : Nat) : OnlyNear s (s.syncLine m) := by
  unfold State.syncLine
  extract_lets near
  split
  · exact .refl s
  · exact writeMapLine_only s m

/-- The scan of a stored tile aged 64 or more: the entry is set to that age and its frequency halves. -/
theorem agingScan_of_aged {s : State} {k : Nat} (hwritten : (s.entry k).state ≠ 0) (hhere : (s.entry k).state ≠ 4)
    (hage : 64 ≤ (s.obj 0x700 0x101 0 + 256 - (s.entry k).recency) % 256) :
    exec (.agingScan k) s = finish s ((s.putEntry k { s.entry k with
      recency := (s.obj 0x700 0x101 0 + 192) % 256, frequency := (s.entry k).frequency / 2 }).syncLine (k / 2)) := by
  have hscan : ¬ ((s.entry k).state = 0 ∨ (s.entry k).state = 4 ∨ (s.obj 0x700 0x101 0 + 256 - (s.entry k).recency) % 256 < 64) := by
    omega
  exact congrArg (fun t => finish s (State.syncLine t (k / 2))) (if_neg hscan)

/-! ## The statement of 03_address_model.md and 06_tiers_and_moves.md -/

/-- Settles O14: a discarded home that need not wait is freed, held writes are tried again as each command says, and the aging scan
replaces one entry of the map. -/
theorem tileUpkeepCompletes : Obligations.TileUpkeepCompletes := by
  unfold Obligations.TileUpkeepCompletes
  refine ⟨?home, fun _ _ => rfl, fun _ _ => rfl, ?poison, ?epoch, ?scan⟩
  case home =>
    intro s i o ho hgoes
    refine congrArg (finish s) ?_
    rw [ho, ← freeOldHome_of_listed ho]
    exact if_neg (oldHome_goes hgoes)
  case poison =>
    intro s hroom
    exact congrArg (finish s) (if_pos hroom)
  case epoch =>
    intro s
    exact ⟨{ s.setObj 0x700 0x101 0 ((s.obj 0x700 0x101 0 + 1) % 256) with epochs := s.epochs + 1 }, rfl,
      State.obj_setObj_same .., rfl, rfl⟩
  case scan =>
    intro s k hwritten hhere hage
    refine ⟨_, agingScan_of_aged hwritten hhere hage, ?_, fun j hj => ?_⟩
    · rw [(syncLine_only _ _).entry, State.entry_putEntry_same]
    · rw [(syncLine_only _ _).entry, State.entry_putEntry_of_ne _ _ _ _ hj.symm]

end Sys2Proof.Machine
end

section
/-!
SUPPORT. The shared region table: a write of a table of fixed entries that lies in one of them, and the write of an entry.
-/
namespace Sys2Proof.Machine

/-! ## Writes of tables -/

/-- A write of no bytes writes no entry. -/
theorem writeTable_nil (s : State) (size off : Nat) (old : State → Nat → Bytes) (f : State → Nat → Bytes → Reply) :
    s.writeTable size off [] old f = .ok s := rfl

/-- A write that lies in one entry writes that entry, with the bytes put in. -/
theorem writeTable_within {s : State} {size off n : Nat} {b : Bytes} {old : State → Nat → Bytes} {f : State → Nat → Bytes → Reply}
    (hb : b ≠ []) (hsize : 0 < size) (hfirst : off / size = n) (hlast : (off + b.length - 1) / size = n) :
    s.writeTable size off b old f = f s n (patch (old s n) (off - size * n) b) := by
  have hstart : size * n ≤ off := hfirst ▸ Nat.mul_div_le off size
  have hend : off + b.length ≤ size * n + size := by
    have := Nat.lt_mul_div_succ (off + b.length - 1) hsize
    rw [hlast, Nat.mul_add_one] at this
    omega
  have hlo : off.max (size * n) = off := Nat.max_eq_left hstart
  have hhi : (off + b.length).min (size * n + size) = off + b.length := Nat.min_eq_left hend
  rw [State.writeTable, if_neg (by simpa using hb), hfirst, hlast, Nat.sub_self]
  simp [Reply.also, hlo, hhi]

/-! ## The shared region table (09 R282, R301, R315) -/

/-- The write of the shared region table. -/
theorem objWrite_sharedTable {s : State} {w : Sender} {row : Row} {b : Bytes} (h : row.admits (leNat b) = true) (m off : Nat) :
    s.objWrite w 0x900 0x150 m off row b = s.writeSharedTable off b := by
  simp [State.objWrite, fansOut, admits_iff.mp h]

/-- A granted write of the shared region table takes effect when the table takes it. -/
theorem sharedRegionEntryWrite_takes {s u : State} {r : Req} {w : Sender} {row : Row} {off : U32} {data : Bytes}
    (h : Grants s r 0x900 0x150 0 off.toNat data w row) (hok : (s.taking r).writeSharedTable off.toNat data = .ok u) :
    Takes (.sharedRegionEntryWrite r off data) s (u.written r) := by
  have hadmits : row.admits (leNat data) = true := h.admits (uLo := 0x900) (uHi := 0x900) (oLo := 0x150) (oHi := 0x150)
    (ty := .bytes 262144) (chk := .any) (by decide +kernel) (by omega) (by omega) (by simp) rfl
  exact granted_takes rfl h rfl (by simp [mayDefer]) ((objWrite_sharedTable hadmits 0 _).trans hok)

/-! ## The statement of 09_shared_regions.md, 03 R115, 10 R324 -/

/-- Settles O36: each part is a write that the table takes (`sharedRegionEntryWrite_takes`); one that lies in one entry is the write of
that entry (`writeTable_within`), none of whose refusals holds. -/
theorem sharedTableWritesTakeEffect : Obligations.SharedTableWritesTakeEffect := by
  unfold Obligations.SharedTableWritesTakeEffect
  rintro s t r w row off data rfl h
  refine ⟨?entry, fun hdata => sharedRegionEntryWrite_takes h (hdata ▸ writeTable_nil ..), fun u => sharedRegionEntryWrite_takes h⟩
  case entry =>
    intro id b x y hdata hid hlast hb hnew hx hy hfixed hmode hwriters hreaders hnear hfar hheld
    refine sharedRegionEntryWrite_takes h ?_
    rw [State.writeSharedTable, writeTable_within hdata (by decide) hid.symm hlast, ← hb, State.writeSharedEntry, if_neg hnew, hx]
    subst hy
    exact checks_pass (by simpa using ⟨hfixed, hmode, hwriters, hreaders, hnear, hfar, fun hnewMode k v hv => hheld hnewMode (k, v) hv⟩)

end Sys2Proof.Machine
end

section
/-!
SUPPORT. The codec objects: commits and owners of the codec slots, and the recode command, each with the write that takes it.
-/
namespace Sys2Proof.Machine

/-! ## The objects of the codec slots (04 R146, 05 R177) -/

section
variable (ll : Bool) {n : Nat} (hn : n < 64)
include hn

/-- The slots of both codecs lie in objects 0200 to 033F. -/
theorem slotObj_range : 0x200 ≤ slotObj ll n ∧ slotObj ll n ≤ 0x33F := by
  cases ll <;> grind [slotObj]

/-- A slot's object tells which codec's it is. -/
theorem slotObj_lossless_iff : 0x300 ≤ slotObj ll n ↔ ll = true := by
  cases ll <;> grind [slotObj]

/-- A slot's object carries its number. -/
theorem slotObj_number : slotObj ll n % 256 = n := by
  cases ll <;> grind [slotObj]

theorem isSlot_slotObj : isSlot 0x300 (slotObj ll n) = true := by
  cases ll <;> simp [isSlot, slotObj] <;> omega

end

/-! ## The write of a codec object -/

section
variable {s : State} {w : Sender} {row : Row} {b : Bytes} (h : row.admits (leNat b) = true)
include h

/-- A write of an object of the codecs' own. -/
theorem objWrite_codecs {o : Nat} (ho : 0x100 ≤ o) (m off : Nat) :
    s.objWrite w 0x300 o m off row b = s.storeWrite w 0x300 o m off row b := by
  have hfan : fansOut o = false := by simp [fansOut]; omega
  simp (disch := omega) [State.objWrite, hfan, admits_iff.mp h, ↓if_neg]

theorem objWrite_slotOwner (ll : Bool) {n : Nat} (hn : n < 64) (off : Nat) :
    s.objWrite w 0x300 (slotObj ll n) 0 off row b = s.slotOwnerWrite ll n (leNat b) := by
  have hrange := slotObj_range ll hn
  rw [objWrite_codecs h (by omega)]
  simp (disch := omega) [State.storeWrite, isSlot_slotObj ll hn, slotObj_number ll hn, slotObj_lossless_iff ll hn, ↓if_neg]

theorem objWrite_slotCommit (ll : Bool) {n : Nat} (hn : n < 64) (off : Nat) :
    s.objWrite w 0x300 (slotObj ll n) 9 off row b = if ll then s.llCommit w n (leNat b) else s.frCommit w n (leNat b) := by
  have hrange := slotObj_range ll hn
  rw [objWrite_codecs h (by omega)]
  simp (disch := omega) [State.storeWrite, isSlot_slotObj ll hn, slotObj_number ll hn, slotObj_lossless_iff ll hn, ↓if_neg]

theorem objWrite_recode (off : Nat) : s.objWrite w 0x300 0x140 0 off row b = s.recodeWrite w b := by
  rw [objWrite_codecs h (by decide)]
  simp [State.storeWrite]

end

/-! ## Commits and owner writes (04 R146, R150, 05 R177) -/

section
variable {s : State} {w : Sender} {n : Nat}

/-- A commit of the image as written. -/
theorem frCommit_image (howns : s.ownsSlot w false n = true) (himage : (frTableOf (s.slotImage false n 528)).isSome = true)
    (hidle : s.slotIdle false n = true) : s.frCommit w n 0xFF = .ok (s.loadSlot false n (s.slotImage false n 528)) :=
  checks_pass (by simp [howns, himage, hidle])

/-- A commit of a default table, which becomes the slot's image. -/
theorem frCommit_default {v : Nat} (hv : v ≤ 8) (howns : s.ownsSlot w false n = true) (hidle : s.slotIdle false n = true) :
    s.frCommit w n v = .ok ((s.loadSlot false n (tableImage (defaultTable v))).setBlob 0x300 (slotObj false n) 8 0
      (tableImage (defaultTable v))) := by
  have hne : v ≠ 0xFF := by omega
  simp only [State.frCommit, if_neg hne]
  exact checks_pass (by simp [howns, hidle, hne, hv])

/-- A commit of a lossless image. -/
theorem llCommit_image (howns : s.ownsSlot w true n = true) (himage : (llTablesOf (s.slotImage true n 2072)).isSome = true)
    (hidle : s.slotIdle true n = true) : s.llCommit w n 0xFF = .ok (s.loadSlot true n (s.slotImage true n 2072)) :=
  checks_pass (by simp [howns, himage, hidle])

/-- An owner write of an idle slot empties it: its state is 0 and its image is gone. -/
theorem slotOwnerWrite_taken {ll : Bool} {v : Nat} (hv : v ≤ 15 ∨ v = 0xFE ∨ v = 0xFF) (hidle : s.slotIdle ll n = true) {u : State}
    (hu : u = (s.setObj 0x300 (slotObj ll n) 0 v).setObj 0x300 (slotObj ll n) 1 0) :
    s.slotOwnerWrite ll n v = .ok { u with blobs := u.blobs.filter (fun c => !decide (okey 0x300 (slotObj ll n) 8 * 2 ^ 30 ≤ c.1
      ∧ c.1 < okey 0x300 (slotObj ll n) 8 * 2 ^ 30 + 2 ^ 30)) } := by
  have hvalue : (decide (v ≥ 16) && v != 0xFE && v != 0xFF) = false := by simp; omega
  rw [hu]
  exact checks_pass (by simp [hvalue, hidle])

end

section
variable {c : Instr} {s u : State} {r : Req} {w : Sender} {row : Row} {ll : Bool} {n : Nat} {v : Byte} (hn : n < 64)
include hn

/-- A granted commit that the slot takes takes effect. -/
theorem slotCommit_takes (hexec : exec c s = finish s (s.sendWrite r 0x300 (slotObj ll n) 9 0 [v]))
    (h : Grants s r 0x300 (slotObj ll n) 9 0 [v] w row)
    (hok : (if ll then (s.taking r).llCommit w n v.toNat else (s.taking r).frCommit w n v.toNat) = .ok u) :
    Takes c s (u.written r) := by
  have hrange := slotObj_range ll hn
  have hadmits : row.admits (leNat [v]) = true := h.admits (uLo := 0x300) (uHi := 0x300) (oLo := 0x200) (oHi := 0x33F)
    (ty := .num 1) (chk := .any) (by decide +kernel) (by omega) (by omega) (by simp) rfl
  refine granted_takes hexec h (by simp [fansOut]; omega) (by simp [mayDefer]) ?_
  rw [objWrite_slotCommit hadmits ll hn, leNat_byte, hok]

/-- A granted owner write that the slot takes takes effect. -/
theorem slotOwnerWrite_takes (hexec : exec c s = finish s (s.sendWrite r 0x300 (slotObj ll n) 0 0 [v]))
    (h : Grants s r 0x300 (slotObj ll n) 0 0 [v] w row) (hv : v.toNat ≤ 15 ∨ v.toNat = 0xFE ∨ v.toNat = 0xFF)
    (hok : (s.taking r).slotOwnerWrite ll n v.toNat = .ok u) : Takes c s (u.written r) := by
  have hrange := slotObj_range ll hn
  have hadmits : row.admits (leNat [v]) = true := h.admits (uLo := 0x300) (uHi := 0x300) (oLo := 0x200) (oHi := 0x33F)
    (ty := .num 1) (chk := .owner) (by decide +kernel) (by omega) (by omega) (by simp) (by simpa [Chk.ok] using hv)
  refine granted_takes hexec h (by simp [fansOut]; omega) (by simp [mayDefer]) ?_
  rw [objWrite_slotOwner hadmits ll hn, leNat_byte, hok]

end

/-! ## The recode command (04 R155, 05 R179) -/

theorem allZero_zeros (n : Nat) : allZero (zeros n) = true := by simp [allZero, zeros]

section
variable (region : U16) (op : Byte) (rest : Bytes)

/-- A recode command names its region first. -/
@[simp] theorem recodeBytes_region : field (recodeBytes region op rest) 0 2 = region.toNat := by
  simpa [recodeBytes] using field_append [] (op :: rest) 0 2 region.toNat rfl (by omega)

/-- Then comes its code. -/
@[simp] theorem recodeBytes_op : field (recodeBytes region op rest) 2 1 = op.toNat := by
  simp [recodeBytes, field, slice, leBytes, zeros]

/-- And then its reserved bytes. -/
theorem recodeBytes_reserved (h : rest.length = 5) : slice (recodeBytes region op rest) 3 5 = rest := by
  rw [recodeBytes, slice_append_right _ _ _ _ (by simp)]
  exact slice_all _ _ h.symm

end

section
variable {s : State} {w : Sender} {region : U16} {op : Byte} {x : Region} {ll : Bool}
  (hx : s.declared region.toNat = some x) (hact : w.mayActFor x.owner = true)
include hx hact

/-- A start that meets the conditions of its rows takes the first free sweep, over the tiles that need it. -/
theorem recodeWrite_start (hop : op = if ll then 3 else 1)
    (hshared : x.shared = true → w.fm = true ∧ (∀ a ∈ s.attaches, a.2.region = region.toNat → 3 ≤ a.2.kind)
      ∧ (s.insts.filter (fun i => i.region == region.toNat)).length ≤ 1)
    (hlayout : x.layout ≠ 1) (hnone : ∀ z ∈ s.sweeps, z.2.region = region.toNat → z.2.state ≠ 1) {i : Nat}
    (hfree : firstBelow 16 (fun i => (tabGet s.sweeps i).all (fun z => z.state != 1)) = some i) {z : Sweep}
    (hz : z = { region := region.toNat, state := 1, ll := ll, left := [], recoded := 0 }) :
    s.recodeWrite w (recodeBytes region op (zeros 5))
      = .ok (State.settleSweeps { s with sweeps := tabSet s.sweeps i { z with left := s.sweepTiles z } }) := by
  have hcode : (op.toNat == 1 || op.toNat == 3) = true ∧ decide (op.toNat ≥ 3) = ll ∧ ¬ (op.toNat = 0 ∨ op.toNat > 4) := by
    rw [hop]; cases ll <;> decide
  obtain ⟨hstart, hll, hknown⟩ := hcode
  have hmine : s.sweeps.find? (fun z => z.2.region == region.toNat && z.2.state == 1) = none := by
    simpa [List.find?_eq_none] using fun k z hk => hnone (k, z) hk
  simp only [State.recodeWrite, recodeBytes_region, recodeBytes_op, recodeBytes_reserved region op _ (zeros_length 5),
    hx, hstart, hll, hfree, hmine, hz, Option.getD_some, if_true]
  refine checks_pass ?_
  simpa [hknown, hact, allZero_zeros] using ⟨fun h => (hshared h).1, hlayout, fun h =>
    let ⟨_, hkinds, hinsts⟩ := hshared h
    ⟨fun k a hk => hkinds (k, a) hk, hinsts⟩⟩

/-- A cancel that meets the conditions of its rows ends the region's sweep and the moves it has begun. -/
theorem recodeWrite_cancel (hop : op = if ll then 4 else 2) (hshared : x.shared = true → w.fm = true) {i : Nat} {z : Sweep}
    (hmine : s.sweeps.find? (fun z => z.2.region == region.toNat && z.2.state == 1) = some (i, z)) (hz : z.ll = ll) :
    s.recodeWrite w (recodeBytes region op (zeros 5))
      = .ok (State.abortWhere { s with sweeps := tabSet s.sweeps i { z with state := 3 } } 0x0D
        (fun m => decide (m.by_ = .sweep i) && m.state != 3)) := by
  have hcode : (op.toNat == 1 || op.toNat == 3) = false ∧ decide (op.toNat ≥ 3) = ll ∧ ¬ (op.toNat = 0 ∨ op.toNat > 4) := by
    rw [hop]; cases ll <;> decide
  obtain ⟨hstart, hll, hknown⟩ := hcode
  simp only [State.recodeWrite, recodeBytes_region, recodeBytes_op, recodeBytes_reserved region op _ (zeros_length 5),
    hx, hstart, hll, hmine, hz, Option.getD_some, if_false, ne_eq, not_true_eq_false,
    Bool.false_eq_true]
  refine checks_pass ?_
  simpa [hknown, hact, allZero_zeros] using hshared

end

/-- A granted recode command that the codecs take takes effect. -/
theorem recode_takes {c : Instr} {s u : State} {r : Req} {w : Sender} {row : Row} {b : Bytes}
    (hexec : exec c s = finish s (s.sendWrite r 0x300 0x140 0 0 b)) (h : Grants s r 0x300 0x140 0 0 b w row)
    (hok : (s.taking r).recodeWrite w b = .ok u) : Takes c s (u.written r) := by
  have hadmits : row.admits (leNat b) = true := h.admits (uLo := 0x300) (uHi := 0x300) (oLo := 0x140) (oHi := 0x140)
    (ty := .bytes 8) (chk := .any) (by decide +kernel) (by omega) (by omega) (by simp) rfl
  exact granted_takes hexec h rfl (by simp [mayDefer]) ((objWrite_recode hadmits 0).trans hok)

/-! ## The statement of 04_fixed_rate_codec.md and 05_lossless_codec.md -/

/-- Settles O32: each command is a granted write (`slotCommit_takes`, `slotOwnerWrite_takes`, `recode_takes`), none of whose refusals
holds. -/
theorem codecCommandsTakeEffect : Obligations.CodecCommandsTakeEffect := by
  unfold Obligations.CodecCommandsTakeEffect
  rintro s t r w row rfl
  refine ⟨fun slot => ⟨?frCommit, ?frDefault, ?llCommit, ?owner⟩, ?start, ?cancel⟩
  case frCommit =>
    intro h howns himage hidle
    exact slotCommit_takes (ll := false) slot.isLt rfl h (frCommit_image howns himage hidle)
  case frDefault =>
    intro v hv h howns hidle
    exact slotCommit_takes (ll := false) slot.isLt rfl h (frCommit_default hv howns hidle)
  case llCommit =>
    intro h howns himage hidle
    exact slotCommit_takes (ll := true) slot.isLt rfl h (llCommit_image howns himage hidle)
  case owner =>
    intro ll v u h hv hidle hu
    have hv' : v.toNat ≤ 15 ∨ v.toNat = 0xFE ∨ v.toNat = 0xFF :=
      hv.imp_right (Or.imp (congrArg BitVec.toNat) (congrArg BitVec.toNat))
    exact slotOwnerWrite_takes slot.isLt (by cases ll <;> rfl) h hv' (slotOwnerWrite_taken hv' hidle hu)
  case start =>
    intro region x ll i hx hact hshared hlayout h hnone hfree z hz
    exact recode_takes (by cases ll <;> rfl) h (recodeWrite_start hx hact rfl hshared hlayout hnone hfree hz)
  case cancel =>
    intro region x ll i z hx hact hshared h hmine hz
    exact recode_takes (by cases ll <;> rfl) h (recodeWrite_cancel hx hact rfl hshared hmine hz)

end Sys2Proof.Machine
end

section
/-!
SUPPORT. The steps of a move: what ALLOC leaves behind, the copy of an ALLOCed record, the flip that frees it, and the retry of T3 reads.
-/
namespace Sys2Proof.Machine

/-! ## What an event leaves of the stored tiles and the moves -/

theorem OnlyEvents.moves {s t : State} : OnlyEvents s t → t.moves = s.moves := by rintro ⟨_, _, _, _, rfl⟩; rfl

/-- A wait that ends leaves its trace: dictionary scalars and the trace rings. -/
theorem traceWait_only (s : State) (u : Nat) (w : Wait) : OnlyEvents s (s.traceWait u w) := by
  unfold State.traceWait
  split
  · unfold State.tracePut
    extract_lets n t v
    have ht : OnlyEvents s t := (OnlyEvents.bump ..).trans (.bump ..)
    have hv : OnlyEvents s v := by
      unfold v
      split
      · exact ht.trans (.bump ..)
      · exact ht
    exact hv.trans ⟨_, _, _, _, rfl⟩
  · exact .refl s

/-- The end of a tile's waits for a record: their traces, and the list of waits. -/
theorem endMoveWaits_shape (s : State) (k r : Nat) (party : MoveBy → Nat) :
    ∃ t W, OnlyEvents s t ∧ s.endMoveWaits k r party = { t with moveWaits := W } :=
  ⟨_, _, foldl_keeps (P := OnlyEvents s) (fun _ _ ht => ht.trans (traceWait_only ..)) _ _ (.refl s), rfl⟩

/-- The end of waits for a record leaves every stored tile. -/
theorem endMoveWaits_tgt (s : State) (k r : Nat) (party : MoveBy → Nat) (j : Nat) : (s.endMoveWaits k r party).tgt j = s.tgt j := by
  obtain ⟨_, _, ⟨_, _, _, _, rfl⟩, hwaits⟩ := endMoveWaits_shape s k r party
  rw [hwaits]
  rfl

/-! ## Stored tiles -/

/-- A stored tile that is there reads what was put: an UNWRITTEN entry is what a version record that does not exist reads. -/
theorem tgt_setTgt_same {s : State} {k : Nat} (e : TileEntry) (h : (s.tgt k).state ≠ 0) : (s.setTgt k e).tgt k = e := by
  unfold State.tgt at h
  unfold State.setTgt
  split
  · next hindex => rw [State.tgt, if_pos hindex, State.entry_setEntry_same]
  · next hversion =>
    split
    · rw [State.tgt, if_neg hversion]
      simp
    · next hnone =>
      rw [if_neg hversion, hnone] at h
      exact absurd rfl h

@[simp] theorem setTgt_moves (s : State) (k : Nat) (e : TileEntry) : (s.setTgt k e).moves = s.moves := by
  unfold State.setTgt
  split
  · simp
  · split <;> rfl

/-! ## ALLOC (06 R190, R191) -/

/-- A move that starts leaves its tile MOVING and its record ALLOCed. -/
theorem startMove_started {s t : State} {k kind tier cls r : Nat} {b : MoveBy} (h : s.startMove k kind tier cls b = some (r, t)) :
    (t.tgt k).state = 2
    ∧ ∃ m, tabGet t.moves r = some m ∧ m.state = 1 ∧ m.key = k ∧ m.kind = kind ∧ m.dstTier = tier := by
  unfold State.startMove at h
  extract_lets e at h
  split at h
  · exact nomatch h
  next x _ =>
  extract_lets ok at h
  split at h
  next hok =>
    split at h
    next i d _ _ =>
      have hstored : ((s.endMoveWaits k i (partyOf x)).tgt k).state ≠ 0 := by
        rw [endMoveWaits_tgt]
        change e.state ≠ 0
        obtain ⟨hvalid | hpoisoned, _⟩ := hok <;> omega
      obtain ⟨rfl, rfl⟩ := Prod.mk.inj (Option.some.inj h)
      refine ⟨congrArg TileEntry.state (tgt_setTgt_same _ (by exact hstored)), ?_⟩
      rw [setTgt_moves, tabGet_tabSet_same]
      exact ⟨_, rfl, rfl, rfl, rfl, rfl⟩
    · exact nomatch h
  · exact nomatch h

/-- ALLOC of a move that may be made and has its space starts it. -/
theorem moveAlloc_takes {s t u : State} {ask : MoveAsk} {b : MoveBy} {cls r : Nat} (hrun : s.contained = false)
    (hpolicy : s.policyPaused = false) (hu : u = s.watermark (s.payer (s.tgt ask.mapIndex).region))
    (hasker : u.moveAsker ask.mapIndex ask.kind ask.tier = some (b, cls))
    (hstart : u.startMove ask.mapIndex ask.kind ask.tier cls b = some (r, t)) : Takes (.moveAlloc ask) s t := by
  refine congrArg (finish s) ((if_neg (by simp [hrun, hpolicy])).trans ?_)
  subst hu
  simp only [hasker, hstart]

/-! ## COPY (06 R191) -/

/-- The copy of an ALLOCed record is counted; a T3 source is asked for first. -/
theorem startCopy_of_alloced {s : State} {r : Nat} {m : Move} (hm : tabGet s.moves r = some m) (hstate : m.state = 1) :
    s.startCopy r = if (s.tgt m.key).home = 3 then State.spillRead { s.bump 0x700 0x16 1 with
        moves := tabSet s.moves r { m with state := 2 } } ((s.tgt m.key).location / 2 ^ 40) ((s.tgt m.key).location % 2 ^ 40)
          (s.tgt m.key).length (.move r) none
      else (s.bump 0x700 0x16 1).copyMove r m none := by
  simp only [State.startCopy, hm]
  exact if_neg (not_not_intro hstate)

/-- COPY of the move that the mover serves. -/
theorem moveCopy_takes {s : State} {r : Nat} {m : Move} (hrun : s.contained = false) (hm : tabGet s.moves r = some m)
    (hturn : s.serves (fun _ o => o.state == 1 && o.kind != 6) r m = true) :
    Takes (.moveCopy r) s (State.afterCopy s (s.startCopy r) r) := by
  refine congrArg (finish s) ?_
  rw [hm]
  exact if_neg (by simp [hrun, hturn])

/-! ## CONFIRM, FLIP and RELEASE (06 R191, R192, R194) -/

/-- CONFIRM of a durable move that the mover serves. -/
theorem moveConfirm_takes {s : State} {r : Nat} {m : Move} (hrun : s.contained = false) (hm : tabGet s.moves r = some m)
    (hdurable : s.moveDurable r m = true) (hcaddy : s.caddyLost m.dst = false) (hturn : s.serves s.moveDurable r m = true) :
    Takes (.moveConfirm r) s (((s.flipMove r).writeResiduals m).retryFlips) := by
  refine congrArg (finish s) ?_
  rw [hm]
  exact (if_neg (by simp [hrun, hdurable, hturn])).trans (if_neg (by simp [hcaddy]))

@[simp] theorem freeHome_moves (s : State) (e : TileEntry) : (s.freeHome e).moves = s.moves := by
  unfold State.freeHome
  split
  · rfl
  · split
    · rfl
    · split <;> rfl

@[simp] theorem slotsOf_moves (s : State) (e : TileEntry) : (s.slotsOf e).moves = s.moves := by
  unfold State.slotsOf
  simp [apply_ite State.moves, (slotCheck_only ..).moves]

theorem accountLate_moves (s : State) (n : Nat) (x : Sched) : (s.accountLate n x).2.moves = s.moves := by
  unfold State.accountLate
  extract_lets u lim
  split
  · rfl
  · dsimp only
    split
    · rw [State.bump_moves, (raise_only ..).moves]
      rfl
    · rfl

@[simp] theorem schedCheck_moves (s : State) (n : Nat) : (s.schedCheck n).moves = s.moves := by
  unfold State.schedCheck
  split
  · rfl
  · split
    · rfl
    · split
      next y t hlate =>
      have ht : t.moves = s.moves := by
        split at hlate
        · rw [← accountLate_moves s n, hlate]
        · rw [(Prod.mk.inj hlate).2]
      split <;> exact ht

@[simp] theorem moveEnded_moves (s : State) (r : Nat) (m : Move) (c : Option Nat) : (s.moveEnded r m c).moves = s.moves := by
  unfold State.moveEnded
  split
  · split
    · simp
    · rfl
  · rfl
  · split <;> rfl
  · rfl

@[simp] theorem settleSweeps_moves (s : State) : s.settleSweeps.moves = s.moves := rfl

/-- A flip frees the record of its move. -/
theorem tabGet_flipMove_moves_same (s : State) (r : Nat) : tabGet (s.flipMove r).moves r = none := by
  unfold State.flipMove
  split
  · assumption
  · simp [apply_ite State.moves, tabGet_tabDel]

/-! ## T3 reads (06 R208, R209) -/

section
variable {s : State} {ld : Fin 16} {page : Nat} (hwaits : s.retryable ld page ≠ []) (hreach : s.spillReachable ld = true)
include hwaits hreach

/-- A retry that leaves no read of the page waiting has issued them all again. -/
theorem t3ReadRetry_takes_issued {t : State}
    (ht : t = (s.retryable ld page).foldl (fun u f => u.spillRead ld (f.2.location % 2 ^ 40) f.2.length f.1 (some page)) s)
    (hissued : ∀ f ∈ s.retryable ld page, t.dmaWaits f.1 = false) : Takes (.t3ReadRetry ld page true) s t := by
  have hleft : (((s.retryable ld page).map (·.1)).filter t.dmaWaits).isEmpty = true := by
    simpa [List.isEmpty_iff, List.filter_eq_nil_iff] using hissued
  refine congrArg (finish s) ((if_neg (by simpa using hwaits)).trans ((if_neg (by simp [hreach])).trans ?_))
  subst ht
  exact if_pos hleft

/-- A retry that fails fails the page. -/
theorem t3ReadRetry_takes_failed :
    Takes (.t3ReadRetry ld page false) s (s.pageFailed ld page ((s.retryable ld page).map (·.1))) :=
  congrArg (finish s) ((if_neg (by simpa using hwaits)).trans (if_neg (by simp [hreach])))

end

/-! ## The statement of 06_tiers_and_moves.md, moves -/

/-- Settles O13: each step takes the branch that its premises choose, ALLOC leaves what `startMove_started` says, and the flip frees the
record. -/
theorem movesComplete : Obligations.MovesComplete := by
  unfold Obligations.MovesComplete
  refine ⟨?alloc, ?copy, ?confirm, ?retry, ?reachable⟩
  case alloc =>
    intro s t u ask b cls r hrun hpolicy hu hasker hstart
    exact ⟨moveAlloc_takes hrun hpolicy hu hasker hstart, startMove_started hstart⟩
  case copy =>
    intro s r m hrun hm hstate _ hturn
    have htakes := moveCopy_takes hrun hm hturn
    rw [startCopy_of_alloced hm hstate] at htakes
    exact ⟨fun hhome => by rwa [if_neg hhome] at htakes, fun hhome => by rwa [if_pos hhome] at htakes⟩
  case confirm =>
    intro s r m hrun hm hdurable hcaddy hturn
    exact ⟨moveConfirm_takes hrun hm hdurable hcaddy hturn, tabGet_flipMove_moves_same s r⟩
  case retry =>
    intro s t ld page hwaits hreach ht
    exact ⟨t3ReadRetry_takes_issued hwaits hreach ht, t3ReadRetry_takes_failed hwaits hreach⟩
  case reachable =>
    intro s ld hreach
    exact congrArg (finish s) (if_pos hreach)

end Sys2Proof.Machine
end

section
/-!
SUPPORT. The end of a thread's load: with its line, with its host data, or with poison.
-/
namespace Sys2Proof.Machine

section
variable {s : State} {l : Load}

/-! ## How a load ends (12 R404, R434) -/

section
variable {x : Thread} (hx : s.thread (ThreadKey l.thread) = some x)
include hx

/-- A load that ends with its line or its host data gives its register the value; a line of DPA is offered to the core's L1. -/
theorem endLoad_data (b : Bytes) {u : State}
    (hu : u = ({ s with loads := s.loads.filter (fun y => y.id != l.id) } : State).traceLoad l x.job) :
    s.endLoad l (some b) =
      if l.addr < 0x100000000000 then (u.l1Fill l b).setThread (ThreadKey l.thread) (x.loaded l.kind (b.drop (l.addr % 64)))
      else u.setThread (ThreadKey l.thread) (x.loaded l.kind b) := by
  simp only [State.endLoad, hx, hu]

/-- A load that ends with poison raises poison consumed with its line's address. -/
theorem endLoad_poison {u : State}
    (hu : u = ({ s with loads := s.loads.filter (fun y => y.id != l.id) } : State).traceLoad l x.job) :
    s.endLoad l none = u.except l.thread 6 false l.word l.pc (l.addr / 64 * 64) := by
  simp only [State.endLoad, hx, hu]

end

/-! ## THREAD_LOAD_COMPLETE (11 R362, 06 R195) -/

section
variable (hl : s.loads.find? (fun y => y.id == l.id) = some l)
  (hkind : (∃ rd n sg, l.kind = .scalar rd n sg) ∨ (∃ vd m nt, l.kind = .vector vd m nt))
include hl hkind

/-- The completion of a register's load whose line has arrived ends it with that line. -/
theorem threadLoadComplete_of_arrived (harrived : l.arrived = true) (d : Option Bytes) :
    exec (.threadLoadComplete l.id d) s = finish s (s.endLoad l l.data) := by
  refine congrArg (finish s) ?_
  rcases hkind with ⟨rd, n, sg, hk⟩ | ⟨vd, m, nt, hk⟩ <;> simp only [hl, hk] <;> exact if_pos harrived

/-- The completion of a register's load through the host window ends it with what host memory returns, and its DMA read with it. -/
theorem threadLoadComplete_of_host (hwaits : l.arrived = false) (hhost : 0x800000000000 ≤ l.addr)
    (hdma : ∃ d ∈ s.dmas, d.for_ = .load l.id) (d : Option Bytes) :
    exec (.threadLoadComplete l.id d) s
      = finish s (({ s with dmas := s.dmas.filter (fun d => d.for_ != .load l.id) } : State).endLoad l d) := by
  have hany : s.dmas.any (fun d => d.for_ == DmaFor.load l.id) = true := by simpa using hdma
  refine congrArg (finish s) ?_
  rcases hkind with ⟨rd, n, sg, hk⟩ | ⟨vd, m, nt, hk⟩ <;> simp only [hl, hk] <;>
    exact (if_neg (by simp [hwaits])).trans ((if_pos hhost).trans (if_pos hany))

end

end

/-! ## The statement of 06_tiers_and_moves.md, 11_compute_architecture.md and 12_gaisk_isa.md, loads -/

/-- Settles O53: a completion ends the load with its data or with poison, and `endLoad_data` and `endLoad_poison` say what each
leaves. -/
theorem loadsComplete : Obligations.LoadsComplete := by
  unfold Obligations.LoadsComplete
  intro s l x u hl hx hkind
  refine ⟨fun harrived hu => ?arrived, fun hwaits hhost hdma hu => ?host⟩
  case arrived =>
    have hends := threadLoadComplete_of_arrived hl hkind harrived none
    refine ⟨fun b hdata => ?_, fun hdata => ?_⟩
    · rwa [hdata, endLoad_data hx b hu] at hends
    · rwa [hdata, endLoad_poison hx hu] at hends
  case host =>
    have hx' : ({ s with dmas := s.dmas.filter (fun d => d.for_ != .load l.id) } : State).thread (ThreadKey l.thread) = some x := hx
    have hends := threadLoadComplete_of_host hl hkind hwaits hhost hdma
    refine ⟨fun b => ?_, ?_⟩
    · have hdata := hends (some b)
      rwa [endLoad_data hx' b hu, if_neg (by omega)] at hdata
    · have hpoison := hends none
      rwa [endLoad_poison hx' hu] at hpoison

end Sys2Proof.Machine
end

section
/-!
SUPPORT. Far modules: the ports a command reads and replaces, what settling leaves of a port without a module, and the steps of a module's
enumeration and loss.
-/
namespace Sys2Proof.Machine

/-! ## Far ports -/

@[simp] theorem State.farPort_setFarPort_same (s : State) (p : Nat) (x : FarPort) : (s.setFarPort p x).farPort p = x := by
  simp [State.farPort, State.setFarPort]

theorem State.farPort_setFarPort_of_ne (s : State) {p q : Nat} (x : FarPort) (h : p ≠ q) : (s.setFarPort p x).farPort q = s.farPort q := by
  simp [State.farPort, State.setFarPort, tabGet_tabSet_of_ne _ x h]

theorem OnlyUnits.farPort {s t : State} (h : OnlyUnits s t) (p : Nat) : t.farPort p = s.farPort p := by
  obtain ⟨_, _, _, _, _, _, rfl⟩ := h
  rfl

@[simp] theorem State.setOwn_farPort (s : State) (u own reason p : Nat) : (s.setOwn u own reason).farPort p = s.farPort p :=
  (setOwn_only s u own reason).farPort p

/-! ## Settling (07 R239, R241) -/

/-- Settling a port leaves every far port as it was, or takes that one out of service. -/
theorem farPortSettle_farPort (s : State) (q p : Nat) : (s.farPortSettle q).farPort p = s.farPort p
    ∨ (s.farPortSettle q).farPort p = { s.farPort p with released := false, active := false } := by
  unfold State.farPortSettle
  extract_lets own x
  split
  · exact .inl rfl
  · split
    · obtain rfl | hne := eq_or_ne q p
      · exact .inr (State.farPort_setFarPort_same ..)
      · exact .inl ((State.farPort_setFarPort_of_ne _ _ hne).trans (State.setOwn_farPort ..))
    · split
      · exact .inl (State.setOwn_farPort ..)
      · exact .inl rfl

/-- Settling leaves a port without a module without one. -/
theorem farPortSettle_noModule {s : State} {p : Nat} (h : s.farPort p = {}) (q : Nat) : (s.farPortSettle q).farPort p = {} := by
  obtain hsame | hout := farPortSettle_farPort s q p
  · exact hsame.trans h
  · rw [hout, h]

/-- The far tier's settling leaves a port without a module without one. -/
theorem farSettle_noModule {s : State} {p : Nat} (h : s.farPort p = {}) : s.farSettle.farPort p = {} := by
  have hports : ((List.range 8).foldl State.farPortSettle s).farPort p = {} :=
    foldl_keeps (P := fun t : State => t.farPort p = {}) (fun _ q ht => farPortSettle_noModule ht q) _ _ h
  unfold State.farSettle
  extract_lets t
  split
  · rwa [State.setOwn_farPort]
  · exact hports

/-! ## Modules (07 R223 to R225, 20 R632) -/

/-- The memory behind a far port is gone: another module stands there, or none. -/
def State.clearFarMem (s : State) (p : Nat) : State :=
  { s with farMem := s.farMem.filter (fun c => !decide (farKey p 0 ≤ c.1 ∧ c.1 < farKey p 0 + 2 ^ 41)) }

@[simp] theorem State.clearFarMem_farPort (s : State) (p q : Nat) : (s.clearFarMem p).farPort q = s.farPort q := rfl

/-- The bytes that stay are those behind the other ports. -/
theorem mem_clearFarMem {s : State} {p : Nat} {c : Host.Cell} (h : c ∈ (s.clearFarMem p).farMem) :
    c ∈ s.farMem ∧ ¬ (farKey p 0 ≤ c.1 ∧ c.1 < farKey p 0 + 2 ^ 41) := by
  obtain ⟨hmem, hkept⟩ := List.mem_filter.mp h
  exact ⟨hmem, by simpa only [Bool.not_eq_true', decide_eq_false_iff_not] using hkept⟩

/-- A module that trained at a known width and rate, with a capacity in range and no failed row, meets 07 R223. -/
theorem farRefused_none {m : FarModuleInfo} (hfailed : m.failed = none) (hwidth : m.width = 8 ∨ m.width = 4)
    (hrate : m.rate = 64 ∨ m.rate = 32) (hlo : 137438953472 ≤ m.capacity) (hhi : m.capacity ≤ 1099511627776) : farRefused m = none := by
  have htrained : ((m.width == 8 || m.width == 4) && (m.rate == 64 || m.rate == 32)) = true := by
    simp only [Bool.and_eq_true, Bool.or_eq_true, beq_iff_eq]
    exact ⟨hwidth, hrate⟩
  simp [farRefused, hfailed, htrained, hlo, hhi]

/-- The debounce time of a running module with a far reference ends: FpPERST_N of a port not asked to be OFFLINE is released. -/
theorem farPresenceStable_takes {s : State} {p : Fin 8} (hrunning : s.stage = .running) (hreq : s.requested (0x610 + p) ≠ 3)
    (href : s.farRef = true) :
    Takes (.farPresenceStable p) s (s.setFarPort p { s.farPort p with present := true, released := true, releasedAt := s.now }) := by
  have hgo : ((s.stage == .filling || s.stage == .running) && s.requested (0x610 + p) != 3 && s.farRef) = true := by
    simp [hrunning, hreq, href]
  refine congrArg (finish s) ((if_neg (by simp [hrunning])).trans ?_)
  rw [hgo, if_pos rfl]

section
variable {s : State} {p : Fin 8} {m : FarModuleInfo} (hreleased : (s.farPort p).released = true) (hidle : s.farServes p = false)
include hreleased hidle

/-- The memory of a module that fails a row of 07 R223 becomes active: its port stays refused. -/
theorem farMemoryActive_takes_refused {r : Nat} (hrefused : farRefused m = some r) : Takes (.farMemoryActive p m) s
    (((((s.clearFarMem p).setFarPort p
      { s.farPort p with
        capacity := m.capacity, width := m.width, rate := m.rate, ids := m.vendor.toNat + 65536 * m.device.toNat
        serial := m.serial.take 8, refused := true, active := false }).setOwn (0x610 + p) 6 0x0100).raise
          (0x610 + p) 0x0130 r).farPortSettle p) := by
  refine congrArg (finish s) ((if_neg (by simp [hreleased, hidle])).trans ?_)
  rw [hrefused]
  rfl

/-- The memory of a module that meets 07 R223 becomes active: its port serves as it was asked to. -/
theorem farMemoryActive_takes_served (hmeets : farRefused m = none) (hreq : s.requested (0x610 + p) ≠ 3) : Takes (.farMemoryActive p m) s
    (((s.clearFarMem p).setFarPort p
      { s.farPort p with
        capacity := m.capacity, width := m.width, rate := m.rate, ids := m.vendor.toNat + 65536 * m.device.toNat
        serial := m.serial.take 8, refused := false, active := true }).setOwn (0x610 + p)
          (if s.requested (0x610 + p) = 2 then 2 else 1) 0).farSettle := by
  refine congrArg (finish s) ((if_neg (by simp [hreleased, hidle])).trans ?_)
  rw [hmeets]
  exact if_neg hreq

end

/-- A removed module is lost as by 07 R239, and its port is emptied and settled. -/
def State.emptyFarPort (s : State) (p : Nat) : State :=
  let t := (s.loseFar p).setFarPort p {}
  (if t.farOwn p = 3 then t.setOwn (0x610 + p) 0 3 else t.farPortSettle p).farSettle

/-- The memory of a removed module goes once its port is emptied. -/
theorem farModuleRemoved_takes (s : State) (p : Fin 8) : Takes (.farModuleRemoved p) s ((s.emptyFarPort p).clearFarMem p) := rfl

/-- A removed module leaves its port empty. -/
theorem emptyFarPort_farPort (s : State) (p : Nat) : (s.emptyFarPort p).farPort p = {} := by
  unfold State.emptyFarPort
  extract_lets t
  have ht : t.farPort p = {} := State.farPort_setFarPort_same ..
  refine farSettle_noModule ?_
  split
  · rwa [State.setOwn_farPort]
  · exact farPortSettle_noModule ht p

/-! ## The statement of 07_far_store.md, modules -/

/-- Settles O16: each command takes the branch that its premises choose; a removed module leaves its port
empty (`emptyFarPort_farPort`) and no byte of its memory (`mem_clearFarMem`). -/
theorem farModuleEventsComplete : Obligations.FarModuleEventsComplete := by
  unfold Obligations.FarModuleEventsComplete
  refine ⟨fun s p => farPresenceStable_takes, ?timeout, ?served, ?refused, ?down, ?completion, ?removed, ?retrained⟩
  case timeout =>
    intro s p hreleased hidle
    exact congrArg (finish s) (if_pos (by simp [hreleased, hidle]))
  case served =>
    intro s p m hreleased hidle hfailed hwidth hrate hlo hhi hreq
    exact ⟨(s.clearFarMem p).farMem, farMemoryActive_takes_served hreleased hidle (farRefused_none hfailed hwidth hrate hlo hhi) hreq,
      fun _ => mem_clearFarMem⟩
  case refused =>
    intro s p m r hreleased hidle hrefused
    exact ⟨(s.clearFarMem p).farMem, farMemoryActive_takes_refused hreleased hidle hrefused, fun _ => mem_clearFarMem⟩
  case down =>
    intro s p hserves
    exact congrArg (finish s) (if_pos hserves)
  case completion =>
    intro s p hserves hrecovering
    exact congrArg (finish s) (if_pos (by simp [hserves, hrecovering]))
  case removed =>
    intro s p
    exact ⟨_, farModuleRemoved_takes s p, (State.clearFarMem_farPort ..).trans (emptyFarPort_farPort s p), fun _ hc => (mem_clearFarMem hc).2⟩
  case retrained =>
    intro s p
    exact ⟨_, rfl, congrArg FarPort.recovering (State.farPort_setFarPort_same ..), rfl⟩

end Sys2Proof.Machine
end

section
/-!
SUPPORT. The far store's log: stripes and seals, the copies of cleaning and their flips, and segments that are freed.
-/
namespace Sys2Proof.Machine

/-! ## Stripes and segments (07 R235, R236) -/

section
variable {s : State} {x : Seg}

/-- A stripe whose chunk writes are all acknowledged is stored, and the copies and arrivals it makes durable are settled. -/
theorem stripeWriteAck_takes {stripe : Nat} {i : Nat × Bytes} (hseg : s.seg (stripe / 64) = some x)
    (hissued : x.issued.find? (fun i => i.1 == stripe % 64 && stripe % 64 != 63) = some i) :
    Takes (.stripeWriteAck stripe) s (((s.setSeg (stripe / 64) { x with
      issued := x.issued.filter (·.1 != stripe % 64), acked := x.acked ++ [stripe % 64] }).storeStripe x stripe i.2).cleanDurable.arrivals) := by
  refine congrArg (finish s) ?_
  simp only [hseg, hissued]

/-- A segment whose summary stripe is acknowledged seals. -/
theorem segmentSeal_takes {g : Nat} {i : Nat × Bytes} (hseg : s.seg g = some x) (hissued : x.issued.find? (fun i => i.1 == 63) = some i) :
    Takes (.segmentSeal g) s ((s.setSeg g { x with
      issued := x.issued.filter (·.1 != 63), summarised := true, state := 2, sealedAt := s.now }).storeStripe x (64 * g + 63) i.2) := by
  refine congrArg (finish s) ?_
  simp only [hseg, hissued]

/-- A chunk write of an issued stripe that fails on a member closes the segment without the stripe, whose records are appended again. -/
theorem chunkWriteFailure_takes {stripe : Nat} {p : Fin 8} (hseg : s.seg (stripe / 64) = some x) (hmember : x.mask.testBit p = true)
    (hdata : stripe % 64 ≠ 63) (hissued : ∃ i ∈ x.issued, i.1 = stripe % 64) :
    Takes (.chunkWriteFailure stripe p) s
      (((s.setSeg (stripe / 64) { x with issued := x.issued.filter (·.1 != stripe % 64), crcs := x.keepStripes (· != stripe % 64) }).closeSegment
        (stripe / 64) (stripeSectors x.mask)).appendAgain x.stream
          (s.farRecs.filter (fun f => f.sector / 131072 == stripe / 64 && (s.recStripes f).2.contains (stripe % 64))) p) := by
  have hwritten : x.issued.any (fun i => i.1 == stripe % 64 && stripe % 64 != 63) = true := by
    obtain ⟨i, hi, hstripe⟩ := hissued
    exact List.any_eq_true.mpr ⟨i, hi, by simp [hstripe, hdata]⟩
  refine congrArg (finish s) ?_
  simp only [hseg]
  exact if_neg (by simp [hmember, hwritten])

/-! ## Cleaning (07 R242 to R244) -/

/-- Cleaning marks the chosen segment and copies its live tiles one after the other; a guest tile waits for room in the reserve. -/
theorem cleaningCopy_takes {g : Nat} (hchoice : s.cleanChoice = some g) (hseg : s.seg g = some x) :
    Takes .cleaningCopy s ((s.tilesIn g).foldl (fun s k =>
      if (s.tgt k).region = guestRegion ∧ s.farRoom guestPayer (256 * (s.tgt k).length) = false then s
      else if (s.startClean k).nextCopy > s.nextCopy then (s.startClean k).bump 0x600 0x1C (s.tgt k).length else s.startClean k)
      (s.setSeg g { x with state := 3 })) := by
  refine congrArg (finish s) ?_
  simp only [hchoice, hseg]
  refine List.foldl_ext _ _ _ fun t k _ => ?_
  by_cases hwaits : (t.tgt k).region = guestRegion ∧ t.farRoom guestPayer (256 * (t.tgt k).length) = false
  · simp only [if_pos hwaits, gt_iff_lt, lt_irrefl, if_false]
  · simp only [if_neg hwaits]

/-- A segment being cleaned that holds and awaits nothing any more is freed, and the held writes that want its space are tried again. -/
theorem segmentFree_takes {g : Nat} (hseg : s.seg g = some x) (hcleaning : x.state = 3) (hempty : s.segIdle g = true) :
    Takes (.segmentFree g) s
      (((({ s with segs := tabDel s.segs g }).bump 0x600 0x1B 1).farSettle).retryHeld (fun h => h.why == HoldFor.space)) := by
  refine congrArg (finish s) ?_
  simp only [hseg, hcleaning, hempty, or_true, and_self, if_true]

end

/-- A durable copy of a tile that is not MOVING goes: to the tile, if the entry still names the old record, and otherwise nowhere. -/
theorem execCleaningFlip_of_durable {s : State} {i : Nat} {c : CleanCopy} (hcopy : tabGet s.cleanCopies i = some c)
    (hdurable : c.durable = true) (hstill : (s.tgt c.key).state ≠ 2) : exec (.cleaningFlip i) s = finish s
    (if (s.tgt c.key).home = 2 ∧ (s.tgt c.key).location = c.old ∧ ((s.tgt c.key).state = 1 ∨ (s.tgt c.key).state = 3)
        ∧ (s.tgt c.key).length = c.length then
      ({ s with cleanCopies := tabDel s.cleanCopies i } : State).setTgt c.key { s.tgt c.key with location := c.new }
    else ({ s with cleanCopies := tabDel s.cleanCopies i } : State).bump 0x600 0x1D 1) := by
  refine congrArg (finish s) ?_
  rw [hcopy]
  exact if_neg (by simp [hdurable, hstill])

/-! ## The statement of 07_far_store.md, the log -/

/-- Settles O17: each command finds the segment, the stripe, the copy or the access that its premises name, and takes the branch they
choose. -/
theorem farStoreCommandsComplete : Obligations.FarStoreCommandsComplete := by
  unfold Obligations.FarStoreCommandsComplete
  refine ⟨?flush, fun s stripe x i hseg _ => stripeWriteAck_takes hseg, fun s g x i => segmentSeal_takes,
    fun s stripe p x => chunkWriteFailure_takes, ?read, fun s g x => cleaningCopy_takes, ?flip, ?drop, fun s g x => segmentFree_takes⟩
  case flush =>
    intro s k g x hopen
    refine congrArg (finish s) ?_
    rw [hopen]
  case read =>
    intro s a bad ha
    refine congrArg (finish s) ?_
    rw [ha]
  case flip =>
    intro s i c hcopy hdurable hhome hold hvalid hlength
    have hexec := execCleaningFlip_of_durable hcopy hdurable (by omega)
    rwa [if_pos ⟨hhome, hold, .inl hvalid, hlength⟩] at hexec
  case drop =>
    intro s i c hcopy hdurable hhome hstill
    have hexec := execCleaningFlip_of_durable hcopy hdurable hstill
    rwa [if_neg (by simp [hhome])] at hexec

end Sys2Proof.Machine
end

section
/-!
SUPPORT. The schedule table: the bytes of an entry that a command arms or disarms, a write of one whole entry, and what the entry becomes.
-/
namespace Sys2Proof.Machine

/-! ## The armed flag (08 R264) -/

/-- The bit that is set reads back. -/
theorem testBit_setBit_same (v i : Nat) (b : Bool) : (setBit v i b).testBit i = b := by
  cases b with
  | true => simp [setBit]
  | false =>
    by_cases h : v.testBit i = true
    · have hodd : v / 2 ^ i % 2 = 1 := by simpa [Nat.testBit_eq_decide_div_mod_eq] using h
      have hless : (v - 2 ^ i) / 2 ^ i = v / 2 ^ i - 1 := by simpa using Nat.sub_mul_div v (2 ^ i) 1
      have heven : (v / 2 ^ i - 1) % 2 ≠ 1 := by omega
      simp only [setBit, h, Bool.false_eq_true, if_false, if_true, Nat.testBit_eq_decide_div_mod_eq, hless, heven, decide_false]
    · simp [setBit, h]

section
variable {bytes : Bytes} (hbytes : bytes.length = 32) (on : Bool)
include hbytes

theorem armedEntry_length : (armedEntry bytes on).length = 32 := by simp [armedEntry, patch, hbytes]

/-- An entry that holds the bytes of a command is armed as the command sets it. -/
theorem armed_armedEntry {x : Sched} (hx : x.bytes = armedEntry bytes on) : x.armed = on := by
  rw [Sched.armed, hx, armedEntry, leBytes, leBytes, field_patch_byte bytes 1 _ (by omega), BitVec.toNat_ofNat, Nat.testBit_mod_two_pow,
    testBit_setBit_same]
  simp

end

/-! ## A write of one whole entry (08 R251, R279) -/

/-- The byte at an offset is the field of one byte there. -/
theorem toNat_nth (b : Bytes) (k : Nat) : (nth b k 0).toNat = field b k 1 := by
  by_cases h : k < b.length <;>
    simp [nth, field, slice, zeros, List.getD_eq_getElem?_getD, List.take_one, h]

/-- A request that passes the checks lies in its member. -/
theorem spanOk_of_access {s : State} {w : Sender} {u o m off len : Nat} {write fits : Bool} {row : Row}
    (h : s.access w u o m off len write fits = .ok row) : spanOk u o row off len write = true := by
  unfold State.access at h
  split at h
  · exact nomatch h
  split at h
  · exact nomatch h
  split at h
  · exact nomatch h
  split at h
  · exact nomatch h
  split at h
  · exact nomatch h
  · next hspan =>
    split_ifs at h <;> simpa [Except.ok.inj h] using (not_or.mp hspan).2

section
variable {s u : State} {r : Req} {w : Sender} {row : Row} {n : Nat} {b : Bytes}

/-- A granted write of the schedule table lies in the table. -/
theorem scheduleTable_end {off : Nat} (h : Grants s r 0x800 0x140 0 off b w row) : off + b.length ≤ 524288 := by
  obtain ⟨-, haccess, -⟩ := h
  have hty : row.ty = .bytes 524288 := (rowOf_has (uLo := 0x800) (uHi := 0x800) (oLo := 0x140) (oHi := 0x140) (chk := .any)
    (by decide +kernel) (by omega) (by omega) (rowOf_of_access haccess)).1
  have hspan := spanOk_of_access haccess
  simp only [spanOk, hty, Bool.and_eq_true, decide_eq_true_eq] at hspan
  exact hspan.1

theorem objWrite_scheduleTable (h : row.admits (leNat b) = true) (m off : Nat) :
    s.objWrite w 0x800 0x140 m off row b = s.scheduleWrite w off b := by
  simp [State.objWrite, fansOut, admits_iff.mp h]

/-- A write of a whole entry that is cleared, or names a cadence of its own LD, names no other's; the next entry keeps its cadence. -/
theorem namesOther_whole (hb : b.length = 32) (hcad : allZero b = true ∨ field b 2 1 / 4 = schedLd n) {old : Nat → Bytes}
    (hold : (old n).length = 32) : namesOther 32 32768 2 (32 * n) b old = false := by
  have hpatch : patch (old n) 0 b = b := by simp [patch, hb, hold]
  have htouched : (32 * n + b.length) / 32 + 1 - 32 * n / 32 = 2 := by omega
  have hfirst : 32 * n / 32 = n := by omega
  rw [namesOther, htouched, hfirst]
  refine List.any_eq_false.mpr fun i hi => ?_
  obtain rfl | rfl : i = 0 ∨ i = 1 := by have := List.mem_range.mp hi; omega
  · have hld : 32 * n / 32768 = schedLd n := by unfold schedLd; omega
    have hlo : (32 * n).max (32 * n) = 32 * n := Nat.max_self _
    have hhi : (32 * n + 32).min (32 * n + 32) = 32 * n + 32 := Nat.min_self _
    have htake : (b.drop 0).take (32 * n + 32 - 32 * n) = b := by simp [hb]
    simp only [Nat.add_zero, hb, hlo, hhi, Nat.sub_self, htake, hpatch, toNat_nth, hld]
    obtain hzero | hown := hcad
    · simp [hzero]
    · simp [hown]
  · have hpast : ¬ 32 * (n + 1) + 2 < 32 * n + 32 := by omega
    simp [hb, hpast]

/-- A write of a whole entry by a sender whose slice it lies in is the write of that entry. -/
theorem scheduleWrite_whole (hb : b.length = 32) (hslice : w.inSlice 32768 (32 * n) 32 = true)
    (hcad : allZero b = true ∨ field b 2 1 / 4 = schedLd n) : s.scheduleWrite w (32 * n) b = s.writeEntry n b := by
  have hne : b ≠ [] := by rintro rfl; simp at hb
  have hpatch : patch (slice (s.entryOf n).bytes 0 32) (32 * n - 32 * n) b = b := by simp [patch, hb]
  rw [State.scheduleWrite, if_neg (by simp [hb, hslice]), if_neg (by simp [namesOther_whole hb hcad]),
    writeTable_within (n := n) hne (by decide) (by omega) (by omega), hpatch]

/-- A command that writes a whole entry takes effect when the write is granted and the entry takes it. -/
theorem scheduleEntry_takes {c : Instr} (hexec : exec c s = finish s (s.sendWrite r 0x800 0x140 0 (32 * n) b))
    (h : Grants s r 0x800 0x140 0 (32 * n) b w row) (hb : b.length = 32) (hslice : w.inSlice 32768 (32 * n) 32 = true)
    (hcad : allZero b = true ∨ field b 2 1 / 4 = schedLd n) (hok : (s.taking r).writeEntry n b = .ok u) : Takes c s (u.written r) := by
  have hadmits : row.admits (leNat b) = true := h.admits (uLo := 0x800) (uHi := 0x800) (oLo := 0x140) (oHi := 0x140)
    (ty := .bytes 524288) (chk := .any) (by decide +kernel) (by omega) (by omega) (by simp) rfl
  have hend := scheduleTable_end h
  refine granted_takes hexec h rfl (by simp [mayDefer]) ?_
  rw [objWrite_scheduleTable hadmits, scheduleWrite_whole hb hslice hcad, hok]

end

/-! ## What the entry becomes (08 R265) -/

/-- An entry with new bytes that has just been armed: it waits, and nothing of it is issued. -/
def Sched.onceArmed (x : Sched) (b : Bytes) : Sched :=
  { x with bytes := b, status := 1, lam := none, issued := false, done := false, waiting := [], late := false, reachedAt := none
           noSpace := false, unreachable := false, restart := false, decodeWait := 0, transferWait := 0 }

/-- An entry with new bytes that has just been disarmed: its status is 0. -/
def Sched.onceDisarmed (x : Sched) (b : Bytes) : Sched :=
  { x with bytes := b, status := 0, lam := none, issued := false, done := false, waiting := [], late := false, reachedAt := none }

section
variable {s : State} {n : Nat} {b : Bytes}

/-- New bytes that arm or disarm an entry differ from its own. -/
theorem bytes_ne_of_armed {x y : Sched} (h : y.armed ≠ x.armed) : y.bytes ≠ x.bytes :=
  fun hbytes => h (by simp [Sched.armed, hbytes])

/-- An entry that is not armed takes bytes that arm it and pass the checks of arming. -/
theorem writeEntry_arms (hidle : (s.entryOf n).armed = false) (harms : ({ s.entryOf n with bytes := b } : Sched).armed = true)
    (hgood : s.badEntry n b = false) : s.writeEntry n b = .ok (s.setEntryOf n ((s.entryOf n).onceArmed b)) := by
  have hnew : b ≠ (s.entryOf n).bytes := bytes_ne_of_armed (y := { s.entryOf n with bytes := b }) (by simp [harms, hidle])
  exact (if_neg hnew).trans ((if_neg (by simp [hidle])).trans ((if_pos harms).trans (if_neg (by simp [hgood]))))

/-- An armed entry takes bytes that differ in the flags alone and disarm it. -/
theorem writeEntry_disarms (harmed : (s.entryOf n).armed = true) (hclears : ({ s.entryOf n with bytes := b } : Sched).armed = false)
    (hflags : field b 1 1 < 8) (hsame : patch b 1 (zeros 1) = patch (s.entryOf n).bytes 1 (zeros 1)) :
    s.writeEntry n b = .ok (s.setEntryOf n ((s.entryOf n).onceDisarmed b)) := by
  have hnew : b ≠ (s.entryOf n).bytes := bytes_ne_of_armed (y := { s.entryOf n with bytes := b }) (by simp [hclears, harmed])
  exact (if_neg hnew).trans ((if_pos harmed).trans ((if_neg (by omega)).trans ((if_neg (not_not_intro hsame)).trans
    (if_neg (by simp [hclears])))))

end

/-! ## The statement of 08_cadence.md, schedule entries -/

/-- Settles O34: each command is a granted write of one whole entry (`scheduleEntry_takes`), which arms the entry (`writeEntry_arms`) or
disarms it (`writeEntry_disarms`). -/
theorem scheduleCommandsTakeEffect : Obligations.ScheduleCommandsTakeEffect := by
  unfold Obligations.ScheduleCommandsTakeEffect
  rintro s t r w row n bytes b x rfl hbytes rfl
  refine ⟨?arm, ?disarm⟩
  case arm =>
    rintro rfl h hslice hidle hcad hgood
    exact scheduleEntry_takes rfl h (armedEntry_length hbytes true) hslice (.inr hcad)
      (writeEntry_arms hidle (armed_armedEntry hbytes true rfl) hgood)
  case disarm =>
    rintro rfl h hslice harmed hsame hflags hcad
    exact scheduleEntry_takes rfl h (armedEntry_length hbytes false) hslice hcad
      (writeEntry_disarms harmed (armed_armedEntry hbytes false rfl) hflags hsame)

end Sys2Proof.Machine
end

section
/-!
SUPPORT. The instar commands: the rows that every member passes first, and what each command that meets the conditions of its own rows
answers.
-/
namespace Sys2Proof.Machine

/-! ## The instar command member (09 R312) -/

/-- The write of the instar command member. -/
theorem objWrite_instarCommand {s : State} {w : Sender} {row : Row} {b : Bytes} (h : row.admits (leNat b) = true) (m off : Nat) :
    s.objWrite w 0x900 0x140 m off row b = s.instarCommand w b := by
  simp [State.objWrite, fansOut, admits_iff.mp h]

/-- A granted instar command takes effect when the member takes it. -/
theorem instarCommand_takes {i : Instr} {s u : State} {r : Req} {w : Sender} {row : Row} {op : Byte} {cmd b : Bytes}
    (hexec : exec i s = finish s (s.commandWrite r 0x900 0 op cmd)) (hb : b = patch cmd 0 [op])
    (h : Grants s r 0x900 0x140 0 0 b w row) (hok : (s.taking r).instarCommand w b = .ok u) : Takes i s (u.written r) := by
  have hadmits : row.admits (leNat b) = true := h.admits (uLo := 0x900) (uHi := 0x900) (oLo := 0x140) (oHi := 0x140)
    (ty := .bytes 32) (chk := .any) (by decide +kernel) (by omega) (by omega) (by simp) rfl
  rw [State.commandWrite, ← hb] at hexec
  exact granted_takes hexec h rfl (by simp [mayDefer]) ((objWrite_instarCommand hadmits 0 0).trans hok)

/-! ## The commands of a member (09 R313) -/

section
variable {s : State} {w : Sender} {c : InstarCmd}
  (hread : s.memberRight w c.region false = true) (hshared : (s.sharedOf c.region).isSome = true)
  (hreserved : c.reserved = false) (hzero : c.ld = 0)
include hread hshared hreserved hzero

/-- The rows that every command of a member passes first: the member has the rights, and the fields its command does not use are 0. -/
theorem memberChecks_pass {write : Bool} (hwrite : write = true → s.memberRight w c.region true = true)
    (haccess : c.op ≠ 1 → c.access = 0) : ∀ k ∈ s.memberChecks w c write, k.1 = false := by
  have hpresent : (s.sharedOf c.region).isNone = false := Option.isNone_eq_false_iff.mpr hshared
  simpa [State.memberChecks, hread, hpresent, hreserved, hzero] using ⟨hwrite, haccess⟩

/-- An ATTACH that meets the conditions of its rows enters an attachment, with a version drawn for a writer (09 R286, R288). -/
theorem imAttach_taken {x : Region} {ld id v : Nat} {u : State} (hld : w.ld = some ld) (hx : s.region c.region = some x) (hop : c.op = 1)
    (haccess : c.access = 1 ∨ c.access = 2) (hwrite : c.access = 2 → s.memberRight w c.region true = true)
    (hinst : (s.instOf c.region (s.namedInst c.region c.inst)).isSome = true) (hholds : s.memberHolds x ld = true)
    (hnone : s.noAttach w c.region = true) (hfree : s.freeAttach = some id)
    (hcounter : c.access = 2 → ∀ y, s.sharedOf c.region = some y → y.counter < 0xFFFFFFFF)
    (hdraw : (v, u) = if c.access = 2 then s.drawVersion c.region else (0, s)) :
    s.imAttach w c = .ok (({ u with attaches := tabSet u.attaches id { region := c.region, ld := ld, kind := c.access
                                                                       base := s.namedInst c.region c.inst, ver := v
                                                                       keyGen := x.keyGen, since := u.now } } : State).bump 0x900 0x16 1) := by
  have hversion : c.access = 2 → (s.sharedOf c.region).any (fun y => decide (y.counter ≥ 0xFFFFFFFF)) = false := fun hwriter => by
    simpa [Option.any_eq_false] using hcounter hwriter
  have hnamed : (s.instOf c.region (s.namedInst c.region c.inst)).isNone = false := Option.isNone_eq_false_iff.mpr hinst
  have hfirst := memberChecks_pass hread hshared hreserved hzero (write := c.access == 2) (by simpa using hwrite) (absurd hop)
  simp only [State.imAttach, hld, hx, hfree, Option.getD_some]
  refine (checks_pass (List.forall_mem_append.mpr ⟨hfirst, ?_⟩)).trans ?_
  · rcases haccess with hkind | hkind <;> simp [hkind, hnamed, hholds, hnone, hversion]
  · rcases haccess with hkind | hkind <;> simp only [hkind] at hdraw ⊢ <;> obtain ⟨rfl, rfl⟩ := Prod.mk.inj hdraw <;> rfl

section
variable {ld id : Nat} {a : Attach} (hld : w.ld = some ld) (ha : s.attachOf ld c.region = some (id, a))
include hld ha

omit hread hshared hreserved hzero in
/-- The attachment a member's command speaks of is its own LD's. -/
theorem senderAttach_of_attached : s.senderAttach w c.region = (id, a) ∧ s.noAttach w c.region = false := by
  simp [State.senderAttach, State.noAttach, hld, ha]

variable (haccess : c.access = 0)
include haccess

/-- A DETACH of an attached member ends its attachment (09 R293). -/
theorem imDetach_taken : s.imDetach w c = .ok (s.endAttach id) := by
  obtain ⟨hown, hattached⟩ := senderAttach_of_attached hld ha
  have hfirst := memberChecks_pass hread hshared hreserved hzero (write := false) (by simp) (fun _ => haccess)
  rw [State.imDetach, hown]
  exact checks_pass (List.forall_mem_append.mpr ⟨hfirst, by simp [hattached]⟩)

/-- An ADVANCE to a retained instar moves the attachment's base there (09 R292). -/
theorem imAdvance_taken (hinst : (s.instOf c.region (s.namedInst c.region c.inst)).isSome = true) :
    s.imAdvance w c = .ok (State.reclaim { s with attaches := tabSet s.attaches id { a with base := s.namedInst c.region c.inst } } c.region) := by
  obtain ⟨hown, hattached⟩ := senderAttach_of_attached hld ha
  have hfirst := memberChecks_pass hread hshared hreserved hzero (write := false) (by simp) (fun _ => haccess)
  rw [State.imAdvance, hown]
  exact checks_pass (List.forall_mem_append.mpr ⟨hfirst, by simpa [hattached] using hinst⟩)

/-- A PUBLISH of a writer that names its own base publishes its overlay (09 R295). -/
theorem imPublish_taken (hwrite : s.memberRight w c.region true = true) (hkind : a.kind = 2) (hbase : c.inst = a.base) :
    s.imPublish w c = .ok (s.publishBy a.ld id a c.stamp).2 := by
  obtain ⟨hown, hattached⟩ := senderAttach_of_attached hld ha
  have hfirst := memberChecks_pass hread hshared hreserved hzero (write := true) (fun _ => hwrite) (fun _ => haccess)
  rw [State.imPublish, hown]
  exact checks_pass (List.forall_mem_append.mpr ⟨hfirst, by simp [hattached, hkind, hbase]⟩)

/-- A REVERT of tiles of the region drops them from the overlay and reports how many there were (09 R292). -/
theorem imRevert_taken {x : Region} {k : Nat} {u : State} (hx : s.region c.region = some x)
    (hwrite : s.memberRight w c.region true = true) (hin : x.rangeOut c.first c.count = false)
    (hdrop : s.dropOverlay id (fun i => decide (c.first ≤ i ∧ i < c.first + c.count)) = (k, u)) :
    s.imRevert w c = .ok ((u.bump 0x900 0x1A k).setResult a.ld 5 0 c.region a.base 0 []).retryFlips := by
  obtain ⟨hown, hattached⟩ := senderAttach_of_attached hld ha
  have hfirst := memberChecks_pass hread hshared hreserved hzero (write := true) (fun _ => hwrite) (fun _ => haccess)
  simp only [State.imRevert, hown, hdrop, hx]
  exact checks_pass (List.forall_mem_append.mpr ⟨hfirst, by simpa [hattached] using hin⟩)

/-- A LIST CONFLICTS lists the conflicting tiles from the one it names on (09 R298). -/
theorem imListConflicts_taken {x : Region} (hx : s.region c.region = some x) (hin : x.rangeOut c.first 1 = false) :
    s.imListConflicts w c = .ok (s.setConflicts a.ld 6 0 c.region a.base (s.conflictsOf id a)
      ((s.conflictsOf id a).filter (fun i => decide (c.first ≤ i)))) := by
  obtain ⟨hown, hattached⟩ := senderAttach_of_attached hld ha
  have hfirst := memberChecks_pass hread hshared hreserved hzero (write := false) (by simp) (fun _ => haccess)
  simp only [State.imListConflicts, hown, hx]
  exact checks_pass (List.forall_mem_append.mpr ⟨hfirst, by simpa [hattached] using hin⟩)

end

/-- A SALVAGE REATTACH gives a writer without an attachment its salvaged overlay back, under the key it was written with (09 R310). -/
theorem imReattach_taken {x : Region} {ld id : Nat} {a : Attach} (hld : w.ld = some ld) (hx : s.region c.region = some x)
    (haccess : c.access = 0) (hwrite : s.memberRight w c.region true = true) (hz : s.salvaged ld c.region = some (id, a))
    (hgen : a.keyGen = x.keyGen) (hnone : s.noAttach w c.region = true) :
    s.imReattach w c = .ok (({ s with attaches := tabSet s.attaches id { a with kind := 2, since := s.now } } : State).bump 0x900 0x16 1) := by
  have hpresent : (s.sharedOf c.region).isNone = false := Option.isNone_eq_false_iff.mpr hshared
  simp only [State.imReattach, hld, hx, hz, Option.getD_some]
  exact checks_pass (by simp [hread, hwrite, hgen, hpresent, hreserved, hzero, haccess, hnone])

end

/-! ## The commands of the fabric manager (09 R309, R313) -/

section
variable {s : State} {w : Sender} {c : InstarCmd} {id : Nat} {a : Attach} (hfm : w.fm = true)
  (hshared : (s.sharedOf c.region).isSome = true) (hreserved : c.reserved = false) (haccess : c.access = 0) (hld : c.ld < 16)
include hfm hshared hreserved haccess hld

/-- A SALVAGE DISCARD of a salvaged overlay ends it. -/
theorem imDiscard_taken (hz : s.salvaged c.ld c.region = some (id, a)) : s.imDiscard w c = .ok (s.endSalvage id) := by
  have hpresent : (s.sharedOf c.region).isNone = false := Option.isNone_eq_false_iff.mpr hshared
  simp only [State.imDiscard, hz]
  exact checks_pass (by simpa [hfm, hpresent, hreserved, haccess] using hld)

/-- A FORCE DETACH of an attached LD ends its attachment. -/
theorem imForce_taken (hz : s.attachOf c.ld c.region = some (id, a)) : s.imForce w c = .ok (s.endAttach id) := by
  have hpresent : (s.sharedOf c.region).isNone = false := Option.isNone_eq_false_iff.mpr hshared
  simp only [State.imForce, hz]
  exact checks_pass (by simpa [hfm, hpresent, hreserved, haccess] using hld)

end

/-! ## The statement of 09_shared_regions.md, instar commands -/

/-- Settles O35: each command is a granted write of the instar command member (`instarCommand_takes`), which hands it to the command of
its code; none of that command's refusals holds. -/
theorem instarCommandsTakeEffect : Obligations.InstarCommandsTakeEffect := by
  unfold Obligations.InstarCommandsTakeEffect
  rintro s t r cmd b w row op c rfl hb rfl h hreserved hshared
  have hcode : (instarCmdOf b).op = op.toNat := field_code hb
  have htakes {i : Instr} {u : State} := instarCommand_takes (i := i) (u := u) (hb := hb) (h := h)
  simp only [State.instarCommand, hcode] at htakes
  refine ⟨fun ld x hld hzero hread hx => ⟨?attach, fun id a haccess ha => ⟨?detach, ?advance, ?publish, ?revert, ?list⟩, ?reattach⟩,
    fun hfm haccess hld id a => ⟨?discard, ?force⟩⟩
  case attach =>
    rintro id n v u rfl haccess hwrite rfl hinst hholds hnone hfree hcounter hdraw
    exact htakes rfl (imAttach_taken hread hshared hreserved hzero hld hx hcode haccess hwrite hinst hholds hnone hfree hcounter hdraw)
  case detach =>
    rintro rfl
    exact htakes rfl (imDetach_taken hread hshared hreserved hzero hld ha haccess)
  case advance =>
    rintro rfl hinst
    exact htakes rfl (imAdvance_taken hread hshared hreserved hzero hld ha haccess hinst)
  case publish =>
    rintro rfl hwrite hkind hbase
    exact htakes rfl (imPublish_taken hread hshared hreserved hzero hld ha haccess hwrite hkind hbase)
  case revert =>
    rintro rfl hwrite hin k u hdrop
    exact htakes rfl (imRevert_taken hread hshared hreserved hzero hld ha haccess hx hwrite hin hdrop)
  case list =>
    rintro rfl hin
    exact htakes rfl (imListConflicts_taken hread hshared hreserved hzero hld ha haccess hx hin)
  case reattach =>
    rintro id a rfl haccess hwrite hz hgen hnone
    exact htakes rfl (imReattach_taken hread hshared hreserved hzero hld hx haccess hwrite hz hgen hnone)
  case discard =>
    rintro rfl hz
    exact htakes rfl (imDiscard_taken hfm hshared hreserved haccess hld hz)
  case force =>
    rintro rfl hz
    exact htakes rfl (imForce_taken hfm hshared hreserved haccess hld hz)

end Sys2Proof.Machine
end

section
/-!
SUPPORT. The key commands: the write of the key command member, and what each command that meets the conditions of its rows answers.
-/
namespace Sys2Proof.Machine

/-! ## The key command member (10 R328) -/

/-- The write of the key command member. -/
theorem objWrite_keyCommand {s : State} {w : Sender} {row : Row} {b : Bytes} (h : row.admits (leNat b) = true) (m off : Nat) :
    s.objWrite w 0x400 0x140 m off row b = s.keyCommand w b := by
  simp [State.objWrite, State.storeWrite, isSlot, fansOut, admits_iff.mp h]

/-- A granted key command takes effect when the key store takes it. -/
theorem keyCommand_takes {i : Instr} {s u : State} {r : Req} {w : Sender} {row : Row} {op : Byte} {cmd b : Bytes}
    (hexec : exec i s = finish s (s.commandWrite r 0x400 0 op cmd)) (hb : b = patch cmd 0 [op])
    (h : Grants s r 0x400 0x140 0 0 b w row) (hok : (s.taking r).keyCommand w b = .ok u) : Takes i s (u.written r) := by
  have hadmits : row.admits (leNat b) = true := h.admits (uLo := 0x400) (uHi := 0x400) (oLo := 0x140) (oHi := 0x140)
    (ty := .bytes 16) (chk := .any) (by decide +kernel) (by omega) (by omega) (by simp) rfl
  rw [State.commandWrite, ← hb] at hexec
  exact granted_takes hexec h rfl (by simp [mayDefer]) ((objWrite_keyCommand hadmits 0 0).trans hok)

/-! ## The commands (10 R329 to R332) -/

section
variable {s : State} {w : Sender} {b : Bytes} (hreserved : field b 8 8 = 0)
include hreserved

/-- A CREATE REGION KEY of the fabric manager draws a key into the lowest free slot. -/
theorem createKey_taken {i : Nat} {k : Bytes} {u : State} (hfm : w.fm = true) (hflags : field b 1 1 = 0) (hnone : field b 4 4 = 0)
    (hdrbg : s.drbgFailed = false) (hfree : (List.range 4080).find? (fun i => (s.key (16 + i)).isNone) = some i)
    (hdraw : s.draw 64 = (k, u)) {z : KeySlot}
    (hz : z = { state := 1, kind := 1, gen := 1, binding := u.nextBinding, useMask := field b 2 2, key := k, created := u.now }) :
    s.createKey w b = .ok (State.setObj { u.setKey (16 + i) z with nextBinding := u.nextBinding + 1 } 0x400 0x141 0
      (u.nextBinding + 2 ^ 32 + 2 ^ 48)) := by
  simp only [State.createKey, hfree, hdraw, hz, Option.getD_some]
  exact checks_pass (by simp [hfm, hflags, hnone, hreserved, hdrbg])

section
variable {i : Nat} {z : KeySlot} (hnamed : s.namedKey (field b 4 4) = some (i, z))
include hnamed

/-- An ERASE of an ACTIVE binding, by the fabric manager or the LD of a host key. -/
theorem keyErase_taken (hmay : w.fm = true ∨ (field b 4 4 < 16 ∧ w.ld = some (field b 4 4))) (hzero : field b 1 3 = 0)
    (hactive : z.state ≠ 2) (hdrbg : s.drbgFailed = false) : s.keyErase w b = .ok (s.eraseKey i z) := by
  have hright : (!(w.fm || (decide (field b 4 4 < 16) && w.ld == some (field b 4 4)))) = false := by
    obtain hfm | ⟨hhost, hld⟩ := hmay
    · simp [hfm]
    · simp [hhost, hld]
  simp only [State.keyErase, hnamed, hright]
  exact checks_pass (by simp [hzero, hreserved, hactive, hdrbg])

/-- A SET USE MASK of a region key that keeps every LD that reads a region of the key. -/
theorem setUseMask_taken (hfm : w.fm = true) (hflags : field b 1 1 = 0) (hregion : z.kind ≠ 0)
    (hkeeps : ∀ d ∈ s.keyRegions z, ∀ x, s.sharedOf d.1 = some x → ∀ n < 16, z.useMask.testBit n = true →
      x.readMask.testBit n = true → (field b 2 2).testBit n = true) :
    s.setUseMask w b = .ok (s.setKey i { z with useMask := field b 2 2 }) := by
  have hunnamed : ((s.keyRegions z).any fun r => (s.sharedOf r.1).any fun x => (List.range 16).any fun n =>
      z.useMask.testBit n && !(field b 2 2).testBit n && x.readMask.testBit n) = false := by
    refine List.any_eq_false.mpr fun d hd => ?_
    simp only [Option.any_eq_true, List.any_eq_true, List.mem_range, Bool.and_eq_true, Bool.not_eq_true']
    rintro ⟨x, hx, n, hn, ⟨huse, hnot⟩, hread⟩
    simp [hkeeps d hd x hx n hn huse hread] at hnot
  simp only [State.setUseMask, hnamed, Option.any_some, hunnamed]
  exact checks_pass (by simp [hfm, hflags, hreserved, hregion])

/-- A DESTROY of a region key that no region names and no tile or version record carries. -/
theorem keyDestroy_taken (hfm : w.fm = true) (hzero : field b 1 3 = 0) (hregion : z.kind ≠ 0) (hactive : z.state ≠ 2)
    (hregions : s.keyRegions z = []) (htiles : ∀ e ∈ s.tileMap, carriesKey i e.2 = false)
    (hversions : ∀ v ∈ s.versions, carriesKey i v.2.entry = false) :
    s.keyDestroy w b = .ok (s.peers.foldl (fun (t : State) m => t.sendKey m z true) { s with keys := tabDel s.keys i }) := by
  have hunused : (s.tileMap.any (fun e => carriesKey i e.2) || s.versions.any (fun v => carriesKey i v.2.entry)) = false :=
    Bool.or_eq_false_iff.mpr ⟨List.any_eq_false.mpr fun e he => by simp [htiles e he],
      List.any_eq_false.mpr fun v hv => by simp [hversions v hv]⟩
  simp only [State.keyDestroy, hnamed, Option.any_some, hunused]
  exact checks_pass (by simp [hfm, hzero, hreserved, hregion, hactive, hregions])

end

end

/-! ## The statement of 10_isolation_security.md, key commands -/

/-- Settles O37: each command is a granted write of the key command member (`keyCommand_takes`), which hands it to the command of its
code; none of that command's refusals holds. -/
theorem keyCommandsTakeEffect : Obligations.KeyCommandsTakeEffect := by
  unfold Obligations.KeyCommandsTakeEffect
  rintro s t r cmd b w row op rfl hb h hreserved
  have hcode : field b 0 1 = op.toNat := field_code hb
  have htakes {i : Instr} {u : State} := keyCommand_takes (i := i) (u := u) (hb := hb) (h := h)
  simp only [State.keyCommand, hcode] at htakes
  refine ⟨?create, fun i z hnamed => ⟨?erase, ?mask, ?destroy⟩⟩
  case create =>
    rintro i k u rfl hfm hflags hnone hdrbg hfree hdraw
    exact htakes rfl (createKey_taken hreserved hfm hflags hnone hdrbg hfree hdraw rfl)
  case erase =>
    rintro rfl hmay hzero hactive hdrbg
    exact htakes rfl (keyErase_taken hreserved hnamed hmay hzero hactive hdrbg)
  case mask =>
    rintro rfl hfm hflags hregion hkeeps
    exact htakes rfl (setUseMask_taken hreserved hnamed hfm hflags hregion hkeeps)
  case destroy =>
    rintro rfl hfm hzero hregion hactive hregions htiles hversions
    exact htakes rfl (keyDestroy_taken hreserved hnamed hfm hzero hregion hactive hregions htiles hversions)

end Sys2Proof.Machine
end

section
/-!
SUPPORT. Events of the key store, the update engine and the control cores: each with the state in which it has its effect.
-/
namespace Sys2Proof.Machine

/-! ## After an ERASE (10 R330, R331) -/

section
variable {s : State} {i : Nat} {z : KeySlot} (hkey : s.key i = some z)
include hkey

/-- The shadow key goes once no access, held write or move uses it. -/
theorem shadowZeroise_takes (herasing : z.state = 2) (hunused : s.shadowUsed i z = false) :
    Takes (.shadowZeroise i) s (s.setKey i { z with state := 1, shadow := none }) := by
  refine congrArg (finish s) ?_
  simp only [hkey, herasing, hunused, Bool.not_false, and_self, if_true]

section
variable (hsweeping : z.sweeping = true)
include hsweeping

/-- A step of a sweep takes the next tile. -/
theorem eraseSweepStep_takes_tile {k : Nat} (hnext : s.nextSwept i z = some k) :
    Takes (.eraseSweepStep i) s ((s.sweepTile k).retryFlips) := by
  refine congrArg (finish s) ?_
  simp only [hkey, hsweeping, hnext, Bool.not_true, Bool.false_eq_true, if_false]

/-- With no tile left the sweep ends. -/
theorem eraseSweepStep_takes_end (hnone : s.nextSwept i z = none) :
    Takes (.eraseSweepStep i) s
      ((s.setKey i { z with sweeping := false }).raiseFor (if z.kind = 0 then [z.binding] else []) 0x400 0x0165 z.binding) := by
  refine congrArg (finish s) ?_
  simp only [hkey, hsweeping, hnone, Bool.not_true, Bool.false_eq_true, if_false]

end

end

/-! ## The end of a VERIFY (10 R349) -/

section
variable {s : State} (hverifying : s.fw.verifying = true) (hkept : s.fw.cancelling = false)
include hverifying hkept

/-- An image that passes its checks is verified. -/
theorem verifyComplete_takes_verified {i : FwImage} (hgood : s.checkImage = .ok i) :
    Takes .verifyComplete s
      (s.setFw { s.fw with verifying := false, slots := tabSet s.fw.slots s.fw.inactive i, staged := 2, failure := 0 }) := by
  refine congrArg (finish s) ?_
  simp only [hverifying, hkept, hgood, Bool.not_true, Bool.false_eq_true, if_false]

/-- An image that fails a check leaves the failure code. -/
theorem verifyComplete_takes_failed {c : Nat} (hbad : s.checkImage = .error c) :
    Takes .verifyComplete s (s.setFw { s.fw with verifying := false, staged := 3, failure := c }) := by
  refine congrArg (finish s) ?_
  simp only [hverifying, hkept, hbad, Bool.not_true, Bool.false_eq_true, if_false]

end

/-! ## A watchdog (18 R595) -/

/-- The watchdog of a core that runs and is not halted restarts it. -/
theorem watchdogExpiry_takes {s : State} {k : Fin 8} (hruns : s.coreRuns k = true) (hhalt : (s.ctl k).halt ≠ 2) :
    Takes (.watchdogExpiry k) s ((s.setCtl k { s.ctl k with restarting := true }).snapTrigger 2) :=
  congrArg (finish s) (if_neg (by simp [hruns, hhalt]))

/-! ## The statement of 10_isolation_security.md and 18_ras_faults.md, events -/

/-- Settles O27: each event comes in a state in which nothing keeps it from its effect; a sweep step by whether a tile is left, the end of
a VERIFY by the outcome of the image's checks. -/
theorem keySweepsAndVerificationComplete : Obligations.KeySweepsAndVerificationComplete := by
  unfold Obligations.KeySweepsAndVerificationComplete
  refine ⟨fun s i z => shadowZeroise_takes, fun s i z hkey hsweeping =>
    ⟨fun k => eraseSweepStep_takes_tile hkey hsweeping, eraseSweepStep_takes_end hkey hsweeping⟩, ?entropy,
    fun s hverifying hkept => ?verify, fun s k => watchdogExpiry_takes⟩
  case entropy => exact fun s => rfl
  case verify =>
    cases hcheck : s.checkImage with
    | ok i => exact verifyComplete_takes_verified hverifying hkept hcheck
    | error c => exact verifyComplete_takes_failed hverifying hkept hcheck

end Sys2Proof.Machine
end

section
/-!
SUPPORT. Firmware update: the staging area and the update command, and what each command that meets the conditions of its rows answers.
-/
namespace Sys2Proof.Machine

/-! ## The members of the update (10 R349) -/

section
variable {s : State} {w : Sender} {row : Row} {b : Bytes} (h : row.admits (leNat b) = true)
include h

theorem objWrite_staging (m off : Nat) : s.objWrite w 0xD00 0x182 m off row b = s.stageWrite off b := by
  simp [State.objWrite, fansOut, admits_iff.mp h]

theorem objWrite_updateCommand (m off : Nat) : s.objWrite w 0xD00 0x183 m off row b = s.updateCommand w (leNat b) := by
  simp [State.objWrite, fansOut, admits_iff.mp h]

end

/-- The staging area has the one member 0. -/
theorem staging_member {m : Nat} {row : Row} (h : rowOf 0xD00 0x182 m = some row) : m = 0 := by
  have hall : objectTables.all (fun r => !decide (r.uLo ≤ 0xD00 ∧ 0xD00 ≤ r.uHi ∧ r.oLo ≤ 0x182 ∧ 0x182 ≤ r.oHi)
      || r.mHi == 0) = true := by decide +kernel
  have hrow := List.all_eq_true.mp hall row (List.mem_of_find?_eq_some h)
  have hcovers := List.find?_some h
  simp only [decide_eq_true_eq] at hcovers
  obtain ⟨h1, h2, h3, h4, -, h6⟩ := hcovers
  have hlast : row.mHi = 0 := by simpa [h1, h2, h3, h4] using hrow
  omega

/-- A granted write of image bytes is staged: nothing refuses it. -/
theorem stagingWrite_takes {s u : State} {r : Req} {w : Sender} {row : Row} {m : Byte} {off : U32} {data : Bytes}
    (h : Grants s r 0xD00 0x182 m.toNat off.toNat data w row) (hok : (s.taking r).stageWrite off.toNat data = .ok u) :
    Takes (.stagingWrite r m off data) s (u.written r) := by
  have hrows : rowsHave 0xD00 0xD00 0x182 0x182 m.toNat (.bytes 16777216) .any = true := by
    obtain ⟨-, haccess, -⟩ := h
    rw [staging_member (rowOf_of_access haccess)]
    decide +kernel
  have hadmits : row.admits (leNat data) = true := h.admits hrows (by omega) (by omega) (by simp) rfl
  exact granted_takes rfl h rfl (by simp [mayDefer]) ((objWrite_staging hadmits _ _).trans hok)

/-- A granted update command takes effect when the update engine takes it. -/
theorem updateCommand_takes {i : Instr} {s u : State} {r : Req} {w : Sender} {row : Row} {op : Byte}
    (hexec : exec i s = finish s (s.sendWrite r 0xD00 0x183 0 0 [op])) (h : Grants s r 0xD00 0x183 0 0 [op] w row)
    (hok : (s.taking r).updateCommand w op.toNat = .ok u) : Takes i s (u.written r) := by
  have hadmits : row.admits (leNat [op]) = true := h.admits (uLo := 0xD00) (uHi := 0xD00) (oLo := 0x183) (oHi := 0x183)
    (ty := .num 1) (chk := .any) (by decide +kernel) (by omega) (by omega) (by simp) rfl
  refine granted_takes hexec h rfl (by simp [mayDefer]) ?_
  rw [objWrite_updateCommand hadmits, leNat_byte, hok]

/-! ## The update commands (10 R349 to R353) -/

section
variable {s : State} {w : Sender}

theorem startVerify_taken (h : s.fw.verifying = false) : s.startVerify = .ok (s.setFw { s.fw with verifying := true }) :=
  checks_pass (by simp [h])

theorem activateReset_taken (h : s.fw.staged = 2) :
    s.activateReset = .ok (s.setFw { s.fw with active := s.fw.inactive, trial := true, staged := 4, pending := true }) :=
  checks_pass (by simp [h])

/-- A verified image with the running one's data path is activated live. -/
theorem activateNow_taken {i : FwImage} (himage : tabGet s.fw.slots s.fw.inactive = some i) (hverified : s.fw.staged = 2)
    (hpath : i.dataPath = s.fw.image.dataPath) {t : State}
    (ht : t = s.setFw { s.fw with
      active := s.fw.inactive, running := s.fw.inactive, trial := false, pending := false, staged := 0, recovery := false }) :
    s.activateNow = .ok (((t.setObj 0 0 4 i.version).raise 0xD00 0x163 i.version).rollFrom 0) := by
  simp only [State.activateNow, himage, ht]
  exact checks_pass (by simp [hverified, hpath])

theorem commitVersion_taken (htrial : s.fw.trial = false) (hhigher : s.fw.securityFuse < s.fw.image.security) :
    s.commitVersion = .ok (s.setFw { s.fw with securityFuse := s.fw.image.security }) :=
  checks_pass (by simp [htrial, hhigher])

/-- CANCEL is always taken: at the end of a VERIFY that runs, otherwise at once. -/
theorem cancelUpdate_taken (s : State) :
    s.cancelUpdate = .ok (if s.fw.verifying then s.setFw { s.fw with cancelling := true } else if s.fw.pending then
      s.setFw { s.fw.emptied with active := s.fw.running, trial := false, pending := false } else s.setFw s.fw.emptied) := by
  simp only [State.cancelUpdate, Firmware.cancelled]
  split_ifs <;> rfl

theorem revokeKey_taken (hsvc : w.svc = true) (hkey : s.fw.image.key = 1) :
    s.revokeKey w = .ok (s.setFw { s.fw with key0Revoked := true }) :=
  checks_pass (by simp [hsvc, hkey])

end

/-! ## The statement of 10_isolation_security.md, firmware update -/

/-- Settles O38: each command is a granted write (`stagingWrite_takes`, `updateCommand_takes`), none of whose refusals holds. -/
theorem updateCommandsTakeEffect : Obligations.UpdateCommandsTakeEffect := by
  unfold Obligations.UpdateCommandsTakeEffect
  rintro s t r w row f rfl rfl
  refine ⟨fun m off data h => stagingWrite_takes h rfl, ?verify, ?atReset, ?live, ?commit, ?cancel, ?revoke⟩
  case verify =>
    intro h hidle
    exact updateCommand_takes rfl h (startVerify_taken hidle)
  case atReset =>
    intro h hverified
    exact updateCommand_takes rfl h (activateReset_taken hverified)
  case live =>
    intro i h himage hverified hpath
    exact updateCommand_takes rfl h (activateNow_taken himage hverified hpath rfl)
  case commit =>
    intro h htrial hhigher
    exact updateCommand_takes rfl h (commitVersion_taken htrial hhigher)
  case cancel =>
    intro h
    exact updateCommand_takes rfl h (cancelUpdate_taken _)
  case revoke =>
    intro h hsvc hkey
    exact updateCommand_takes rfl h (revokeKey_taken hsvc hkey)

end Sys2Proof.Machine
end

section
/-!
SUPPORT. The SPDM responder: what a request that is asked for is answered by, and what each request that comes in its turn leaves.
-/
namespace Sys2Proof.Machine

/-! ## Answers (10 R348, 15 R515) -/

/-- A request the responder takes is answered as its function says. -/
theorem spdmAnswer_takes {i : Instr} {s t : State} {ld code : Nat} {req r : Bytes} {x : Spdm} {f : Spdm → State → Bytes × Spdm × State}
    (hexec : exec i s = finish s (s.spdmAnswer ld req code f)) (h : SpdmAsks s ld code req) (hf : f (s.spdmOf ld) s = (r, x, t)) :
    Takes i s ((t.setSpdm ld x).emit (.spdm ld r)) := by
  obtain ⟨hserves, hcode, hlen⟩ := h
  have hwhole : ¬ (field req 1 1 ≠ code ∨ req.length < 4) := by omega
  rw [Takes, hexec, State.spdmAnswer, if_neg (by simp [hserves]), if_neg hwhole, hf]
  rfl

/-- The second byte of an answer is its code. -/
theorem field_answerCode {c : Nat} (hc : c < 256) (version : Nat) (rest : Bytes) :
    field (leBytes 1 version ++ (leBytes 1 c ++ rest)) 1 1 = c :=
  field_append (leBytes 1 version) rest 1 1 c (by simp) (by simpa using hc)

/-- The third byte of an answer. -/
theorem field_answerParam {p : Nat} (hp : p < 256) (version c : Nat) (rest : Bytes) :
    field (leBytes 1 version ++ (leBytes 1 c ++ (leBytes 1 p ++ rest))) 2 1 = p := by
  simpa using field_append (leBytes 1 version ++ leBytes 1 c) rest 2 1 p (by simp) (by simpa using hp)

/-! ## Requests in their turn -/

section
variable {s : State} {ld : Fin 16} {req : Bytes}

/-- VERSION starts a connection. -/
theorem getVersion_takes (h : SpdmAsks s ld 0x84 req) : ∃ (x : Spdm) (r : Bytes),
    Takes (.getVersion ld req) s ((s.setSpdm ld x).emit (.spdm ld r)) ∧ x.version = true ∧ x.algorithms = false ∧ field r 1 1 = 4 := by
  refine ⟨_, _, spdmAnswer_takes rfl h rfl, rfl, rfl, ?_⟩
  simpa only [List.append_assoc] using field_answerCode (by decide) _ _

/-- Capabilities follow the version. -/
theorem getCapabilities_takes (h : SpdmAsks s ld 0xE1 req) (hversion : (s.spdmOf ld).version = true) : ∃ (x : Spdm) (r : Bytes),
    Takes (.getCapabilities ld req) s ((s.setSpdm ld x).emit (.spdm ld r)) ∧ x.capabilities = true ∧ field r 1 1 = 0x61 := by
  refine ⟨_, _, spdmAnswer_takes rfl h (if_neg (by simp [hversion])), rfl, ?_⟩
  simpa only [List.append_assoc] using field_answerCode (by decide) _ _

/-- Algorithms follow the capabilities. -/
theorem negotiateAlgorithms_takes (h : SpdmAsks s ld 0xE3 req) (hcaps : (s.spdmOf ld).capabilities = true) (hlen : 32 ≤ req.length) :
    ∃ (x : Spdm) (r : Bytes),
      Takes (.negotiateAlgorithms ld req) s ((s.setSpdm ld x).emit (.spdm ld r)) ∧ x.algorithms = true ∧ field r 1 1 = 0x63 := by
  refine ⟨_, _, spdmAnswer_takes rfl h ((if_neg (by simp [hcaps])).trans (if_neg (by omega))), rfl, ?_⟩
  simpa only [List.append_assoc] using field_answerCode (by decide) _ _

section
variable (halg : (s.spdmOf ld).algorithms = true)
include halg

/-- Once the algorithms are agreed, the digest of the chain of slot 0 is answered. -/
theorem getDigests_takes (h : SpdmAsks s ld 0x81 req) : ∃ x : Spdm,
    Takes (.getDigests ld req) s
      ((s.setSpdm ld x).emit (.spdm ld (leBytes 1 0x12 ++ leBytes 1 1 ++ zeros 1 ++ leBytes 1 1 ++ sha256 spdmChain))) :=
  ⟨_, spdmAnswer_takes rfl h (if_neg (by simp [halg]))⟩

/-- A portion of the chain that begins inside it, and ends where it ends. -/
theorem getCertificate_takes (h : SpdmAsks s ld 0x82 req) (hslot : field req 2 1 = 0) (hlen : 8 ≤ req.length)
    (hoff : field req 4 2 < spdmChain.length) : ∃ (x : Spdm) (part : Bytes),
      part = slice spdmChain (field req 4 2) (Nat.min (field req 6 2) (spdmChain.length - field req 4 2))
      ∧ Takes (.getCertificate ld req) s ((s.setSpdm ld x).emit (.spdm ld (leBytes 1 0x12 ++ leBytes 1 2 ++ zeros 2
        ++ leBytes 2 part.length ++ leBytes 2 (spdmChain.length - field req 4 2 - part.length) ++ part))) := by
  have hgood : ¬ (field req 2 1 ≠ 0 ∨ req.length < 8 ∨ field req 4 2 ≥ spdmChain.length) := by omega
  exact ⟨_, _, rfl, spdmAnswer_takes rfl h ((if_neg (by simp [halg])).trans (if_neg hgood))⟩

/-- A challenge that asks for no measurement summary. -/
theorem challenge_takes (h : SpdmAsks s ld 0x83 req) (hslot : field req 2 1 = 0) (hlen : 36 ≤ req.length) (hnone : field req 3 1 = 0) :
    ∃ (x : Spdm) (r : Bytes), Takes (.challenge ld req) s ((s.tick.2.setSpdm ld x).emit (.spdm ld r)) ∧ field r 1 1 = 3 := by
  have hgood : ¬ (field req 2 1 ≠ 0 ∨ req.length < 36) := by omega
  have hsummary : s.summary (field req 3 1) = some [] := if_pos hnone
  refine ⟨_, _, spdmAnswer_takes rfl h ((if_neg (by simp [halg])).trans ((if_neg hgood).trans (by rw [hsummary]; rfl))), ?_⟩
  simpa only [List.append_assoc] using field_answerCode (by decide) _ _

/-- The number of measurements, unsigned. -/
theorem getMeasurements_takes (h : SpdmAsks s ld 0xE0 req) (hcount : field req 3 1 = 0) (hsigned : (field req 2 1).testBit 0 = false) :
    ∃ (x : Spdm) (r : Bytes), Takes (.getMeasurements ld req) s ((s.tick.2.setSpdm ld x).emit (.spdm ld r))
      ∧ field r 1 1 = 0x60 ∧ field r 2 1 = 6 := by
  have hgood : ¬ ((field req 3 1 > 6 ∧ field req 3 1 ≠ 0xFF)
      ∨ ((field req 2 1).testBit 0 = true ∧ (req.length < 37 ∨ field req 36 1 % 16 ≠ 0))) := by
    simp [hcount, hsigned]
  refine ⟨_, _, spdmAnswer_takes rfl h ((if_neg (by simp [halg])).trans ((if_neg hgood).trans
    (if_neg (by simp [hsigned])))), ?_, ?_⟩
  · simpa only [List.append_assoc] using field_answerCode (by decide) _ _
  · simpa only [List.append_assoc, hcount, if_true] using field_answerParam (by decide) _ _ _

/-- A key exchange that asks for no measurement summary opens a secured session. -/
theorem keyExchange_takes (h : SpdmAsks s ld 0xE4 req) (hslot : field req 3 1 = 0) (hlen : 426 ≤ req.length) (hnone : field req 2 1 = 0) :
    ∃ (x : Spdm) (r : Bytes), Takes (.keyExchange ld req) s ((s.tick.2.tick.2.setSpdm ld x).emit (.spdm ld r))
      ∧ x.session.isSome = true ∧ field r 1 1 = 0x64 := by
  have hgood : ¬ (field req 3 1 ≠ 0 ∨ req.length < 426) := by omega
  have hsummary : s.summary (field req 2 1) = some [] := if_pos hnone
  refine ⟨_, _, spdmAnswer_takes rfl h ((if_neg (by simp [halg])).trans ((if_neg hgood).trans (by rw [hsummary]; rfl))), rfl, ?_⟩
  simpa only [List.append_assoc] using field_answerCode (by decide) _ _

end

/-- K_SET_GO within a secured session puts IDE in force. -/
theorem ideKm_takes (hserves : s.spdmServes ld = true) (hsession : (s.spdmOf ld).session.isSome = true) (hprotocol : field req 0 1 = 0)
    (hgo : field req 1 1 = 4) : Takes (.ideKm ld req) s
      ((s.setSpdm ld { s.spdmOf ld with ide := true }).emit (.spdm ld (zeros 1 ++ leBytes 1 5 ++ slice req 2 6))) := by
  have hopen : (s.spdmOf ld).session.isNone = false := Option.isNone_eq_false_iff.mpr hsession
  refine congrArg (finish s) ?_
  simp [State.ideKm, hserves, hopen, hprotocol, hgo]

end

/-! ## The statement of 10_isolation_security.md, SPDM -/

/-- Settles O22: each request is one that its place in the protocol admits, and is answered (`spdmAnswer_takes`). -/
theorem spdmRequestsAnswer : Obligations.SpdmRequestsAnswer := by
  unfold Obligations.SpdmRequestsAnswer
  exact fun s ld req => ⟨getVersion_takes, getCapabilities_takes, negotiateAlgorithms_takes, fun h halg => getDigests_takes halg h,
    fun h halg => getCertificate_takes halg h, fun h halg => challenge_takes halg h, fun h halg => getMeasurements_takes halg h,
    fun h halg => keyExchange_takes halg h, ideKm_takes⟩

end Sys2Proof.Machine
end

section
/-!
SUPPORT. A thread's registers and its pc, what an instruction that issues leaves behind, and the scalar instructions of two registers.
-/
namespace Sys2Proof.Machine

/-! ## A thread's registers beside its pc and its status word -/

@[simp] theorem Thread.wx_pc (x : Thread) (r : BitVec 5) (v : U64) : (x.wx r v).pc = x.pc := by
  unfold Thread.wx; split <;> rfl
@[simp] theorem Thread.wx_status (x : Thread) (r : BitVec 5) (v : U64) : (x.wx r v).status = x.status := by
  unfold Thread.wx; split <;> rfl
@[simp] theorem Thread.wp_pc (x : Thread) (r : BitVec 3) (v : U64) : (x.wp r v).pc = x.pc := by
  unfold Thread.wp; split <;> rfl
@[simp] theorem Thread.wp_status (x : Thread) (r : BitVec 3) (v : U64) : (x.wp r v).status = x.status := by
  unfold Thread.wp; split <;> rfl

/-- A write of an x register and the step to the next instruction. -/
theorem Thread.step_wx (x : Thread) (r : BitVec 5) (v : U64) : (x.wx r v).step = { x.wx r v with pc := x.pc + 4 } := by
  rw [Thread.step, Thread.wx_pc]

/-! ## Instructions that issue -/

section
variable {i : Instr} {s u v : State} {t : ThreadId} {w : Nat} {c : Ctx} {f : State → Ctx → Ran}

/-- A command that issues an instruction takes the effect of the issue. -/
theorem takes_of_issue (hexec : exec i s = finish s (s.issue t w f)) (hissue : s.issue t w f = v) : Takes i s v :=
  hexec.trans (congrArg (finish s) hissue)

/-- What an instruction that issues knows of its thread is of the thread it was issued to. -/
theorem Issues.thread (h : Issues s t w c) : c.t = t := by
  obtain ⟨⟨_, _, ht, _⟩, _⟩ := h
  exact ht

end

/-- An instruction comes out as `r`, by what it knows of its thread. -/
def ComesOut (i : Instr) (s : State) (t : ThreadId) (w : Nat) (c : Ctx) (r : Ran) : Prop :=
  ∃ f, exec i s = finish s (s.issue t w f) ∧ f s c = r

section
variable {i : Instr} {s u : State} {t : ThreadId} {w code a : Nat} {c : Ctx} {r : Ran} (hout : ComesOut i s t w c r) (h : Issues s t w c)
include hout h

/-- An instruction that is done is counted. -/
theorem ComesOut.ran (hr : r = .ran u) : Takes i s (u.retired t) := by
  obtain ⟨f, hexec, hf⟩ := hout
  exact takes_of_issue hexec (issue_ran h (hf.trans hr))

/-- An instruction that is done leaves its thread as it says, and is counted. -/
theorem ComesOut.ranWith {x : Thread} (hr : r = u.ranWith c x) : Takes i s ((u.setThread c.k x).retired t) := hout.ran h hr

/-- A precise exception has no other effect (12 R433). -/
theorem ComesOut.trap (hr : r = .trap code a) : Takes i s (s.except t code false w c.x.pc.toNat a) := by
  obtain ⟨f, hexec, hf⟩ := hout
  exact takes_of_issue hexec (issue_trap h (hf.trans hr))

/-- An exception after an answer from outside keeps what the answer changed. -/
theorem ComesOut.trapped (hr : r = .trapped u code a) : Takes i s (u.except t code false w c.x.pc.toNat a) := by
  obtain ⟨f, hexec, hf⟩ := hout
  exact takes_of_issue hexec (by rw [issue_runs h, hf, hr])

end

/-! ## SOP (12 R401) -/

/-- The number of leading zeros is the place of the first bit set, from the most significant on. -/
theorem leadingZeros_eq (a : U64) : ((List.range 64).find? (fun i => a.getMsbD i)).getD 64 = 64 - bitLen a.toNat := by
  by_cases ha : a = 0
  · subst ha; decide
  · have hpos : a.toNat ≠ 0 := fun h => ha (BitVec.eq_of_toNat_eq h)
    have htop : a.toNat.log2 < 64 := (Nat.log2_lt hpos).mpr a.isLt
    have hfirst : (List.range 64).find? (fun i => a.getMsbD i) = some (63 - a.toNat.log2) := by
      refine List.find?_range_eq_some.mpr ⟨?_, List.mem_range.mpr (by omega), fun j hj => ?_⟩
      · have hbit : a.getLsbD a.toNat.log2 = true := Nat.testBit_log2 hpos
        rw [BitVec.getMsbD, show 64 - 1 - (63 - a.toNat.log2) = a.toNat.log2 by omega, hbit, Bool.and_true]
        exact decide_eq_true (by omega)
      · have hlt : a.toNat < 2 ^ (64 - 1 - j) := (Nat.log2_lt hpos).mp (by omega)
        have hbit : a.getLsbD (64 - 1 - j) = false := Nat.testBit_lt_two_pow hlt
        simp [BitVec.getMsbD, hbit]
    rw [hfirst, bitLen, if_neg hpos, Option.getD_some]
    omega

/-- An instruction of SOP that issues writes the value of its row to rd. -/
theorem scalarOp_takes {i : Instr} {s : State} {t : ThreadId} {c : Ctx} {func : Nat} {rd rs1 rs2 : BitVec 5} {f : U64 → U64 → U64}
    {v : U64} (hexec : exec i s = finish s (s.scalarOp t func rd rs1 rs2 f)) (hv : f (c.x.rx rs1) (c.x.rx rs2) = v)
    (h : Issues s t (wordS3 0x01 func rd rs1 rs2) c) :
    Takes i s ((s.setThread c.k { c.x.wx rd v with pc := c.x.pc + 4 }).retired t) :=
  takes_of_issue hexec (issue_ranWith h (by rw [hv, Thread.step_wx]))

/-! ## The statement of 12_gaisk_isa.md, SOP -/

/-- Settles O45: each instruction is a `scalarOp`; the model's compares, product and count of leading zeros are the values the rows
give. -/
theorem scalarInstructionsWriteTheirResult : Obligations.ScalarInstructionsWriteTheirResult := by
  unfold Obligations.ScalarInstructionsWriteTheirResult
  rintro s t c rd rs1 rs2 a b rfl rfl
  refine List.forall_iff_forall_mem.1 ⟨scalarOp_takes rfl rfl, scalarOp_takes rfl rfl, scalarOp_takes rfl rfl, scalarOp_takes rfl rfl,
    scalarOp_takes rfl rfl, scalarOp_takes rfl rfl, scalarOp_takes rfl rfl, scalarOp_takes rfl rfl, scalarOp_takes rfl ?slt,
    scalarOp_takes rfl ?sltu, scalarOp_takes rfl ?min, scalarOp_takes rfl ?max, scalarOp_takes rfl ?minu, scalarOp_takes rfl ?maxu,
    scalarOp_takes rfl ?mul, scalarOp_takes rfl rfl, scalarOp_takes rfl rfl, scalarOp_takes rfl rfl,
    scalarOp_takes rfl (by rw [leadingZeros_eq]), scalarOp_takes rfl rfl⟩
  case slt | sltu => simp [flag, BitVec.slt, BitVec.ult]
  case min | max | minu | maxu => simp [BitVec.slt, BitVec.ult]
  case mul => simp [BitVec.ofNat_mul]

end Sys2Proof.Machine
end

section
/-!
SUPPORT. The vector instructions: of two registers, of a register and a scalar, and the compares.
-/
namespace Sys2Proof.Machine

/-! ## VOP and VOPX (12 R409 to R413) -/

section
variable {i : Instr} {s : State} {t : ThreadId} {c : Ctx} {func : Nat} {vd vs1 vs2 : BitVec 4} {rs2 : BitVec 5} {pm ty : BitVec 3} {rm : Bool}

/-- An instruction of VOP that issues gives vd its lanes and keeps the flags it raises. -/
theorem vectorOp_takes {cycles : Nat} {f : U64 → BitVec 512 → BitVec 512 → BitVec 512 → BitVec 512 × Flags} {v : BitVec 512} {fl : Flags}
    (hexec : exec i s = finish s (s.vectorOp t func cycles vd vs1 vs2 pm ty rm f))
    (hf : f (c.x.rp pm) (c.x.rv vs1) (c.x.rv vs2) (c.x.rv vd) = (v, fl)) (h : Issues s t (wordV func vd vs1 vs2 pm ty rm) c) :
    Takes i s (((s.bump (coreUnit t) 0x18 cycles).setThread c.k
      { c.x.wv vd v with status := c.x.status ||| fl.toNat, pc := c.x.pc + 4 }).retired t) :=
  takes_of_issue hexec (issue_ranWith h (by rw [hf]; rfl))

/-- A compare that issues gives its predicate and keeps the flags it raises. -/
theorem compareOp_takes {op : Nat} (hexec : exec i s = finish s (s.compareOp t func op vd vs1 vs2 pm ty rm))
    (h : Issues s t (wordV func vd vs1 vs2 pm ty rm) c) {r : U64 × Flags}
    (hr : r = vCompare (vty ty) op (c.x.rp pm) (c.x.rv vs1) (c.x.rv vs2)) :
    Takes i s (((s.bump (coreUnit t) 0x18 1).setThread c.k
      { c.x.wp (vd.truncate 3) r.1 with status := c.x.status ||| r.2.toNat, pc := c.x.pc + 4 }).retired t) :=
  takes_of_issue hexec (issue_ranWith h (by simp only [← hr, Thread.step, Thread.accrue, Thread.wp_pc, Thread.wp_status]; rfl))

/-- An instruction of VOPX that issues and writes vd gives it its lanes and keeps the flags it raises. -/
theorem vectorScalar_takes {f : U64 → BitVec 512 → U64 → BitVec 512 → BitVec 512 × Flags} {v : BitVec 512} {fl : Flags}
    (hexec : exec i s = finish s (s.vectorScalar t func vd vs1 rs2 pm ty f))
    (hf : f (c.x.rp pm) (c.x.rv vs1) (c.x.rx rs2) (c.x.rv vd) = (v, fl)) (h : Issues s t (wordVX func vd vs1 rs2 pm ty) c) :
    Takes i s (((s.bump (coreUnit t) 0x18 1).setThread c.k
      { c.x.wv vd v with status := c.x.status ||| fl.toNat, pc := c.x.pc + 4 }).retired t) :=
  takes_of_issue hexec (issue_ranWith h (by rw [hf]; rfl))

/-- VEXT gives an x register lane 0. -/
theorem vext_takes (h : Issues s t (wordVX 0x0A vd vs1 rs2 pm ty) c) :
    Takes (.gVext t vd vs1 rs2 pm ty) s (((s.bump (coreUnit t) 0x18 1).setThread c.k
      { c.x.wx rs2 (BitVec.ofNat 64 (nth (laneList (vty ty) (c.x.rv vs1)) 0 0)) with pc := c.x.pc + 4 }).retired t) :=
  takes_of_issue rfl (issue_ranWith h (by rw [Thread.step_wx]; rfl))

end

/-! ## The statement of 12_gaisk_isa.md, VOP and VOPX -/

/-- Settles O55: each row of VOP is a `vectorOp` or a `compareOp`, and each of VOPX but VEXT a `vectorScalar`. -/
theorem vectorInstructionsWriteTheirLanes : Obligations.VectorInstructionsWriteTheirLanes := by
  unfold Obligations.VectorInstructionsWriteTheirLanes
  rintro s t c vd vs1 vs2 rs2 pm ty rm y p a b d m rfl rfl rfl rfl rfl rfl
  simp only [List.forall_mem_cons, List.not_mem_nil, false_implies, implies_true, and_true]
  refine ⟨?vop, ?compares, ?vopx, vext_takes⟩
  case vop => and_intros <;> exact vectorOp_takes rfl rfl
  case compares => and_intros <;> exact fun h _ => compareOp_takes rfl h
  case vopx => and_intros <;> exact vectorScalar_takes rfl rfl

end Sys2Proof.Machine
end

section
/-!
SUPPORT. The array queue: the function an entry's word names, the checks at issue, and how an instruction enters the queue.
-/
namespace Sys2Proof.Machine

/-! ## Words of the array queue (12 R398) -/

/-- A field of a word by division. -/
theorem bits_eq (v hi lo : Nat) : bits v hi lo = v / 2 ^ lo % 2 ^ (hi - lo + 1) := by
  rw [bits, Nat.shiftRight_eq_div_pow]

theorem b2n_le (b : Bool) : b2n b ≤ 1 := by cases b <;> decide

section
variable {e : QEntry} {func : Nat} {rs1 rs2 : BitVec 5} {bank : Bool}

/-- The function of an entry of AOP. -/
theorem func_of_wordA {acc mode : BitVec 3} {flags : BitVec 4} (hw : e.word = wordA func acc rs1 rs2 bank mode flags) (hfunc : func < 16) :
    e.func = func := by
  have hbank := b2n_le bank
  simp only [QEntry.func, bits_eq, hw, wordA]
  rw [if_neg (by omega)]
  omega

/-- The function of a tile fetch. -/
theorem func_of_wordTF (hw : e.word = wordTF func rs1 rs2 bank) (hfunc : func < 8) : e.func = 16 + func := by
  have hbank := b2n_le bank
  simp only [QEntry.func, bits_eq, hw, wordTF]
  rw [if_pos (by omega)]
  omega

end

/-! ## Entering the queue (12 R416, R422) -/

section
variable {i : Instr} {s u : State} {t : ThreadId} {c : Ctx} {w func : Nat} {rs1 rs2 : BitVec 5} {e : QEntry}

/-- What passes the checks of its function raises no exception at issue. -/
theorem issueFault_none (ht : c.t = t) (hfunc : e.func = func)
    (hamma : func = 0 → ammaBad e (s.fillWidth (s.cluster t.cluster) e.bank) = false
      ∧ s.rowOutside c e.a e.stride (aBytes e.mode e.depth) = none)
    (haread : func = 2 → areadBad e = false ∧ s.rowOutside c e.a e.stride (16 * readBytes e.format) = none)
    (hfetch : 16 ≤ func → fetchBad e = false ∧ e.a % 64 = 0 ∧ e.a + 64 * e.count ≤ 0x100000000000) : s.issueFault c e = none := by
  unfold State.issueFault
  rw [hfunc, ht]
  split_ifs with h0 h1 h2 h3 h4 h5 h6
  · exact absurd (hamma h0).1 (by simp [h1])
  · rw [(hamma h0).2, Option.map_none]
  · exact absurd (haread h2).1 (by simp [h3])
  · rw [(haread h2).2, Option.map_none]
  · exact absurd (hfetch h4).1 (by simp [h5])
  · have := (hfetch h4).2; omega
  · rfl
  · rfl

/-- An instruction that finds room and passes its checks enters the queue with the values of its registers. -/
theorem arrayOp_takes (hexec : exec i s = finish s (s.arrayOp t w rs1 rs2)) (h : Issues s t w c)
    (hroom : (s.cluster t.cluster).queue.length < 16)
    (he : e = QEntry.mk (s.cluster t.cluster).nextEntry t c.x.pc.toNat w (c.x.rx rs1).toNat (c.x.rx rs2).toNat false 0 none)
    (hfault : s.issueFault c e = none) (hu : u = s.startClock t.cluster) :
    Takes i s (((u.setCluster t.cluster
      { u.cluster t.cluster with queue := (u.cluster t.cluster).queue ++ [e], nextEntry := (u.cluster t.cluster).nextEntry + 1 }).setThread
        c.k c.x.step).retired t) := by
  obtain rfl := h.thread
  refine takes_of_issue hexec (issue_ranWith h ((if_neg (by omega)).trans ?_))
  rw [← he, hfault, hu]

end

/-! ## AWAIT (12 R421, R430) -/

section
variable {s : State} {t : ThreadId} {c : Ctx} {acc mode : BitVec 3} {rs1 rs2 : BitVec 5} {bank : Bool} {flags : BitVec 4}

/-- With no entry of its thread queued AWAIT passes on. -/
theorem await_passes (h : Issues s t (wordA 3 acc rs1 rs2 bank mode flags) c) (hnone : ∀ e ∈ (s.cluster t.cluster).queue, e.thread ≠ t) :
    Takes (.gAwait t acc rs1 rs2 bank mode flags) s ((s.setThread c.k c.x.step).retired t) := by
  obtain rfl := h.thread
  have hqueue : (s.cluster c.t.cluster).queue.any (·.thread == c.t) = false := by simpa using hnone
  exact takes_of_issue rfl (issue_ranWith h (if_neg (by simp [hqueue])))

/-- With an entry of its thread queued AWAIT waits for the array. -/
theorem await_waits (h : Issues s t (wordA 3 acc rs1 rs2 bank mode flags) c) (hsome : ∃ e ∈ (s.cluster t.cluster).queue, e.thread = t) :
    Takes (.gAwait t acc rs1 rs2 bank mode flags) s ((s.setThread c.k
      { c.x.step with wait := .array, waitSince := s.now, waitPos := s.position c.job.launchCad }).retired t) := by
  obtain rfl := h.thread
  have hqueue : (s.cluster c.t.cluster).queue.any (·.thread == c.t) = true := by simpa using hsome
  exact takes_of_issue rfl (issue_ranWith h (if_pos hqueue))

end

/-! ## The statement of 12_gaisk_isa.md, the array queue -/

/-- Settles O58: the word of each instruction names its function, and `arrayOp_takes` puts its entry into the queue. -/
theorem arrayInstructionsEnterTheQueue : Obligations.ArrayInstructionsEnterTheQueue := by
  unfold Obligations.ArrayInstructionsEnterTheQueue
  rintro s u t c acc rs1 rs2 bank mode flags x rfl hu
  refine ⟨List.forall_iff_forall_mem.1 ⟨?amma, ?azero, ?aread, ?alut, ?tfraw, ?tffr⟩, fun h => ⟨await_passes h, await_waits h⟩⟩
  case amma | azero | aread | alut =>
    intro h hroom e he hamma haread hfetch
    exact arrayOp_takes rfl h hroom he (issueFault_none h.thread (func_of_wordA (by rw [he]) (by simp)) hamma haread hfetch) hu
  case tfraw | tffr =>
    intro h hroom e he hamma haread hfetch
    exact arrayOp_takes rfl h hroom he (issueFault_none h.thread (func_of_wordTF (by rw [he]) (by decide)) hamma haread hfetch) hu

end Sys2Proof.Machine
end

section
/-!
SUPPORT. The entries of the array queue: how one starts, and how one leaves the queue with its effect.
-/
namespace Sys2Proof.Machine

/-! ## ARRAY_QUEUE_ENTRY_START (12 R415, R416) -/

/-- The mark of an entry that runs. -/
def QEntry.runFrom (id now : Nat) (f : Option (Nat × Nat)) (d : QEntry) : QEntry :=
  if d.id = id then { d with running := true, started := now, fault := f } else d

/-- A cluster's entry marked as running. -/
def State.startEntry (s : State) (c id now : Nat) (f : Option (Nat × Nat)) : State :=
  s.setCluster c { s.cluster c with queue := (s.cluster c).queue.map (QEntry.runFrom id now f) }

section
variable {s : State} {c : Fin 64} {e : QEntry} (he : (s.cluster c).queue.find? (fun d => d.id == e.id) = some e)
include he

section
variable {j : Nat} (hjob : s.jobOf (ThreadKey e.thread) = some j) (hrun : s.contained = false) (hidle : e.running = false)
  (hstart : mayStart (s.cluster c).queue e = true) (hscrub : (s.cluster c).scrubbing = false) (hheld : s.fetchHeld (jobLd j) e = false)
include hjob hrun hidle hstart hscrub hheld

/-- An entry that may start leaves with the exception of its checks, or runs. -/
theorem arrayQueueEntryStart_eq : exec (.arrayQueueEntryStart c e.id) s = finish s
    (match s.runFault (s.cluster c) (jobLd j) e with
      | some f => s.leaveQueue c e (some f)
      | none =>
        if e.func = 4 then (s.startEntry c e.id s.now none).loadLookup c (e.a % 64)
        else if 16 ≤ e.func then
          let r := s.fetchLines { ld := jobLd j, job := some j } (s.cluster c) e (List.range e.count)
          (match r.1 with
            | some (4, _) => r.2.bump 0x900 0x1D 1
            | _ => r.2).startEntry c e.id s.now r.1
        else s.startEntry c e.id s.now none) := by
  refine congrArg (finish s) ?_
  simp only [he, hjob]
  exact if_neg (by simp [hrun, hidle, hstart, hscrub, hheld])

/-- An entry that fails its checks leaves the queue with its deferred exception. -/
theorem arrayQueueEntryStart_fails {f : Nat × Nat} (hf : s.runFault (s.cluster c) (jobLd j) e = some f) :
    Takes (.arrayQueueEntryStart c e.id) s (s.leaveQueue c e (some f)) := by
  have h := arrayQueueEntryStart_eq he hjob hrun hidle hstart hscrub hheld
  rwa [hf] at h

section
variable (hok : s.runFault (s.cluster c) (jobLd j) e = none)
include hok

/-- AMMA, AZERO and AREAD run. -/
theorem arrayQueueEntryStart_runs (hfunc : e.func ≤ 2) : Takes (.arrayQueueEntryStart c e.id) s (s.startEntry c e.id s.now none) := by
  have h := arrayQueueEntryStart_eq he hjob hrun hidle hstart hscrub hheld
  simp only [hok] at h
  rwa [if_neg (by omega), if_neg (by omega)] at h

/-- ALUT loads the lookup as it runs. -/
theorem arrayQueueEntryStart_alut (hfunc : e.func = 4) :
    Takes (.arrayQueueEntryStart c e.id) s ((s.startEntry c e.id s.now none).loadLookup c (e.a % 64)) := by
  have h := arrayQueueEntryStart_eq he hjob hrun hidle hstart hscrub hheld
  simp only [hok] at h
  rwa [if_pos hfunc] at h

/-- A tile fetch that meets no exception has asked for its lines as it runs. -/
theorem arrayQueueEntryStart_fetch {u : State} (hfunc : 16 ≤ e.func)
    (hu : s.fetchLines { ld := jobLd j, job := some j } (s.cluster c) e (List.range e.count) = (none, u)) :
    Takes (.arrayQueueEntryStart c e.id) s (u.startEntry c e.id s.now none) := by
  have h := arrayQueueEntryStart_eq he hjob hrun hidle hstart hscrub hheld
  simp only [hok, hu] at h
  rwa [if_neg (by omega), if_pos hfunc] at h

end

end

/-! ## ARRAY_QUEUE_ENTRY_COMPLETE (12 R415, R421, R425) -/

section
variable (hruns : e.running = true)
include hruns

/-- AMMA completes with its exception when a row of A fails its check. -/
theorem arrayQueueEntryComplete_rowBad (hfunc : e.func < 16) {a : Nat} (ha : s.rowBad c e = some a) :
    Takes (.arrayQueueEntryComplete c e.id) s
      ((s.windowFail c (a - windowBase c) (aBytes e.mode e.depth)).leaveQueue c e (some (5, a))) := by
  refine congrArg (finish s) ?_
  simp only [he, hruns]
  exact (if_neg (by simp)).trans ((if_neg (by omega)).trans (by rw [ha]))

/-- Another entry of AOP completes with its result. -/
theorem arrayQueueEntryComplete_result (hfunc : e.func < 16) (hrows : s.rowBad c e = none) {u : State} (hu : s.arrayResult c e = u) :
    Takes (.arrayQueueEntryComplete c e.id) s (u.leaveQueue c e none) := by
  refine congrArg (finish s) ?_
  simp only [he, hruns]
  exact (if_neg (by simp)).trans ((if_neg (by omega)).trans (by rw [hrows, hu]))

/-- A tile fetch whose lines have all come places them. -/
theorem arrayQueueEntryComplete_fetch (hfunc : 16 ≤ e.func) {mine : Load → Bool} {u : State}
    (hmine : mine = (fun l => l.thread.cluster == c && (match l.kind with | .fetch n _ => n == e.id | _ => false)))
    (hcome : ∀ l ∈ s.loads, mine l = true → l.arrived = true)
    (hu : State.placeLines { s with loads := s.loads.filter (fun l => !mine l) } e (s.loads.filter mine) = (none, u)) :
    Takes (.arrayQueueEntryComplete c e.id) s (u.leaveQueue c e e.fault) := by
  have hall : (s.loads.filter mine).all (·.arrived) = true :=
    List.all_eq_true.mpr fun l hl => hcome l (List.mem_filter.mp hl).1 (List.mem_filter.mp hl).2
  refine congrArg (finish s) ?_
  simp only [he, hruns]
  subst hmine
  refine (if_neg (by simp)).trans ((if_pos hfunc).trans ((if_pos hall).trans ?_))
  exact congrArg (fun r : Option (Nat × Nat) × State => r.2.leaveQueue c e (if r.1.isSome then r.1 else e.fault)) hu

end

end

/-! ## The statement of 11_compute_architecture.md, the array -/

/-- Settles O59: an entry starts as `arrayQueueEntryStart_eq` says, and leaves the queue with the result of its function. -/
theorem arrayEntriesRun : Obligations.ArrayEntriesRun := by
  unfold Obligations.ArrayEntriesRun
  intro s c e j he
  refine ⟨?starts, fun hruns hfunc a => arrayQueueEntryComplete_rowBad he hruns hfunc,
    fun hruns hrows => ⟨?azero, ?amma, ?aread, ?fetch⟩⟩
  case starts =>
    rintro hjob hrun hidle hstart hscrub hheld go mark rfl rfl
    exact ⟨fun f => arrayQueueEntryStart_fails he hjob hrun hidle hstart hscrub hheld,
      fun hok => ⟨arrayQueueEntryStart_runs he hjob hrun hidle hstart hscrub hheld hok,
        arrayQueueEntryStart_alut he hjob hrun hidle hstart hscrub hheld hok,
        fun u => arrayQueueEntryStart_fetch he hjob hrun hidle hstart hscrub hheld hok⟩⟩
  case azero =>
    intro hfunc
    refine arrayQueueEntryComplete_result he hruns (by omega) (hrows (by omega)) ?_
    simp only [State.arrayResult, hfunc]
    rfl
  case amma =>
    intro rows hfunc hrowsA
    refine arrayQueueEntryComplete_result he hruns (by omega) (hrows (by omega)) ?_
    simp only [State.arrayResult, hfunc, hrowsA]
    rfl
  case aread =>
    intro hfunc
    refine arrayQueueEntryComplete_result he hruns (by omega) (hrows (by omega)) ?_
    simp only [State.arrayResult, hfunc]
    rfl
  case fetch => exact fun mine u hfunc => arrayQueueEntryComplete_fetch he hruns hfunc

end Sys2Proof.Machine
end

section
/-!
SUPPORT. The loads and stores of a thread: what each place of an address makes of them, said once for all sizes.
-/
namespace Sys2Proof.Machine

/-! ## Addresses and values -/

/-- The address of format VM, its offset in lines taken as a number. -/
theorem Ctx.addrV_eq (c : Ctx) (rs1 : BitVec 5) (i : BitVec 11) :
    c.addrV rs1 i = (c.x.rx rs1 + BitVec.ofInt 64 (64 * i.toInt)).toNat := by
  rw [Ctx.addrV, BitVec.ofInt_mul]
  rfl

/-- A thread that takes its load's value and passes on passes on and takes it. -/
theorem Thread.step_loaded (x : Thread) (k : LoadKind) (b : Bytes) : (x.loaded k b).step = x.step.loaded k b := by
  cases k with
  | scalar rd size signed => unfold Thread.loaded Thread.wx; dsimp only; split <;> rfl
  | vector vd mask place => rfl
  | atomic rd op n x cmp => rfl
  | fetch entry line => rfl

/-! ## Loads (12 R404) -/

section
variable {s : State} {c : Ctx} {kind : LoadKind} {a n : Nat}

theorem loadOp_misaligned (ha : a % n ≠ 0) : s.loadOp c kind a n = .trap 2 a := if_pos ha

section
variable (ha : a % n = 0)
include ha

theorem loadOp_nowhere (hp : s.place c.jn c.job a n = .nowhere) : s.loadOp c kind a n = .trap 4 a :=
  (if_neg (not_not_intro ha)).trans (by rw [hp])

/-- A window answers at once, unless a line fails its check. -/
theorem loadOp_window {cl w : Nat} (hp : s.place c.jn c.job a n = .window cl w) :
    s.loadOp c kind a n = if (s.startClock cl).windowBad cl w n = true then .trapped ((s.startClock cl).windowFail cl w n) 5 a
      else (s.startClock cl).ranWith c (c.x.step.loaded kind ((s.startClock cl).windowRead cl w n)) := by
  refine (if_neg (not_not_intro ha)).trans ?_
  rw [hp, ← Thread.step_loaded]

/-- A line of DPA comes from the L1 of the core, or is asked for. -/
theorem loadOp_dpa {d : Nat} (hp : s.place c.jn c.job a n = .dpa d) (hbusy : s.lineBusy c a = false)
    (hheld : s.storesHeld c.t = false ∨ s.lineHeld c.ld d = false) (href : s.noRef c d = false) :
    s.loadOp c kind a n = match s.l1Read c d with
      | (some b, u) => u.ranWith c (c.x.step.loaded kind (b.drop (d % 64)))
      | (none, u) => .ran (((u.newLoad c kind a).2.setThread c.k c.x.step).readAt
          { view := c.view, load := some (u.newLoad c kind a).1, req := c.req } d) := by
  have hfree : ¬ (s.lineBusy c a = true ∨ s.storesHeld c.t = true ∧ s.lineHeld c.ld d = true) := by
    rcases hheld with h | h <;> simp [hbusy, h]
  refine (if_neg (not_not_intro ha)).trans ?_
  rw [hp]
  refine (if_neg hfree).trans ((if_neg (by simp [href])).trans ?_)
  rcases s.l1Read c d with ⟨_ | b, u⟩
  · rfl
  · exact congrArg (u.ranWith c) (Thread.step_loaded _ _ _)

/-- The host window is read by DMA. -/
theorem loadOp_host {off h id : Nat} {u v : State} (hp : s.place c.jn c.job a n = .host off) (hmaster : s.mayMaster c.ld = true)
    (hlegs : s.allLegsDown = false) (hloading : s.lineLoading c.t a = false) (hhost : s.hostAddr c off = (some h, u))
    (hnew : u.newLoad c kind a = (id, v)) :
    s.loadOp c kind a n = .ran ((v.setThread c.k c.x.step).dmaSend c.ld (.load id) [(h, n)]
      (if c.job.virtual then pagesOf (c.job.hostAddr + off) n else []) none) := by
  refine (if_neg (not_not_intro ha)).trans ?_
  rw [hp]
  refine (if_neg (by simp [hmaster])).trans ((if_neg (by simp [hlegs, hloading])).trans ?_)
  rw [hhost]
  dsimp only
  rw [hnew]

end

end

/-! ## Stores (12 R404, R405) -/

section
variable {s : State} {c : Ctx} {a n mask : Nat} {b : Bytes}

theorem storeOp_misaligned (ha : a % n ≠ 0) : s.storeOp c a n mask b = .trap 2 a := if_pos ha

section
variable (ha : a % n = 0)
include ha

theorem storeOp_nowhere (hp : s.place c.jn c.job a n = .nowhere) : s.storeOp c a n mask b = .trap 4 a :=
  (if_neg (not_not_intro ha)).trans (by rw [hp])

/-- A window is written at once. -/
theorem storeOp_window {cl w : Nat} (hp : s.place c.jn c.job a n = .window cl w) :
    s.storeOp c a n mask b = .ran (((s.startClock cl).setThread c.k c.x.step).windowWrite cl w
      ((List.range n).map (fun j => if mask.testBit j then nth b j 0 else nth ((s.startClock cl).windowRead cl w n) j 0))) :=
  (if_neg (not_not_intro ha)).trans (by rw [hp])

/-- A line of DPA leaves the core's L1 and becomes a write of the thread. -/
theorem storeOp_dpa {d : Nat} (hp : s.place c.jn c.job a n = .dpa d) (hbusy : s.lineBusy c a = false) (href : s.noRef c d = false) :
    s.storeOp c a n mask b = .ran (((s.l1Forget c.t (· == d / 64)).setThread c.k c.x.step).write
      { why := .flip, ld := c.ld, dpa := d / 64 * 64, mask := mask * 2 ^ (d % 64), data := slice (zeros (d % 64) ++ b.take n) 0 64
        by_ := .thread c.t, since := s.now, job := some c.jn }) := by
  refine (if_neg (not_not_intro ha)).trans ?_
  rw [hp]
  exact (if_neg (by simp [hbusy])).trans (if_neg (by simp [href]))

/-- A whole store to the host window is one DMA write. -/
theorem storeOp_host {off h : Nat} {u : State} (hp : s.place c.jn c.job a n = .host off) (hmaster : s.mayMaster c.ld = true)
    (hlegs : s.allLegsDown = false) (hloading : s.lineLoading c.t a = false) (hhost : s.hostAddr c off = (some h, u))
    (hwhole : ∀ j < n, mask.testBit j = true) :
    s.storeOp c a n mask b = (u.dmaPut c.ld h b).ranWith c c.x.step := by
  have hruns : (List.range n).filter mask.testBit = List.range n :=
    List.filter_eq_self.mpr fun j hj => hwhole j (List.mem_range.mp hj)
  refine (if_neg (not_not_intro ha)).trans ?_
  rw [hp]
  refine (if_neg (by simp [hmaster])).trans ((if_neg (by simp [hlegs, hloading])).trans ?_)
  rw [hhost]
  dsimp only
  rw [hruns, if_pos List.length_range, State.ranWith]

end

end

/-- VST makes no access under a predicate of all zeros. -/
theorem vst_eq {s : State} {c : Ctx} {vd : BitVec 4} {rs1 : BitVec 5} {pm : BitVec 3} {i : BitVec 11} :
    (if c.x.rp pm = 0 then s.ranWith c c.x.step else s.storeOp c (c.addrV rs1 i) 64 (c.x.rp pm).toNat (vecBytes (c.x.rv vd)))
      = if (c.x.rp pm).toNat = 0 then s.ranWith c c.x.step
        else s.storeOp c (c.x.rx rs1 + BitVec.ofInt 64 (64 * i.toInt)).toNat 64 (c.x.rp pm).toNat (leBytes 64 (c.x.rv vd).toNat) := by
  rw [Ctx.addrV_eq, vecBytes]
  exact if_congr (BitVec.toNat_inj (y := 0#64)).symm rfl rfl

/-! ## The statement of 11_compute_architecture.md and 12_gaisk_isa.md, loads and stores -/

/-- A row of the loads: its instruction comes out as the load of its address, size and kind. -/
def IsLoad (s : State) (t : ThreadId) (c : Ctx) (p : Instr × Nat × Nat × Nat × LoadKind) : Prop :=
  ComesOut p.1 s t p.2.1 c (s.loadOp c p.2.2.2.2 p.2.2.1 p.2.2.2.1)

/-- A row of the stores: its instruction comes out as the store of its address, size, mask and bytes. -/
def IsStore (s : State) (t : ThreadId) (c : Ctx) (p : Instr × Nat × Nat × Nat × Nat × Bytes) : Prop :=
  ComesOut p.1 s t p.2.1 c (if p.2.2.2.2.1 = 0 then s.ranWith c c.x.step else s.storeOp c p.2.2.1 p.2.2.2.1 p.2.2.2.2.1 p.2.2.2.2.2)

/-- Settles O52: every row is a load or a store (`IsLoad`, `IsStore`), and each place of its address has its lemma. -/
theorem loadsAndStoresReachTheirPlace : Obligations.LoadsAndStoresReachTheirPlace := by
  unfold Obligations.LoadsAndStoresReachTheirPlace
  rintro s t c rd rs1 vd pm imm i a va rfl rfl
  refine ⟨List.forall_iff_forall_mem.1 (List.Forall.imp (p := IsLoad s t c) ?load ⟨⟨_, rfl, rfl⟩, ⟨_, rfl, rfl⟩, ⟨_, rfl, rfl⟩,
      ⟨_, rfl, rfl⟩, ⟨_, rfl, rfl⟩, ⟨_, rfl, rfl⟩, ⟨_, rfl, rfl⟩, ⟨_, rfl, by rw [Ctx.addrV_eq]; rfl⟩,
      ⟨_, rfl, by rw [Ctx.addrV_eq]; rfl⟩⟩),
    List.forall_iff_forall_mem.1 (List.Forall.imp (p := IsStore s t c) ?store ⟨⟨_, rfl, rfl⟩, ⟨_, rfl, rfl⟩, ⟨_, rfl, rfl⟩,
      ⟨_, rfl, rfl⟩, ⟨_, rfl, vst_eq⟩⟩)⟩
  case load =>
    rintro ⟨i, w, a, n, kind⟩ (hout : ComesOut i s t w c (s.loadOp c kind a n)) h x hx
    dsimp only at h ⊢
    obtain rfl := h.thread
    subst hx
    refine ⟨fun ha => hout.trap h (loadOp_misaligned ha),
      fun ha => ⟨fun hplace => hout.trap h (loadOp_nowhere ha hplace), ?window, ?dpa, ?host⟩⟩
    case window =>
      rintro cl o u hplace rfl
      have hload := loadOp_window (kind := kind) ha hplace
      exact ⟨fun hgood => hout.ranWith h (hload.trans (if_neg (by simp [hgood]))), fun hbad => hout.trapped h (hload.trans (if_pos hbad))⟩
    case dpa =>
      intro d hplace hbusy hheld href
      have hload := loadOp_dpa (kind := kind) ha hplace hbusy hheld href
      rcases hl1 : s.l1Read c d with ⟨_ | b, u⟩ <;> rw [hl1] at hload
      · exact hout.ran h hload
      · exact hout.ranWith h hload
    case host =>
      intro off addr id u v hplace hmaster hlegs hloading hhost hnew
      exact hout.ran h (loadOp_host ha hplace hmaster hlegs hloading hhost hnew)
  case store =>
    rintro ⟨i, w, a, n, mask, b⟩ (hout : ComesOut i s t w c (if mask = 0 then s.ranWith c c.x.step else s.storeOp c a n mask b)) h
      _ _ _ x rfl rfl rfl hx
    dsimp only at h ⊢
    obtain rfl := h.thread
    subst hx
    refine ⟨fun hnone => hout.ranWith h (if_pos hnone), fun hsome ha => ?misaligned, fun hsome ha => ?aligned⟩
    all_goals rw [if_neg hsome] at hout
    case misaligned => exact hout.trap h (storeOp_misaligned ha)
    case aligned =>
      refine ⟨fun hplace => hout.trap h (storeOp_nowhere ha hplace), ?window, fun d hplace hbusy href => ?dpa,
        fun off addr u hplace hmaster hlegs hloading hhost hwhole => ?host⟩
      case window =>
        rintro cl o u hplace rfl
        exact hout.ran h (storeOp_window ha hplace)
      case dpa => exact hout.ran h (storeOp_dpa ha hplace hbusy href)
      case host => exact hout.ranWith h (storeOp_host ha hplace hmaster hlegs hloading hhost hwhole)

end Sys2Proof.Machine
end

section
/-!
SUPPORT. The atomics of a thread: the value each gives its location, and what each place of an address makes of one.
-/
namespace Sys2Proof.Machine

/-! ## An atomic at a thread address (12 R406, R407) -/

section
variable {s : State} {c : Ctx} {op n a rd order y z : Nat}

theorem atomicOp_misaligned (ha : a % n ≠ 0) : s.atomicOp c op n a rd order y z = .trap 2 a := if_pos ha

section
variable (ha : a % n = 0)
include ha

/-- An atomic reaches no place outside the windows and DPA. -/
theorem atomicOp_elsewhere {off : Nat} (hp : s.place c.jn c.job a n = .nowhere ∨ s.place c.jn c.job a n = .host off) :
    s.atomicOp c op n a rd order y z = .trap 4 a := by
  refine (if_neg (not_not_intro ha)).trans ?_
  rcases hp with hp | hp <;> rw [hp]

section
variable (horder : order < 2 ∨ s.loadsOf c.t = [] ∧ s.storesHeld c.t = false)
include horder

omit ha in
/-- With release order an atomic waits for the thread's earlier accesses (11 R388); here there are none. -/
theorem atomic_free : ¬ (order ≥ 2 ∧ (!(s.loadsOf c.t).isEmpty ∨ s.storesHeld c.t = true)) := by
  rintro ⟨hge, hwaits⟩
  rcases horder with hlt | ⟨hloads, hheld⟩
  · omega
  · simp [hloads, hheld] at hwaits

/-- A location of a window is read and written at once, unless a line fails its check. -/
theorem atomicOp_window {cl w old : Nat} {u : State} {r : Nat × Flags} (hp : s.place c.jn c.job a n = .window cl w)
    (hold : old = leNat ((s.startClock cl).windowRead cl w n)) (hr : atomicNew op n old y z = r)
    (hu : u = if order % 2 = 1 then (s.startClock cl).l1Forget c.t (fun _ => true) else s.startClock cl) :
    s.atomicOp c op n a rd order y z = if (s.startClock cl).windowBad cl w n = true then .trapped (u.windowFail cl w n) 5 a
      else .ran ((u.setThread c.k (c.x.atomicDone rd old r.2).step).windowWrite cl w (leBytes n r.1)) := by
  refine (if_neg (not_not_intro ha)).trans ?_
  rw [hp]
  refine (if_neg (atomic_free horder)).trans ?_
  subst hr hold hu
  rfl

/-- A location of DPA that can be updated at its home is. -/
theorem atomicOp_dpa {d old : Nat} {fl : Flags} {u : State} (hp : s.place c.jn c.job a n = .dpa d) (hbusy : s.lineBusy c a = false)
    (hdone : s.atomicTry c.view c.t op n d y z = .done old fl u) :
    s.atomicOp c op n a rd order y z = (u.l1Atomic c.t order a).ranWith c (c.x.atomicDone rd old fl).step := by
  refine (if_neg (not_not_intro ha)).trans ?_
  rw [hp]
  refine (if_neg ?_).trans (by rw [hdone])
  rw [hbusy]
  simpa using atomic_free horder

end

end

/-- A line of a tile in T0 or T1 that nothing holds back is read, and written with the location's new value (11 R390). -/
theorem atomicTry_done {v : View} {t : ThreadId} {d key old i : Nat} {line : Bytes} {u : State} {ovl : Option Nat} {r : Nat × Flags}
    (hseen : s.seen v d = .tile i (some key) ovl true) (hraw : ((s.regionAt i).bind s.region).any Region.isFr = false)
    (hhere : (s.tgt key).state ≠ 4) (hstill : (s.tgt key).state ≠ 2) (hhome : (s.tgt key).home < 2)
    (hgood : (s.poisonSet key).testBit (d / 64 % 1024) = false) (hheld : s.lineHeld v.ld d = false)
    (hline : s.lineNow v d (0x10 + t.cluster.val) = (some line, u)) (hold : old = field line (d % 64) n)
    (hr : atomicNew op n old y z = r) :
    s.atomicTry v t op n d y z = .done old r.2 (u.write
      { why := .flip, ld := v.ld, dpa := d / 64 * 64, mask := (2 ^ n - 1) * 2 ^ (d % 64), data := patch line (d % 64) (leBytes n r.1)
        by_ := .thread t, since := u.now, job := v.job }) := by
  subst hr hold
  unfold State.atomicTry
  simp only [hseen, hline]
  refine (if_neg (by simp [hraw])).trans ((if_neg hhere).trans ((if_neg (by simp [hgood])).trans ((if_neg (by simp [hheld])).trans ?_)))
  split
  · rfl
  · exact if_neg (not_le.mpr hhome)

end

/-- A signed operand counts by the bits of the location alone. -/
theorem sextNat_mod (k v : Nat) : sextNat k (v % 2 ^ k) = sextNat k v := by simp [sextNat]

/-- The thread takes the old value and the flags, and passes on. -/
theorem Thread.step_atomicDone (x : Thread) (rd : BitVec 5) (old : Nat) (fl : Flags) :
    (x.atomicDone rd.toNat old fl).step = { (x.wx rd (BitVec.ofNat 64 old)).accrue fl with pc := x.pc + 4 } := by
  rw [Thread.atomicDone, BitVec.ofNat_toNat, BitVec.setWidth_eq, Thread.step, Thread.accrue, Thread.wx_pc]

/-! ## The statement of 11_compute_architecture.md and 12_gaisk_isa.md, atomics -/

/-- A row of the atomics: its instruction comes out as the atomic of its code, whose new value and flags are the row's. -/
def IsAtomic (s : State) (t : ThreadId) (c : Ctx) (rd rs1 rs2 : BitVec 5) (order size : BitVec 2)
    (p : Instr × Nat × (Nat → Nat × Flags)) : Prop :=
  ComesOut p.1 s t (wordAT p.2.1 rd rs1 rs2 order size) c
    (s.atomicOp c p.2.1 (2 ^ (size.toNat + 1)) (c.x.rx rs1).toNat rd.toNat order.toNat (c.x.rx rs2).toNat (c.x.rx rd).toNat)
  ∧ ∀ old, atomicNew p.2.1 (2 ^ (size.toNat + 1)) old (c.x.rx rs2).toNat (c.x.rx rd).toNat = p.2.2 old

/-- Settles O54: every row is an atomic (`IsAtomic`), and each place of its address has its lemma. -/
theorem atomicsReturnTheOldValue : Obligations.AtomicsReturnTheOldValue := by
  unfold Obligations.AtomicsReturnTheOldValue
  rintro s t c rd rs1 rs2 order size n m a y z rfl rfl rfl rfl rfl
  refine List.forall_iff_forall_mem.1 (List.Forall.imp (p := IsAtomic s t c rd rs1 rs2 order size) ?atomic
    ⟨?aadd, ?aand, ?aor, ?axor, ?amin, ?amax, ?aminu, ?amaxu, ?aswap, ?acas, ?afadd⟩)
  case amin | amax => exact ⟨⟨_, rfl, rfl⟩, fun old => by rw [sextNat_mod]; rfl⟩
  case aadd | aand | aor | axor | aminu | amaxu | aswap | acas | afadd => exact ⟨⟨_, rfl, rfl⟩, fun _ => rfl⟩
  case atomic =>
    rintro ⟨i, op, g⟩ ⟨hout, hg⟩ h
    dsimp only at hout hg h ⊢
    obtain rfl := h.thread
    refine ⟨fun ha => hout.trap h (atomicOp_misaligned ha),
      fun ha => ⟨fun off hplace => hout.trap h (atomicOp_elsewhere ha hplace), ?window, ?dpa⟩⟩
    case window =>
      rintro cl w old u x hplace horder hold rfl hu
      have hatomic := atomicOp_window (rd := rd.toNat) ha horder hplace hold (hg old) hu
      rw [Thread.step_atomicDone] at hatomic
      exact ⟨fun hgood => hout.ran h (hatomic.trans (if_neg (by simp [hgood]))), fun hbad => hout.trapped h (hatomic.trans (if_pos hbad))⟩
    case dpa =>
      rintro d key old k line u x ovl hplace hbusy horder hseen hraw hhere hstill hhome hgood hheld hline hold rfl
      have hdone := atomicTry_done hseen hraw hhere hstill hhome hgood hheld hline hold (hg old)
      have hatomic := atomicOp_dpa (rd := rd.toNat) ha horder hplace hbusy hdone
      rw [Thread.step_atomicDone] at hatomic
      exact hout.ranWith h hatomic

end Sys2Proof.Machine
end

section
/-!
SUPPORT. A thread's registers: what each reads after a write of one of them, and at the start of a job.
-/
namespace Sys2Proof.Machine

/-! ## Lists of registers -/

/-- A register of a whole list of registers, after one of them was replaced. -/
theorem nth_set_reg {α : Type} {n : Nat} {l : List α} (hl : l.length = 2 ^ n) (r q : BitVec n) (a d : α) :
    nth (l.set r.toNat a) q.toNat d = if q = r then a else nth l q.toNat d := by
  by_cases hq : q = r
  · have hr : r.toNat < l.length := hl ▸ r.isLt
    subst hq; simp [nth, hr]
  · have hne : r.toNat ≠ q.toNat := fun h => hq (BitVec.eq_of_toNat_eq h).symm
    simp [nth, hq, List.getElem?_set_ne hne]

/-- Every element of a list of one default value reads that value. -/
theorem nth_replicate {α : Type} (n i : Nat) (a : α) : nth (List.replicate n a) i a = a := by
  rw [nth, List.getD_eq_getElem?_getD, List.getElem?_getD_replicate_default_eq]

/-! ## Reads after writes (12 R393) -/

section
variable {x : Thread}

theorem Thread.rx_wx (hx : x.x.length = 32) (r q : BitVec 5) (v : U64) :
    (x.wx r v).rx q = if q = 0 then 0 else if q = r then v else x.rx q := by
  unfold Thread.rx Thread.wx
  by_cases hq : q = 0
  · rw [if_pos hq, if_pos hq]
  · rw [if_neg hq, if_neg hq, if_neg hq]
    by_cases hr : r = 0
    · rw [if_pos hr, if_neg (hr ▸ hq)]
    · rw [if_neg hr, nth_set_reg hx]

theorem Thread.rv_wv (hx : x.v.length = 16) (r q : BitVec 4) (v : BitVec 512) :
    (x.wv r v).rv q = if q = r then v else x.rv q := by
  unfold Thread.rv Thread.wv
  rw [nth_set_reg hx]

theorem Thread.rp_wp (hx : x.p.length = 8) (r q : BitVec 3) (v : U64) :
    (x.wp r v).rp q = if q = 0 then BitVec.allOnes 64 else if q = r then v else x.rp q := by
  unfold Thread.rp Thread.wp
  by_cases hq : q = 0
  · rw [if_pos hq, if_pos hq]
  · rw [if_neg hq, if_neg hq, if_neg hq]
    by_cases hr : r = 0
    · rw [if_pos hr, if_neg (hr ▸ hq)]
    · rw [if_neg hr, nth_set_reg hx]

end

/-! ## Writes keep the number of registers -/

@[simp] theorem Thread.length_wx (x : Thread) (r : BitVec 5) (v : U64) : (x.wx r v).x.length = x.x.length := by
  unfold Thread.wx; split <;> simp
@[simp] theorem Thread.length_wv (x : Thread) (r : BitVec 4) (v : BitVec 512) : (x.wv r v).v.length = x.v.length := by
  simp [Thread.wv]
@[simp] theorem Thread.length_wp (x : Thread) (r : BitVec 3) (v : U64) : (x.wp r v).p.length = x.p.length := by
  unfold Thread.wp; split <;> simp

/-! ## The start of a job -/

section
variable (j i : Nat) (pc : U64)

@[simp] theorem Thread.fresh_rx (r : BitVec 5) : (Thread.fresh j i pc).rx r = 0 := by
  unfold Thread.rx; split
  · rfl
  · exact nth_replicate 32 _ _
@[simp] theorem Thread.fresh_rv (r : BitVec 4) : (Thread.fresh j i pc).rv r = 0 := nth_replicate 16 _ _
@[simp] theorem Thread.fresh_rp {r : BitVec 3} (hr : r ≠ 0) : (Thread.fresh j i pc).rp r = 0 := by
  rw [Thread.rp, if_neg hr]; exact nth_replicate 8 _ _

end

/-! ## The statement of 12_gaisk_isa.md, registers -/

/-- Settles O51: one lemma for each kind of register, after a write and at the start of a job. -/
theorem registersReadBack : Obligations.RegistersReadBack := by
  unfold Obligations.RegistersReadBack
  refine ⟨fun x r q v hx => ⟨Thread.rx_wx hx r q v, by rw [Thread.length_wx, hx]⟩,
    fun x r q v hx => ⟨Thread.rv_wv hx r q v, by rw [Thread.length_wv, hx]⟩,
    fun x r q v hx => ⟨Thread.rp_wp hx r q v, by rw [Thread.length_wp, hx]⟩, fun j i pc => ?_⟩
  exact ⟨List.length_replicate, List.length_replicate, List.length_replicate, rfl, rfl, Thread.fresh_rx j i pc,
    Thread.fresh_rv j i pc, fun _ => Thread.fresh_rp j i pc⟩

end Sys2Proof.Machine
end

section
/-!
SUPPORT. Division, and the instructions with an immediate.
-/
namespace Sys2Proof.Machine

/-! ## Division (12 R402) -/

/-- By another divisor than 0 the signed quotient is the library's, wrapped at -2^63 by -1. -/
theorem divSigned_of_ne {a b : U64} (hb : b ≠ 0) : divSigned a b = a.sdiv b := by
  rw [divSigned, if_neg hb]
  exact BitVec.eq_of_toInt_eq (by rw [BitVec.toInt_ofInt, BitVec.toInt_sdiv])

/-- By another divisor than 0 the signed remainder is the library's. -/
theorem remSigned_of_ne {a b : U64} (hb : b ≠ 0) : remSigned a b = a.srem b := by
  rw [remSigned, if_neg hb, ← BitVec.toInt_srem, BitVec.ofInt_toInt]

/-- Settles O46: the results are `divSigned` and `remSigned`, and the unsigned quotient and remainder with their values at a
divisor of 0. -/
theorem divisionRaisesNoException : Obligations.DivisionRaisesNoException := by
  unfold Obligations.DivisionRaisesNoException
  rintro s t c rd rs1 rs2 a b rfl rfl
  generalize ha : c.x.rx rs1 = a
  generalize hb : c.x.rx rs2 = b
  refine ⟨divSigned a b, remSigned a b, if b = 0 then BitVec.allOnes 64 else a / b, if b = 0 then a else a % b,
    ?zero, ?overflow, ?signed, ?unsigned, ?issue⟩
  case zero =>
    rintro rfl
    exact ⟨rfl, rfl, rfl, rfl⟩
  case overflow =>
    rintro rfl rfl
    decide
  case signed =>
    intro hzero hover
    have hfits : a ≠ BitVec.intMin 64 ∨ b ≠ -1#64 := not_and_or.mp fun h => hover h.1 h.2
    rw [divSigned_of_ne hzero, remSigned_of_ne hzero]
    exact ⟨BitVec.toInt_sdiv_of_ne_or_ne a b hfits, BitVec.toInt_srem a b⟩
  case unsigned =>
    intro hzero
    rw [if_neg hzero, if_neg hzero]
    exact ⟨BitVec.toNat_udiv, BitVec.toNat_umod⟩
  case issue =>
    subst ha hb
    exact List.forall_iff_forall_mem.1 ⟨scalarOp_takes rfl rfl, scalarOp_takes rfl rfl, scalarOp_takes rfl rfl, scalarOp_takes rfl rfl⟩

/-! ## SOPI and LUI (12 R403) -/

/-- The amount of a shift is in the low bits of the immediate, which its sign leaves alone. -/
theorem signExtend_toNat_mod (imm : BitVec 12) : (imm.signExtend 64).toNat % 64 = imm.toNat % 64 := by
  rw [BitVec.toNat_signExtend, BitVec.toNat_setWidth]
  split <;> omega

/-- An instruction of SOPI that issues writes the value of its row to rd. -/
theorem scalarImm_takes {i : Instr} {s : State} {t : ThreadId} {c : Ctx} {func : Nat} {rd rs1 : BitVec 5} {imm : BitVec 12}
    {f : U64 → U64 → U64} {v : U64} (hexec : exec i s = finish s (s.scalarImm t func rd rs1 imm f))
    (hv : f (c.x.rx rs1) (imm.signExtend 64) = v) (h : Issues s t (wordSI 0x02 func rd rs1 imm) c) :
    Takes i s ((s.setThread c.k { c.x.wx rd v with pc := c.x.pc + 4 }).retired t) :=
  takes_of_issue hexec (issue_ranWith h (by rw [hv, Thread.step_wx]))

/-- The fields of a word of format SI. -/
theorem wordSI_fields {major func : Nat} (hmajor : major < 128) (hfunc : func < 8) (rd rs1 : BitVec 5) (imm : BitVec 12) :
    bits (wordSI major func rd rs1 imm) 6 0 = major ∧ bits (wordSI major func rd rs1 imm) 19 17 = func
    ∧ bits (wordSI major func rd rs1 imm) 31 26 = imm.toNat / 64 := by
  simp only [bits_eq, wordSI]
  omega

/-- A shift whose immediate names more than a shift of 0 to 63 is an illegal word. -/
theorem wordLegal_shift {func : Nat} (hlo : 4 ≤ func) (hhi : func ≤ 6) (rd rs1 : BitVec 5) {imm : BitVec 12} (himm : imm.toNat / 64 ≠ 0) :
    wordLegal (wordSI 0x02 func rd rs1 imm) = false := by
  obtain ⟨hmajor, hfunc, hupper⟩ := wordSI_fields (major := 0x02) (by decide) (by omega : func < 8) rd rs1 imm
  simp only [wordLegal, unused, hmajor, hfunc, hupper]
  simp [hlo, hhi, himm]

/-- An instruction of SOPI whose word is illegal raises exception 0x01. -/
theorem scalarImm_illegal {i : Instr} {s : State} {t : ThreadId} {c : Ctx} {func : Nat} {rd rs1 : BitVec 5} {imm : BitVec 12}
    {f : U64 → U64 → U64} (hexec : exec i s = finish s (s.scalarImm t func rd rs1 imm f)) (hlo : 4 ≤ func) (hhi : func ≤ 6)
    (himm : imm.toNat / 64 ≠ 0) (h : Ready s t (wordSI 0x02 func rd rs1 imm) c) (hpc : c.x.pc.toNat % 4 = 0)
    (hfetch : s.fetchable t c.x.pc.toNat = true) : Takes i s (s.except t 1 false (wordSI 0x02 func rd rs1 imm) c.x.pc.toNat 0) :=
  takes_of_issue hexec (issue_illegal h hpc hfetch (wordLegal_shift hlo hhi rd rs1 himm) _)

/-- LUI gives its immediate times 4,096. -/
theorem lui_value (i : BitVec 20) : (i ++ (0 : BitVec 12)).signExtend 64 = BitVec.ofInt 64 (i.toInt * 4096) := by
  rw [mul_comm]
  exact congrArg (BitVec.ofInt 64) BitVec.toInt_append_zero

/-- A row of SOPI: its instruction is a `scalarImm` of the row's code whose value is the row's. -/
def IsScalarImm (s : State) (t : ThreadId) (c : Ctx) (rd rs1 : BitVec 5) (imm : BitVec 12) (p : Instr × Nat × U64) : Prop :=
  ∃ f, exec p.1 s = finish s (s.scalarImm t p.2.1 rd rs1 imm f) ∧ f (c.x.rx rs1) (imm.signExtend 64) = p.2.2

/-- Settles O47: each row is a `scalarImm` (`IsScalarImm`), whose shift amount is in the low bits of the immediate. -/
theorem immediateInstructionsWriteTheirResult : Obligations.ImmediateInstructionsWriteTheirResult := by
  unfold Obligations.ImmediateInstructionsWriteTheirResult
  rintro s t c rd rs1 imm a b rfl rfl
  refine ⟨List.forall_iff_forall_mem.1 (List.Forall.imp (p := IsScalarImm s t c rd rs1 imm) ?row ⟨⟨_, rfl, rfl⟩, ⟨_, rfl, rfl⟩,
    ⟨_, rfl, rfl⟩, ⟨_, rfl, rfl⟩, ⟨_, rfl, ?slli⟩, ⟨_, rfl, ?srli⟩, ⟨_, rfl, ?srai⟩, ⟨_, rfl, ?slti⟩⟩), fun i h => ?lui⟩
  case row =>
    rintro p ⟨f, hexec, hv⟩
    exact ⟨scalarImm_takes hexec hv, scalarImm_illegal hexec⟩
  case slli | srli | srai => simp only [signExtend_toNat_mod]
  case slti => simp [flag, BitVec.slt, BitVec.signExtend]
  case lui => exact takes_of_issue rfl (issue_ranWith h (by rw [lui_value, Thread.step_wx]))

end Sys2Proof.Machine
end

section
/-!
SUPPORT. Branches, jumps, special registers and the other control instructions, and the exceptions of fetches and words.
-/
namespace Sys2Proof.Machine

/-! ## Branches and jumps (12 R431) -/

/-- An offset in words, sign-extended and taken four times. -/
theorem four_mul_signExtend {n : Nat} (off : BitVec n) : 4 * off.signExtend 64 = BitVec.ofInt 64 (4 * off.toInt) := by
  rw [BitVec.ofInt_mul]
  rfl

/-- A branch that issues moves the pc by its offset or to the next instruction, as its comparison says. -/
theorem branchOp_takes {i : Instr} {s : State} {t : ThreadId} {c : Ctx} {cond : Nat} {rs1 rs2 : BitVec 5} {off : BitVec 12}
    {f : U64 → U64 → Bool} {v : Bool} (hexec : exec i s = finish s (s.branchOp t cond rs1 rs2 off f))
    (hv : f (c.x.rx rs1) (c.x.rx rs2) = v) (h : Issues s t (wordB cond rs1 rs2 off) c) :
    Takes i s ((s.setThread c.k { c.x with pc := if v then c.x.pc + BitVec.ofInt 64 (4 * off.toInt) else c.x.pc + 4 }).retired t) := by
  refine takes_of_issue hexec (issue_ranWith h (congrArg (s.ranWith c) ?_))
  rw [hv, four_mul_signExtend]
  cases v <;> rfl

/-- An address with bits [1:0] cleared. -/
theorem toNat_clear_low (a : U64) : (a &&& ~~~(3 : U64)).toNat = a.toNat / 4 * 4 := by
  have hthree : (3 : U64) = (BitVec.allOnes 2).setWidth 64 := rfl
  have hclear : a &&& ~~~(3 : U64) = a >>> 2 <<< 2 := by
    refine BitVec.eq_of_getLsbD_eq fun i hi => ?_
    simp only [hthree, BitVec.getLsbD_and, BitVec.getLsbD_not, BitVec.getLsbD_setWidth, BitVec.getLsbD_allOnes,
      BitVec.getLsbD_shiftLeft, BitVec.getLsbD_ushiftRight, hi]
    by_cases hlow : i < 2
    · simp [hlow]
    · simp [hlow, Nat.add_sub_of_le (Nat.le_of_not_lt hlow)]
  rw [hclear, BitVec.toNat_shiftLeft, BitVec.toNat_ushiftRight, Nat.shiftLeft_eq, Nat.shiftRight_eq_div_pow]
  omega

/-- Settles O48: each branch is a `branchOp`, and JALR clears the low bits of its target (`toNat_clear_low`). -/
theorem branchesAndJumpsMoveThePc : Obligations.BranchesAndJumpsMoveThePc := by
  unfold Obligations.BranchesAndJumpsMoveThePc
  rintro s t c rd rs1 rs2 off a b rfl rfl
  refine ⟨List.forall_iff_forall_mem.1 ⟨branchOp_takes rfl ?beq, branchOp_takes rfl ?bne, branchOp_takes rfl rfl, branchOp_takes rfl ?bge,
    branchOp_takes rfl rfl, branchOp_takes rfl ?bgeu⟩, fun i h => ?jal, fun h => ⟨_, toNat_clear_low _, ?jalr⟩⟩
  case beq => exact beq_eq_decide _ _
  case bne => simp [bne, beq_eq_decide]
  case bge => simp [BitVec.slt, ← decide_not]
  case bgeu => simp [BitVec.ult, ← decide_not]
  case jal => exact takes_of_issue rfl (issue_ranWith h (by rw [four_mul_signExtend]))
  case jalr => exact takes_of_issue rfl (issue_ranWith h rfl)

/-! ## Special registers (12 R396, R397) -/

/-- A listed special register but the count of cycles. -/
theorem srr_takes {s : State} {t : ThreadId} {c : Ctx} {rd rs1 : BitVec 5} {imm : BitVec 12} {n v : Nat} (himm : imm.toNat = n)
    (h : Issues s t (wordSI 0x63 0 rd rs1 imm) c) (hn : n ≠ 0x011) (hv : c.t = t → s.special c n = BitVec.ofNat 64 v) :
    Takes (.gSrr t rd rs1 imm) s ((s.setThread c.k { c.x.wx rd (BitVec.ofNat 64 v) with pc := c.x.pc + 4 }).retired t) :=
  takes_of_issue rfl (issue_ranWith h (by rw [himm, if_neg hn, hv h.thread, Thread.step_wx]))

/-- The count of cycles is the next free value. -/
theorem srr_takes_cycles {s : State} {t : ThreadId} {c : Ctx} {rd rs1 : BitVec 5} {imm : BitVec 12} (himm : imm.toNat = 0x011)
    (h : Issues s t (wordSI 0x63 0 rd rs1 imm) c) : Takes (.gSrr t rd rs1 imm) s ((State.setThread { s with fresh := s.fresh + 1 } c.k
      { c.x.wx rd (BitVec.ofNat 64 (Config.cycles s.fresh)) with pc := c.x.pc + 4 }).retired t) :=
  takes_of_issue rfl (issue_ranWith h (by rw [himm, if_pos rfl, Thread.step_wx]; rfl))

/-! ## EXIT (12 R431, 13 R447) -/

/-- EXIT of a thread with no load outstanding ends it, and the run with the last one. -/
theorem exit_takes {s : State} {t : ThreadId} {c : Ctx} {rd rs1 : BitVec 5} {imm : BitVec 12} (h : Issues s t (wordSI 0x63 2 rd rs1 imm) c)
    (hloads : s.loadsOf t = []) : Takes (.gExit t rd rs1 imm) s (((((s.setThread c.k { c.x with ended := true }).setJob c.jn
      { c.job with exits := c.job.exits + 1, lastExit := s.now }).jobCheck c.jn)).retired t) := by
  obtain rfl := h.thread
  exact takes_of_issue rfl (issue_ran h (if_neg (by simp [hloads])))

/-! ## FENCE (12 R408, 11 R386) -/

section
variable {s : State} {t : ThreadId} {c : Ctx} {scope kind : BitVec 2} (h : Issues s t (wordFN scope kind) c)
include h

/-- A fence with nothing to wait for passes on, and empties the L1 as its kind and scope say. -/
theorem fence_passes (hfree : kind = 2 ∨ s.unperformed t scope.toNat = false) : Takes (.gFence t scope kind) s
    (((if scope ≠ 0 ∧ kind ≠ 1 then s.l1Forget t (fun _ => true) else s).setThread c.k c.x.step).retired t) := by
  obtain rfl := h.thread
  refine takes_of_issue rfl (issue_ranWith h (if_neg ?_))
  rintro ⟨hkind, hwaits⟩
  exact hfree.elim hkind fun hdone => by simp [hdone] at hwaits

/-- A release or full fence waits while something it orders is outstanding. -/
theorem fence_waits (hkind : kind ≠ 2) (hwaits : s.unperformed t scope.toNat = true) : Takes (.gFence t scope kind) s s := by
  obtain rfl := h.thread
  exact takes_of_issue rfl (by rw [issue_runs h, if_pos ⟨hkind, hwaits⟩])

end

/-- Settles O49: one lemma for each instruction. -/
theorem systemInstructionsHaveTheirEffect : Obligations.SystemInstructionsHaveTheirEffect := by
  unfold Obligations.SystemInstructionsHaveTheirEffect
  rintro s t c rd rs1 imm x rfl
  refine ⟨?srr, srr_takes_cycles, ?srw, exit_takes, ?nop, ?stop, ?iflush, fun scope kind h => ⟨fence_passes h, fence_waits h⟩⟩
  case srr =>
    simp only [List.forall_mem_cons, List.not_mem_nil, false_implies, implies_true, and_true]
    and_intros <;> exact fun himm h => srr_takes himm h (by decide) (by rintro rfl; rfl)
  case srw => exact fun h => takes_of_issue rfl (issue_ranWith h rfl)
  case nop | iflush => exact fun h => takes_of_issue rfl (issue_ranWith h rfl)
  case stop => exact fun h => takes_of_issue rfl (issue_trap h rfl)

end Sys2Proof.Machine
end

section
/-!
SUPPORT. The exceptions of words and fetches, and what an exception leaves.
-/
namespace Sys2Proof.Machine

/-! ## Fetches (12 R432) -/

/-- Where a thread may fetch. -/
theorem fetchable_iff (s : State) (t : ThreadId) (pc : Nat) : s.fetchable t pc = true ↔ (pc + 4 ≤ 0x100000000000
    ∨ 0x400000000000 + t.cluster.val * 0x400000 ≤ pc
      ∧ pc + 4 ≤ 0x400000000000 + t.cluster.val * 0x400000 + (3072 - s.homeBlocks t.cluster) * 1024) := by
  rw [State.fetchable, Bool.or_eq_true, decide_eq_true_iff, decide_eq_true_iff]
  rfl

/-- A command that issues a word to a thread. -/
def IssuesWord (s : State) (t : ThreadId) (p : Nat × Instr) : Prop := ∃ f, exec p.2 s = finish s (s.issue t p.1 f)

/-! ## Words (12 R399) -/

/-- A word that is no instruction raises exception 0x01. -/
theorem illegalInstruction_takes {s : State} {t : ThreadId} {word : U32} {c : Ctx} (h : Ready s t word.toNat c) (hpc : c.x.pc.toNat % 4 = 0)
    (hfetch : s.fetchable t c.x.pc.toNat = true) (hword : wordLegal word.toNat = false) :
    Takes (.illegalInstruction t word) s (s.except t 1 false word.toNat c.x.pc.toNat 0) :=
  takes_of_issue (congrArg (finish s) (if_neg (by simp [hword]))) (issue_illegal h hpc hfetch hword _)

/-! ## The record (12 R433, R435) -/

section
variable {s : State} {t : ThreadId} {j : Nat} {x : Job} (hjob : s.jobOf (ThreadKey t) = some j) (hx : s.job j = some x)
include hjob hx

/-- The exception of a running job leaves its record and stops the run. -/
theorem except_of_running (hrun : x.state = 3) (code : Nat) (d : Bool) (word pc a : Nat) : s.except t code d word pc a
    = State.stopRun (s.setJob j { x with
        record := exceptionRecord code t.cluster.val (16 * t.core.val + t.slot.val) d word pc a (s.position x.launchCad) }) j code := by
  simp only [State.except, hjob, hx]
  exact if_neg (not_not_intro hrun)

/-- An exception of a run that has ended or is stopping changes nothing. -/
theorem except_of_stopped (hrun : x.state ≠ 3) (code : Nat) (d : Bool) (word pc a : Nat) : s.except t code d word pc a = s := by
  simp only [State.except, hjob, hx]
  exact if_pos hrun

end

/-! ## The statement of 12_gaisk_isa.md, exceptions -/

/-- Settles O50: each command issues its word (`IssuesWord`), and the checks of the issue raise its exception. -/
theorem exceptionsAreRecordedAndStopTheRun : Obligations.ExceptionsAreRecordedAndStopTheRun := by
  unfold Obligations.ExceptionsAreRecordedAndStopTheRun
  refine ⟨fun s t word c => illegalInstruction_takes, ?fetch, fetchable_iff, ?record⟩
  case fetch =>
    rintro s t c w i h ⟨rd, rs1, rs2, imm, p, hp, rfl⟩
    obtain ⟨f, hexec⟩ : IssuesWord s t (w, i) := by
      refine List.forall_iff_forall_mem.1 ?_ _ hp
      exact ⟨⟨_, rfl⟩, ⟨_, rfl⟩, ⟨_, rfl⟩, ⟨_, rfl⟩, ⟨_, rfl⟩, ⟨_, rfl⟩⟩
    exact ⟨fun hpc => takes_of_issue hexec (issue_misaligned h hpc f), fun hpc hout => takes_of_issue hexec (issue_unfetchable h hpc hout f)⟩
  case record =>
    intro s t code word pc a j d x hjob hx
    refine ⟨?_, fun hrun => except_of_stopped hjob hx hrun code d word pc a⟩
    rintro r hrun rfl
    exact except_of_running hjob hx hrun code d word pc a

end Sys2Proof.Machine
end

section
/-!
SUPPORT. Predicates: the lanes an operation writes under one, and the instructions that compute one.
-/
namespace Sys2Proof.Machine

/-! ## Lanes (12 R395, R409) -/

/-- An element of a list that is given by the numbers of its elements. -/
theorem nth_map_range {α : Type} {n i : Nat} (hi : i < n) (g : Nat → α) (d : α) : nth ((List.range n).map g) i d = g i := by
  simp [nth, hi]

/-- A lane of a register is its bits. -/
theorem nth_laneList {y : VTy} {i : Nat} (hi : i < y.lanes) (v : BitVec 512) :
    nth (laneList y v) i 0 = v.toNat >>> (y.bits * i) % 2 ^ y.bits := nth_map_range hi _ 0

/-- The lanes of a register fit into its 512 bits. -/
theorem lane_within {y : VTy} {i : Nat} (hi : i < y.lanes) : y.bits * i + y.bits ≤ 512 :=
  calc y.bits * (i + 1) ≤ y.bits * y.lanes := Nat.mul_le_mul_left _ hi
    _ = 8 * (y.bytes * (64 / y.bytes)) := Nat.mul_assoc ..
    _ ≤ 8 * 64 := Nat.mul_le_mul_left _ (Nat.mul_div_le 64 y.bytes)

/-- Elements packed in `m` bits each, and one of them taken out again. -/
theorem packed_lane (m : Nat) (l : List Nat) (i : Nat) :
    (l.foldr (fun e a => e % 2 ^ m + 2 ^ m * a) 0) >>> (m * i) % 2 ^ m = nth l i 0 % 2 ^ m := by
  induction l generalizing i with
  | nil => simp [nth]
  | cons e l ih =>
    have hpos : 0 < 2 ^ m := Nat.two_pow_pos m
    cases i with
    | zero => simp [nth]
    | succ i =>
      rw [Nat.mul_succ, Nat.add_comm, Nat.shiftRight_add, Nat.shiftRight_eq_div_pow _ m, List.foldr_cons,
        Nat.add_mul_div_left _ _ hpos, Nat.div_eq_of_lt (Nat.mod_lt _ hpos), Nat.zero_add, ih]
      rfl

/-- A field that ends inside a word is the number's. -/
theorem toNat_ofNat_field {n k m : Nat} (h : k + m ≤ n) (v : Nat) : (BitVec.ofNat n v).toNat >>> k % 2 ^ m = v >>> k % 2 ^ m := by
  refine Nat.eq_of_testBit_eq fun i => ?_
  simp only [BitVec.toNat_ofNat, Nat.testBit_mod_two_pow, Nat.testBit_shiftRight]
  by_cases hi : i < m
  · simp [show k + i < n by omega]
  · simp [hi]

/-- A register made of elements has them for its lanes, cut to the lane. -/
theorem nth_laneList_ofLanes {y : VTy} {i : Nat} (hi : i < y.lanes) (l : List Nat) :
    nth (laneList y (ofLanes y l)) i 0 = nth l i 0 % 2 ^ y.bits := by
  rw [nth_laneList hi, ofLanes, toNat_ofNat_field (lane_within hi), packed_lane]

/-- A lane-by-lane operation gives an active lane its result and leaves another one as it was. -/
theorem nth_laneList_vLanes {y : VTy} {i : Nat} (hi : i < y.lanes) (p : U64) (f : Nat → Nat → Nat → Nat × Flags) (a b d : BitVec 512) :
    nth (laneList y (vLanes y p f a b d).1) i 0 = if p.getLsbD (y.bytes * i) then
      (f (nth (laneList y a) i 0) (nth (laneList y b) i 0) (nth (laneList y d) i 0)).1 % 2 ^ y.bits else nth (laneList y d) i 0 := by
  have hlane : laneOn y p i = p.getLsbD (y.bytes * i) := rfl
  have hold : nth (laneList y d) i 0 % 2 ^ y.bits = nth (laneList y d) i 0 := by rw [nth_laneList hi, Nat.mod_mod]
  rw [vLanes, nth_laneList_ofLanes hi, List.map_map, nth_map_range hi, Function.comp_apply, ← hlane]
  split
  · rfl
  · exact hold

/-- Settles O56: the statement of `nth_laneList_vLanes` for the types of VOP. -/
theorem lanesFollowTheirPredicate : Obligations.LanesFollowTheirPredicate := by
  unfold Obligations.LanesFollowTheirPredicate
  exact fun n p f a b d i _ hi => nth_laneList_vLanes hi p f a b d

/-! ## POP (12 R414) -/

section
variable {i : Instr} {s : State} {t : ThreadId} {c : Ctx} {func : Nat} {pd ps1 ps2 : BitVec 3} {rs : BitVec 5} {f : State → Ctx → Ran}

/-- A write of a predicate and the step to the next instruction. -/
theorem Thread.step_wp (x : Thread) (r : BitVec 3) (v : U64) : (x.wp r v).step = { x.wp r v with pc := x.pc + 4 } := by
  rw [Thread.step, Thread.wp_pc]

/-- An instruction of POP that issues and writes pd. -/
theorem predicate_takes {v : U64} (hexec : exec i s = finish s (s.issue t (wordP func pd ps1 ps2 rs) f))
    (hf : f s c = s.ranWith c (c.x.wp pd v).step) (h : Issues s t (wordP func pd ps1 ps2 rs) c) :
    Takes i s ((s.setThread c.k { c.x.wp pd v with pc := c.x.pc + 4 }).retired t) :=
  takes_of_issue hexec (issue_ranWith h (by rw [hf, Thread.step_wp]))

/-- PTOX gives an x register the predicate of its pd field. -/
theorem ptox_takes (h : Issues s t (wordP 5 pd ps1 ps2 rs) c) :
    Takes (.gPtox t pd ps1 ps2 rs) s ((s.setThread c.k { c.x.wx rs (c.x.rp pd) with pc := c.x.pc + 4 }).retired t) :=
  takes_of_issue rfl (issue_ranWith h (by rw [Thread.step_wx]))

end

/-- Settles O57: each instruction but PTOX writes pd (`predicate_takes`). -/
theorem predicateInstructionsWriteTheirResult : Obligations.PredicateInstructionsWriteTheirResult := by
  unfold Obligations.PredicateInstructionsWriteTheirResult
  rintro s t c pd ps1 ps2 rs a b rfl rfl
  exact ⟨List.forall_iff_forall_mem.1 ⟨predicate_takes rfl rfl, predicate_takes rfl rfl, predicate_takes rfl rfl, predicate_takes rfl rfl,
    predicate_takes rfl rfl⟩, ptox_takes⟩

end Sys2Proof.Machine
end

section
/-!
SUPPORT. Barriers, waits on a position, on a window location and on a mover request, and the requests themselves.
-/
namespace Sys2Proof.Machine

/-! ## What a wait notes (12 R430) -/

/-- A trace leaves the cadences alone. -/
@[simp] theorem tracePut_cads (s : State) (u : Nat) (w : Wait) : (s.tracePut u w).cads = s.cads := by
  unfold State.tracePut
  dsimp only
  split <;> rfl

/-- Starting a cluster's clock leaves the cadences alone. -/
@[simp] theorem startClock_cads (s : State) (c : Nat) : (s.startClock c).cads = s.cads := by
  unfold State.startClock
  dsimp only
  split
  · rfl
  · split
    · split
      · exact tracePut_cads _ _ _
      · rfl
    · rfl

/-- Barriers leave the clock and the cadences alone. -/
theorem setBarriers_now_cads (s : State) (c : Ctx) (job : Bool) (b : List (Nat × Barrier)) :
    (s.setBarriers c job b).now = s.now ∧ (s.setBarriers c job b).cads = s.cads := by
  unfold State.setBarriers
  split
  · split <;> exact ⟨rfl, rfl⟩
  · exact ⟨rfl, rfl⟩

/-- The thread that waits from the state `s` on. -/
def Thread.waiting (x : Thread) (s : State) (c : Ctx) (w : TWait) : Thread :=
  { x with wait := w, waitSince := s.now, waitPos := s.position c.job.launchCad }

/-- A wait notes the time and the position of a state with the same clock and cadences. -/
theorem waitOn_eq {s u : State} {c : Ctx} (hnow : u.now = s.now) (hcads : u.cads = s.cads) (x : Thread) (w : TWait) :
    u.waitOn c x w = u.ranWith c (x.waiting s c w) := by
  rw [State.waitOn, Thread.waiting, hnow, State.position, State.position, State.cad, State.cad, hcads]

/-! ## Barriers (12 R426, R427) -/

section
variable {s : State} {t : ThreadId} {c : Ctx} {rd rs1 rs2 : BitVec 5} {imm : BitVec 6} {a n : Nat} {job : Bool} {r : Barrier}

/-- How BAR comes out. -/
theorem bar_comesOut (ha : a = (c.x.rx rs1).toNat) (hn : n = imm.toNat % 16) (hjob : job = imm.toNat.testBit 4)
    (hr : r = (tabGet (s.barriers c job) n).getD { count := a, arrived := [] }) (hfree : s.unperformed c.t (b2n job) = false) :
    ComesOut (.gBar t rd rs1 rs2 imm) s t (wordSY 0 rd rs1 rs2 imm) c
      (if a = 0 ∨ a > c.job.threadCount ∨ r.count ≠ a then .trap 0x0D imm.toNat
      else if r.arrived.length + 1 = a then
        let u := ((if job then s.l1Forget c.t (fun _ => true) else s).setBarriers c job (tabDel (s.barriers c job) n)).setThread c.k
          (c.x.wx rd (BitVec.ofNat 64 r.arrived.length)).step
        .ran ((u.threads.filter (fun z => r.arrived.any (fun q => ThreadKey q == z.1))).foldl (fun (v : State) z => v.endWait z.1 z.2 false) u)
      else (s.setBarriers c job (tabSet (s.barriers c job) n { r with arrived := r.arrived ++ [c.t] })).waitOn c
        (c.x.wx rd (BitVec.ofNat 64 r.arrived.length)).step (.barrier n job)) := by
  subst ha hn hjob hr
  exact ⟨_, rfl, if_neg (by simp [hfree])⟩

end

/-! ## Waits on a position or a location (12 R426) -/

section
variable {s : State} {t : ThreadId} {c : Ctx} {rd rs1 rs2 : BitVec 5} {imm : BitVec 6}

/-- POSWAIT passes on once the position is reached. -/
theorem poswait_takes (h : Issues s t (wordSY 1 rd rs1 rs2 imm) c) : Takes (.gPoswait t rd rs1 rs2 imm) s
    ((s.setThread c.k (if (c.x.rx rs1).toNat ≤ s.position c.job.launchCad then c.x.step
      else c.x.step.waiting s c (.position (c.x.rx rs1).toNat))).retired t) :=
  takes_of_issue rfl (issue_ranWith h (apply_ite (s.ranWith c) _ _ _).symm)

/-- MVWAIT passes on once a completion record has been written at its address. -/
theorem mvwait_takes {cl w : Nat} (h : Issues s t (wordSY 4 rd rs1 rs2 imm) c)
    (hplace : s.place c.jn c.job (c.x.rx rs1).toNat 16 = .window cl w) : Takes (.gMvwait t rd rs1 rs2 imm) s
      ((s.setThread c.k (if c.job.records.contains (c.x.rx rs1).toNat then c.x.step
        else c.x.step.waiting s c (.mover (c.x.rx rs1).toNat))).retired t) := by
  refine takes_of_issue rfl (issue_ranWith h ?_)
  dsimp only
  rw [hplace]
  exact (apply_ite (s.ranWith c) _ _ _).symm

section
variable {cl w : Nat} (h : Issues s t (wordSY 5 rd rs1 rs2 imm) c) (ha : (c.x.rx rs1).toNat % 8 = 0)
  (hplace : s.place c.jn c.job (c.x.rx rs1).toNat 8 = .window cl w)
include h ha hplace

/-- WAITNE of a location whose check fails. -/
theorem waitne_fails (hbad : (s.startClock cl).windowBad cl w 8 = true) : Takes (.gWaitne t rd rs1 rs2 imm) s
    (((s.startClock cl).windowFail cl w 8).except t 5 false (wordSY 5 rd rs1 rs2 imm) c.x.pc.toNat (c.x.rx rs1).toNat) := by
  refine ComesOut.trapped ⟨_, rfl, rfl⟩ h ((if_neg (not_not_intro ha)).trans ?_)
  rw [hplace]
  exact if_pos hbad

/-- WAITNE passes on once the location differs. -/
theorem waitne_takes (hgood : (s.startClock cl).windowBad cl w 8 = false) : Takes (.gWaitne t rd rs1 rs2 imm) s
    ((if leNat ((s.startClock cl).windowRead cl w 8) ≠ (c.x.rx rs2).toNat
      then ((s.startClock cl).l1Forget t (fun _ => true)).setThread c.k c.x.step
      else (s.startClock cl).setThread c.k (c.x.step.waiting s c (.notEqual (c.x.rx rs1).toNat (c.x.rx rs2).toNat))).retired t) := by
  obtain rfl := h.thread
  refine ComesOut.ran ⟨_, rfl, rfl⟩ h ((if_neg (not_not_intro ha)).trans ?_)
  rw [hplace]
  refine (if_neg (by simp [hgood])).trans ?_
  rw [waitOn_eq (startClock_now s cl) (startClock_cads s cl)]
  exact (apply_ite Ran.ran _ _ _).symm

end

end

/-! ## Mover requests (12 R429) -/

section
variable {s : State} {t : ThreadId} {c : Ctx} {rd rs1 rs2 : BitVec 5} {imm : BitVec 6} (h : Issues s t (wordSY 3 rd rs1 rs2 imm) c)
include h

/-- Outside the policy job MVREQ is refused. -/
theorem mvreq_refused (hpolicy : s.isPolicyThread c = false) : Takes (.gMvreq t rd rs1 rs2 imm) s
    (s.except t 0x0C false (wordSY 3 rd rs1 rs2 imm) c.x.pc.toNat 0) :=
  takes_of_issue rfl (issue_trap h (if_pos (by simp [hpolicy])))

/-- A policy job's request of 32 bytes of a window joins the mover's requests. -/
theorem mvreq_takes {cl w : Nat} {q : MvReq} {u : State} (hpolicy : s.isPolicyThread c = true) (ha : (c.x.rx rs1).toNat % 32 = 0)
    (hplace : s.place c.jn c.job (c.x.rx rs1).toNat 32 = .window cl w)
    (hroom : (s.mvReqs.filter (fun q => q.thread.cluster == t.cluster)).length < 64) (hgood : s.windowBad cl w 32 = false)
    (hq : q = { id := s.nextLoad, job := c.jn, thread := t, op := field (s.windowRead cl w 32) 0 1
                completion := field (s.windowRead cl w 32) 24 8, bytes := s.windowRead cl w 32, since := s.now })
    (hu : u = s.setJob c.jn { c.job with records := c.job.records.filter (· != q.completion) }) :
    Takes (.gMvreq t rd rs1 rs2 imm) s ((State.setThread { u with mvReqs := u.mvReqs ++ [q], nextLoad := u.nextLoad + 1 } c.k
      { c.x.wx rd 0 with pc := c.x.pc + 4 }).retired t) := by
  obtain rfl := h.thread
  subst hu hq
  refine ComesOut.ranWith ⟨_, rfl, rfl⟩ h ((if_neg (by simp [hpolicy])).trans ((if_neg (not_not_intro ha)).trans ?_))
  rw [hplace]
  refine (if_neg (Nat.not_le.mpr hroom)).trans ((if_neg (by simp [hgood])).trans ?_)
  rw [Thread.step_wx]

end

/-! ## The statement of 12_gaisk_isa.md, synchronisation -/

/-- Settles O60: BAR comes out as `bar_comesOut` says, and each of the others has its lemma for each of its cases. -/
theorem synchronisationHasItsEffect : Obligations.SynchronisationHasItsEffect := by
  unfold Obligations.SynchronisationHasItsEffect
  rintro s t c rd rs1 rs2 imm a b x wait rfl rfl rfl rfl
  refine ⟨?bar, poswait_takes, fun h => takes_of_issue rfl (issue_ran h rfl), fun h => ⟨mvreq_refused h, ?mvreq⟩,
    fun cl w => mvwait_takes, ?waitne⟩
  case bar =>
    rintro h hfree n r y hn hr rfl
    obtain rfl := h.thread
    have hout := bar_comesOut (t := c.t) (rd := rd) (rs2 := rs2) rfl hn rfl hr hfree
    refine ⟨fun hzero hmany hcount => ?_, fun hbad => hout.trap h (if_pos hbad)⟩
    rw [if_neg (by omega)] at hout
    refine ⟨?last, fun hlast => ?waits⟩
    case last =>
      rintro hlast v u rfl rfl
      rw [if_pos hlast, Thread.step_wx] at hout
      exact hout.ran h rfl
    case waits =>
      obtain ⟨hnow, hcads⟩ := setBarriers_now_cads s c (imm.toNat.testBit 4)
        (tabSet (s.barriers c (imm.toNat.testBit 4)) n { r with arrived := r.arrived ++ [c.t] })
      rw [if_neg hlast, waitOn_eq hnow hcads, Thread.step_wx] at hout
      exact hout.ranWith h rfl
  case mvreq =>
    exact fun cl w q hpolicy ha hplace hroom hgood hq u => mvreq_takes h hpolicy ha hplace hroom hgood hq
  case waitne =>
    rintro cl w u h ha hplace rfl
    exact ⟨waitne_takes h ha hplace, waitne_fails h ha hplace⟩

end Sys2Proof.Machine
end

section
/-!
SUPPORT. The queue of commands and the state after reset: what every command leaves of the queue, and runs of a whole queue.
-/
namespace Sys2Proof.Machine

/-! ## The queue (17 R566) -/

/-- No command removes, adds or reorders a queued one. -/
theorem exec_pending {c : Instr} {s t : State} (h : exec c s = .next t) : t.pending = s.pending := by
  obtain ⟨u, hfin⟩ | ⟨_, _, _, _, _, hfault⟩ | ⟨rfl, hoff⟩ := exec_cases c s
  · obtain rfl := Host.Outcome.next.inj (hfin.symm.trans h)
    rfl
  · exact nomatch hfault.symm.trans h
  · obtain rfl := Host.Outcome.next.inj ((execPwrgdRise_of_off hoff).symm.trans h)
    rfl

/-- A step with a command at the front runs it with the queue's rest. -/
theorem step_of_queued (c : Instr) (rest : List Instr) (s : State) :
    step { s with pending := c :: rest } = exec c { s with pending := rest } := rfl

/-- A state is itself with its own queue. -/
theorem withPending_self {s : State} {q : List Instr} (h : s.pending = q) : { s with pending := q } = s := by rw [← h]

/-- Commands that all run leave what waited behind them. -/
theorem runAll_pending {cs rest : List Instr} {s t : State} (h : runAll cs rest s = some t) : t.pending = rest := by
  induction cs generalizing s with
  | nil =>
    obtain rfl := Option.some.inj h
    rfl
  | cons c cs ih =>
    unfold runAll at h
    split at h
    · exact ih h
    · exact nomatch h

/-- The steps on a queue run its commands in their order. -/
theorem runs_eq_runAll (cs rest : List Instr) (s : State) : runs cs.length { s with pending := cs ++ rest } = runAll cs rest s := by
  induction cs generalizing s with
  | nil => rfl
  | cons c cs ih =>
    rw [List.length_cons, List.cons_append, runs, runAll, step_of_queued]
    cases hexec : exec c { s with pending := cs ++ rest } with
    | next t => 
      have hq : t.pending = cs ++ rest := exec_pending hexec
      simpa only [withPending_self hq] using ih t
    | fault r => rfl
    | refused r => rfl

/-- Settles O2, by induction on the queue: a command keeps what waits behind it (`exec_pending`). -/
theorem queueIsServedInOrder : Obligations.QueueIsServedInOrder := by
  unfold Obligations.QueueIsServedInOrder
  exact fun cs rest s => ⟨runs_eq_runAll cs rest s, fun t h => runAll_pending h⟩

/-- Settles O1: `step` on a queue that is not empty. -/
theorem stepRunsTheFrontCommand : Obligations.StepRunsTheFrontCommand := by
  unfold Obligations.StepRunsTheFrontCommand
  exact step_of_queued

/-- Settles O3, by what a command can do (`exec_cases`). -/
theorem everyCommandAnswersANextState : Obligations.EveryCommandAnswersANextState := by
  unfold Obligations.EveryCommandAnswersANextState
  intro c s
  obtain ⟨u, hfin⟩ | hfault | ⟨rfl, hoff⟩ := exec_cases c s
  · exact .inl ⟨_, hfin, rfl⟩
  · exact .inr hfault
  · exact .inl ⟨_, execPwrgdRise_of_off hoff, rfl⟩

/-- Settles O5: `State.reset`, field by field. -/
theorem resetState : Obligations.ResetState := by
  unfold Obligations.ResetState
  refine ⟨rfl, rfl, rfl, rfl, rfl, rfl, rfl, rfl, rfl, rfl, rfl, rfl, rfl, fun n => ?_⟩
  decide +revert

/-- Settles O6: the laws of the byte memories. -/
theorem memoryKeepsItsCanonicalForm : Obligations.MemoryKeepsItsCanonicalForm := by
  unfold Obligations.MemoryKeepsItsCanonicalForm
  refine fun m a i b d h => ⟨memWf_memPut a b h, memWf_memWrite a d h, ?_, fun hlo hhi => ?_, fun hout => ?_⟩
  · rw [memByte_memPut]
    simp only [eq_comm]
  · rw [memByte_memWrite, if_pos ⟨hlo, hhi⟩]
  · rw [memByte_memWrite, if_neg (by omega)]

end Sys2Proof.Machine
end

section
/-!
SUPPORT. The clusters of jobs and the requests of the mover: how scrubs and requests end.
-/
namespace Sys2Proof.Machine

/-! ## Clusters (11 R367, R368) -/

/-- What a unit's state is read from is kept by an event. -/
theorem OnlyEvents.unit {s t : State} (h : OnlyEvents s t) (u : Nat) : t.unit u = s.unit u := by
  obtain ⟨_, _, _, _, rfl⟩ := h
  rfl

/-- A cluster whose unit is neither changing over nor draining stays as it is. -/
theorem clusterSettle_of_settled {s : State} {c : Nat} (h4 : (s.unit (0xA40 + c)).own ≠ 4)
    (h5 : (s.unit (0xA40 + c)).own = 5 → (s.unit (0xA40 + c)).reason ≠ 2) : s.clusterSettle c = s :=
  if_pos (by simpa [h4] using .inr (imp_iff_not_or.mp h5))

/-- A cluster that decodes for no lookup releases none. -/
theorem releaseLookup_of_none {s : State} {c : Nat} (h : (s.cluster c).lookup = none) : s.releaseLookup c = s := by
  rw [State.releaseLookup, h]

/-- What a scrub leaves of a cluster: its context, its memory zero from the first byte scrubbed, its threads gone. -/
def State.scrubbed (s : State) (c : Nat) : State :=
  let x := s.cluster c
  let lo := c * 2 ^ 22
  let from_ := if x.scrubHome && !x.draining then lo else lo + s.homeBlocks c * 1024
  { s.setCluster c { job := x.job, draining := x.draining, scrubHome := x.draining && x.scrubHome, context := x.scrubTo
                     nextEntry := x.nextEntry, lastQueue := x.lastQueue } with
    caddy := s.caddy.filter (fun m => !decide (from_ ≤ m.1 ∧ m.1 < lo + 2 ^ 22))
    caddyBad := s.caddyBad.filter (fun l => !decide (from_ ≤ 16 * l ∧ 16 * l < lo + 2 ^ 22))
    threads := s.threads.filter (fun t => t.1 / 64 != c) }

/-- A scrub zeroes the cluster's memory above its home blocks. -/
theorem scrubbed_caddy {s : State} {c : Nat} :
    ∀ m ∈ (s.scrubbed c).caddy, ¬ (c * 2 ^ 22 + s.homeBlocks c * 1024 ≤ m.1 ∧ m.1 < c * 2 ^ 22 + 2 ^ 22) := by
  rintro m hm ⟨hlo, hhi⟩
  have hout := (List.mem_filter.mp hm).2
  simp only [Bool.not_eq_true', decide_eq_false_iff_not] at hout
  split at hout <;> omega

/-- A scrub that ends of a cluster that neither decodes for a lookup nor drains. -/
theorem scrubComplete_takes {s : State} {c : Fin 64} (hscrub : (s.cluster c).scrubbing = true) (hlookup : (s.cluster c).lookup = none)
    (h4 : (s.unit (0xA40 + c)).own ≠ 4) (h5 : (s.unit (0xA40 + c)).own = 5 → (s.unit (0xA40 + c)).reason ≠ 2) :
    Takes (.scrubComplete c) s ((((s.scrubbed c).bump (0xA40 + c) 0x1B 1).bump (0xA40 + c) 0x1C (s.now - (s.cluster c).scrubStart)).raise
      (0xA40 + c) 0x0170 (s.cluster c).scrubTo) := by
  refine congrArg (finish s) ((if_neg (by simp [hscrub])).trans ?_)
  rw [releaseLookup_of_none hlookup]
  refine clusterSettle_of_settled ?_ ?_
  · rw [(raise_only ..).unit]
    exact h4
  · rw [(raise_only ..).unit]
    exact h5

/-! ## Requests to the mover (06 R215 to R217) -/

/-- A request whose turn it is and whose bytes are right is worked on. -/
theorem takeRequest_of_formed {s : State} {j op k : Nat} {b : Bytes} {q : MvReq} (hrun : s.contained = false) (hpolicy : s.policyPaused = false)
    (hq : s.mvReqs.find? (fun q => q.job == j && q.bytes == b && !q.started && q.done.isNone && q.op == op) = some q)
    (hformed : q.formed = true) (hturn : s.outranked q = false) (htile : s.ownTile (jobLd j) q.tileAddr = some k)
    (f : State → MvReq → Nat → State) : s.takeRequest j op b f = f s q k := by
  rw [State.takeRequest, hq]
  dsimp only
  rw [if_neg (by simp [hrun, hpolicy, hturn]), if_neg (by simp [hformed]), htile]

/-- A finished request has nothing left to resume. -/
theorem reqResume_of_done {s : State} {q : MvReq} (hlo : 1 ≤ q.op) (hhi : q.op ≤ 6) (hdone : q.done.isSome = true) : s.reqResume q = s := by
  rw [State.reqResume, if_neg (by omega), if_pos (.inl hdone)]

/-- A finished request of an operation that writes no tile leaves the queue, and its completion record is its job's. -/
theorem moverCompletion_takes {s t : State} {i st res : Nat} {q : MvReq} {x : Job} (hi : s.mvReqs[i]? = some q)
    (hdone : q.done = some (st, res)) (hlo : 1 ≤ q.op) (hhi : q.op ≤ 4) (hfind : s.mvReqs.find? (·.id == q.id) = some q)
    (hjob : s.job q.job = some x)
    (ht : t = ({ s with mvReqs := s.mvReqs.filter (·.id != q.id) } : State).setJob q.job { x with records := q.completion :: x.records }) :
    Takes (.moverCompletion i) s
      (((match t.place q.job x q.completion 16 with
        | .window c w => t.windowWrite c w (completionRecord q st res s.now)
        | _ => t).endWaits (fun (t : Thread) => t.job == q.job && decide (t.wait = TWait.mover q.completion)) false).jobCheck q.job) := by
  refine congrArg (finish s) ?_
  rw [hi]
  dsimp only
  rw [reqResume_of_done hlo (by omega) (by simp [hdone]), hfind, Option.bind_some, hdone, hjob]
  subst ht
  exact if_neg (by simp; omega)

/-! ## The statement of 13_jobs.md, 06_tiers_and_moves.md and 11_compute_architecture.md -/

/-- Settles O23: each event finds the job, the cluster or the request that its premises name, and takes the branch they choose. -/
theorem jobAndMoverEventsComplete : Obligations.JobAndMoverEventsComplete := by
  unfold Obligations.JobAndMoverEventsComplete
  refine ⟨?placement, ?start, fun s j x hj hrun => ⟨fun hlimit => ?time, fun hlimit hwaits => ?wait⟩, ?scrub, ?clock, ?request, ?completion⟩
  case placement =>
    intro s j x l hj hrun hstate hnone hfirst hplace
    refine congrArg (finish s) ?_
    rw [hj]
    refine (if_neg (by simp [hrun, hstate, hnone, hfirst])).trans ?_
    rw [hplace]
  case start =>
    intro s j x hj hrun hstate hplaced hscrubbed
    refine congrArg (finish s) ?_
    rw [hj]
    exact if_neg (by simpa [hrun, hstate, hplaced] using hscrubbed)
  case time =>
    refine congrArg (finish s) ?_
    rw [hj]
    exact if_pos ⟨hrun, hlimit⟩
  case wait =>
    refine congrArg (finish s) ?_
    rw [hj]
    exact if_pos ⟨hrun, hlimit, hwaits⟩
  case scrub =>
    intro s c hscrub hlookup h4 h5
    refine ⟨_, scrubComplete_takes hscrub hlookup h4 h5, ?_⟩
    simp only [State.bump_threads, State.bump_caddy]
    refine ⟨?_, ?_, ?_, fun th hth => by simpa using (List.mem_filter.mp hth).2, scrubbed_caddy⟩
    all_goals exact congrArg _ (State.cluster_setCluster_same ..)
  case clock =>
    intro s c hjob hqueue hscrub hon
    exact congrArg (finish s) (if_pos (by simp [hjob, hqueue, hscrub, hon]))
  case request =>
    intro s j op k b q hrun hpolicy hq hformed hturn htile
    have htaken := takeRequest_of_formed hrun hpolicy hq hformed hturn htile
    refine ⟨?_, ?_, ?_, ?_, ?_, ?_⟩
    all_goals
      rintro rfl
      exact congrArg (finish s) (htaken _)
  case completion =>
    intro s i st res q x hi hdone hlo hhi hfind hjob
    exact ⟨_, by simp [State.setJob], moverCompletion_takes hi hdone hlo hhi hfind hjob rfl⟩

end Sys2Proof.Machine
end

section
/-!
SUPPORT. The host port: interrupts, DMA completions, accesses of a host, and the commands of the mailbox.
-/
namespace Sys2Proof.Machine

/-! ## Interrupts (15 R522 to R524) -/

/-- A vector's bit of the cause register is set. -/
def State.caused (s : State) (n k : Nat) : State := s.setLd n { s.ld n with cause := setBit (s.ld n).cause k true }

/-- A number noted in a list stands in it. -/
theorem contains_noted (l : List Nat) (k : Nat) : (if l.contains k then l else l ++ [k]).contains k = true := by
  split
  · assumption
  · simp

section
variable {s : State} {n k : Nat} (hmsix : (s.ld n).msixEnable = true)
include hmsix

/-- A vector that MSI-X masks stands pending. -/
theorem signal_masked (hmask : (s.ld n).msixFunctionMask = true ∨ (s.ld n).msixMasked.contains k = true) :
    s.signal n k = (s.caused n k).setLd n { (s.caused n k).ld n with
      msixPending := if (s.ld n).msixPending.contains k then (s.ld n).msixPending else (s.ld n).msixPending ++ [k] } := by
  simp only [State.signal, State.sendVector, State.caused, State.ld_setLd_same]
  exact (if_pos hmsix).trans (if_pos (by simpa using hmask))

/-- An unmasked vector leaves as one message, or waits for Bus master enable. -/
theorem signal_unmasked (hfunction : (s.ld n).msixFunctionMask = false) (hvector : (s.ld n).msixMasked.contains k = false) :
    s.signal n k = if (s.ld n).busMaster then (s.caused n k).emit (.msi n k) else (s.caused n k).setLd n { (s.caused n k).ld n with
      waitingVec := if (s.ld n).waitingVec.contains k then (s.ld n).waitingVec else (s.ld n).waitingVec ++ [k] } := by
  simp only [State.signal, State.sendVector, State.caused, State.ld_setLd_same]
  exact (if_pos hmsix).trans (if_neg (by rw [hfunction, hvector]; decide))

end

/-- Settles O8: `signal_masked` and `signal_unmasked`. -/
theorem interruptVectorIsSignalled : Obligations.InterruptVectorIsSignalled := by
  unfold Obligations.InterruptVectorIsSignalled
  refine fun s n k hmsix => ⟨fun hfunction hvector hmaster => ?_, fun hmask => ?_, fun hfunction hvector hmaster => ?_⟩
  · rw [signal_unmasked hmsix hfunction hvector, if_pos hmaster]
    rfl
  · rw [signal_masked hmsix hmask, State.ld_setLd_same]
    exact ⟨rfl, contains_noted _ _, by simp [State.caused]⟩
  · rw [signal_unmasked hmsix hfunction hvector, if_neg (by simp [hmaster]), State.ld_setLd_same]
    exact ⟨rfl, contains_noted _ _, by simp [State.caused]⟩

/-! ## DMA (15 R531, R532, 06 R192, R209) -/

section
variable {s : State} {d : Dma} (hd : s.dmas.find? (·.id == d.id) = some d)
include hd

section
variable {b : Bytes} (hkept : s.dmaDropped d d.gen = false)
include hkept

/-- The data of a host's read is that read's. -/
theorem dmaCompletion_takes_access {id : Nat} {a : Access} (hfor : d.for_ = .access id) (ha : s.accesses.find? (·.id == id) = some a) :
    Takes (.dmaCompletion d.id d.gen (some b)) s (({ s with dmas := s.dmas.filter (·.id != d.id) }).finishDma a b) := by
  refine congrArg (finish s) ?_
  rw [hd]
  refine (if_neg (ne_true_of_eq_false hkept)).trans ?_
  simp only [hfor, Option.isSome_some, if_true, ha]

/-- The data of a thread's load is that load's. -/
theorem dmaCompletion_takes_load {id : Nat} (hfor : d.for_ = .load id) :
    Takes (.dmaCompletion d.id d.gen (some b)) s { s with
      dmas := s.dmas.filter (·.id != d.id)
      loads := s.loads.map (fun l => if l.id = id then { l with arrived := true, data := some b } else l) } := by
  refine congrArg (finish s) ?_
  rw [hd]
  refine (if_neg (ne_true_of_eq_false hkept)).trans ?_
  rw [hfor]
  rfl

/-- The data of a policy job's request is that request's. -/
theorem dmaCompletion_takes_request {id : Nat} (hfor : d.for_ = .request id) :
    Takes (.dmaCompletion d.id d.gen (some b)) s (({ s with dmas := s.dmas.filter (·.id != d.id) }).requestRead id (some b)) := by
  refine congrArg (finish s) ?_
  rw [hd]
  refine (if_neg (ne_true_of_eq_false hkept)).trans ?_
  rw [hfor]
  rfl

/-- The data of a move is copied. -/
theorem dmaCompletion_takes_move {r : Nat} {m : Move} (hfor : d.for_ = .move r) (hm : tabGet s.moves r = some m) :
    Takes (.dmaCompletion d.id d.gen (some b)) s
      (State.afterCopy s (({ s with dmas := s.dmas.filter (·.id != d.id) }).copyMove r m (some b)) r) := by
  refine congrArg (finish s) ?_
  rw [hd]
  refine (if_neg (ne_true_of_eq_false hkept)).trans ?_
  simp only [hfor, Option.isSome_some, if_true, hm]

end

/-- A completion that is dropped gives a load nothing, and counts. -/
theorem dmaCompletion_takes_dropped {g : Bool} {data : Option Bytes} {id : Nat} (hdropped : s.dmaDropped d g = true) (hfor : d.for_ = .load id) :
    Takes (.dmaCompletion d.id g data) s (({ s with dmas := s.dmas.filter (·.id != d.id) }).bump (0x110 + d.ld) 0x1A 1) := by
  refine congrArg (finish s) ?_
  rw [hd]
  refine (if_pos hdropped).trans ?_
  rw [hfor]

/-- A request of a policy job that times out waits for its retry; the retry fails its page. -/
theorem dmaCompletionTimeout_takes {id : Nat} (hgen : d.gen = (s.ld d.ld).tagGen) (hkept : s.dmaDropped d d.gen = false)
    (hfor : d.for_ = .request id) {u : State} (hu : u = ({ s with dmas := s.dmas.filter (·.id != d.id) } : State).bump (0x110 + d.ld) 0x1B 1) :
    Takes (.dmaCompletionTimeout d.id) s (d.retry.elim u (fun p => u.pageFailed d.ld p [.request id])) := by
  refine congrArg (finish s) ?_
  rw [hd]
  refine (if_neg (ne_true_of_eq_false hkept)).trans ?_
  rw [hfor, if_pos hgen, hu]
  cases d.retry <;> rfl

end

/-- Settles O15: one lemma for each use of a request, and one each for a dropped completion and a timeout. -/
theorem dmaCompletionsComplete : Obligations.DmaCompletionsComplete := by
  unfold Obligations.DmaCompletionsComplete
  refine ⟨fun s d b hd hkept => ⟨fun id a => dmaCompletion_takes_access hd hkept, fun id => dmaCompletion_takes_load hd hkept,
      fun id => dmaCompletion_takes_request hd hkept, fun r m => dmaCompletion_takes_move hd hkept⟩,
    fun s d g data id hd => dmaCompletion_takes_dropped hd, fun s d id hd hgen hkept hfor u hu => ?_⟩
  have htimeout := dmaCompletionTimeout_takes hd hgen hkept hfor hu
  exact ⟨fun hfirst => by rwa [hfirst] at htimeout, fun p hretry => by rwa [hretry] at htimeout⟩

/-! ## Accesses of a host (15 R526, R527, 06 R188) -/

/-- An invalidate request empties the covered pages from the LD's cache of translations and waits for its completion. -/
def State.invalidated (s : State) (ld itag addr size : Nat) : State :=
  (s.dropPages ld (pageCovered addr size)).setLd ld { s.ld ld with
    atc := (s.ld ld).atc.filter (fun e => !pageCovered addr size e.1)
    invalidations := (s.ld ld).invalidations ++ [(itag, addr, size)] }

/-- Settles O18: each command takes the branch that its premises choose. -/
theorem hostAccessesComplete : Obligations.HostAccessesComplete := by
  unfold Obligations.HostAccessesComplete
  refine ⟨?read, ?write, ?invalidate, ?complete⟩
  case read =>
    intro s ld leg hpa tag dpa hdpa hleg
    refine congrArg (finish s) ?_
    rw [hdpa]
    exact if_neg (by simp [hleg])
  case write =>
    intro s ld leg hpa mask data tag dpa hdpa hleg
    refine congrArg (finish s) ?_
    rw [hdpa]
    exact if_neg (by simp [hleg])
  case invalidate =>
    intro s ld itag addr size hreach hroom hnew
    refine ⟨s.invalidated ld itag addr.toNat size.toNat, congrArg (finish s) (if_neg ?_), ?_, ?_⟩
    · simpa [hreach, hroom] using fun a b hi => hnew _ hi rfl
    · rw [State.invalidated, State.ld_setLd_same]
      exact fun e he => by simpa using (List.mem_filter.mp he).2
    · rw [State.invalidated, State.ld_setLd_same]
      exact List.mem_append_right _ (List.mem_singleton_self _)
  case complete =>
    intro s ld i hi hunused
    refine congrArg (finish s) ?_
    rw [hi]
    exact if_neg (by simpa using hunused)

end Sys2Proof.Machine
end

section
/-!
SUPPORT. The commands of the mailbox: those that read, those that write, and the pages of the host tier.
-/
namespace Sys2Proof.Machine

/-! ## Answers of the mailbox (15 R528) -/

/-- A number laid out in `n` bytes reads back modulo `256 ^ n`. -/
theorem field_append_mod (a c : Bytes) (off n v : Nat) (h : off = a.length) : field (a ++ (leBytes n v ++ c)) off n = v % 256 ^ n := by
  have hread : slice (leBytes n v ++ c) 0 n = leBytes n v := by simpa using slice_append_whole (leBytes n v) c
  rw [field, slice_append_right _ _ _ _ h.ge, h, Nat.sub_self, hread, leNat_leBytes]

section
variable {c : Instr} {s t : State} {ld : Fin 16} {b p : Bytes} {n code : Nat} (h : MailboxServes s ld)
include h

/-- A command of a mailbox that serves has its effect and is answered. -/
theorem mailbox_takes {f : State → Nat × Bytes × State} (hexec : exec c s = finish s (s.mailboxDo ld f)) (hf : f s = (code, p, t)) :
    Takes c s (t.mailboxAnswer ld code p) :=
  hexec.trans (congrArg (finish s) (mailboxDo_of_serves h hf))

/-- A command that only reads, with a payload of the right length, is answered and changes nothing else. -/
theorem mailboxRead_takes {f : State → Except Nat Bytes} (hexec : exec c s = finish s (s.mailboxRead ld n b f)) (hlen : b.length = n)
    (hf : f s = .ok p) : Takes c s (s.mailboxAnswer ld retSuccess p) :=
  mailbox_takes h hexec ((if_neg (not_not_intro hlen)).trans (by rw [hf]))

end

/-! ## The statement of 15_host_port.md, reads -/

/-- Settles O19: each command is a `mailboxRead` (`mailboxRead_takes`); the fields of the longer answers are where they are laid out. -/
theorem mailboxReadsAnswer : Obligations.MailboxReadsAnswer := by
  unfold Obligations.MailboxReadsAnswer
  intro s ld b h
  refine ⟨fun hlen => mailboxRead_takes h rfl hlen rfl, fun hlen hidle hnone => mailboxRead_takes h rfl hlen (by rw [hidle, hnone]),
    fun op t hlen hrunning => mailboxRead_takes h rfl hlen (by rw [hrunning]), fun hlen => mailboxRead_takes h rfl hlen rfl, ?records,
    fun hlen => mailboxRead_takes h rfl hlen rfl, fun hlen => mailboxRead_takes h rfl hlen rfl,
    fun hlen => mailboxRead_takes h rfl hlen rfl, fun hlen huuid hrange => ?log, fun hlen => mailboxRead_takes h rfl hlen rfl,
    fun hlen => ⟨_, mailboxRead_takes h rfl hlen rfl, ?health⟩, fun hlen => ⟨_, mailboxRead_takes h rfl hlen rfl, fun hnone => ?poison⟩,
    fun hlen hlast => ⟨_, mailboxRead_takes h rfl hlen (if_neg (by omega)), ?dc⟩,
    fun hlen hfirst => ⟨_, mailboxRead_takes h rfl hlen (if_neg (by omega)), ?extents⟩⟩
  case records =>
    intro hlen hlog
    refine ⟨_, mailboxRead_takes h rfl hlen (if_neg (by omega)), fun hall => ?_⟩
    rw [List.take_of_length_le hall, List.append_assoc, List.append_assoc]
    exact field_append_mod _ _ _ _ _ (by simp)
  case log =>
    exact mailboxRead_takes h rfl hlen ((if_neg (not_not_intro huuid)).trans (if_neg (by omega)))
  case health =>
    refine ⟨by simp, ?_⟩
    simp only [List.append_assoc]
    refine field_append [] _ 0 1 _ rfl ?_
    split
    · decide
    · split <;> decide
  case poison =>
    simp only [hnone, List.take_nil]
    rfl
  case dc =>
    simp only [List.append_assoc]
    refine (field_append (leBytes 1 1) _ 1 1 _ (by simp) (lt_of_le_of_lt (b2n_le _) (by decide))).trans ?_
    simp [b2n, hlast]
  case extents =>
    simp only [List.append_assoc]
    refine (field_append_mod (leBytes 4 _) _ 4 4 _ (by simp)).trans ?_
    rw [List.length_map]
    norm_num

/-! ## The statement of 15_host_port.md, writes -/

/-- An event interrupt policy whose settings are all none, or a message number below 6, is kept. -/
theorem setEventInterruptPolicy_takes {s : State} {ld : Fin 16} {b : Bytes} (h : MailboxServes s ld) (hlen : b.length = 4)
    (hnumber : ∀ k, k < 4 → field b k 1 % 4 = 1 → field b k 1 / 16 < 6) (hmode : ∀ k, k < 4 → field b k 1 % 4 ≤ 1) :
    Takes (.setEventInterruptPolicy ld b) s ((s.setLd ld { s.ld ld with policy := (List.range 5).map (fun k =>
      if k < b.length then (if field b k 1 % 4 = 1 then field b k 1 / 16 else 255) else nth (s.ld ld).policy k (k + 1)) }).mailboxAnswer
        ld retSuccess []) := by
  refine mailbox_takes h rfl ((if_neg (by simp [hlen])).trans (if_neg fun hbad => ?_))
  obtain ⟨k, hk, hkbad⟩ := List.any_eq_true.mp hbad
  rw [hlen, List.mem_range] at hk
  have hk1 := hnumber k hk
  have hk2 := hmode k hk
  simp at hkbad
  omega

/-- A withdrawal in the background whose pages are free: the pages are gone, and the completion is to be reported. -/
def State.withdrawn (s : State) (ld : Nat) : State :=
  s.setLd ld { s.ld ld with
    pages := (s.ld ld).pages.filter (fun p => !(s.ld ld).withdrawing.contains p.1), withdrawing := []
    background := none, backgroundDone := some (0xC821, 0, 0) }

/-- Settles O20: each command passes its checks (`mailbox_takes`); a withdrawal that ends reports to vector 0. -/
theorem mailboxWritesComplete : Obligations.MailboxWritesComplete := by
  unfold Obligations.MailboxWritesComplete
  refine ⟨fun s ld b h => ⟨?limit, ?clearAll, ?clear, ?policy, ?timestamp, ?grant, fun p t hpages => mailbox_takes h rfl hpages, ?unsupported⟩, ?withdrawn⟩
  case limit =>
    intro hlen hlo hhi
    exact mailbox_takes h rfl ((if_neg (not_not_intro hlen)).trans (if_neg (by omega)))
  case clearAll =>
    intro hlen hlog hall
    exact mailbox_takes h rfl ((if_neg (not_not_intro hlen)).trans ((if_neg (by omega)).trans (if_pos hall)))
  case clear =>
    rintro recs hlen hlog hsome rfl hhandles
    exact mailbox_takes h rfl ((if_neg (not_not_intro hlen)).trans ((if_neg (by omega)).trans
      ((if_neg (ne_true_of_eq_false hsome)).trans (if_neg (not_not_intro hhandles)))))
  case policy =>
    intro hlen hnumber hmode
    refine ⟨_, setEventInterruptPolicy_takes h hlen hnumber hmode, fun k hk => ?_⟩
    rw [State.ld_setLd_same, nth_map_range (by omega), if_pos (by omega)]
  case timestamp =>
    intro hlen
    exact mailbox_takes h rfl (if_neg (not_not_intro hlen))
  case grant =>
    intro hlen hgood
    exact mailbox_takes h rfl ((if_neg (not_not_intro hlen)).trans (if_neg (ne_true_of_eq_false hgood)))
  case unsupported =>
    intro op hop
    exact (congrArg (finish s) (if_neg (ne_true_of_eq_false hop))).trans (congrArg (finish s) (mailboxDo_of_serves h rfl))
  case withdrawn =>
    intro s ld op hasked hbackground hfree
    have htakes : Takes (.withdrawalComplete ld) s ((s.withdrawn ld).signal ld 0) := by
      refine congrArg (finish s) ((if_neg (not_or_intro (by simpa using hasked) (not_not_intro hfree))).trans ?_)
      simp only [hbackground, Option.isSome_some, if_true]
      rfl
    refine ⟨_, htakes, ?_⟩
    rw [State.withdrawn, State.ld_setLd_same]
    exact ⟨rfl, rfl, rfl, fun p hp => by simpa using (List.mem_filter.mp hp).2⟩

end Sys2Proof.Machine
end

section
/-!
SUPPORT. Binding, resets, legs and the configuration space of the host port.
-/
namespace Sys2Proof.Machine

/-! ## Binding (02 R41, 10 R323) -/

/-- Drawing random bytes leaves every requested state. -/
theorem draw_requested (s : State) (n u : Nat) : (s.draw n).2.requested u = s.requested u := by
  unfold State.draw
  dsimp only
  split
  · exact State.obj_setObj_of_ne _ _ _ _ _ _ _ _ (by simp only [okey]; omega)
  · rfl

/-- Creating a host key leaves every requested state. -/
theorem createHostKey_requested (s : State) (n u : Nat) : (s.createHostKey n).requested u = s.requested u := by
  unfold State.createHostKey
  split
  · rfl
  · dsimp only
    split <;> exact draw_requested s 64 u

/-- A host that binds gives its LD a host key and its requested state, and disarms injection. -/
theorem hostBind_takes {s : State} {ld : Fin 16} (hbound : s.bound ld = false) (hrunning : s.stage = .running) :
    Takes (.hostBind ld) s (linkUnits.foldl (fun s u => s.disarm 2 u)
      ((s.createHostKey ld).setOwn (0x110 + ld.val) ((s.createHostKey ld).requested (0x110 + ld.val)) 0)) := by
  rw [createHostKey_requested]
  exact congrArg (finish s) (if_neg (by simp [hbound, hrunning]))

/-! ## Legs (15 R507, R508, R534) -/

/-- A leg other than the one that is put is as it was. -/
theorem State.leg_setLeg_of_ne (s : State) {k j : Nat} (x : Leg) (h : k ≠ j) : (s.setLeg k x).leg j = s.leg j := by
  simp [State.leg, State.setLeg, tabGet_tabSet_of_ne _ _ h]

/-- The leg a hot reset came on is up, when one is. -/
theorem resetLeg_up {s : State} (h : ((s.leg 0).up || (s.leg 1).up) = true) : s.resetLeg < 2 ∧ (s.leg s.resetLeg).up = true := by
  unfold State.resetLeg
  split
  · next hfirst => exact ⟨by decide, (Bool.and_eq_true_iff.mp hfirst).1⟩
  · next hother =>
    refine ⟨by decide, ?_⟩
    cases h0 : (s.leg 0).up
    · simpa [h0] using h
    · simp only [h0, Bool.true_and, Bool.or_eq_true, not_or] at hother
      simpa using hother.1

/-- A leg that trains beside one that is up, its unit neither OFFLINE nor on its way there. -/
theorem legTrained_takes {s : State} {k : Fin 2} {w r : Nat} (hrunning : s.stage = .running) (henabled : (s.leg k).disabled = false)
    (hdown : (s.leg k).up = false) (hexists : s.legExists k = true) (hclock : s.hrefclk = true) (hfirmware : s.fw.recovery = false)
    (hother : (s.leg (1 - k.val)).up = true) (h3 : (s.unit (0x101 + k.val)).own ≠ 3)
    (h5 : (s.unit (0x101 + k.val)).own = 5 → (s.unit (0x101 + k.val)).reason ≠ 2) :
    Takes (.legTrained k w r) s
      { s.setLeg k { s.leg k with up := true, width := w, rate := r, ltssm := 0x11 } with allDown := none } := by
  refine congrArg (finish s) ((if_neg (by simp [hrunning, henabled, hdown, hexists, hclock, hfirmware])).trans ?_)
  have hup : (State.leg { s.setLeg k { s.leg k with up := true, width := w, rate := r, ltssm := 0x11 } with allDown := none }
      (1 - k.val)).up = true := (congrArg Leg.up (State.leg_setLeg_of_ne s _ (by omega))).trans hother
  dsimp only
  rw [if_pos hup]
  exact if_neg fun hdraining => hdraining.1.elim h3 fun ⟨hown, hreason⟩ => h5 hown hreason

/-! ## Cadence lines (08 R254) -/

/-- A cadence's number is its LD's and its place there. -/
theorem lineWrite_cadence {s : State} {ld : Nat} {c : Fin 64} (h : c.val / 4 = ld) (off v : Nat) :
    s.lineWrite ld (c.val % 4) off v = if off = 0 then s.drivenAdvance c.val v else s.rewindTo c.val v := by
  have hc : 4 * ld + c.val % 4 = c.val := by omega
  simp only [State.lineWrite, hc]

/-! ## Configuration requests (15 R510, R516, R518) -/

section
variable {s : State} {n leg addr size : Nat} (door go : State → Nat → State) (hrunning : s.stage = .running) (hup : (s.leg leg).up = true)
include hrunning hup

/-- A request to BAR0 that the LD decodes. -/
theorem configRequest_bar0 (hspace : (s.ld n).memSpace = true) (hrange : addr + size ≤ 0x40000) (data : Option Bytes) :
    s.configRequest n leg .bar0 addr size data door go
      = data.elim (s.emit (.config n leg 0 (s.barRead n addr size))) (fun b => s.barWrite n addr b door) := by
  rw [State.configRequest, if_neg (by simp [hrunning, hup])]
  cases data <;> exact if_pos (by simp [hspace, hrange])

/-- A read of the expansion ROM that the LD decodes. -/
theorem configRequest_rom (hdecodes : s.romDecodes n = true) (hrange : addr + size ≤ 2 ^ 22) :
    s.configRequest n leg .rom addr size none door go = s.emit (.config n leg 0 (s.romRead addr size)) := by
  rw [State.configRequest, if_neg (by simp [hrunning, hup])]
  exact if_pos (by rw [hdecodes, decide_eq_true hrange]; rfl)

/-- A request to a register of the configuration space. -/
theorem configRequest_config (hflr : ((s.leaveChrysalis n).ld n).flr = false) (haddr : addr < 4096) (hdword : addr % 4 + size ≤ 4) (hsize : size ≠ 0)
    (data : Option Bytes) : s.configRequest n leg .config addr size data door go
      = data.elim ((s.leaveChrysalis n).emit (.config n leg 0 ((s.leaveChrysalis n).cfgRead n leg addr size)))
          (fun b => ((s.leaveChrysalis n).cfgPut n leg (addr / 4 * 4) (leNat (b.take size) * 256 ^ (addr % 4))
            ((2 ^ size - 1) * 2 ^ (addr % 4)) go).emit (.config n leg 0 [])) := by
  rw [State.configRequest, if_neg (by simp [hrunning, hup])]
  refine (if_neg (ne_true_of_eq_false hflr)).trans ((if_neg (by omega)).trans ?_)
  cases data <;> rfl

end

/-! ## The statement of 15_host_port.md, events -/

/-- Settles O21: each command takes the branch that its premises choose. -/
theorem hostPortEventsComplete : Obligations.HostPortEventsComplete := by
  unfold Obligations.HostPortEventsComplete
  refine ⟨fun s ld => hostBind_takes, fun s ld hbound => congrArg (finish s) (if_pos hbound), fun s ld => ⟨rfl, rfl, rfl⟩,
    fun s ld hrunning => congrArg (finish s) (if_pos hrunning), fun s ld => ⟨_, rfl, by rw [State.ld_setLd_same]⟩, ?hotReset,
    fun s k => ⟨fun hdown => congrArg (finish s) (if_neg (by simp [hdown])), fun hup hother => congrArg (finish s) (if_pos ⟨hup, hother⟩)⟩,
    fun s k w r => legTrained_takes, fun s ld v hspace => congrArg (finish s) (if_pos hspace),
    fun s ld => congrArg (finish s) (if_pos rfl), ?unmask, ?lines, ?config⟩
  case hotReset =>
    intro s hrunning hup
    obtain ⟨hlt, hreset⟩ := resetLeg_up hup
    exact ⟨s.resetLeg, hlt, hreset, congrArg (finish s) (if_pos ⟨hrunning, hup⟩)⟩
  case unmask =>
    intro s ld k hk hmsix
    exact congrArg (finish s) ((if_neg (by omega)).trans (if_neg (by simp [hmsix])))
  case lines =>
    intro s ld c p hc hspace
    exact ⟨congrArg (finish s) ((if_pos ⟨hc, hspace⟩).trans (lineWrite_cadence hc 0 _)),
      congrArg (finish s) ((if_pos ⟨hc, hspace⟩).trans (lineWrite_cadence hc 8 _))⟩
  case config =>
    intro s ld leg addr size hrunning hup
    refine ⟨fun hspace hrange => ⟨?_, fun b => ?_⟩, fun hdecodes hrange => ?_, fun hflr haddr hdword hsize => ⟨?_, fun b => ?_⟩⟩
    · exact congrArg (finish s) (configRequest_bar0 _ _ hrunning hup hspace hrange none)
    · exact congrArg (finish s) (configRequest_bar0 _ _ hrunning hup hspace hrange (some b))
    · exact congrArg (finish s) (configRequest_rom _ _ hrunning hup hdecodes hrange)
    · exact congrArg (finish s) (configRequest_config _ _ hrunning hup hflr haddr hdword hsize none)
    · exact congrArg (finish s) (configRequest_config _ _ hrunning hup hflr haddr hdword hsize (some b))

end Sys2Proof.Machine
end

section
/-!
SUPPORT. The job command member, the span's command member, and the commands of the RAS and telemetry units and the control cores.
-/
namespace Sys2Proof.Machine

/-! ## The job command member (13 R440) -/

/-- The write of the job command member. -/
theorem objWrite_jobCommand {s : State} {w : Sender} {row : Row} {b : Bytes} (h : row.admits (leNat b) = true) (m off : Nat) :
    s.objWrite w 0xA00 0x140 m off row b = s.jobCommand w b := by
  simp [State.objWrite, fansOut, admits_iff.mp h]

/-- A granted job command takes effect when the member takes it. -/
theorem jobCommand_takes {i : Instr} {s u : State} {r : Req} {w : Sender} {row : Row} {op : Byte} {cmd b : Bytes}
    (hexec : exec i s = finish s (s.commandWrite r 0xA00 0 op cmd)) (hb : b = patch cmd 0 [op])
    (h : Grants s r 0xA00 0x140 0 0 b w row) (hok : (s.taking r).jobCommand w b = .ok u) : Takes i s (u.written r) := by
  have hadmits : row.admits (leNat b) = true := h.admits (uLo := 0xA00) (uHi := 0xA00) (oLo := 0x140) (oHi := 0x140)
    (ty := .bytes 72) (chk := .any) (by decide +kernel) (by omega) (by omega) (by simp) rfl
  rw [State.commandWrite, ← hb] at hexec
  exact granted_takes hexec h rfl (by simp [mayDefer]) ((objWrite_jobCommand hadmits 0 0).trans hok)

/-! ## The commands of a job (13 R441, R442) -/

section
variable {s : State} {w : Sender} {b : Bytes} {j : Nat} (hj : j = field b 2 2) (hflags : field b 1 1 = 0) (hreserved : field b 4 4 = 0)
include hj hflags hreserved

/-- A LOAD of a sound descriptor whose image is sound makes the slot LOADED. -/
theorem jobLoad_taken {x : Job} {img : Bytes} {u : State} (hfm : w.fm = false) (hld : w.ld = some (jobLd j))
    (hidle : ∀ y, s.job j = some y → y.state = 1) (hx : x = { state := 1, desc := slice b 8 64 }) (hdesc : descBad x.desc = false)
    (hprivate : s.rawPrivate (jobLd j) x.image x.imageLen = true)
    (hlines : s.linesNow { ld := jobLd j } x.image (ceilDiv x.imageLen 64) 0x53 = (.inr img, u))
    (himage : imageOk (img.take x.imageLen) = true) (hentry : x.entry < field (img.take x.imageLen) 12 4)
    (hpolicy : x.policy = true → x.wanted = 1 ∧ s.obj 0x700 (0x130 + jobLd j) 1 ≠ 0xFF)
    (houtput : x.output = 0xFFFF ∨ s.outputOk (jobLd j) x.output = true) : s.jobLoad w b = .ok (u.setJob j x) := by
  have hinPlace : (!descBad (slice b 8 64) && s.rawPrivate (jobLd j) x.image x.imageLen) = true := by
    rw [show slice b 8 64 = x.desc by rw [hx], hdesc, hprivate]
    rfl
  have hpolicyOk : (x.policy && (x.wanted != 1 || s.obj 0x700 (0x130 + jobLd j) 1 == 0xFF)) = false := by
    cases hp : x.policy with
    | false => rfl
    | true => simp [hpolicy hp]
  have houtputOk : (x.output != 0xFFFF && !s.outputOk (jobLd j) x.output) = false := by
    rcases houtput with h | h <;> simp [h]
  unfold State.jobLoad
  subst hj
  simp only [← hx, hlines, if_pos hinPlace]
  refine checks_pass fun c hc => ?_
  simp only [List.mem_cons, List.not_mem_nil, or_false] at hc
  rcases hc with rfl | rfl | rfl
  · simp [hfm, hld]
  · simpa [hflags, hreserved, himage, hpolicyOk, houtputOk, hentry] using hinPlace
  · simpa [Option.any_eq_false] using hidle

/-- An UNLOAD of a job that is LOADED empties its slot. -/
theorem jobUnload_taken {x : Job} (hjob : s.job j = some x) (hfm : w.fm = false) (hld : w.ld = some (jobLd j)) (hidle : x.state = 1) :
    s.jobUnload w b = .ok { s with jobs := tabDel s.jobs j } := by
  subst hj
  exact checks_pass (by simp [hfm, hld, hjob, hflags, hreserved, hidle])

/-- A STOP by a sender that may act for the job's LD stops its run. -/
theorem jobStop_taken {x : Job} (hjob : s.job j = some x) (hmay : w.mayActFor (jobLd j) = true) :
    s.jobStopCmd w b = .ok (s.stopRun j 0x12) := by
  subst hj
  exact checks_pass (by simp [hjob, hmay, hflags, hreserved])

end

/-! ## The span's command member (16 R562) -/

/-- A granted command of the span's command member is written whole. -/
theorem spanCommand_length {s : State} {r : Req} {b : Bytes} {w : Sender} {row : Row} (h : Grants s r 0xC00 0x140 0 0 b w row) :
    b.length = 16 := by
  obtain ⟨-, haccess, -⟩ := h
  obtain ⟨hty, -⟩ := rowOf_has (uLo := 0xC00) (uHi := 0xC00) (oLo := 0x140) (oHi := 0x140) (ty := .bytes 16) (chk := .any)
    (by decide +kernel) (by omega) (by omega) (rowOf_of_access haccess)
  have hspan := spanOk_of_access haccess
  rw [spanOk, hty] at hspan
  simp [commandMember] at hspan
  exact hspan.2

/-- A granted command of the span reads its code. -/
theorem spanCommand_code {s : State} {r : Req} {cmd b : Bytes} {w : Sender} {row : Row} {op : Byte} (hb : b = patch cmd 2 [op])
    (h : Grants s r 0xC00 0x140 0 0 b w row) : field b 2 1 = op.toNat := by
  have hlen := spanCommand_length h
  rw [hb] at hlen ⊢
  refine field_patch_byte cmd 2 op ?_
  simp [patch] at hlen
  omega

/-- The write of the span's command member. -/
theorem objWrite_spanCommand {s : State} {w : Sender} {row : Row} {b : Bytes} (h : row.admits (leNat b) = true) (m off : Nat) :
    s.objWrite w 0xC00 0x140 m off row b = s.evacuateWrite b := by
  simp [State.objWrite, fansOut, admits_iff.mp h]

/-- A granted command of the span: it is answered OK with its effect, or the EVACUATE it has begun waits. -/
theorem sendWrite_spanCommand {s v : State} {r : Req} {w : Sender} {row : Row} {b : Bytes} (h : Grants s r 0xC00 0x140 0 0 b w row)
    (hok : (s.taking r).evacuateWrite b = .ok v) :
    s.sendWrite r 0xC00 0x140 0 0 b = if field b 2 1 = 1 ∧ v.span.creates.length > (s.taking r).span.creates.length
      then v.deferTo r.path (writeType r) else v.written r := by
  have hadmits : row.admits (leNat b) = true := h.admits (uLo := 0xC00) (uHi := 0xC00) (oLo := 0x140) (oHi := 0x140)
    (ty := .bytes 16) (chk := .any) (by decide +kernel) (by omega) (by omega) (by simp) rfl
  rw [sendWrite_granted h (by decide) (by decide) (by decide) (by decide) (by decide), objWrite_spanCommand hadmits, hok]
  simp [mayDefer]

/-- Asking for the reservations of a region leaves one CREATE or EVACUATE more waiting. -/
theorem askReserve_waits (s : State) (z : WaitCreate) : s.span.creates.length < (s.askReserve z).span.creates.length := by
  unfold State.askReserve
  refine foldl_keeps (P := fun t : State => s.span.creates.length < t.span.creates.length) (fun t a ht => ?_) z.waiting _ (by simp)
  rwa [sendReserve_creates]

section
variable {i : Instr} {s v : State} {r : Req} {w : Sender} {row : Row} {op : Byte} {cmd b : Bytes}
  (hexec : exec i s = finish s (s.commandWrite r 0xC00 2 op cmd)) (hb : b = patch cmd 2 [op])
  (h : Grants s r 0xC00 0x140 0 0 b w row) (hok : (s.taking r).evacuateWrite b = .ok v)
include hexec hb h hok

/-- A granted RECALL or CANCEL takes effect when the member takes it. -/
theorem spanCommand_takes (hop : op.toNat ≠ 1) : Takes i s (v.written r) := by
  rw [Takes, hexec, State.commandWrite, ← hb, sendWrite_spanCommand h hok,
    if_neg fun hwaits => hop ((spanCommand_code hb h).symm.trans hwaits.1)]
  rfl

/-- The answer to an EVACUATE that waits for its reservations waits too. -/
theorem spanCommand_waits (hop : op.toNat = 1) (hmore : (s.taking r).span.creates.length < v.span.creates.length) :
    Takes i s (v.deferTo r.path (writeType r)) := by
  rw [Takes, hexec, State.commandWrite, ← hb, sendWrite_spanCommand h hok, if_pos ⟨(spanCommand_code hb h).trans hop, hmore⟩]
  rfl

end

/-! ## The commands of the span (16 R562) -/

section
variable {s : State} {b : Bytes} {id m : Nat} {x : Region} (hid : id = field b 0 2) (hm : m = field b 3 1) (hx : s.declared id = some x)
  (hprivate : x.shared = false) (hreserved : allZero (slice b 4 12) = true)
include hid hm hx hprivate hreserved

section
variable (hidle : s.evacOf id = none) (hfree : ∀ c ∈ s.span.creates, c.region ≠ id)
  (hroom : (s.span.evacs.filter (fun e => e.2.state == 1)).length + (s.span.creates.filter (fun c => c.target.isSome)).length < 4)
include hidle hfree hroom

/-- An EVACUATE to a member that is expected and reachable asks it for the region's extents. -/
theorem evacuate_taken (hop : field b 2 1 = 1) (hlayout : x.layout ≠ 1) (hlt : m < 8) (hother : m ≠ s.span.member)
    (hexpected : m ∈ s.expected) (hpeer : m ∈ s.peers) : s.evacuateWrite b = .ok (s.askReserve
      { path := none, region := id, desc := x, waiting := (s.regionDlas x).map (fun d => (m, d)), made := [], target := some m }) := by
  have hbusy : ((s.evacOf id).isSome || s.span.creates.any (fun c => c.region == id)) = false := by simpa [hidle] using hfree
  simp only [State.evacuateWrite, hop, ← hid, ← hm, hx, Option.getD_some, if_true]
  refine checks_pass ?_
  simpa [hx, hreserved, hprivate, hlayout, hlt, hother, hexpected, hpeer, hidle] using ⟨hfree, hroom⟩

/-- A RECALL of a region that members hold starts a sweep. -/
theorem recall_taken {i : Nat} (hop : field b 2 1 = 2) (hlayout : x.layout = 1) (hi : s.freeEvac = some i) : s.evacuateWrite b = .ok
      ((s.setEvac i { region := id, cmd := 2, state := 1, member := m, remaining := (s.remoteTiles id x).length }).pumpEvac i) := by
  simp only [State.evacuateWrite, hop, ← hid, ← hm, hx, Option.getD_some, hi, if_true]
  refine (if_neg (by decide)).trans (checks_pass ?_)
  simpa [hx, hreserved, hprivate, hlayout, hidle] using ⟨hfree, hroom⟩

end

omit hm in
/-- A CANCEL ends what runs for the region, its moves and its requests; where nothing runs it changes nothing. -/
theorem evacuationCancel_taken (hop : field b 2 1 = 3) : s.evacuateWrite b = .ok ((s.evacOf id).elim s fun e =>
      let u := (s.setEvac e.1 { e.2 with state := 3 }).abortWhere 0xD
        (fun y => y.kind == 6 && ((s.setEvac e.1 { e.2 with state := 3 }).entry y.key).region == id)
      State.retryLocal { u with span := { u.span with
        recalls := u.span.recalls.filter (fun k => !((u.entry k).region == id))
        requests := u.span.requests.filter (fun q => !(q.kind == 0x10 && q.move.any (fun k => (u.entry k).region == id)))
        lines := u.span.lines.filter (fun l => !(l.1 == 1 && (u.entry l.2.1).region == id)) } }) := by
  simp only [State.evacuateWrite, hop, ← hid, hx, Option.getD_some]
  refine (if_neg (by decide)).trans ((if_neg (by decide)).trans ((checks_pass ?_).trans ?_))
  · simp [hreserved, hprivate]
  · cases s.evacOf id <;> rfl

end

/-! ## The statement of 13_jobs.md and 16_stream_span.md, commands -/

/-- Settles O39: each command is a granted write of its unit's command member, none of whose refusals holds. -/
theorem jobAndSpanCommandsTakeEffect : Obligations.JobAndSpanCommandsTakeEffect := by
  unfold Obligations.JobAndSpanCommandsTakeEffect
  rintro s t r cmd b w row op rfl
  refine ⟨fun hb h hflags hreserved j hj => ?job, fun hb h id m x hid hm hx hprivate hreserved => ?span⟩
  case job =>
    have hcode : field b 0 1 = op.toNat := field_code hb
    have htakes {i : Instr} {u : State} := jobCommand_takes (i := i) (u := u) (hb := hb) (h := h)
    simp only [State.jobCommand, hcode] at htakes
    refine ⟨?load, fun x hjob => ⟨?unload, ?stop⟩⟩
    case load =>
      rintro x img u rfl hfm hld hidle hdesc hsound hprivate hlines himage hentry hpolicy houtput
      exact htakes rfl (jobLoad_taken hj hflags hreserved hfm hld hidle hdesc hsound hprivate hlines himage hentry hpolicy houtput)
    case unload =>
      rintro rfl hfm hld hidle
      exact htakes rfl (jobUnload_taken hj hflags hreserved hjob hfm hld hidle)
    case stop =>
      rintro rfl hmay
      exact htakes rfl (jobStop_taken hj hflags hreserved hjob hmay)
  case span =>
    have hcode : field b 2 1 = op.toNat := spanCommand_code hb h
    refine ⟨?evacuate, ?recalled, ?nothing, ?cancel⟩
    case evacuate =>
      rintro rfl hlayout hlt hother hexpected hidle hfree hpeer hroom
      exact spanCommand_waits rfl hb h
        (evacuate_taken hid hm hx hprivate hreserved hidle hfree hroom hcode hlayout hlt hother hexpected hpeer) rfl (askReserve_waits ..)
    case recalled =>
      rintro i rfl hlayout hidle hfree hi hroom
      exact spanCommand_takes rfl hb h (recall_taken hid hm hx hprivate hreserved hidle hfree hroom hcode hlayout hi) (by decide)
    case nothing =>
      rintro rfl hidle
      have hcancel := evacuationCancel_taken hid hx hprivate hreserved hcode
      rw [hidle] at hcancel
      exact spanCommand_takes rfl hb h hcancel (by decide)
    case cancel =>
      rintro i v rfl hrunning u rfl
      have hcancel := evacuationCancel_taken hid hx hprivate hreserved hcode
      rw [hrunning] at hcancel
      exact spanCommand_takes rfl hb h hcancel (by decide)

/-! ## The RAS unit, telemetry and the control cores (18 R600, R604, 19 R610 to R622) -/

section
variable {s : State} {w : Sender} {row : Row} {b : Bytes} (h : row.admits (leNat b) = true) (m off : Nat)
include h

theorem objWrite_rasCommand : s.objWrite w 0xF80 0x170 m off row b = s.rasCommand (leNat b) := by
  simp [State.objWrite, fansOut, admits_iff.mp h]

theorem objWrite_freeze : s.objWrite w 0xF00 0x111 m off row b = s.freezeWrite (leNat b) := by
  simp [State.objWrite, fansOut, admits_iff.mp h]

theorem objWrite_snapshot : s.objWrite w 0xF00 0x120 m off row b = s.snapWrite (leNat b) := by
  simp [State.objWrite, fansOut, admits_iff.mp h]

theorem objWrite_halt {k : Nat} (hk : k < 8) : s.objWrite w (0xD10 + k) 0x124 m off row b = s.haltWrite k (leNat b) := by
  simp (disch := omega) [State.objWrite, State.coreWrite, fansOut, admits_iff.mp h, ↓if_neg, ↓if_pos]

end

section
variable {i : Instr} {s u : State} {r : Req} {w : Sender} {row : Row} {v : Byte}

/-- A granted command of the RAS unit takes effect when the unit takes it. -/
theorem rasCommand_takes (hexec : exec i s = finish s (s.sendWrite r 0xF80 0x170 0 0 [v])) (h : Grants s r 0xF80 0x170 0 0 [v] w row)
    (hok : (s.taking r).rasCommand v.toNat = .ok u) : Takes i s (u.written r) := by
  have hadmits : row.admits (leNat [v]) = true := h.admits (uLo := 0xF80) (uHi := 0xF80) (oLo := 0x170) (oHi := 0x170)
    (ty := .num 1) (chk := .any) (by decide +kernel) (by omega) (by omega) (by simp) rfl
  exact granted_takes hexec h rfl (by simp [mayDefer]) ((objWrite_rasCommand hadmits 0 0).trans (by rw [leNat_byte, hok]))

/-- A granted write of the freeze control takes effect when the unit takes it. -/
theorem freezeWrite_takes (hexec : exec i s = finish s (s.sendWrite r 0xF00 0x111 0 0 [v])) (h : Grants s r 0xF00 0x111 0 0 [v] w row)
    (hok : (s.taking r).freezeWrite v.toNat = .ok u) : Takes i s (u.written r) := by
  have hadmits : row.admits (leNat [v]) = true := h.admits (uLo := 0xF00) (uHi := 0xF00) (oLo := 0x111) (oHi := 0x111)
    (ty := .num 1) (chk := .any) (by decide +kernel) (by omega) (by omega) (by simp) rfl
  exact granted_takes hexec h rfl (by simp [mayDefer]) ((objWrite_freeze hadmits 0 0).trans (by rw [leNat_byte, hok]))

/-- A granted write of the snapshot control takes effect when the unit takes it. -/
theorem snapWrite_takes (hexec : exec i s = finish s (s.sendWrite r 0xF00 0x120 0 0 [v])) (h : Grants s r 0xF00 0x120 0 0 [v] w row)
    (hok : (s.taking r).snapWrite v.toNat = .ok u) : Takes i s (u.written r) := by
  have hadmits : row.admits (leNat [v]) = true := h.admits (uLo := 0xF00) (uHi := 0xF00) (oLo := 0x120) (oHi := 0x120)
    (ty := .num 1) (chk := .any) (by decide +kernel) (by omega) (by omega) (by simp) rfl
  exact granted_takes hexec h rfl (by simp [mayDefer]) ((objWrite_snapshot hadmits 0 0).trans (by rw [leNat_byte, hok]))

/-- A granted write of a core's halt control takes effect in TEST when the core takes it. -/
theorem haltWrite_takes {k : Fin 8} (hexec : exec i s = finish s (s.sendWrite r (0xD10 + k) 0x124 0 0 [v]))
    (h : Grants s r (0xD10 + k) 0x124 0 0 [v] w row) (hok : (s.taking r).haltWrite k v.toNat = .ok u) : Takes i s (u.written r) := by
  have hadmits : row.admits (leNat [v]) = true := h.admits (uLo := 0xD10) (uHi := 0xD17) (oLo := 0x124) (oHi := 0x124)
    (ty := .num 1) (chk := .any) (by decide +kernel) (by omega) (by omega) (by simp) rfl
  exact granted_takes hexec h rfl (by simp [mayDefer]) ((objWrite_halt hadmits 0 0 k.isLt).trans (by rw [leNat_byte, hok]))

end

/-- The repair map is cleared while every channel is OFFLINE. -/
theorem clearRepairs_taken {s : State} (h : ∀ u ∈ unitRun 0x510 32, (s.unit u).own = 3) :
    s.clearRepairs = .ok { s with repairMap := [], repairSeq := s.repairSeq + 1 } :=
  checks_pass (by simpa using h)

/-- In TEST the halt control halts, resumes and steps a core. -/
theorem haltWrite_of_test {s : State} (h : s.actual 0xD00 = 2) (k : Nat) :
    s.haltWrite k 1 = .ok (s.haltCore k) ∧ s.haltWrite k 2 = .ok (s.resumeCore k) ∧ s.haltWrite k 3 = .ok (s.stepCore k) :=
  ⟨if_neg (not_not_intro h), if_neg (not_not_intro h), if_neg (not_not_intro h)⟩

/-! ## The statement of 18_ras_faults.md and 19_debug_telemetry.md, commands -/

/-- Settles O40: each command is a granted write of its unit's control, which the unit takes. -/
theorem debugCommandsTakeEffect : Obligations.DebugCommandsTakeEffect := by
  unfold Obligations.DebugCommandsTakeEffect
  rintro s t r w row rfl
  refine ⟨fun h hoff => rasCommand_takes rfl h (clearRepairs_taken hoff), fun h => rasCommand_takes rfl h rfl,
    fun h => freezeWrite_takes rfl h rfl, fun h hfrozen => freezeWrite_takes rfl h (congrArg _ (if_pos hfrozen)),
    fun h hfree => freezeWrite_takes rfl h (congrArg _ (if_neg hfree)), fun h => snapWrite_takes rfl h rfl,
    fun h hheld => snapWrite_takes rfl h (congrArg _ (if_pos hheld)), fun h hnone => snapWrite_takes rfl h (congrArg _ (if_neg hnone)),
    fun k htest => ?cores⟩
  case cores =>
    obtain ⟨hhalt, hresume, hstep⟩ := haltWrite_of_test htest k
    exact ⟨fun h hruns hon => haltWrite_takes rfl h (hhalt.trans (congrArg _ (if_pos ⟨hruns, hon⟩))),
      fun h hhalted => haltWrite_takes rfl h (hresume.trans (congrArg _ (if_neg hhalted))),
      fun h hhalted => haltWrite_takes rfl h (hstep.trans (congrArg _ (if_pos hhalted)))⟩

end Sys2Proof.Machine
end

section
/-!
SUPPORT. The near-tier channels: what the events of a channel and its command slots do.
-/
namespace Sys2Proof.Machine

/-! ## Granules and bursts that return (14 R479, R486) -/

section
variable {s t u : State} {ch : Fin 32} {e1 e2 : List ByteErr} {r : RdReq} {rest : List RdReq} {d : GranRead}
  (hinflight : (s.chan ch).inflight = r :: rest) (hu : u = s.setChan ch { s.chan ch with inflight := rest, crcRun := 0 })
  (htake : u.takeGranule r.gran r.requester e1 e2 = (d, t))
include hinflight hu htake

/-- A granule that returns goes to the access that asked for it. -/
theorem granuleRead_toAccess {a : Access} (hpatrol : r.patrol = false) (hfind : t.accesses.find? (·.id == r.access) = some a) :
    Takes (.granuleReadComplete ch e1 e2) s (t.partDone a.id (r.gran - 16 * a.entry.location) (u.asBegun a r.gran e1 e2 d)) := by
  subst hu
  refine congrArg (finish s) ?_
  rw [hinflight]
  simp only [htake, hpatrol, hfind, Bool.false_eq_true, if_false]

/-- A patrol's granule that decodes is written back. -/
theorem granuleRead_patrolled {b : Bytes} (hpatrol : r.patrol = true) (hd : d = some b)
    (hqueued : ((u.chan (u.granChan r.gran)).queuedRaw r.gran).isSome = false) (hlost : t.chanLost ch = false) :
    Takes (.granuleReadComplete ch e1 e2) s (t.setDeviceGranule ch (t.granPlace r.gran).2 (rsEncode b)) := by
  subst hu hd
  refine congrArg (finish s) ?_
  rw [hinflight]
  simp only [htake, hpatrol, hqueued, State.patrolled, hlost, Bool.false_eq_true, if_false, if_true]

end

/-- A failed burst that is not the fourth in a row is counted. -/
theorem State.crcFailure_of_lt {s : State} {ch : Nat} (h : (s.chan ch).crcRun + 1 < 4) :
    s.crcFailure ch = (s.setChan ch { s.chan ch with crcRun := (s.chan ch).crcRun + 1 }).bump (0x510 + ch) 0x22 1 :=
  if_neg (Nat.not_le.mpr h)

/-- The fourth failed burst in a row starts retraining. -/
theorem State.crcFailure_fourth {s : State} {ch : Nat} (h : (s.chan ch).crcRun = 3) :
    s.crcFailure ch = ((s.setChan ch { s.chan ch with crcRun := 4 }).bump (0x510 + ch) 0x22 1).retrain ch := by
  simp [State.crcFailure, h]

/-! ## Parity alerts and temperatures (14 R485, R473) -/

/-- An alert with fewer than four in the last 10 µs before it replays the buffered commands and does not retrain. -/
theorem caParityAlert_takes {s t : State} {ch : Fin 32}
    (hfew : ((s.chan ch).replayTimes.filter (fun t => decide (t + 10000 ≥ s.now))).length < 4)
    (ht : t = (s.chan ch).retry.foldl (fun (u : State) c => u.replayOne ch c) ((s.chan ch).openRows.foldl (fun (u : State) r => u.shutBank ch r.1) s)) :
    Takes (.caParityAlert ch) s (((t.setChan ch { t.chan ch with
      replayTimes := ((s.chan ch).replayTimes ++ [s.now]).filter (fun t => decide (t + 10000 ≥ s.now)) }).bump (0x510 + ch) 0x21 1).bump
      (0x510 + ch) 0x11 1) := by
  have hnone : ¬ (((s.chan ch).replayTimes ++ [s.now]).filter (fun t => decide (t + 10000 ≥ s.now))).length ≥ 5 := by
    rw [List.filter_append, List.length_append]
    have := List.length_filter_le (fun t => decide (t + 10000 ≥ s.now)) [s.now]
    rw [List.length_singleton] at this
    omega
  subst ht
  exact congrArg (finish s) (if_neg hnone)

section
variable {s : State} {ch : Nat} {c : Int} (hhot : sextNat 8 (s.obj 0x500 0x103 0) ≤ c)
include hhot

/-- A device that is hot already and stays so keeps its temperature. -/
theorem State.feelHeat_stays (h : (s.chan ch).hot = true) : s.feelHeat ch c = s.setChan ch { s.chan ch with temperature := c } := by
  unfold State.feelHeat
  simp only [ge_iff_le, if_pos hhot, h, if_true]

/-- A device that gets hot is refreshed more often from now on, with event 0x0193. -/
theorem State.feelHeat_crosses (h : (s.chan ch).hot = false) :
    ∃ n, s.feelHeat ch c = (s.setChan ch { s.chan ch with temperature := c, hot := true, nextRefresh := n }).raise (0x510 + ch) 0x0193 1 := by
  unfold State.feelHeat
  simp only [ge_iff_le, if_pos hhot, h, Bool.true_eq_false, if_false]
  exact ⟨_, rfl⟩

end

/-! ## Row remaps (14 R490) -/

/-- The channels and the repair map of one state are those of another. -/
def SameRepair (s t : State) : Prop := t.channels = s.channels ∧ t.repairMap = s.repairMap

/-- Correcting a row writes the devices alone. -/
theorem correctRow_sameRepair (s : State) (ch bank row : Nat) : SameRepair s (s.correctRow ch bank row) := by
  unfold State.correctRow
  refine foldl_keeps (P := SameRepair s) (fun u i hu => ?_) _ _ ⟨rfl, rfl⟩
  dsimp only
  split
  · exact hu
  · split
    · split
      · exact hu
      · exact hu
    · exact hu

/-- A row copied to a spare row of its bank, remapped and entered in the repair map. -/
def State.rowMoved (s : State) (ch bank row sp : Nat) : State :=
  let dst := nearKey ch ((3007 + sp) * 2048 + bank * 64) 0
  let t := { s with near := memWrite s.near dst (memRead s.near (nearKey ch (row * 2048 + bank * 64) 0) 4096) }
  let t := t.setChan ch { t.chan ch with remap := tabSet (s.chan ch).remap (65536 * bank + row) sp }
  let m : RepairEntry := { kind := 1, unit := ch, bank := bank, row := row, spare := sp }
  { t with repairMap := t.repairMap ++ [m], repairSeq := t.repairSeq + 1 }

@[simp] theorem State.rowMoved_chan (s : State) (ch bank row sp : Nat) : (s.rowMoved ch bank row sp).chan ch =
    { s.chan ch with remap := tabSet (s.chan ch).remap (65536 * bank + row) sp } := State.chan_setChan_same s ch _

/-- A candidate row of a bank with a spare row left is copied, remapped and entered in the repair map. -/
theorem rowRemap_takes {s u : State} {ch : Fin 32} {bank row sp : Nat} {rest : List (Nat × Nat)}
    (hcand : (s.chan ch).candidates = (bank, row) :: rest) (hslot : s.slotFor 16 = true)
    (hu : u = (s.setChan ch { s.chan ch with
      candidates := rest, corrected := tabDel (s.chan ch).corrected (65536 * bank + row) }).correctRow ch bank row)
    (hchan : u.chan ch = { s.chan ch with candidates := rest, corrected := tabDel (s.chan ch).corrected (65536 * bank + row) })
    (hnew : tabGet (s.chan ch).remap (65536 * bank + row) = none)
    (hspare : firstBelow 64 (fun i => !((s.chan ch).remap.filterMap (fun m => if m.1 / 65536 = bank then some m.2 else none)).contains i)
      = some sp) : Takes (.rowRemap ch) s ((u.rowMoved ch bank row sp).raise (0x510 + ch) 0x0192 (row + 65536 * bank)) := by
  have hremap : (u.chan ch).remap = (s.chan ch).remap := by rw [hchan]
  refine congrArg (finish s) ?_
  rw [hcand]
  refine (if_neg (ne_false_of_eq_true hslot)).trans ((if_neg (by simp [hnew])).trans ?_)
  rw [hspare, State.rowMoved, hremap, hu]

/-! ## The obligations on channels -/

/-- Settles O11: each event is one branch of its command; the parity alerts are counted, the failed bursts go through
`State.crcFailure`, and the temperature through `State.feelHeat`. -/
theorem nearTierEventsComplete : Obligations.NearTierEventsComplete := by
  unfold Obligations.NearTierEventsComplete
  refine ⟨?refresh, ?aging, ?granule, ?patrol, ?parity, ?readCrc, ?writeCrc, ?writeCrcFourth, ?retrained, ?recentre, ?stays, ?crosses⟩
  case refresh =>
    intro s ch hstage hawake
    exact congrArg (finish s) (if_pos ⟨.inr hstage, by simp [hawake]⟩)
  case aging =>
    intro s ch r hmem hold
    have hany : (s.chan ch).reads.any (fun r => decide (r.since + s.obj 0x500 0x131 0 < s.now)) = true :=
      List.any_eq_true.mpr ⟨r, hmem, decide_eq_true hold⟩
    refine congrArg (finish s) ((if_pos hany).trans ?_)
    simp only [decide_eq_true_eq]
  case granule =>
    intro s t u ch e1 e2 r rest d hinflight hu htake
    exact ⟨fun _ => granuleRead_toAccess hinflight hu htake, fun _ => granuleRead_patrolled hinflight hu htake⟩
  case patrol =>
    intro s ch block g k hblock hg hopen hstage
    subst hg
    exact (if_neg (Nat.not_le.mpr hblock)).trans (if_neg (by simp [hopen, hstage]))
  case parity => exact fun s t ch => caParityAlert_takes
  case readCrc =>
    intro s ch hinflight hrun
    exact congrArg (finish s) ((if_neg (by simpa using hinflight)).trans (State.crcFailure_of_lt hrun))
  case writeCrc => exact fun s ch hrun => congrArg (finish s) (State.crcFailure_of_lt hrun)
  case writeCrcFourth => exact fun s ch hrun => congrArg (finish s) (State.crcFailure_fourth hrun)
  case retrained =>
    intro s ch hretraining
    have hbranch : ¬ (!(s.chan ch).retraining) = true := by simp [hretraining]
    exact ⟨congrArg (finish s) (if_neg hbranch), congrArg (finish s) (if_neg hbranch)⟩
  case recentre =>
    intro s ch hlost
    exact congrArg (finish s) (if_pos (by simp [hlost]))
  case stays => exact fun s ch c hhot h => congrArg (finish s) (State.feelHeat_stays hhot h)
  case crosses =>
    intro s ch c hhot h
    obtain ⟨n, hn⟩ := State.feelHeat_crosses hhot h
    exact ⟨n, congrArg (finish s) hn⟩

/-- Settles O12: a command slot takes the branch that the channel's state picks, a merge takes the oldest coded entry, and a
remapped row is `State.rowMoved`. -/
theorem channelWorkCompletes : Obligations.ChannelWorkCompletes := by
  unfold Obligations.ChannelWorkCompletes
  refine ⟨?slot, ?merge, ?remap⟩
  case slot =>
    intro s ch a l streams hstage hstreams
    subst hstreams
    have hserves : ¬ (s.stage ≠ .running ∧ s.stage ≠ .filling) := fun h => h.1 hstage
    refine ⟨fun hdown hretraining hstall hawake => ?_, fun hdown hretraining hstall hasleep hreads => ?_, fun hdown => ?_⟩
    all_goals refine congrArg (fun t : State => finish s (t.panicClock ch a _)) ((if_neg hserves).trans ?_)
    · have hready : ¬ ((s.chan ch).retraining = true ∨ s.now < (s.chan ch).stallUntil) := by
        simp [hretraining, hstall]
      exact (if_neg (by simp [hdown])).trans ((if_neg hready).trans (if_neg (by simp [hawake])))
    · have hready : ¬ ((s.chan ch).retraining = true ∨ s.now < (s.chan ch).stallUntil) := by
        simp [hretraining, hstall]
      have hwork : ¬ ((s.chan ch).reads.isEmpty && (s.chan ch).wq.isEmpty) = true := by simp [hreads]
      exact (if_neg (by simp [hdown])).trans ((if_neg hready).trans ((if_pos hasleep).trans ((if_neg hwork).trans (if_pos hasleep))))
    · exact if_pos hdown
  case merge =>
    intro s ch q e form t hcoded hform ht htakes hslot
    subst hform ht
    refine congrArg (finish s) ?_
    rw [hcoded]
    exact (if_neg (ne_false_of_eq_true hslot)).trans (if_pos (List.all_eq_true.mpr htakes))
  case remap =>
    intro s u ch bank row sp rest hcand hslot hu hnew hspare
    obtain ⟨hchannels, hmap⟩ := hu ▸ correctRow_sameRepair _ ch bank row
    have hchan : u.chan ch = { s.chan ch with
        candidates := rest, corrected := tabDel (s.chan ch).corrected (65536 * bank + row) } := by
      rw [State.chan, hchannels]
      exact State.chan_setChan_same s ch _
    refine ⟨u.rowMoved ch bank row sp, rowRemap_takes hcand hslot hu hchan hnew hspare, ?_, ?_, ?_, rfl⟩
    · rw [State.rowMoved_chan]
      exact tabGet_tabSet_same _ _ _
    · rw [State.rowMoved_chan, hchan]
    · exact congrArg (· ++ _) hmap

end Sys2Proof.Machine
end

section
/-!
SUPPORT. The power sequence and the power manager.
-/
namespace Sys2Proof.Machine

/-! ## Training (14 R497, R498) -/

/-- At most the channels of one state differ from those of another. -/
def OnlyChannels (s t : State) : Prop := ∃ C, t = { s with channels := C }

/-- A channel that trained changes nothing outside the channels. -/
theorem trained_only {s u : State} {ok : Nat} {margins : Bytes} {ch : Nat} (hok : ok.testBit ch = true) (h : OnlyChannels s u) :
    OnlyChannels s (u.trained ok margins ch) := by
  obtain ⟨C, rfl⟩ := h
  exact ⟨_, if_pos hok⟩

/-- When every channel trains, nothing outside the channels changes. -/
theorem trainedAll_only (s : State) (margins : Bytes) :
    OnlyChannels s ((List.range 32).foldl (fun u ch => u.trained (2 ^ 32 - 1) margins ch) s) :=
  List.foldlRecOn _ _ ⟨s.channels, rfl⟩ fun _ h ch hch =>
    trained_only (by rw [Nat.testBit_two_pow_sub_one]; exact decide_eq_true (List.mem_range.mp hch)) h

/-- A near tier of which every channel trains starts its fill. -/
theorem trainingComplete_takes {s : State} {ok : U32} {b : Bytes} (hstage : s.stage = .starting) (hfirmware : s.fw.recovery = false)
    (hparity : s.parityOn = false) (hok : ok.toNat = 2 ^ 32 - 1) :
    ∃ t : State, Takes (.trainingComplete ok b) s (({ t with stage := .filling }).releaseFar) ∧ t.trainedAt = s.now := by
  obtain ⟨C, hC⟩ := trainedAll_only { s with trainedAt := s.now } b
  have hserves : ¬ (s.stage ≠ .starting ∨ s.fw.recovery = true) := by simp [hstage, hfirmware]
  have hgoes : ¬ State.trainingStops { s with trainedAt := s.now, channels := C } ok.toNat = true := by
    have hp : State.parityOn { s with trainedAt := s.now, channels := C } = false := hparity
    simp [State.trainingStops, hp, hok]
  refine ⟨{ s with trainedAt := s.now, channels := C }, congrArg (finish s) ((if_neg hserves).trans ?_), rfl⟩
  rw [← hok] at hC
  dsimp only
  rw [hC]
  exact if_neg hgoes

/-- Settles O24: the stages are those of the commands' definitions; the channels' training keeps the parity and the time. -/
theorem powerSequenceCompletes : Obligations.PowerSequenceCompletes := by
  unfold Obligations.PowerSequenceCompletes
  refine ⟨?rise, ?fall, ?perst, ?deassert, ?training, ?fill, ?trial⟩
  case rise =>
    intro s hoff
    refine ⟨fun hperst => ?_, fun hperst => ?_⟩
    all_goals refine (if_neg (not_not_intro hoff)).trans ?_
    · rw [if_pos hperst]
    · rw [if_neg (ne_true_of_eq_false hperst)]
  case fall => exact fun s hon => ⟨s.powerLost, congrArg (finish s) (if_neg hon), rfl, rfl, rfl, rfl, rfl, rfl⟩
  case perst =>
    intro s hrunning
    have hon : ¬ (s.stage = .off ∨ s.stage = .inReset) := by simp [hrunning]
    exact ⟨_, congrArg (finish s) (if_neg hon), rfl, rfl, rfl, rfl, rfl, rfl, rfl, rfl⟩
  case deassert => exact fun s p n hstage => congrArg (finish s) (if_pos hstage)
  case training => exact fun s ok b => trainingComplete_takes
  case fill =>
    intro s hfilling
    refine ⟨_, congrArg (finish s) (if_neg (not_not_intro hfilling)), rfl, rfl, rfl, rfl, rfl, fun htrial => ?_⟩
    simp [htrial]
  case trial =>
    intro s hstage htrial hconfirmed hfirmware t image ht himage
    have hwaits : ¬ (s.stage = .off ∨ s.stage = .inReset ∨ (!s.fw.onTrial) = true ∨ s.fw.confirmed = true ∨ s.fw.recovery = true) := by
      simp [hstage, htrial, hconfirmed, hfirmware]
    subst ht
    refine congrArg (finish s) ((if_neg hwaits).trans ?_)
    dsimp only
    rw [himage]

/-! ## The control loop (17 R576, R578, R579) -/

/-- The temperatures and the power that were last read stay. -/
def SameReadings (s t : State) : Prop := t.power.temps = s.power.temps ∧ t.power.milliwatts = s.power.milliwatts

theorem SameReadings.refl (s : State) : SameReadings s s := ⟨rfl, rfl⟩

theorem SameReadings.trans {s t u : State} (h : SameReadings s t) (g : SameReadings t u) : SameReadings s u :=
  ⟨g.1.trans h.1, g.2.trans h.2⟩

theorem OnlyEvents.readings {s t : State} : OnlyEvents s t → SameReadings s t := by
  rintro ⟨_, _, _, _, rfl⟩
  exact .refl s

theorem assertFault_readings (s : State) (c : Nat) : SameReadings s (s.assertFault c) := by
  obtain ⟨_, _, _, _, h⟩ := assertFault_only s c
  rw [h]
  exact .refl s

theorem setCapPoint_readings (s : State) (p : Nat) : SameReadings s (s.setCapPoint p) := by
  unfold State.setCapPoint
  split
  · exact .refl s
  · exact (raise_only _ _ _ _).readings

theorem setThermalPoint_readings (s : State) (p : Nat) : SameReadings s (s.setThermalPoint p) := by
  unfold State.setThermalPoint
  split
  · exact .refl s
  · exact (raise_only _ _ _ _).readings

theorem partitionCap_readings (s : State) : SameReadings s s.partitionCap := setCapPoint_readings _ _

theorem pointMoved_readings (before s : State) : SameReadings s (State.pointMoved before s) := by
  unfold State.pointMoved
  split
  · exact .refl s
  · exact (OnlyEvents.bump _ _ _ _).readings

/-- The cap rules leave the readings. -/
theorem capLoop_readings (s : State) (mw : Nat) : SameReadings s (s.capLoop mw) := by
  unfold State.capLoop
  dsimp only
  split
  case isTrue =>
    split
    · exact .refl s
    · split
      · exact (setCapPoint_readings (s.setPower { s.power with under := 0 }) _).trans (setCapPoint_readings _ _)
      · exact setCapPoint_readings _ _
  case isFalse =>
    split
    · split
      · exact .refl s
      · split
        · exact .refl s
        · split
          · exact setCapPoint_readings _ _
          · exact .refl s
    · exact .refl s

/-- The thermal rules leave the readings. -/
theorem thermalLoop_readings (s : State) (ts : List Int) : SameReadings s (s.thermalLoop ts) := by
  unfold State.thermalLoop
  dsimp only
  split
  case isTrue =>
    have hpoint := setThermalPoint_readings (s.setPower { s.power with cool := 0, issueRate := 1 }) 0
    split
    · exact hpoint
    · exact (hpoint.trans (assertFault_readings _ 2)).trans (raise_only _ _ _ _).readings
  case isFalse =>
    split
    · split <;> exact setThermalPoint_readings _ _
    · split
      · split
        all_goals
          split
          · exact .refl s
          · exact setThermalPoint_readings _ _
      · split <;> exact .refl s

/-- The rules of one iteration leave the readings. -/
theorem loopRules_readings (s : State) (mw : Nat) (ts : List Int) :
    SameReadings s (State.pointMoved s ((if s.obj 0 0x131 0 = 1 then s.partitionCap else s.capLoop mw).thermalLoop ts)) := by
  have hcap : SameReadings s (if s.obj 0 0x131 0 = 1 then s.partitionCap else s.capLoop mw) := by
    split
    · exact partitionCap_readings s
    · exact capLoop_readings s mw
  exact (hcap.trans (thermalLoop_readings _ ts)).trans (pointMoved_readings _ _)

/-- An iteration in which no die is at 120 °C keeps what it read. -/
theorem loop_keeps_readings (s : State) (m : LoopSample) (h : ∀ x ∈ m.temps.take 4, x < 120) :
    (s.loop m).power.temps = m.temps.take 4 ∧ (s.loop m).power.milliwatts = m.milliwatts := by
  have hcool : ¬ (m.temps.take 4).any (fun t => decide (t ≥ 120)) = true := by
    simpa [List.any_eq_true] using h
  unfold State.loop
  dsimp only
  rw [if_neg hcool]
  exact loopRules_readings (State.setPower _ _) m.milliwatts (m.temps.take 4)

/-- Settles O25: the loop's rules leave what was read, and the other events are one branch of their command each. -/
theorem powerManagerCompletes : Obligations.PowerManagerCompletes := by
  unfold Obligations.PowerManagerCompletes
  refine ⟨?loop, ?droop, ?idle, ?evacuated, ?channelIdle, ?filled, ?clockLost, ?clockBack, ?chrysalis, ?qos⟩
  case loop =>
    intro s m hrunning
    have hon : ¬ (s.stage = .off ∨ s.stage = .inReset) := by simp [hrunning]
    exact ⟨s.loop m, congrArg (finish s) (if_neg hon), loop_keeps_readings s m⟩
  case droop =>
    intro s d ns hd hns hrunning
    exact congrArg (finish s) (if_pos ⟨hd, hns, by simp [hrunning], by simp [hrunning]⟩)
  case idle =>
    intro s hrunning hdeep hallowed hmode hrequested hquiet hcontained
    refine ⟨_, congrArg (finish s) (if_pos ⟨hrunning, hdeep, hallowed, hmode, hrequested, hquiet, by simp [hcontained]⟩), rfl, rfl, ?_⟩
    exact State.obj_setObj_same { s with segStates := (List.range 6).map (fun i => (i + 2, 1)) } 0x700 0x170 0 1
  case evacuated => exact fun s hdeep hempty => congrArg (finish s) (if_pos ⟨hdeep, hempty⟩)
  case channelIdle =>
    intro s ch hdeep hreads hxbar hwq hinflight
    exact congrArg (finish s) (if_pos (by simp [hdeep, hreads, hxbar, hwq, hinflight]))
  case filled =>
    intro s g hfirst hmore
    exact congrArg (finish s) ((if_neg (not_not_intro hfirst)).trans (if_pos hmore))
  case clockLost =>
    intro s hrunning hclock
    exact ⟨_, _, congrArg (finish s) (if_neg (by simp [hrunning, hclock])), rfl, rfl⟩
  case clockBack => exact fun s => rfl
  case chrysalis => exact fun s hrunning hsince hdown => congrArg (finish s) (if_pos ⟨hrunning, hsince, hdown⟩)
  case qos =>
    intro s hmode hrequested
    refine congrArg (finish s) ?_
    simp only [hmode, hrequested, Nat.zero_ne_one, if_false, if_true]

end Sys2Proof.Machine
end

section
/-!
SUPPORT. Containment, dumps, freezes, snapshots and the control cores.
-/
namespace Sys2Proof.Machine

/-! ## Containment (18 R596 to R598) -/

/-- Containment and the causes of FAULT_N stay. -/
def SameAlarm (s t : State) : Prop := t.contained = s.contained ∧ t.faults = s.faults

theorem SameAlarm.refl (s : State) : SameAlarm s s := ⟨rfl, rfl⟩

theorem SameAlarm.trans {s t u : State} (h : SameAlarm s t) (g : SameAlarm t u) : SameAlarm s u :=
  ⟨g.1.trans h.1, g.2.trans h.2⟩

theorem OnlyPorts.alarm {s t : State} : OnlyPorts s t → SameAlarm s t := by
  rintro ⟨_, _, _, rfl⟩
  exact .refl s

/-- An answer to a read leaves the alarm. -/
theorem answerRead_alarm (s : State) (a : Access) (d : Option Bytes) : SameAlarm s (s.answerRead a d) := by
  unfold State.answerRead State.deliver
  split
  · split <;> exact .refl s
  · exact .refl s

/-- A completed write leaves the alarm. -/
theorem completed_alarm (s : State) (x : HeldWrite) : SameAlarm s (s.completed x) := by
  unfold State.completed
  split
  · split <;> exact .refl s
  · exact .refl s
  · exact .refl s
  · exact (sendPacket_only _ _ _ _ _ _ _ _ _ _).alarm

/-- Ending what is under way leaves the alarm. -/
theorem containRequests_alarm (s : State) : SameAlarm s s.containRequests := by
  unfold State.containRequests
  refine foldl_keeps (P := SameAlarm s) (fun t x h => h.trans (completed_alarm t x)) _ _ ?_
  exact foldl_keeps (P := SameAlarm s) (fun t a h => h.trans (answerRead_alarm t a none)) _ s (.refl s)

/-- A parity error of control state contains the module and asserts FAULT_N. -/
theorem controlStateParityError_takes {s : State} (hrunning : s.stage = .running) (hcontained : s.contained = false) :
    ∃ t : State, Takes .controlStateParityError s (t.raise 0 0x1C4 0) ∧ t.contained = true ∧ t.faults.testBit 0 = true := by
  have hon : ¬ (s.stage = .off ∨ s.stage = .inReset ∨ s.contained = true) := by simp [hrunning, hcontained]
  obtain ⟨u, hu⟩ : ∃ u : State, u = { (s.logUnit 5 0 0xF80 0xF80).assertFault 0 with contained := true } := ⟨_, rfl⟩
  obtain ⟨hkept, hfaults⟩ := containRequests_alarm u
  refine ⟨u.containRequests.bump 0xF80 0x1B 1, ?_, ?_, ?_⟩
  · rw [hu]
    exact congrArg (finish s) (if_neg hon)
  · rw [State.bump_contained, hkept, hu]
  · obtain ⟨_, _, _, _, hassert⟩ := assertFault_only (s.logUnit 5 0 0xF80 0xF80) 0
    rw [State.bump_faults, hfaults, hu, hassert]
    exact testBit_setBit_same _ 0 true

/-! ## Dumps (19 R619) -/

/-- The entry of a dump that is put is the one put. -/
@[simp] theorem State.dump_setDump_same (s : State) (n : Nat) (d : Dump) : (s.setDump n d).dump n = d := by
  simp [State.dump, State.setDump]

/-- A dump at its end: its lines are gone, and its entry says how many were written and when. -/
def State.dumpEnded (s : State) (n lines : Nat) : State :=
  let t := { s with telem := { s.telem with dumpLines := s.telem.dumpLines.filter (·.watch != n) } }
  t.setDump n { t.dump n with running := false, written := lines, end_ := t.now, state := if (t.dump n).state = 4 then 4 else 2 }

theorem State.dump_dumpEnded (s : State) (n lines : Nat) : (s.dumpEnded n lines).dump n =
    { s.dump n with running := false, written := lines, end_ := s.now, state := if (s.dump n).state = 4 then 4 else 2 } :=
  State.dump_setDump_same _ n _

/-- A dump whose lines have arrived is written and done. -/
theorem dumpComplete_takes {s t : State} {n : Nat} (hrunning : (s.dump n).running = true)
    (harrived : ∀ l ∈ s.telem.dumpLines, l.watch = n → l.arrived = true)
    (hwrite : s.dumpWrite n (s.dump n) (s.telem.dumpLines.filter (·.watch == n)) = some t) (hstate : (t.dump n).state = 1) :
    ∃ u : State, Takes (.dumpComplete n true) s u ∧ (u.dump n).state = 2 ∧ (u.dump n).running = false ∧ (u.dump n).end_ = t.now := by
  have hwaits : ¬ (s.telem.dumpLines.filter (·.watch == n)).any (fun l => !l.arrived) = true := by
    simpa [List.any_eq_true] using harrived
  obtain ⟨u, hu⟩ : ∃ u : State, u = t.dumpEnded n (s.telem.dumpLines.filter (·.watch == n)).length := ⟨_, rfl⟩
  have hentry : (u.bump 0xF00 0x1C 1).dump n = u.dump n := rfl
  refine ⟨u.bump 0xF00 0x1C 1, congrArg (finish s) ?_, ?_⟩
  · refine (if_neg (by simp [hrunning])).trans ((if_neg (by simp)).trans ((if_neg hwaits).trans ?_))
    rw [hwrite, hu]
    rfl
  · rw [hentry, hu, State.dump_dumpEnded, hstate]
    exact ⟨rfl, rfl, rfl⟩

/-- Settles O26: each event is one branch of its command; containing the module keeps its alarm. -/
theorem rasAndTelemetryEventsComplete : Obligations.RasAndTelemetryEventsComplete := by
  unfold Obligations.RasAndTelemetryEventsComplete
  refine ⟨?parity, ?triggers, ?latch, ?snapshot, ?dump, ?dumpFails, ?halted, ?halt, ?restarts, ?restarted⟩
  case parity => exact fun s => controlStateParityError_takes
  case triggers => exact fun s b => ⟨rfl, rfl⟩
  case latch => exact fun s hfreeze => ⟨s.latch, congrArg (finish s) (if_pos hfreeze), rfl, rfl⟩
  case snapshot => exact fun s hsnap => ⟨_, congrArg (finish s) (if_neg (not_not_intro hsnap)), rfl, rfl⟩
  case dump => exact fun s t n => dumpComplete_takes
  case dumpFails =>
    intro s n hrunning
    exact congrArg (finish s) ((if_neg (by simp [hrunning])).trans (if_pos rfl))
  case halted => exact fun s k hhalt => congrArg (finish s) (if_pos hhalt)
  case halt => exact fun s k hactual hruns => congrArg (finish s) (if_pos ⟨hactual, hruns⟩)
  case restarts => exact fun s k hmore => congrArg (finish s) (if_pos hmore)
  case restarted =>
    intro s t k ht hlast
    subst ht
    exact congrArg (finish s) (if_neg (ne_true_of_eq_false hlast))

end Sys2Proof.Machine
end

section
/-!
SUPPORT. Stream ports and the formation of a span.
-/
namespace Sys2Proof.Machine

/-! ## Ports (16 R541 to R547) -/

/-- A port that is free trains at the full width and sends INIT. -/
theorem streamTrainingComplete_takes {s : State} {p : Fin 4} (hrunning : s.stage = .running) (hclock : s.strefclk = true)
    (hup : (s.sport p).up = false) (hrequested : s.requested (portUnit p) ≠ 3) :
    Takes (.streamTrainingComplete p 8) s
      (((s.lanesAt 8).2.setSport p { up := true, width := 8, lanes := (s.lanesAt 8).1 }).sendInit p) :=
  congrArg (finish s) ((if_neg (by simp [hrunning, hclock, hup, hrequested])).trans (if_neg (by simp)))

/-- A flit that no injection can touch is taken. -/
theorem flitReceive_takes {s : State} {p : Fin 4} {b : Bytes} (hup : (s.sport p).up = true) (hlocked : (s.sport p).retraining = false)
    (hinject : tabGet s.injects (portUnit p) = none) : Takes (.flitReceive p b) s (s.takeFlit p b) := by
  have hunit : s.injectUnit (portUnit p) = (0, s) := by
    unfold State.injectUnit
    rw [hinject]
  refine congrArg (finish s) ((if_neg (by simp [hup, hlocked])).trans ?_)
  rw [hunit]
  rfl

/-- A port with nothing to replay comes back at the full width. -/
theorem streamRetrainComplete_takes {s : State} {p : Fin 4} (hretraining : (s.sport p).retraining = true)
    (hreplay : (s.sport p).replay = []) (hwidth : (s.sport p).width = 8) :
    Takes (.streamRetrainComplete p 8) s
      ((((s.lanesAt 8).2.setSport p { s.sport p with
        retraining := false, replays := 0, width := 8, lanes := (s.lanesAt 8).1 }).logUnit 2 4 (portUnit p) (portUnit p)).portFlush p) := by
  refine congrArg (finish s) ((if_neg (by simp [hretraining])).trans ((if_neg (by simp)).trans ?_))
  simp only [hreplay, hwidth, List.isEmpty_nil, if_true, Nat.lt_irrefl, if_false]

theorem OnlyUnits.span {s t : State} : OnlyUnits s t → t.span = s.span := by
  rintro ⟨_, _, _, _, _, _, rfl⟩
  rfl

/-- The peer's INIT puts a port of a module without a span in service. -/
theorem pktInit_takes {s : State} {p : Fin 4} {b : Bytes} (hok : pktOk 1 b = true) (hup : (s.sport p).up = true)
    (hinited : (s.sport p).inited = false) (hlength : (pktData b).length = 16) (hgood : s.initBad p b = false) (hspan : s.span.mask = 0) :
    Takes (.pktInit p b) s ((State.setOwn (s.setSport p { s.sport p with
      inited := true, peerMember := field (pktData b) 8 1, peerPort := Config.peerPort p, peerSerial := pktB b
      credits := (List.range 4).map (fun v => (v, field (pktData b) (2 * v) 2)) }) (portUnit p)
        (if s.requested (portUnit p) = 2 then 2 else 1) 1).portFlush p) := by
  have hnone (v : Nat) (x : SPort) : ((s.setSport p x).setOwn (portUnit p) v 1).span.mask = 0 := by
    rw [(setOwn_only _ _ _ _).span]
    exact hspan
  refine congrArg (finish s) ((if_neg (by simp [hok, hup, hinited, hlength])).trans ((if_neg (ne_true_of_eq_false hgood)).trans ?_))
  exact congrArg (State.portFlush · p) (if_pos (.inl (hnone _ _)))

/-! ## The formation of a span (16 R549) -/

/-- The span's id, its members and the module's own member stay. -/
def SameSpan (s t : State) : Prop := t.span.id = s.span.id ∧ t.span.mask = s.span.mask ∧ t.span.member = s.span.member

theorem SameSpan.refl (s : State) : SameSpan s s := ⟨rfl, rfl, rfl⟩

theorem SameSpan.trans {s t u : State} (h : SameSpan s t) (g : SameSpan t u) : SameSpan s u :=
  ⟨g.1.trans h.1, g.2.1.trans h.2.1, g.2.2.trans h.2.2⟩

/-- A packet sent leaves the span. -/
theorem sendPacket_sameSpan (s : State) (m k vl p st tag a b : Nat) (d : Bytes) : SameSpan s (s.sendPacket m k vl p st tag a b d) := by
  obtain ⟨_, _, _, h⟩ := sendPacket_only s m k vl p st tag a b d
  rw [h]
  exact .refl s

theorem setRoutes_sameSpan (s : State) (b : Bytes) : SameSpan s (s.setRoutes b) := .refl s

/-- The coordinator's routes, and those it sends, leave the span. -/
theorem computeRoutes_sameSpan (s : State) : SameSpan s s.computeRoutes := by
  unfold State.computeRoutes State.tick
  split
  · exact setRoutes_sameSpan s _
  · exact foldl_keeps (P := SameSpan s) (fun t m h => h.trans (sendPacket_sameSpan t ..)) _ _ (.refl s)

theorem draw_sameSpan (s : State) (n : Nat) : SameSpan s (s.draw n).2 := by
  unfold State.draw
  dsimp only
  split <;> exact .refl s

theorem sendKey_sameSpan (s : State) (m : Nat) (z : KeySlot) (gone : Bool) : SameSpan s (s.sendKey m z gone) := by
  unfold State.sendKey
  split
  · exact .refl s
  · split <;> exact sendPacket_sameSpan s ..

theorem resendKeys_sameSpan (s : State) (m : Nat) : SameSpan s (s.resendKeys m) :=
  foldl_keeps (P := SameSpan s) (fun t z h => h.trans (sendKey_sameSpan t m z.2 false)) _ s (.refl s)

/-- Setting up a transfer key leaves the span. -/
theorem setupKey_sameSpan (s : State) (m : Nat) : SameSpan s (s.setupKey m) := by
  unfold State.setupKey
  split
  · exact .refl s
  · have hdraw := draw_sameSpan s 32
    generalize s.draw 32 = d at hdraw ⊢
    obtain ⟨secret, t⟩ := d
    refine SameSpan.trans (SameSpan.trans ?_ (sendPacket_sameSpan ..)) (resendKeys_sameSpan _ m)
    exact hdraw

theorem setupKeys_sameSpan (s : State) : SameSpan s s.setupKeys :=
  foldl_keeps (P := SameSpan s) (fun t m h => h.trans (setupKey_sameSpan t m)) _ s (.refl s)

/-- The probes of the members that are due leave the span. -/
theorem sendProbes_sameSpan (s : State) : SameSpan s s.sendProbes := by
  refine foldl_keeps (P := SameSpan s) (fun t x h => ?_) _ s (.refl s)
  refine SameSpan.trans ?_ (sendPacket_sameSpan ..)
  exact h

theorem measureOffsets_sameSpan (s : State) (ms : List Nat) : SameSpan s (s.measureOffsets ms) := by
  unfold State.measureOffsets
  split
  · exact .refl s
  · exact sendProbes_sameSpan _

/-- The state in which a span of given members begins: its routes, keys and measurements follow. -/
def State.spanBegun (s : State) (ms : Nat) : State :=
  { s with span := { s.span with
    id := s.obj 0xC00 0x100 0, member := s.obj 0xC00 0x101 0, mask := ms, transferKeys := []
    unreachable := s.expected.filter (fun m => !ms.testBit m) } }

/-- The routes, keys and measurements of a span that begins. -/
def State.spanConnected (s : State) : State := s.computeRoutes.setupKeys.measureOffsets s.computeRoutes.setupKeys.peers

theorem spanConnected_sameSpan (s : State) : SameSpan s s.spanConnected :=
  ((computeRoutes_sameSpan s).trans (setupKeys_sameSpan _)).trans (measureOffsets_sameSpan _ _)

/-- A span forms with the configured members that answered. -/
theorem spanFormation_takes {s : State} {ms : Byte} (hrunning : s.stage = .running) (hid : s.obj 0xC00 0x100 0 ≠ 0)
    (hself : ms.toNat.testBit (s.obj 0xC00 0x101 0) = true)
    (hmembers : ms.toNat &&& s.obj 0xC00 0x102 0 = ms.toNat) :
    Takes (.spanFormation (BitVec.ofNat 32 (s.obj 0xC00 0x100 0)) ms) s
      ((((s.spanBegun ms.toNat).spanConnected.spanShow.raise 0xC00 0x01A3 ms.toNat).disarmAll 3).retryRemote) :=
  congrArg (finish s) (if_neg (by simp [hrunning, hid, hself, hmembers]))

/-- Settles O28: each port event is one branch of its command; the routes, keys and measurements of a span that forms leave
its id, its members and the own member. -/
theorem streamPortEventsComplete : Obligations.StreamPortEventsComplete := by
  unfold Obligations.StreamPortEventsComplete
  refine ⟨?trains, ?flit, ?replay, ?lockLost, ?retrains, ?retrainFails, ?init, ?forms, ?lost⟩
  case trains => exact fun s p => streamTrainingComplete_takes
  case flit => exact fun s p b => flitReceive_takes
  case replay =>
    intro s p hup hlocked hreplay
    exact congrArg (finish s) (if_pos ⟨hup, by simp [hlocked], by simp [hreplay]⟩)
  case lockLost => exact fun s p => rfl
  case retrains => exact fun s p => streamRetrainComplete_takes
  case retrainFails =>
    intro s p w hretraining h8 h4 h2
    exact congrArg (finish s) ((if_neg (by simp [hretraining])).trans (if_pos ⟨h8, h4, h2⟩))
  case init => exact fun s p b => pktInit_takes
  case forms =>
    intro s ms hrunning hid _ hself hmembers
    obtain ⟨hkeptId, hkeptMask, hkeptMember⟩ := spanConnected_sameSpan (s.spanBegun ms.toNat)
    exact ⟨_, spanFormation_takes hrunning hid hself hmembers, hkeptId, hkeptMask, hkeptMember⟩
  case lost =>
    rintro s m ⟨q, hmem, hmember⟩
    have hasked : s.span.requests.any (·.member == m.val) = true := List.any_eq_true.mpr ⟨q, hmem, beq_iff_eq.mpr hmember⟩
    exact congrArg (finish s) (if_pos hasked)

end Sys2Proof.Machine
end

section
/-!
SUPPORT. Packets of the span that arrive.
-/
namespace Sys2Proof.Machine

/-! ## The receipt of a packet (16 R545 to R547) -/

/-- Freeing the units of a packet leaves the module's member. -/
theorem received_member (s : State) (source : Nat) (b : Bytes) : (s.received source b).span.member = s.span.member := by
  unfold State.received
  split <;> rfl

section
variable {s : State} {source kind : Nat} {b : Bytes} {f : State → State} {i : Instr}
  (hexec : exec i s = finish s (s.packetIn source kind b f))
include hexec

/-- A packet for this member has its effect once its units are free. -/
theorem packet_takes {t : State} (h : PacketFor s source kind b) (ht : f (s.received source b) = t) : Takes i s t := by
  obtain ⟨hspan, hok, hsource, hmember⟩ := h
  refine hexec.trans (congrArg (finish s) ?_)
  have hcomes : ¬ (s.span.mask = 0 ∨ (!pktOk kind b) = true ∨ field b 2 1 ≠ source) := by simp [hspan, hok, hsource]
  exact (if_neg hcomes).trans ((if_pos (hmember.trans (received_member s source b).symm)).trans ht)

/-- A packet for another member is passed on and counted once its units are free. -/
theorem packet_passedOn (hspan : s.span.mask ≠ 0) (hok : pktOk kind b = true) (hsource : field b 2 1 = source)
    (hmember : field b 3 1 ≠ s.span.member) : Takes i s
      (((s.received source b).route (field b 3 1) ((s.received source b).arriving b)).bump 0xC00 0x1A 1) := by
  refine hexec.trans (congrArg (finish s) ?_)
  have hcomes : ¬ (s.span.mask = 0 ∨ (!pktOk kind b) = true ∨ field b 2 1 ≠ source) := by simp [hspan, hok, hsource]
  exact (if_neg hcomes).trans (if_neg (fun h => hmember (h.trans (received_member s source b))))

end

/-! ## Control packets -/

section
variable {s u : State} {k : Fin 8} {b : Bytes} (hu : u = s.received k b)
include hu

/-- The coordinator's routes that reach every member and bring none back. -/
theorem pktRoutes_takes (h : PacketFor s k 2 b) (hcoordinator : k.val ≤ u.coordinatorOf)
    (hback : ∀ m ∈ membersOf (pktA b % 256), m ∉ u.span.unreachable)
    (hgone : ∀ m ∈ membersOf u.span.mask, m ≠ u.span.member → (pktA b % 256).testBit m = true) :
    Takes (.pktRoutes k b) s (State.setupKeys (State.setRoutes { u with span := { u.span with
      mask := setBit (pktA b % 256) u.span.member true
      unreachable := u.span.unreachable.filter (fun m => !(pktA b % 256).testBit m) } } (slice (pktData b) 0 16))) := by
  have hnoneBack : (membersOf (pktA b % 256)).filter u.span.unreachable.contains = [] := by
    simpa [List.filter_eq_nil_iff] using hback
  have hnoneGone : (membersOf u.span.mask).filter (fun m => !(pktA b % 256).testBit m && m != u.span.member) = [] := by
    rw [List.filter_eq_nil_iff]
    intro m hm hleaves
    simp only [Bool.and_eq_true, bne_iff_ne, Bool.not_eq_true'] at hleaves
    exact Bool.false_ne_true (hleaves.1.symm.trans (hgone m hm hleaves.2))
  subst hu
  refine packet_takes rfl h ?_
  refine (if_neg (fun hlater => Nat.not_lt.mpr hcoordinator hlater.2)).trans ?_
  simp only [hnoneBack, hnoneGone, List.foldl_nil, List.isEmpty_nil, if_true, List.contains_nil, Bool.not_false, List.filter_true]

/-- A reservation of an extent that is free takes the lowest map block. -/
theorem pktReserve_takes {blk : Nat} (h : PacketFor s k 8 b) (hasks : pktB b ≠ 0xFFFF) (hdla : pktA b < 32768)
    (hfree : u.dlaFree (pktA b) = true) (hblock : u.lowestBlock = some blk) :
    Takes (.pktReserve k b) s (State.sendPacket { u.clearBlock blk with span := { (u.clearBlock blk).span with
      reservations := (u.clearBlock blk).span.reservations ++ [{ member := k, dla := pktA b, block := blk, guest := true }] } }
        k 0x21 2 0x10 0 (pktTag b) 0 0 []) := by
  subst hu
  refine packet_takes rfl h ?_
  refine (if_neg hasks).trans ?_
  simp only [hdla, hfree, hblock, decide_true, Bool.and_true, if_true]

/-- A reservation of an extent that is not free, or with no map block left, is refused. -/
theorem pktReserve_refused (h : PacketFor s k 8 b) (hasks : pktB b ≠ 0xFFFF)
    (hnone : u.dlaFree (pktA b) = false ∨ u.lowestBlock = none) :
    Takes (.pktReserve k b) s (u.sendPacket k 0x21 2 0x10 2 (pktTag b) 0 0 []) := by
  have hblock : (if (decide (pktA b < 32768) && u.dlaFree (pktA b)) = true then u.lowestBlock else none) = none := by
    rcases hnone with hdla | hblock
    · simp [hdla]
    · simp [hblock]
  subst hu
  refine packet_takes rfl h ?_
  refine (if_neg hasks).trans ?_
  simp only [hblock]

end

/-- Settles O29: a packet for this member goes through `packet_takes`, one for another through `packet_passedOn`. -/
theorem spanControlPacketsComplete : Obligations.SpanControlPacketsComplete := by
  unfold Obligations.SpanControlPacketsComplete
  intro s u k b at_ hu
  refine ⟨pktRoutes_takes hu, ?probe, ?reply, ?key, ?advance, ?reserve, ?aqfort, ?passed⟩
  case probe => exact fun h => packet_takes rfl h (hu ▸ rfl)
  case reply => exact fun h => packet_takes rfl h (hu ▸ rfl)
  case key => exact fun h => packet_takes rfl h (hu ▸ rfl)
  case advance => exact fun h => packet_takes rfl h (hu ▸ rfl)
  case reserve =>
    refine fun h => ⟨fun hgives => ?_, fun blk hasks => pktReserve_takes hu h hasks, fun hasks => pktReserve_refused hu h hasks⟩
    subst hu
    refine packet_takes rfl h ?_
    exact if_pos hgives
  case aqfort =>
    refine fun h => ⟨fun what t htime => ?_, fun htime => ⟨fun hpassed => ?_, fun hanswered => ?_⟩⟩
    all_goals
      subst hu
      refine packet_takes rfl h ?_
      dsimp only
    · rw [htime]
    · rw [htime]
      exact if_pos hpassed
    · rw [htime]
      exact (if_neg (by omega)).trans (if_pos hanswered)
  case passed =>
    subst hu
    intro p hp hspan hok hsource hmember
    simp only [List.mem_cons, List.not_mem_nil, or_false] at hp
    rcases hp with rfl | rfl | rfl | rfl | rfl | rfl | rfl <;> exact packet_passedOn rfl hspan hok hsource hmember

/-! ## Data packets -/

/-- What the target of a remote move answers to its close (16 R562). -/
def State.answerPlaced (s : State) (source : Nat) (b : Bytes) : Placed → State
  | .done w => w.sendPacket source 0x21 2 (pktParty b) 0 (pktTag b) 0 0 []
  | .waits w => w
  | .full => s.sendPacket source 0x21 2 (pktParty b) 2 (pktTag b) 0 0 []
  | .refused => s.sendPacket source 0x21 2 (pktParty b) 3 (pktTag b) 9 0 []

section
variable {s u t : State} {k : Fin 8} {b : Bytes} (hu : u = s.received k b)
include hu

/-- What a read gets back goes to the access that asked. -/
theorem pktLineData_takes {q : RemoteReq} {a : Nat} {d : Option Bytes} (h : PacketFor s k 0x20 b)
    (htake : u.takeRemote k (pktTag b) (fun q => q.kind == 0x10) = (some q, t)) (haccess : q.access = some a)
    (hd : (if pktStatus b = 0 ∧ (pktData b).length = 64 then some (pktData b) else none) = d) :
    Takes (.pktLineData k b) s (t.partDone a q.line d) := by
  subst hu
  refine packet_takes rfl h ?_
  simp only [htake, haccess, hd]

section
variable {q : RemoteReq} (h : PacketFor s k 0x21 b)
  (htake : u.takeRemote k (pktTag b) (fun q => q.kind == 8 || q.kind == 0x11 || q.kind == 0x32) = (some q, t))
include h htake

/-- A DONE that answers a reservation. -/
theorem pktDone_reservation (hkind : q.kind = 8) :
    Takes (.pktDone k b) s (t.reserveAnswered k (q.reserve.getD 0) (pktStatus b)) := by
  subst hu
  refine packet_takes rfl h ?_
  simp only [htake, hkind, if_true]

/-- A DONE that answers the last line of a remote write. -/
theorem pktDone_write (hkind : q.kind = 0x11) (hstatus : pktStatus b = 0)
    (hlast : t.span.requests.any (fun p => p.held == some (q.held.getD 0)) = false) :
    Takes (.pktDone k b) s (t.remoteEnded (q.held.getD 0)) := by
  subst hu
  refine packet_takes rfl h ?_
  simp only [htake, hkind, hstatus, hlast, reduceCtorEq, Nat.reduceEqDiff, ne_eq, not_true_eq_false, Bool.false_eq_true, if_true, if_false]

section
variable {r : Nat} {y : Move} (hkind : q.kind = 0x32)
  (hmove : t.moves.find? (fun m => m.2.kind == 6 && some m.2.tag == q.move) = some (r, y))
include hkind hmove

/-- A DONE that confirms a remote move flips it. -/
theorem pktDone_confirms (hstatus : pktStatus b = 0) : Takes (.pktDone k b) s ((t.flipRemote r y k).pumpEvacs) := by
  subst hu
  refine packet_takes rfl h ?_
  simp only [htake, hkind, hmove, hstatus, Nat.reduceEqDiff, if_true, if_false]

/-- A DONE that refuses a remote move for want of room drops it. -/
theorem pktDone_full (hstatus : pktStatus b = 2) :
    Takes (.pktDone k b) s (((t.dropMove r).evacStep (t.entry y.key).region false).retryLocal) := by
  subst hu
  refine packet_takes rfl h ?_
  simp only [htake, hkind, hmove, hstatus, Nat.reduceEqDiff, OfNat.ofNat_ne_zero, if_true, if_false]

/-- A DONE that refuses a remote move aborts it. -/
theorem pktDone_refuses (hstatus : pktStatus b ≠ 0) (hroom : pktStatus b ≠ 2) :
    Takes (.pktDone k b) s
      ((((t.bump 0x700 0x16 1).abortMove r (if pktA b = 0 then 9 else pktA b % 256)).evacStep (t.entry y.key).region false).retryLocal) := by
  subst hu
  refine packet_takes rfl h ?_
  simp only [htake, hkind, hmove, hstatus, hroom, Nat.reduceEqDiff, if_false]

end

end

/-- The end of a tile moved in, by what comes of its placing. -/
theorem pktMoveClose_placed {v : MoveIn} {key : Nat} (h : PacketFor s k 0x32 b)
    (ht : t = { u with span := { u.span with
      movesIn := u.span.movesIn.filter (fun m => !(m.source == k.val && m.tile == bits (pktA b) 28 0)) } })
    (hfind : u.span.movesIn.find? (fun m => m.source == k.val && m.tile == bits (pktA b) 28 0) = some v)
    (hguest : t.guestTile k (bits (pktA b) 28 0) = some key) :
    Takes (.pktMoveClose k b) s (t.answerPlaced k b (t.placeMoved key (pktTag b) v)) := by
  subst ht hu
  refine packet_takes rfl h ?_
  dsimp only
  rw [hfind, hguest]
  rfl

/-- A tile moved in under no reservation is refused. -/
theorem pktMoveClose_refused (h : PacketFor s k 0x32 b)
    (ht : t = { u with span := { u.span with
      movesIn := u.span.movesIn.filter (fun m => !(m.source == k.val && m.tile == bits (pktA b) 28 0)) } })
    (hguest : t.guestTile k (bits (pktA b) 28 0) = none) :
    Takes (.pktMoveClose k b) s (t.sendPacket k 0x21 2 (pktParty b) 2 (pktTag b) 0 0 []) := by
  subst ht hu
  refine packet_takes rfl h ?_
  dsimp only
  rw [hguest]
  split
  · next hnone => exact absurd hnone (by simp)
  · rfl

end

/-- Settles O30: a packet for this member goes through `packet_takes`, one for another through `packet_passedOn`. -/
theorem spanDataPacketsComplete : Obligations.SpanDataPacketsComplete := by
  unfold Obligations.SpanDataPacketsComplete
  intro s u k b hu
  refine ⟨?lineRead, ?lineWrite, ?lineData, ?done, ?moveOpen, ?moveData, ?moveClose, ?passed⟩
  case lineRead => exact fun h => packet_takes rfl h (hu ▸ rfl)
  case lineWrite => exact fun h => packet_takes rfl h (hu ▸ rfl)
  case lineData =>
    intro t q a h htake haccess
    exact ⟨fun hstatus hlength => pktLineData_takes hu h htake haccess (if_pos ⟨hstatus, hlength⟩),
      fun hstatus => pktLineData_takes hu h htake haccess (if_neg fun hgot => hstatus hgot.1)⟩
  case done =>
    intro t q h htake
    exact ⟨pktDone_reservation hu h htake, pktDone_write hu h htake, fun hkind r y hmove =>
      ⟨pktDone_confirms hu h htake hkind hmove, pktDone_full hu h htake hkind hmove, pktDone_refuses hu h htake hkind hmove⟩⟩
  case moveOpen => exact fun h => packet_takes rfl h (hu ▸ rfl)
  case moveData => exact fun h => packet_takes rfl h (hu ▸ rfl)
  case moveClose =>
    intro t h ht
    refine ⟨fun v key hfind hguest => ?_, pktMoveClose_refused hu h ht⟩
    have hplaced := pktMoveClose_placed hu h ht hfind hguest
    refine ⟨fun w hdone => ?_, fun w hwaits => ?_, fun hfull => ?_, fun hrefused => ?_⟩
    · rw [hdone] at hplaced
      exact hplaced
    · rw [hwaits] at hplaced
      exact hplaced
    · rw [hfull] at hplaced
      exact hplaced
    · rw [hrefused] at hplaced
      exact hplaced
  case passed =>
    subst hu
    intro p hp hspan hok hsource hmember
    simp only [List.mem_cons, List.not_mem_nil, or_false] at hp
    rcases hp with rfl | rfl | rfl | rfl | rfl | rfl | rfl <;> exact packet_passedOn rfl hspan hok hsource hmember

end Sys2Proof.Machine
end
